-- ==== Sys2Proof/Word.lean ====
section
/-! DEFINITION. The words of the block: bytes and byte strings. -/

namespace Sys2Proof

/-- One byte. -/
abbrev Byte := BitVec 8

/-- A byte string, first byte first. -/
abbrev Bytes := List Byte

end Sys2Proof
end

