-- ==== Sys2Proof/Syntax.lean ====
section
/-! DEFINITION. The commands of the block: one constructor of `Instr` per row of the opcode table,
with the operands that the rule of the row gives it (log entry 1). -/

namespace Sys2Proof

/-- A main rail of the edge connector (R55). -/
inductive Rail where
  | v12 | v3v3
  deriving DecidableEq, Repr

/-- What causes a port reset (R84, R130). -/
inductive PortResetCause where
  | perst | hotReset | linkDown | pfFlr | wake
  deriving DecidableEq, Repr

/-- The address of a dictionary entry: index and subindex (R93). -/
structure OdKey where
  index : BitVec 16 := 0
  sub : BitVec 8 := 0
  deriving DecidableEq, Repr

/-- The protected frame a Zynbo request arrived in: its session, its SEQ and its request
identifier (R107, R112). -/
structure ZReq where
  session : BitVec 32 := 0
  seq : Nat := 0
  requestId : BitVec 16 := 0
  deriving DecidableEq, Repr

/-- A firmware image as the warden finds it in one place (R80, R81): what checking its two
signatures gives, its version, its digest V and its RELEASED mark. -/
structure FwImage where
  present : Bool := false
  mldsaOk : Bool := false
  ecdsaOk : Bool := false
  version : Nat := 0
  digest : Bytes := []
  released : Bool := false
  deriving DecidableEq, Repr

/-- Arguments of INST_CREATE and INST_SET (R149). -/
structure CreateArgs where
  n : BitVec 16 := 0
  qpCount : BitVec 16 := 0
  vecCount : BitVec 16 := 0
  weight : BitVec 16 := 0
  slotQuota : BitVec 32 := 0
  recQuota : BitVec 32 := 0
  tierSKib : BitVec 32 := 0
  deriving DecidableEq, Repr

/-- Arguments of OPEN_SLOT_WRITE (R413). -/
structure OpenSlotArgs where
  slotNo : BitVec 16 := 0
  user : BitVec 16 := 0
  cls : BitVec 8 := 0
  keyLen : BitVec 16 := 0
  binding : BitVec 16 := 0
  key : Bytes := []
  deriving DecidableEq, Repr

/-- The register block a host write falls in (R136, R137). -/
inductive RegBlock where
  | ctrl (port : Fin 4)
  | dbell (port : Fin 4)
  | vf (inst : Fin 1024)
  deriving DecidableEq, Repr

/-- A submission entry, field by field as Table - Submission entry (R161). -/
structure SqEntry where
  opcode : BitVec 16 := 0
  flags : BitVec 16 := 0
  tag : BitVec 32 := 0
  key0 : BitVec 64 := 0
  key1 : BitVec 64 := 0
  src : BitVec 64 := 0
  srcLen : BitVec 32 := 0
  dstLen : BitVec 32 := 0
  dst : BitVec 64 := 0
  param : BitVec 64 := 0
  ctx : BitVec 32 := 0
  srcFrags : BitVec 16 := 0
  dstFrags : BitVec 16 := 0
  deriving DecidableEq, Repr

/-- One entry of a fragment table, as Table - Fragment entry (R169). -/
structure FragEntry where
  iova : BitVec 64 := 0
  length : BitVec 32 := 0
  flags : BitVec 32 := 0
  deriving DecidableEq, Repr

/-- What host memory answers to the reads of step 7 (R24): the fragment tables, the translation
table entries a walk reads, by address, and the source bytes, piece after piece. -/
structure JobInput where
  srcTable : List FragEntry := []
  dstTable : List FragEntry := []
  ptes : List (Nat × BitVec 64) := []
  data : Bytes := []
  deriving DecidableEq, Repr

/-- How an engine command ended (R34, R474): with its result, after a retry that removed a fault,
or with a fault that a retry did not remove. -/
inductive EngineOutcome where
  | done | corrected | failed
  deriving DecidableEq, Repr

/-- Whose drain a DRAIN_TIMEOUT belongs to: the device's (R74, R124) or one of an instance's. -/
inductive DrainScope where
  | device
  | inst (n : Fin 1024)
  deriving DecidableEq, Repr

/-- Where a scrub finds an error (R476, R492): a line of a bank or the page of a memory, with the job
slot, record or matrix whose data lie there. -/
inductive MemLoc where
  | sequencerBank (unit line : Nat) (owner : Option Nat)
  | cloveLine (unit line : Nat)
  | keyCacheLine (line : Nat) (record : Option Nat)
  | contextTable (slot : Nat)
  | vaultRecord (record : Nat)
  | vaultOther (page : Nat) (matrix owner : Option Nat)
  deriving DecidableEq, Repr

/-- What a scrub finds there: nothing, an error the code corrects, or one it does not. -/
inductive EccError where
  | none | single | double
  deriving DecidableEq, Repr

/-- The stage whose handshake a watchdog found pending (R479): a unit, a control block with the slots
of the jobs that have a handshake in it, a digest window, or the management side. -/
inductive StageLoc where
  | unit (u : Fin 387)
  | control (jobs : List Nat)
  | window (win : Fin 4)
  | management
  deriving DecidableEq, Repr

/-- What a seated card presents (R514, R517): its certificate fields, whether the certificate and
the signed challenge verify, and what it carries. -/
structure CardCert where
  serial : BitVec 64 := 0
  role : Nat := 0
  keyDigest : Bytes := []
  certOk : Bool := false
  sigOk : Bool := false
  protPerm : Bool := false
  protTemp : Bool := false
  authority : Bytes := []
  token : Option Bytes := none
  deriving DecidableEq, Repr

/-- What a read of a card image's manifest shows (R527, R528). -/
structure CardImage where
  found : Bool := false
  manifestOk : Bool := false
  generation : Nat := 0
  imageId : Bytes := []
  segments : Nat := 0
  deriving DecidableEq, Repr

/-- A queue pair as a migration image carries it (R157, section 2). -/
structure QueueImage where
  enable : Bool := false
  ordered : Bool := false
  log2 : Nat := 4
  vector : Nat := 0
  sqBase : BitVec 64 := 0
  cqBase : BitVec 64 := 0
  fetchIndex : Nat := 0
  postIndex : Nat := 0
  deriving DecidableEq, Repr

/-- A key record as a migration image carries it (R157, section 5). -/
structure RecordImage where
  index : Nat := 0
  gen : Nat := 0
  cls : Nat := 0
  binding : BitVec 16 := 0
  flags : BitVec 32 := 0
  secret : Bytes := []
  pub : Bytes := []
  version : Nat := 1
  createTime : BitVec 64 := 0
  origin : Nat := 0
  parent : BitVec 64 := 0
  ivUsed : Nat := 0
  deriving DecidableEq, Repr

/-- A peer record as a migration image carries it (R157, section 6). -/
structure PeerImage where
  index : Nat := 0
  gen : Nat := 0
  peerId : BitVec 64 := 0
  sigSet : Nat := 0
  mlkemSet : Nat := 0
  secretPresent : Bool := false
  revoked : Bool := false
  enrolTime : BitVec 64 := 0
  secret : Bytes := []
  sigPk : Bytes := []
  mlkemPk : Bytes := []
  deriving DecidableEq, Repr

/-- A migration image as read from host memory (R157, R158): its plain header fields, whether its
tag verifies, and what its body holds. -/
structure MigImage where
  readFault : Bool := false
  tagOk : Bool := false
  domain : Bytes := []
  inst : BitVec 16 := 0
  imageId : Bytes := []
  config : CreateArgs := {}
  spillMib : BitVec 32 := 0
  queues : List QueueImage := []
  completions : List (Nat × Bytes) := []
  squashed : List (Nat × BitVec 32) := []
  records : List RecordImage := []
  peers : List PeerImage := []
  omitted : Bool := false
  recipes : List (Nat × Bytes) := []
  deriving DecidableEq, Repr

/-- How a card answered the operation it was given (R522, R525). -/
structure CardReply where
  ok : Bool := true
  valid : Bool := true
  content : Bytes := []
  deriving DecidableEq, Repr

/-- A request whose service or command code no chapter defines (R111, R150). -/
inductive UnknownReq where
  | zynbo (z : ZReq) (code : BitVec 8)
  | mailbox (port : Fin 4) (seq : BitVec 32) (code : BitVec 16)
  deriving DecidableEq, Repr

/-- Who issues an engine command: the firmware of a built-in operation, or recipe code (R252). -/
inductive Issuer where
  | firmware | recipe
  deriving DecidableEq, Repr


/-- The commands, one per row of the opcode table. Each line names the rule of its row. -/
inductive Instr where
  /-- MAIN_RAIL_LOSS (R61). -/
  | mainRailLoss (rail : Rail) (loadMw storedMj : Nat)
  /-- RIDE_THROUGH_END (R61). -/
  | rideThroughEnd
  /-- IN_FLIGHT_WINDOW_END (R61). -/
  | inFlightWindowEnd
  /-- FLUSH_DONE (R63). -/
  | flushDone
  /-- MAIN_RAIL_RETURN (R62). -/
  | mainRailReturn (rail : Rail)
  /-- HOLDUP_MEASURE (R64). -/
  | holdupMeasure (fullMj storedMj : Nat)
  /-- TAMPER_MESH_CHECK (R36). -/
  | tamperMeshCheck (intact : Bool)
  /-- TAMPER_LOOP_PULSE (R47). -/
  | tamperLoopPulse (ohm : Nat)
  /-- CAN_TEMPERATURE_LIMIT (R37). -/
  | canTemperatureLimit (milliC : Int)
  /-- TAMPER_ACK (R51). -/
  | tamperAck (z : ZReq) (value : Bytes)
  /-- ALIVE_TOGGLE (R42). -/
  | aliveToggle
  /-- ALIVE_1K_TOGGLE (R52). -/
  | alive1kToggle
  /-- CARD_VDD_OVERCURRENT (R39). -/
  | cardVddOvercurrent
  /-- THERMAL_PAUSE (R71). -/
  | thermalPause (dieMc : Int)
  /-- THERMAL_RESUME (R71). -/
  | thermalResume (dieMc : Int)
  /-- START_COLD (R75). -/
  | startCold (coinMv storedMj fullMj : Nat) (registerLost : Bool)
  /-- START_WARM (R83). -/
  | startWarm (coinMv storedMj fullMj : Nat)
  /-- KAT_COMPLETE (R78). -/
  | katComplete (failed : List Nat)
  /-- DRBG_FIRST_SEED (R431). -/
  | drbgFirstSeed (which : Fin 16)
  /-- ENTROPY_START_FAIL (R79). -/
  | entropyStartFail
  /-- FIRMWARE_AUTHENTICATED (R80). -/
  | firmwareAuthenticated (slotA slotB cardImage : FwImage)
  /-- ARCHIVE_MOUNT (R75). -/
  | archiveMount
  /-- PERST_DEASSERT (R76). -/
  | perstDeassert (port : Fin 4)
  /-- PORT_RESET (R84). -/
  | portReset (port : Fin 4) (cause : PortResetCause)
  /-- VF_FLR (R133). -/
  | vfFlr (inst : Fin 1024)
  /-- VF_D3HOT_TO_D0 (R133). -/
  | vfD3hotToD0 (inst : Fin 1024)
  /-- CONFIG_REQUEST (R76). -/
  | configRequest (port : Fin 4)
  /-- ATS_INVALIDATE_REQUEST (R152). -/
  | atsInvalidateRequest (inst : Fin 1024) (iova len : BitVec 64)
  /-- ATS_TRANSLATION_COMPLETION (R152). -/
  | atsTranslationCompletion (slot : Fin 16384) (iova len : BitVec 64) (canRead canWrite : Bool)
  /-- ATS_TRANSLATION_EXPIRY (R152). -/
  | atsTranslationExpiry (inst : Fin 1024) (iova : BitVec 64)
  /-- PTM_DIALOGUE (R135). -/
  | ptmDialogue (port : Fin 4) (offset : Int) (time : Nat) (locked : Bool)
  /-- PTP_MESSAGE (R128). -/
  | ptpMessage (gm : BitVec 64) (domain : Nat) (vlan : Nat) (time : Nat) (offset : Int) (locked : Bool)
  /-- HOLDOVER_LIMIT (R128). -/
  | holdoverLimit
  /-- ADDRESS_RESOLUTION (R100). -/
  | addressResolution (v6 : Bool) (target : Bytes) (vlan : Nat)
  /-- FRAME_DISCARD (R100). -/
  | frameDiscard
  /-- MGMT_TX_SUBMIT (R141). -/
  | mgmtTxSubmit (port : Fin 4) (len : BitVec 32)
  /-- MGMT_RX_ACK (R141). -/
  | mgmtRxAck (port : Fin 4) (value : BitVec 32)
  /-- OPEN_1 (R105). -/
  | open1 (chan : Option (Fin 4)) (credId : BitVec 64) (roleAsked : Nat) (nonce x25519 ek : Bytes)
  /-- OPEN_3 (R105). -/
  | open3 (session : BitVec 32) (sig : Bytes)
  /-- OPENING_TIMEOUT (R105). -/
  | openingTimeout (session : BitVec 32)
  /-- CREDENTIAL_BLOCK_END (R105). -/
  | credentialBlockEnd (credId : BitVec 64)
  /-- READ (R111). -/
  | read (z : ZReq) (key : OdKey)
  /-- WRITE (R113). -/
  | write (z : ZReq) (key : OdKey) (value : Bytes)
  /-- DESCRIBE (R93). -/
  | describe (z : ZReq) (key : OdKey)
  /-- NEXT (R111). -/
  | next (z : ZReq) (key : OdKey)
  /-- TXN_BEGIN (R118). -/
  | txnBegin (z : ZReq)
  /-- TXN_COMMIT (R121). -/
  | txnCommit (z : ZReq) (id : BitVec 32)
  /-- TXN_ROLLBACK (R122). -/
  | txnRollback (z : ZReq) (id : BitVec 32)
  /-- TXN_TIMEOUT (R122). -/
  | txnTimeout
  /-- BLOCK_OPEN (R115). -/
  | blockOpen (z : ZReq) (key : OdKey) (dir : Nat) (total : Nat)
  /-- BLOCK_DATA (R115). -/
  | blockData (z : ZReq) (key : OdKey) (seg : Nat) (data : Bytes)
  /-- BLOCK_CLOSE (R116). -/
  | blockClose (z : ZReq) (key : OdKey) (digest : Bytes)
  /-- BLOCK_ABORT (R116). -/
  | blockAbort (z : ZReq)
  /-- BLOCK_TRANSFER_TIMEOUT (R116). -/
  | blockTransferTimeout (session : BitVec 32)
  /-- SUBSCRIBE (R117). -/
  | subscribe (z : ZReq) (minSeverity instNo : Nat)
  /-- UNSUBSCRIBE (R117). -/
  | unsubscribe (z : ZReq)
  /-- RESTART (R124). -/
  | restart (z : ZReq) (nonce : BitVec 32)
  /-- KEEPALIVE (R111). -/
  | keepalive (z : ZReq)
  /-- CLOSE (R110). -/
  | close (z : ZReq)
  /-- SESSION_IDLE_TIMEOUT (R110). -/
  | sessionIdleTimeout (session : BitVec 32)
  /-- TIME_SET (R128). -/
  | timeSet (z : ZReq) (value : Bytes)
  /-- LC_REQUEST (R463). -/
  | lcRequest (z : ZReq) (target : Nat) (token : Bytes)
  /-- LC_WIPE_DONE (R464). -/
  | lcWipeDone (readback : List Bool)
  /-- DEBUG_ALLOW (R469). -/
  | debugAllow (z : ZReq) (value : Bytes)
  /-- ARCHIVE_RATCHET (R419). -/
  | archiveRatchet (z : ZReq) (value : Bytes)
  /-- LOG_CLEAR (R512). -/
  | logClear (z : ZReq) (value : Bytes)
  /-- LOG_CHECK_RUN (R510). -/
  | logCheckRun (z : ZReq) (value : Bytes)
  /-- EVENT_COMMIT (R505). -/
  | eventCommit
  /-- INST_CREATE (R146). -/
  | instCreate (port : Fin 4) (seq : BitVec 32) (a : CreateArgs)
  /-- INST_ENABLE (R146). -/
  | instEnable (port : Fin 4) (seq : BitVec 32) (n : BitVec 16)
  /-- INST_SET (R150). -/
  | instSet (port : Fin 4) (seq : BitVec 32) (a : CreateArgs)
  /-- INST_RESET (R148). -/
  | instReset (port : Fin 4) (seq : BitVec 32) (n : BitVec 16) (mode : Nat)
  /-- INSTANCE_RESET_DONE (R148). -/
  | instanceResetDone (inst : Fin 1024)
  /-- INST_FREEZE (R156). -/
  | instFreeze (port : Fin 4) (seq : BitVec 32) (n : BitVec 16)
  /-- FREEZE_DONE (R156). -/
  | freezeDone (inst : Fin 1024)
  /-- INST_THAW (R159). -/
  | instThaw (port : Fin 4) (seq : BitVec 32) (n : BitVec 16)
  /-- INST_DESTROY (R146). -/
  | instDestroy (port : Fin 4) (seq : BitVec 32) (n : BitVec 16)
  /-- INST_STATUS (R149). -/
  | instStatus (port : Fin 4) (seq : BitVec 32) (n : BitVec 16)
  /-- SET_TRANSLATION (R154). -/
  | setTranslation (port : Fin 4) (seq : BitVec 32) (n : BitVec 16) (root : BitVec 64)
  /-- INVALIDATE (R154). -/
  | invalidate (port : Fin 4) (seq : BitVec 32) (n : BitVec 16) (iova len : BitVec 64)
  /-- MIG_SAVE (R157). -/
  | migSave (port : Fin 4) (seq : BitVec 32) (n : BitVec 16) (flags : BitVec 32) (iova len : BitVec 64)
  /-- MIG_RESTORE (R158). -/
  | migRestore (port : Fin 4) (seq : BitVec 32) (n : BitVec 16) (flags : BitVec 32) (iova len : BitVec 64)
  /-- OPEN_SLOT_WRITE (R413). -/
  | openSlotWrite (port : Fin 4) (seq : BitVec 32) (a : OpenSlotArgs)
  /-- OPEN_SLOT_CLEAR (R414). -/
  | openSlotClear (port : Fin 4) (seq : BitVec 32) (slotNo : BitVec 16)
  /-- OPEN_SLOT_READ (R412). -/
  | openSlotRead (port : Fin 4) (seq : BitVec 32) (slotNo : BitVec 16)
  /-- QP_ENABLE (R138). -/
  | qpEnable (inst : Fin 1024) (qp : Fin 1023) (value : BitVec 32)
  /-- QP_DISABLE (R138). -/
  | qpDisable (inst : Fin 1024) (qp : Fin 1023) (value : BitVec 32)
  /-- SPILL_GRANT (R140). -/
  | spillGrant (inst : Fin 1024)
  /-- SPILL_REVOKE (R140). -/
  | spillRevoke (inst : Fin 1024)
  /-- SPILL_REVOKE_DONE (R140). -/
  | spillRevokeDone (inst : Fin 1024)
  /-- REGISTER_WRITE (R136). -/
  | registerWrite (fn : RegBlock) (offset size : Nat) (value : BitVec 64)
  /-- SQ_DOORBELL (R182). -/
  | sqDoorbell (inst : Fin 1024) (qp : Fin 1023) (index : BitVec 17)
  /-- SQ_WITHDRAW (R183). -/
  | sqWithdraw (inst : Fin 1024) (qp : Fin 1023) (index : BitVec 17)
  /-- CQ_DOORBELL (R182). -/
  | cqDoorbell (inst : Fin 1024) (qp : Fin 1023) (index : BitVec 17)
  /-- DESCRIPTOR_ARRIVAL (R184). -/
  | descriptorArrival (inst : Fin 1024) (qp : Fin 1023) (entry : Option SqEntry)
  /-- RECORDS_PINNED (R23). -/
  | recordsPinned (slot : Fin 16384) (sealOk : Bool)
  /-- JOB_INPUT_ARRIVED (R24). -/
  | jobInputArrived (slot : Fin 16384) (input : JobInput)
  /-- ENGINE_COMMAND_DONE (R254). -/
  | engineCommandDone (kind : Nat) (unit : Fin 387) (outcome : EngineOutcome) (count : Nat)
  /-- SHIELD_BOUNDARY (R205). -/
  | shieldBoundary (slot : Fin 16384)
  /-- COMPLETION_POST (R176). -/
  | completionPost (slot : Fin 16384) (writeFault : Bool)
  /-- CQ_WAIT (R191). -/
  | cqWait (inst : Fin 1024) (qp : Fin 1023)
  /-- DRAIN_TIMEOUT (R148). -/
  | drainTimeout (scope : DrainScope)
  /-- ENTROPY_WAIT_TIMEOUT (R432). -/
  | entropyWaitTimeout (slot : Fin 16384)
  /-- PLACEMENT_TRAP_RESOLVED (R381). -/
  | placementTrapResolved (slot : Fin 16384)
  /-- CTX_EXPIRED (R287). -/
  | ctxExpired (inst : Fin 1024) (ctx : Fin 4096)
  /-- STATEFUL_BUILD_BLOCK (R273). -/
  | statefulBuildBlock (index : Nat)
  /-- LEAF_BLOCK_JOURNALED (R276). -/
  | leafBlockJournaled (index : Nat)
  /-- NOP (R168). -/
  | nop (slot : Fin 16384)
  /-- FENCE (R168). -/
  | fence (slot : Fin 16384)
  /-- MLKEM_KEYGEN (R227). -/
  | mlkemKeygen (slot : Fin 16384)
  /-- MLKEM_ENCAPS (R227). -/
  | mlkemEncaps (slot : Fin 16384)
  /-- MLKEM_ENCAPS_KEEP (R227). -/
  | mlkemEncapsKeep (slot : Fin 16384)
  /-- MLKEM_DECAPS (R229). -/
  | mlkemDecaps (slot : Fin 16384)
  /-- MLKEM_DECAPS_KEEP (R229). -/
  | mlkemDecapsKeep (slot : Fin 16384)
  /-- MLDSA_KEYGEN (R233). -/
  | mldsaKeygen (slot : Fin 16384)
  /-- MLDSA_SIGN (R235). -/
  | mldsaSign (slot : Fin 16384)
  /-- MLDSA_SIGN_DETERMINISTIC (R235). -/
  | mldsaSignDeterministic (slot : Fin 16384)
  /-- MLDSA_VERIFY (R234). -/
  | mldsaVerify (slot : Fin 16384)
  /-- FNDSA_KEYGEN (R237). -/
  | fndsaKeygen (slot : Fin 16384)
  /-- FNDSA_SIGN (R238). -/
  | fndsaSign (slot : Fin 16384)
  /-- FNDSA_VERIFY (R239). -/
  | fndsaVerify (slot : Fin 16384)
  /-- SLHDSA_KEYGEN (R268). -/
  | slhdsaKeygen (slot : Fin 16384)
  /-- SLHDSA_SIGN (R270). -/
  | slhdsaSign (slot : Fin 16384)
  /-- SLHDSA_SIGN_DETERMINISTIC (R270). -/
  | slhdsaSignDeterministic (slot : Fin 16384)
  /-- SLHDSA_VERIFY (R270). -/
  | slhdsaVerify (slot : Fin 16384)
  /-- STATEFUL_KEYGEN (R272). -/
  | statefulKeygen (slot : Fin 16384)
  /-- STATEFUL_SIGN (R275). -/
  | statefulSign (slot : Fin 16384)
  /-- STATEFUL_VERIFY (R281). -/
  | statefulVerify (slot : Fin 16384)
  /-- STATEFUL_STATUS (R280). -/
  | statefulStatus (slot : Fin 16384)
  /-- HASH (R283). -/
  | hash (slot : Fin 16384)
  /-- MAC (R283). -/
  | mac (slot : Fin 16384)
  /-- MAC_VERIFY (R284). -/
  | macVerify (slot : Fin 16384)
  /-- CTX_CLOSE (R287). -/
  | ctxClose (slot : Fin 16384)
  /-- MEASURE (R295). -/
  | measure (slot : Fin 16384)
  /-- QUOTE (R297). -/
  | quote (slot : Fin 16384)
  /-- HQC_KEYGEN (R303). -/
  | hqcKeygen (slot : Fin 16384)
  /-- HQC_ENCAPS (R303). -/
  | hqcEncaps (slot : Fin 16384)
  /-- HQC_ENCAPS_KEEP (R303). -/
  | hqcEncapsKeep (slot : Fin 16384)
  /-- HQC_DECAPS (R310). -/
  | hqcDecaps (slot : Fin 16384)
  /-- HQC_DECAPS_KEEP (R310). -/
  | hqcDecapsKeep (slot : Fin 16384)
  /-- MCE_KEYGEN (R312). -/
  | mceKeygen (slot : Fin 16384)
  /-- MCE_ENCAPS (R308). -/
  | mceEncaps (slot : Fin 16384)
  /-- MCE_ENCAPS_KEEP (R308). -/
  | mceEncapsKeep (slot : Fin 16384)
  /-- MCE_DECAPS (R311). -/
  | mceDecaps (slot : Fin 16384)
  /-- MCE_DECAPS_KEEP (R311). -/
  | mceDecapsKeep (slot : Fin 16384)
  /-- EC_KEYGEN (R323). -/
  | ecKeygen (slot : Fin 16384)
  /-- EC_SIGN (R325). -/
  | ecSign (slot : Fin 16384)
  /-- EC_VERIFY (R326). -/
  | ecVerify (slot : Fin 16384)
  /-- EC_AGREE (R325). -/
  | ecAgree (slot : Fin 16384)
  /-- EC_AGREE_KEEP (R325). -/
  | ecAgreeKeep (slot : Fin 16384)
  /-- RSA_KEYGEN (R329). -/
  | rsaKeygen (slot : Fin 16384)
  /-- RSA_SIGN_PSS (R330). -/
  | rsaSignPss (slot : Fin 16384)
  /-- RSA_SIGN_PKCS1 (R330). -/
  | rsaSignPkcs1 (slot : Fin 16384)
  /-- RSA_VERIFY_PSS (R330). -/
  | rsaVerifyPss (slot : Fin 16384)
  /-- RSA_VERIFY_PKCS1 (R330). -/
  | rsaVerifyPkcs1 (slot : Fin 16384)
  /-- RSA_OAEP_ENCRYPT (R330). -/
  | rsaOaepEncrypt (slot : Fin 16384)
  /-- RSA_OAEP_DECRYPT (R332). -/
  | rsaOaepDecrypt (slot : Fin 16384)
  /-- GCM_ENCRYPT (R337). -/
  | gcmEncrypt (slot : Fin 16384)
  /-- GCM_DECRYPT (R340). -/
  | gcmDecrypt (slot : Fin 16384)
  /-- GMAC_GENERATE (R337). -/
  | gmacGenerate (slot : Fin 16384)
  /-- GMAC_VERIFY (R337). -/
  | gmacVerify (slot : Fin 16384)
  /-- KW_WRAP (R337). -/
  | kwWrap (slot : Fin 16384)
  /-- KW_UNWRAP (R340). -/
  | kwUnwrap (slot : Fin 16384)
  /-- XTS_ENCRYPT (R338). -/
  | xtsEncrypt (slot : Fin 16384)
  /-- XTS_DECRYPT (R338). -/
  | xtsDecrypt (slot : Fin 16384)
  /-- FRAME_TAG (R344). -/
  | frameTag (slot : Fin 16384)
  /-- FRAME_CHECK (R344). -/
  | frameCheck (slot : Fin 16384)
  /-- HYB_KEYGEN (R333). -/
  | hybKeygen (slot : Fin 16384)
  /-- HYB_ENCAPS (R334). -/
  | hybEncaps (slot : Fin 16384)
  /-- HYB_ENCAPS_KEEP (R334). -/
  | hybEncapsKeep (slot : Fin 16384)
  /-- HYB_DECAPS (R334). -/
  | hybDecaps (slot : Fin 16384)
  /-- HYB_DECAPS_KEEP (R334). -/
  | hybDecapsKeep (slot : Fin 16384)
  /-- HYB_SIGN (R335). -/
  | hybSign (slot : Fin 16384)
  /-- HYB_VERIFY (R335). -/
  | hybVerify (slot : Fin 16384)
  /-- KM_UPDATE (R408). -/
  | kmUpdate (slot : Fin 16384)
  /-- KM_GENERATE (R398). -/
  | kmGenerate (slot : Fin 16384)
  /-- KM_DERIVE (R400). -/
  | kmDerive (slot : Fin 16384)
  /-- KM_DERIVE_RELEASE (R400). -/
  | kmDeriveRelease (slot : Fin 16384)
  /-- KM_WRAP (R402). -/
  | kmWrap (slot : Fin 16384)
  /-- KM_UNWRAP (R403). -/
  | kmUnwrap (slot : Fin 16384)
  /-- KM_EXPORT (R404). -/
  | kmExport (slot : Fin 16384)
  /-- KM_IMPORT (R405). -/
  | kmImport (slot : Fin 16384)
  /-- KM_IMPORT_PUBLIC (R398). -/
  | kmImportPublic (slot : Fin 16384)
  /-- KM_DELETE (R399). -/
  | kmDelete (slot : Fin 16384)
  /-- KM_INFO (R394). -/
  | kmInfo (slot : Fin 16384)
  /-- KM_PROVE (R415). -/
  | kmProve (slot : Fin 16384)
  /-- PEER_SET_SECRET (R417). -/
  | peerSetSecret (slot : Fin 16384)
  /-- PEER_REVOKE (R418). -/
  | peerRevoke (slot : Fin 16384)
  /-- PEER_INFO (R416). -/
  | peerInfo (slot : Fin 16384)
  /-- RANDOM_GENERATE (R438). -/
  | randomGenerate (slot : Fin 16384)
  /-- RANDOM_RESEED (R538). -/
  | randomReseed (slot : Fin 16384)
  /-- RECIPE_RUN (R364). -/
  | recipeRun (slot : Fin 16384)
  /-- RECIPE_LOAD (R363). -/
  | recipeLoad (slot : Fin 16384)
  /-- RECIPE_UNLOAD (R365). -/
  | recipeUnload (slot : Fin 16384)
  /-- RECIPE_INFO (R362). -/
  | recipeInfo (slot : Fin 16384)
  /-- ADD (R354). -/
  | add (slot : Fin 16384) (rd rs1 rs2 : Fin 32)
  /-- SUB (R354). -/
  | sub (slot : Fin 16384) (rd rs1 rs2 : Fin 32)
  /-- AND (R354). -/
  | and (slot : Fin 16384) (rd rs1 rs2 : Fin 32)
  /-- OR (R354). -/
  | or (slot : Fin 16384) (rd rs1 rs2 : Fin 32)
  /-- XOR (R354). -/
  | xor (slot : Fin 16384) (rd rs1 rs2 : Fin 32)
  /-- SHL (R354). -/
  | shl (slot : Fin 16384) (rd rs1 rs2 : Fin 32)
  /-- SHRU (R354). -/
  | shru (slot : Fin 16384) (rd rs1 rs2 : Fin 32)
  /-- SHRS (R354). -/
  | shrs (slot : Fin 16384) (rd rs1 rs2 : Fin 32)
  /-- CMPLT (R354). -/
  | cmplt (slot : Fin 16384) (rd rs1 rs2 : Fin 32)
  /-- CMPLTU (R354). -/
  | cmpltu (slot : Fin 16384) (rd rs1 rs2 : Fin 32)
  /-- ROTL (R354). -/
  | rotl (slot : Fin 16384) (rd rs1 rs2 : Fin 32)
  /-- ROTR (R354). -/
  | rotr (slot : Fin 16384) (rd rs1 rs2 : Fin 32)
  /-- CLZ (R354). -/
  | clz (slot : Fin 16384) (rd rs1 rs2 : Fin 32)
  /-- POPC (R354). -/
  | popc (slot : Fin 16384) (rd rs1 rs2 : Fin 32)
  /-- MUL (R354). -/
  | mul (slot : Fin 16384) (rd rs1 rs2 : Fin 32)
  /-- MULHS (R354). -/
  | mulhs (slot : Fin 16384) (rd rs1 rs2 : Fin 32)
  /-- MULHU (R354). -/
  | mulhu (slot : Fin 16384) (rd rs1 rs2 : Fin 32)
  /-- DIV (R348). -/
  | div (slot : Fin 16384) (rd rs1 rs2 : Fin 32)
  /-- DIVU (R348). -/
  | divu (slot : Fin 16384) (rd rs1 rs2 : Fin 32)
  /-- REM (R348). -/
  | rem (slot : Fin 16384) (rd rs1 rs2 : Fin 32)
  /-- REMU (R348). -/
  | remu (slot : Fin 16384) (rd rs1 rs2 : Fin 32)
  /-- ADDI (R354). -/
  | addi (slot : Fin 16384) (rd rs1 : Fin 32) (imm : BitVec 16)
  /-- ANDI (R354). -/
  | andi (slot : Fin 16384) (rd rs1 : Fin 32) (imm : BitVec 16)
  /-- ORI (R354). -/
  | ori (slot : Fin 16384) (rd rs1 : Fin 32) (imm : BitVec 16)
  /-- XORI (R354). -/
  | xori (slot : Fin 16384) (rd rs1 : Fin 32) (imm : BitVec 16)
  /-- SHLI (R354). -/
  | shli (slot : Fin 16384) (rd rs1 : Fin 32) (imm : BitVec 16)
  /-- SHRUI (R354). -/
  | shrui (slot : Fin 16384) (rd rs1 : Fin 32) (imm : BitVec 16)
  /-- SHRSI (R354). -/
  | shrsi (slot : Fin 16384) (rd rs1 : Fin 32) (imm : BitVec 16)
  /-- ROTLI (R354). -/
  | rotli (slot : Fin 16384) (rd rs1 : Fin 32) (imm : BitVec 16)
  /-- LDHI (R354). -/
  | ldhi (slot : Fin 16384) (rd : Fin 32) (imm : BitVec 16)
  /-- LDD (R354). -/
  | ldd (slot : Fin 16384) (rd rs1 : Fin 32) (imm : BitVec 16)
  /-- LDW (R354). -/
  | ldw (slot : Fin 16384) (rd rs1 : Fin 32) (imm : BitVec 16)
  /-- LDH (R354). -/
  | ldh (slot : Fin 16384) (rd rs1 : Fin 32) (imm : BitVec 16)
  /-- LDB (R354). -/
  | ldb (slot : Fin 16384) (rd rs1 : Fin 32) (imm : BitVec 16)
  /-- STD (R354). -/
  | std (slot : Fin 16384) (rs1 rs2 : Fin 32) (imm : BitVec 16)
  /-- STW (R354). -/
  | stw (slot : Fin 16384) (rs1 rs2 : Fin 32) (imm : BitVec 16)
  /-- STH (R354). -/
  | sth (slot : Fin 16384) (rs1 rs2 : Fin 32) (imm : BitVec 16)
  /-- STB (R354). -/
  | stb (slot : Fin 16384) (rs1 rs2 : Fin 32) (imm : BitVec 16)
  /-- BEQ (R354). -/
  | beq (slot : Fin 16384) (rs1 rs2 : Fin 32) (imm : BitVec 16)
  /-- BNE (R354). -/
  | bne (slot : Fin 16384) (rs1 rs2 : Fin 32) (imm : BitVec 16)
  /-- BLT (R354). -/
  | blt (slot : Fin 16384) (rs1 rs2 : Fin 32) (imm : BitVec 16)
  /-- BGE (R354). -/
  | bge (slot : Fin 16384) (rs1 rs2 : Fin 32) (imm : BitVec 16)
  /-- BLTU (R354). -/
  | bltu (slot : Fin 16384) (rs1 rs2 : Fin 32) (imm : BitVec 16)
  /-- BGEU (R354). -/
  | bgeu (slot : Fin 16384) (rs1 rs2 : Fin 32) (imm : BitVec 16)
  /-- JMPL (R354). -/
  | jmpl (slot : Fin 16384) (rd : Fin 32) (off : BitVec 21)
  /-- JMPR (R354). -/
  | jmpr (slot : Fin 16384) (rd rs1 : Fin 32) (imm : BitVec 16)
  /-- FADD (R354). -/
  | fadd (slot : Fin 16384) (rd rs1 rs2 : Fin 32)
  /-- FSUB (R354). -/
  | fsub (slot : Fin 16384) (rd rs1 rs2 : Fin 32)
  /-- FMUL (R354). -/
  | fmul (slot : Fin 16384) (rd rs1 rs2 : Fin 32)
  /-- FMIN (R354). -/
  | fmin (slot : Fin 16384) (rd rs1 rs2 : Fin 32)
  /-- FMAX (R354). -/
  | fmax (slot : Fin 16384) (rd rs1 rs2 : Fin 32)
  /-- FCOPYSIGN (R354). -/
  | fcopysign (slot : Fin 16384) (rd rs1 rs2 : Fin 32)
  /-- FDIV (R354). -/
  | fdiv (slot : Fin 16384) (rd rs1 rs2 : Fin 32)
  /-- FSQRT (R354). -/
  | fsqrt (slot : Fin 16384) (rd rs1 rs2 : Fin 32)
  /-- FTOI (R354). -/
  | ftoi (slot : Fin 16384) (rd rs1 rs2 : Fin 32)
  /-- ITOF (R354). -/
  | itof (slot : Fin 16384) (rd rs1 rs2 : Fin 32)
  /-- FBITS (R354). -/
  | fbits (slot : Fin 16384) (rd rs1 rs2 : Fin 32)
  /-- GBITS (R354). -/
  | gbits (slot : Fin 16384) (rd rs1 rs2 : Fin 32)
  /-- FLDD (R354). -/
  | fldd (slot : Fin 16384) (rd rs1 : Fin 32) (imm : BitVec 16)
  /-- FSTD (R354). -/
  | fstd (slot : Fin 16384) (rs1 rs2 : Fin 32) (imm : BitVec 16)
  /-- FCMP (R354). -/
  | fcmp (slot : Fin 16384) (rd rs1 rs2 : Fin 32)
  /-- EWAIT (R355). -/
  | ewait (slot : Fin 16384) (rd : Fin 32) (funct : BitVec 11)
  /-- CTLR (R354). -/
  | ctlr (slot : Fin 16384) (rd rs1 : Fin 32) (imm : BitVec 16)
  /-- CTLW (R348). -/
  | ctlw (slot : Fin 16384) (rd rs1 : Fin 32) (imm : BitVec 16)
  /-- HALT (R360). -/
  | halt (slot : Fin 16384) (rs1 : Fin 32)
  /-- DMA (R356). -/
  | dma (slot : Fin 16384) (cmd prm : BitVec 64)
  /-- INVOKE (R357). -/
  | invoke (slot : Fin 16384) (rs1 : Fin 32)
  /-- RETAIN (R358). -/
  | retain (slot : Fin 16384) (rs1 : Fin 32)
  /-- PERMUTE (R355). -/
  | permute (slot : Fin 16384) (cmd prm : BitVec 64)
  /-- ABSORB (R355). -/
  | absorb (slot : Fin 16384) (cmd prm : BitVec 64)
  /-- SHA256 (R355). -/
  | sha256 (slot : Fin 16384) (cmd prm : BitVec 64)
  /-- SHA512 (R355). -/
  | sha512 (slot : Fin 16384) (cmd prm : BitVec 64)
  /-- CLOVE_NTT (R257). -/
  | cloveNtt (slot : Fin 16384) (by_ : Issuer) (cmd prm : BitVec 64)
  /-- CLOVE_INTT (R257). -/
  | cloveIntt (slot : Fin 16384) (by_ : Issuer) (cmd prm : BitVec 64)
  /-- CLOVE_PMUL (R257). -/
  | clovePmul (slot : Fin 16384) (by_ : Issuer) (cmd prm : BitVec 64)
  /-- CLOVE_DOT (R257). -/
  | cloveDot (slot : Fin 16384) (by_ : Issuer) (cmd prm : BitVec 64)
  /-- CLOVE_ADD (R257). -/
  | cloveAdd (slot : Fin 16384) (by_ : Issuer) (cmd prm : BitVec 64)
  /-- CLOVE_SUB (R257). -/
  | cloveSub (slot : Fin 16384) (by_ : Issuer) (cmd prm : BitVec 64)
  /-- CLOVE_CMUL (R257). -/
  | cloveCmul (slot : Fin 16384) (by_ : Issuer) (cmd prm : BitVec 64)
  /-- CLOVE_SAMPLE_SMALL (R257). -/
  | cloveSampleSmall (slot : Fin 16384) (by_ : Issuer) (cmd prm : BitVec 64)
  /-- CLOVE_SAMPLE_UNIFORM (R257). -/
  | cloveSampleUniform (slot : Fin 16384) (by_ : Issuer) (cmd prm : BitVec 64)
  /-- CLOVE_COMPRESS (R257). -/
  | cloveCompress (slot : Fin 16384) (by_ : Issuer) (cmd prm : BitVec 64)
  /-- CLOVE_DECOMPRESS (R257). -/
  | cloveDecompress (slot : Fin 16384) (by_ : Issuer) (cmd prm : BitVec 64)
  /-- CLOVE_POWER2ROUND (R257). -/
  | clovePower2round (slot : Fin 16384) (by_ : Issuer) (cmd prm : BitVec 64)
  /-- CLOVE_DECOMPOSE (R257). -/
  | cloveDecompose (slot : Fin 16384) (by_ : Issuer) (cmd prm : BitVec 64)
  /-- CLOVE_MAKEHINT (R257). -/
  | cloveMakehint (slot : Fin 16384) (by_ : Issuer) (cmd prm : BitVec 64)
  /-- CLOVE_USEHINT (R257). -/
  | cloveUsehint (slot : Fin 16384) (by_ : Issuer) (cmd prm : BitVec 64)
  /-- CLOVE_NORMCHK (R257). -/
  | cloveNormchk (slot : Fin 16384) (by_ : Issuer) (cmd prm : BitVec 64)
  /-- CLOVE_A2B (R257). -/
  | cloveA2b (slot : Fin 16384) (by_ : Issuer) (cmd prm : BitVec 64)
  /-- CLOVE_B2A (R257). -/
  | cloveB2a (slot : Fin 16384) (by_ : Issuer) (cmd prm : BitVec 64)
  /-- CLOVE_PACK (R257). -/
  | clovePack (slot : Fin 16384) (by_ : Issuer) (cmd prm : BitVec 64)
  /-- CLOVE_UNPACK (R257). -/
  | cloveUnpack (slot : Fin 16384) (by_ : Issuer) (cmd prm : BitVec 64)
  /-- CLOVE_CLMULMOD (R257). -/
  | cloveClmulmod (slot : Fin 16384) (by_ : Issuer) (cmd prm : BitVec 64)
  /-- CLOVE_XOR (R257). -/
  | cloveXor (slot : Fin 16384) (by_ : Issuer) (cmd prm : BitVec 64)
  /-- CLOVE_GFMUL (R257). -/
  | cloveGfmul (slot : Fin 16384) (by_ : Issuer) (cmd prm : BitVec 64)
  /-- CLOVE_GFSQR (R257). -/
  | cloveGfsqr (slot : Fin 16384) (by_ : Issuer) (cmd prm : BitVec 64)
  /-- CLOVE_GFINV (R257). -/
  | cloveGfinv (slot : Fin 16384) (by_ : Issuer) (cmd prm : BitVec 64)
  /-- CLOVE_GFEVAL (R257). -/
  | cloveGfeval (slot : Fin 16384) (by_ : Issuer) (cmd prm : BitVec 64)
  /-- CLOVE_STREAM_MATVEC (R257). -/
  | cloveStreamMatvec (slot : Fin 16384) (by_ : Issuer) (cmd prm : BitVec 64)
  /-- CLOVE_COPY (R257). -/
  | cloveCopy (slot : Fin 16384) (by_ : Issuer) (cmd prm : BitVec 64)
  /-- CLOVE_ZERO (R257). -/
  | cloveZero (slot : Fin 16384) (by_ : Issuer) (cmd prm : BitVec 64)
  /-- CLOVE_MASKED_EQ (R257). -/
  | cloveMaskedEq (slot : Fin 16384) (by_ : Issuer) (cmd prm : BitVec 64)
  /-- CLOVE_SELECT (R257). -/
  | cloveSelect (slot : Fin 16384) (by_ : Issuer) (cmd prm : BitVec 64)
  /-- CLOVE_UNMASK (R257). -/
  | cloveUnmask (slot : Fin 16384) (by_ : Issuer) (cmd prm : BitVec 64)
  /-- SAFFRON_MAC (R318). -/
  | saffronMac (unit : Fin 18) (cmd : BitVec 64) (release : Bool)
  /-- MAC_SHIFT (R318). -/
  | macShift (unit : Fin 18) (cmd : BitVec 64) (release : Bool)
  /-- ACC_OUT (R318). -/
  | accOut (unit : Fin 18) (cmd : BitVec 64) (release : Bool)
  /-- ACC_CLEAR (R318). -/
  | accClear (unit : Fin 18) (cmd : BitVec 64) (release : Bool)
  /-- SAFFRON_FMUL (R318). -/
  | saffronFmul (unit : Fin 18) (cmd : BitVec 64) (release : Bool)
  /-- FMUL_SEL (R319). -/
  | fmulSel (unit : Fin 18) (cmd : BitVec 64) (release : Bool)
  /-- UNSEAL (R319). -/
  | unseal (unit : Fin 18) (cmd : BitVec 64) (release : Bool)
  /-- SAFFRON_ZERO (R318). -/
  | saffronZero (unit : Fin 18) (cmd : BitVec 64) (release : Bool)
  /-- VCFG (R370). -/
  | vcfg (slot : Fin 16384) (vd vs1 vs2 : Fin 32) (vm : Bool)
  /-- VCFGX (R370). -/
  | vcfgx (slot : Fin 16384) (vd vs1 vs2 : Fin 32) (vm : Bool)
  /-- VLD_UNIT (R377). -/
  | vldUnit (slot : Fin 16384) (vd vs1 vs2 : Fin 32) (vm : Bool)
  /-- VLD_STRIDED (R377). -/
  | vldStrided (slot : Fin 16384) (vd vs1 vs2 : Fin 32) (vm : Bool)
  /-- VLD_INDEXED (R377). -/
  | vldIndexed (slot : Fin 16384) (vd vs1 vs2 : Fin 32) (vm : Bool)
  /-- VST_UNIT (R377). -/
  | vstUnit (slot : Fin 16384) (vd vs1 vs2 : Fin 32) (vm : Bool)
  /-- VST_STRIDED (R377). -/
  | vstStrided (slot : Fin 16384) (vd vs1 vs2 : Fin 32) (vm : Bool)
  /-- VST_INDEXED (R377). -/
  | vstIndexed (slot : Fin 16384) (vd vs1 vs2 : Fin 32) (vm : Bool)
  /-- VADD (R374). -/
  | vadd (slot : Fin 16384) (vd vs1 vs2 : Fin 32) (vm : Bool)
  /-- VSUB (R374). -/
  | vsub (slot : Fin 16384) (vd vs1 vs2 : Fin 32) (vm : Bool)
  /-- VAND (R374). -/
  | vand (slot : Fin 16384) (vd vs1 vs2 : Fin 32) (vm : Bool)
  /-- VOR (R374). -/
  | vor (slot : Fin 16384) (vd vs1 vs2 : Fin 32) (vm : Bool)
  /-- VXOR (R374). -/
  | vxor (slot : Fin 16384) (vd vs1 vs2 : Fin 32) (vm : Bool)
  /-- VSHL (R374). -/
  | vshl (slot : Fin 16384) (vd vs1 vs2 : Fin 32) (vm : Bool)
  /-- VSHRU (R374). -/
  | vshru (slot : Fin 16384) (vd vs1 vs2 : Fin 32) (vm : Bool)
  /-- VSHRS (R374). -/
  | vshrs (slot : Fin 16384) (vd vs1 vs2 : Fin 32) (vm : Bool)
  /-- VMINU (R374). -/
  | vminu (slot : Fin 16384) (vd vs1 vs2 : Fin 32) (vm : Bool)
  /-- VMAXU (R374). -/
  | vmaxu (slot : Fin 16384) (vd vs1 vs2 : Fin 32) (vm : Bool)
  /-- VMUL (R374). -/
  | vmul (slot : Fin 16384) (vd vs1 vs2 : Fin 32) (vm : Bool)
  /-- VMULHU (R374). -/
  | vmulhu (slot : Fin 16384) (vd vs1 vs2 : Fin 32) (vm : Bool)
  /-- VCMPEQ (R374). -/
  | vcmpeq (slot : Fin 16384) (vd vs1 vs2 : Fin 32) (vm : Bool)
  /-- VCMPLTU (R374). -/
  | vcmpltu (slot : Fin 16384) (vd vs1 vs2 : Fin 32) (vm : Bool)
  /-- VCMPLT (R374). -/
  | vcmplt (slot : Fin 16384) (vd vs1 vs2 : Fin 32) (vm : Bool)
  /-- VBLEND (R374). -/
  | vblend (slot : Fin 16384) (vd vs1 vs2 : Fin 32) (vm : Bool)
  /-- VADD_VS (R374). -/
  | vaddVs (slot : Fin 16384) (vd vs1 vs2 : Fin 32) (vm : Bool)
  /-- VSUB_VS (R374). -/
  | vsubVs (slot : Fin 16384) (vd vs1 vs2 : Fin 32) (vm : Bool)
  /-- VAND_VS (R374). -/
  | vandVs (slot : Fin 16384) (vd vs1 vs2 : Fin 32) (vm : Bool)
  /-- VOR_VS (R374). -/
  | vorVs (slot : Fin 16384) (vd vs1 vs2 : Fin 32) (vm : Bool)
  /-- VXOR_VS (R374). -/
  | vxorVs (slot : Fin 16384) (vd vs1 vs2 : Fin 32) (vm : Bool)
  /-- VSHL_VS (R374). -/
  | vshlVs (slot : Fin 16384) (vd vs1 vs2 : Fin 32) (vm : Bool)
  /-- VSHRU_VS (R374). -/
  | vshruVs (slot : Fin 16384) (vd vs1 vs2 : Fin 32) (vm : Bool)
  /-- VSHRS_VS (R374). -/
  | vshrsVs (slot : Fin 16384) (vd vs1 vs2 : Fin 32) (vm : Bool)
  /-- VMINU_VS (R374). -/
  | vminuVs (slot : Fin 16384) (vd vs1 vs2 : Fin 32) (vm : Bool)
  /-- VMAXU_VS (R374). -/
  | vmaxuVs (slot : Fin 16384) (vd vs1 vs2 : Fin 32) (vm : Bool)
  /-- VMUL_VS (R374). -/
  | vmulVs (slot : Fin 16384) (vd vs1 vs2 : Fin 32) (vm : Bool)
  /-- VMULHU_VS (R374). -/
  | vmulhuVs (slot : Fin 16384) (vd vs1 vs2 : Fin 32) (vm : Bool)
  /-- VCMPEQ_VS (R374). -/
  | vcmpeqVs (slot : Fin 16384) (vd vs1 vs2 : Fin 32) (vm : Bool)
  /-- VCMPLTU_VS (R374). -/
  | vcmpltuVs (slot : Fin 16384) (vd vs1 vs2 : Fin 32) (vm : Bool)
  /-- VCMPLT_VS (R374). -/
  | vcmpltVs (slot : Fin 16384) (vd vs1 vs2 : Fin 32) (vm : Bool)
  /-- VBLEND_VS (R374). -/
  | vblendVs (slot : Fin 16384) (vd vs1 vs2 : Fin 32) (vm : Bool)
  /-- VMADD (R375). -/
  | vmadd (slot : Fin 16384) (vd vs1 vs2 : Fin 32) (vm : Bool)
  /-- VMSUB (R375). -/
  | vmsub (slot : Fin 16384) (vd vs1 vs2 : Fin 32) (vm : Bool)
  /-- VMNEG (R375). -/
  | vmneg (slot : Fin 16384) (vd vs1 vs2 : Fin 32) (vm : Bool)
  /-- VMRED (R375). -/
  | vmred (slot : Fin 16384) (vd vs1 vs2 : Fin 32) (vm : Bool)
  /-- VMMUL (R375). -/
  | vmmul (slot : Fin 16384) (vd vs1 vs2 : Fin 32) (vm : Bool)
  /-- VMMULX (R375). -/
  | vmmulx (slot : Fin 16384) (vd vs1 vs2 : Fin 32) (vm : Bool)
  /-- VFADD (R374). -/
  | vfadd (slot : Fin 16384) (vd vs1 vs2 : Fin 32) (vm : Bool)
  /-- VFSUB (R374). -/
  | vfsub (slot : Fin 16384) (vd vs1 vs2 : Fin 32) (vm : Bool)
  /-- VFMUL (R374). -/
  | vfmul (slot : Fin 16384) (vd vs1 vs2 : Fin 32) (vm : Bool)
  /-- VFMIN (R374). -/
  | vfmin (slot : Fin 16384) (vd vs1 vs2 : Fin 32) (vm : Bool)
  /-- VFMAX (R374). -/
  | vfmax (slot : Fin 16384) (vd vs1 vs2 : Fin 32) (vm : Bool)
  /-- VFTOI (R374). -/
  | vftoi (slot : Fin 16384) (vd vs1 vs2 : Fin 32) (vm : Bool)
  /-- VITOF (R374). -/
  | vitof (slot : Fin 16384) (vd vs1 vs2 : Fin 32) (vm : Bool)
  /-- VFDIV (R374). -/
  | vfdiv (slot : Fin 16384) (vd vs1 vs2 : Fin 32) (vm : Bool)
  /-- VFSQRT (R374). -/
  | vfsqrt (slot : Fin 16384) (vd vs1 vs2 : Fin 32) (vm : Bool)
  /-- VSPLAT (R374). -/
  | vsplat (slot : Fin 16384) (vd vs1 vs2 : Fin 32) (vm : Bool)
  /-- VEXTRACT (R374). -/
  | vextract (slot : Fin 16384) (vd vs1 vs2 : Fin 32) (vm : Bool)
  /-- VSHIFTDN (R374). -/
  | vshiftdn (slot : Fin 16384) (vd vs1 vs2 : Fin 32) (vm : Bool)
  /-- VSHIFTUP (R374). -/
  | vshiftup (slot : Fin 16384) (vd vs1 vs2 : Fin 32) (vm : Bool)
  /-- VPERM (R374). -/
  | vperm (slot : Fin 16384) (vd vs1 vs2 : Fin 32) (vm : Bool)
  /-- VINDEX (R374). -/
  | vindex (slot : Fin 16384) (vd vs1 vs2 : Fin 32) (vm : Bool)
  /-- VFOLDADD (R374). -/
  | vfoldadd (slot : Fin 16384) (vd vs1 vs2 : Fin 32) (vm : Bool)
  /-- VFOLDXOR (R374). -/
  | vfoldxor (slot : Fin 16384) (vd vs1 vs2 : Fin 32) (vm : Bool)
  /-- VMCOUNT (R374). -/
  | vmcount (slot : Fin 16384) (vd vs1 vs2 : Fin 32) (vm : Bool)
  /-- CLAIM (R290). -/
  | claim (port : Fin 4) (win : Fin 4) (value : BitVec 32)
  /-- RELEASE (R290). -/
  | release (port : Fin 4) (win : Fin 4) (value : BitVec 32)
  /-- DIGEST_START (R291). -/
  | digestStart (port : Fin 4) (win : Fin 4) (value : BitVec 32)
  /-- DATA (R291). -/
  | data (port : Fin 4) (win : Fin 4) (size : Nat) (value : BitVec 64) (poisoned : Bool)
  /-- DATA_LAST (R291). -/
  | dataLast (port : Fin 4) (win : Fin 4) (size : Nat) (value : BitVec 64) (poisoned : Bool)
  /-- DIGEST_READ (R292). -/
  | digestRead (port : Fin 4) (win : Fin 4) (word : Fin 8)
  /-- DIGEST_WINDOW_IDLE (R290). -/
  | digestWindowIdle (win : Fin 4)
  /-- NOISE_SOURCE_SAMPLE (R424). -/
  | noiseSourceSample (src : Fin 18) (bit : Bool)
  /-- MASK_GENERATOR_RESEED (R429). -/
  | maskGeneratorReseed
  /-- TEMPO_WINDOW (R441). -/
  | tempoWindow (ps : Nat)
  /-- GOVERNOR_TICK (R444). -/
  | governorTick (mw waiting : Nat) (inletMc : Int)
  /-- SELF_TEST_VISIT (R491). -/
  | selfTestVisit (unit : Fin 387) (pass : Bool) (duration fixed : Nat)
  /-- SCRUB (R492). -/
  | scrub (loc : MemLoc) (err : EccError)
  /-- WATCHDOG_EXPIRY (R479). -/
  | watchdogExpiry (stage : StageLoc) (cleared : Bool)
  /-- GRACE_TIMER_EXPIRY (R481). -/
  | graceTimerExpiry (id : Nat)
  /-- RETRY (R482). -/
  | retry (z : ZReq) (id : BitVec 32) (pass : Bool)
  /-- RETIRE (R482). -/
  | retire (z : ZReq) (id : BitVec 32)
  /-- RESET_INSTANCE (R482). -/
  | resetInstance (z : ZReq) (id : BitVec 32)
  /-- ACCEPT (R482). -/
  | accept (z : ZReq) (id : BitVec 32)
  /-- SPARE_VISIT_DONE (R488). -/
  | spareVisitDone (unit : Fin 387) (pass : Bool)
  /-- RETIRING_UNIT_IDLE (R489). -/
  | retiringUnitIdle (unit : Fin 387)
  /-- IDCODE (R468). -/
  | idcode
  /-- BYPASS (R468). -/
  | bypass
  /-- DBG_STATUS (R468). -/
  | dbgStatus
  /-- DBG_CHALLENGE (R469). -/
  | dbgChallenge
  /-- DBG_RESPONSE (R470). -/
  | dbgResponse (sig : Bytes)
  /-- DBG_LC_REQUEST (R462). -/
  | dbgLcRequest (target : Nat) (token : Bytes)
  /-- DBG_CHALLENGE_EXPIRY (R469). -/
  | dbgChallengeExpiry
  /-- CARD_DETECT_CLOSE (R516). -/
  | cardDetectClose
  /-- CARD_DETECT_DEBOUNCED (R516). -/
  | cardDetectDebounced
  /-- CARD_READY_POLL (R516). -/
  | cardReadyPoll (ready s18a : Bool)
  /-- CARD_AUTHENTICATED (R517). -/
  | cardAuthenticated (cert : CardCert)
  /-- CARD_DETECT_OPEN (R521). -/
  | cardDetectOpen
  /-- CARD_REST (R520). -/
  | cardRest
  /-- APPROVE (R531). -/
  | approve (z : ZReq) (arg : Nat)
  /-- CONFIG_SAVE (R526). -/
  | configSave (z : ZReq) (arg : Nat)
  /-- CONFIG_LOAD (R526). -/
  | configLoad (z : ZReq) (arg : Nat)
  /-- BACKUP (R527). -/
  | backup (z : ZReq) (arg : Nat)
  /-- CARD_SEGMENT_COMMITTED (R523). -/
  | cardSegmentCommitted
  /-- BACKUP_RESUME_EXPIRY (R523). -/
  | backupResumeExpiry
  /-- RESTORE (R529). -/
  | restore (z : ZReq) (arg : Nat) (image : CardImage)
  /-- RESTORE_READ_PASS_DONE (R529). -/
  | restoreReadPassDone (ok : Bool)
  /-- PROTECT (R519). -/
  | protect (z : ZReq) (arg : Nat)
  /-- UNPROTECT (R519). -/
  | unprotect (z : ZReq) (arg : Nat)
  /-- CANCEL (R523). -/
  | cancel (z : ZReq) (arg : Nat)
  /-- APPROVAL_EXPIRY (R531). -/
  | approvalExpiry (which : Fin 8)
  /-- PTP_SOURCE_LOST (R128). -/
  | ptpSourceLost
  /-- LINK_STATE_CHANGE (R100). -/
  | linkStateChange (state : Nat)
  /-- PTM_DISABLED (R135). -/
  | ptmDisabled (port : Fin 4)
  /-- AUX_RAIL_CHANGE (R66). -/
  | auxRailChange (up : Bool)
  /-- INSTANCE_DESTROY_DONE (R146). -/
  | instanceDestroyDone (inst : Fin 1024)
  /-- MIG_SAVE_DONE (R157). -/
  | migSaveDone (inst : Fin 1024)
  /-- MIG_RESTORE_DONE (R158). -/
  | migRestoreDone (inst : Fin 1024) (image : MigImage)
  /-- CARD_OP_DONE (R525). -/
  | cardOpDone (reply : CardReply)
  /-- ECMD (R356). -/
  | ecmd (slot : Fin 16384) (rs1 rs2 : Fin 32) (funct : BitVec 11)
  /-- UNDEFINED_INSTRUCTION (R354). -/
  | undefinedInstruction (slot : Fin 16384) (word : BitVec 32)
  /-- UNDEFINED_OPCODE (R172). -/
  | undefinedOpcode (slot : Fin 16384)
  /-- UNKNOWN_SERVICE (R111). -/
  | unknownService (req : UnknownReq)
  /-- REPLAY_DISCARD (R109). -/
  | replayDiscard (session : BitVec 32) (seq : Nat) (tagOk : Bool)
  deriving DecidableEq, Repr

end Sys2Proof
end

