-- ==== Sys2Proof/WellFormed.lean ====
section
/-! DEFINITION. The commands the outside world can send: every operand within the width or the length its
field has in the manual (log entry 1). No meaning asks for it: an ill-formed command has an effect too, and the
statements that need a bound say it themselves. -/

namespace Sys2Proof

/-- SEQ has 8 bytes (R107). -/
def ZReq.fits (z : ZReq) : Bool := z.seq < 2 ^ 64

/-- A version has 4 bytes and an image digest at most 64; a place without an image shows none (R80, R81). -/
def FwImage.fits (f : FwImage) : Bool :=
  f.version < 2 ^ 32 && f.digest.length ≤ 64 && (f.present || f.digest.isEmpty)

/-- KEY lies in the 256 bytes of MBX_REQUEST, from offset 24 (R413). -/
def OpenSlotArgs.fits (a : OpenSlotArgs) : Bool := a.key.length ≤ 232

/-- A translation table entry has an address of 8 bytes, SRC_FRAGS and DST_FRAGS have 16 bits, and no input is
longer than 1 GiB (R161, R169, Table - Entry checks). -/
def JobInput.fits (i : JobInput) : Bool :=
  i.srcTable.length < 2 ^ 16 && i.dstTable.length < 2 ^ 16 && i.ptes.all (fun p => p.1 < 2 ^ 64) &&
    i.data.length ≤ 2 ^ 30

/-- A unit number is one of 387 (Table - Unit inventory), a job slot one of 16,384, a record index 24 bits
wide, a line or page number 32 bits. -/
def MemLoc.fits : MemLoc → Bool
  | .sequencerBank u l o => u < 72 && l < 2 ^ 32 && o.all (· < 16384)
  | .cloveLine u l => u < 72 && l < 8192
  | .keyCacheLine l r => l < 2 ^ 32 && r.all (· < 2 ^ 24)
  | .contextTable n => n < 16384
  | .vaultRecord r => r < 2 ^ 24
  | .vaultOther p m o => p < 2 ^ 32 && m.all (· < 2 ^ 16) && o.all (· < 16384)

/-- The jobs of a control block are job slots. -/
def StageLoc.fits : StageLoc → Bool
  | .control jobs => jobs.all (· < 16384)
  | .unit _ | .window _ | .management => true

/-- A card's role is DEPLOY (1) or CUSTODY (2), its key digest 32 bytes, and a deployment token 32 bytes (R514,
R515, R460). -/
def CardCert.fits (c : CardCert) : Bool :=
  (c.role = 1 || c.role = 2) && c.keyDigest.length = 32 && c.token.all (·.length = 32)

/-- GENERATION has 4 bytes, IMAGE_ID 16, and one half of the segment table 8,192 records (Table - Manifest,
R527). -/
def CardImage.fits (c : CardImage) : Bool :=
  c.generation < 2 ^ 32 && c.segments ≤ 8192 && (c.imageId.length = 16 || !c.found)

/-- LOG2_SIZE, the vector and the indices of a queue pair (R167). -/
def QueueImage.fits (q : QueueImage) : Bool :=
  q.log2 < 32 && q.vector < 2048 && q.fetchIndex < 2 ^ 16 && q.postIndex < 2 ^ 16

/-- A record index has 24 bits and a generation 32. -/
def RecordImage.fits (r : RecordImage) : Bool :=
  r.index < 2 ^ 24 && r.gen < 2 ^ 32 && r.cls < 256 && r.origin < 256 && r.ivUsed < 2 ^ 64

/-- A peer record's index and generation. -/
def PeerImage.fits (p : PeerImage) : Bool := p.index < 2 ^ 24 && p.gen < 2 ^ 32 && p.sigSet < 256 && p.mlkemSet < 256

/-- At most 1,024 queue pairs, each part within its fields (R157). -/
def MigImage.fits (m : MigImage) : Bool :=
  m.queues.length ≤ 1024 && m.queues.all QueueImage.fits && m.records.all RecordImage.fits && m.peers.all PeerImage.fits &&
    m.completions.all (fun c => c.1 < 1024 && c.2.length = 32) && m.squashed.all (fun q => q.1 < 1024)

/-- What a card sends back in one operation stays within an image (R525). -/
def CardReply.fits (r : CardReply) : Bool := r.content.length < 2 ^ 32

/-- The request of an unknown code. -/
def UnknownReq.fits : UnknownReq → Bool
  | .zynbo z _ => z.fits
  | .mailbox _ _ _ => true


/-- Every operand within its field. -/
def wellFormed : Instr → Bool
  | .mainRailLoss _ loadMw storedMj => loadMw < 2 ^ 32 && storedMj < 2 ^ 32
  | .rideThroughEnd => true
  | .inFlightWindowEnd => true
  | .flushDone => true
  | .mainRailReturn _ => true
  | .holdupMeasure fullMj storedMj => fullMj < 2 ^ 32 && storedMj < 2 ^ 32
  | .tamperMeshCheck _ => true
  | .tamperLoopPulse ohm => ohm < 2 ^ 32
  | .canTemperatureLimit milliC => decide (-273150 ≤ milliC ∧ milliC < 2 ^ 31)
  | .tamperAck z value => z.fits && value.length < 2 ^ 16
  | .aliveToggle => true
  | .alive1kToggle => true
  | .cardVddOvercurrent => true
  | .thermalPause dieMc => decide (-273150 ≤ dieMc ∧ dieMc < 2 ^ 31)
  | .thermalResume dieMc => decide (-273150 ≤ dieMc ∧ dieMc < 2 ^ 31)
  | .startCold coinMv storedMj fullMj _ => coinMv < 2 ^ 16 && storedMj < 2 ^ 32 && fullMj < 2 ^ 32
  | .startWarm coinMv storedMj fullMj => coinMv < 2 ^ 16 && storedMj < 2 ^ 32 && fullMj < 2 ^ 32
  | .katComplete failed => failed.all (· < 387)
  | .drbgFirstSeed _ => true
  | .entropyStartFail => true
  | .firmwareAuthenticated slotA slotB cardImage => slotA.fits && slotB.fits && cardImage.fits
  | .archiveMount => true
  | .perstDeassert _ => true
  | .portReset _ _ => true
  | .vfFlr _ => true
  | .vfD3hotToD0 _ => true
  | .configRequest _ => true
  | .atsInvalidateRequest _ _ _ => true
  | .atsTranslationCompletion _ _ _ _ _ => true
  | .atsTranslationExpiry _ _ => true
  | .ptmDialogue _ offset time _ => decide (-2 ^ 63 ≤ offset ∧ offset < 2 ^ 63) && time < 2 ^ 64
  | .ptpMessage _ domain vlan time offset _ => domain < 256 && vlan < 4096 && time < 2 ^ 64 && decide (-2 ^ 63 ≤ offset ∧ offset < 2 ^ 63)
  | .holdoverLimit => true
  | .addressResolution v6 target vlan => target.length = (if v6 then 16 else 4) && vlan < 4096
  | .frameDiscard => true
  | .mgmtTxSubmit _ _ => true
  | .mgmtRxAck _ _ => true
  | .open1 _ _ roleAsked nonce x25519 ek => roleAsked < 256 && nonce.length = 32 && x25519.length = 32 && ek.length = 1184
  | .open3 _ sig => sig.length = 3309
  | .openingTimeout _ => true
  | .credentialBlockEnd _ => true
  | .read z _ => z.fits
  | .write z _ value => z.fits && value.length < 2 ^ 16
  | .describe z _ => z.fits
  | .next z _ => z.fits
  | .txnBegin z => z.fits
  | .txnCommit z _ => z.fits
  | .txnRollback z _ => z.fits
  | .txnTimeout => true
  | .blockOpen z _ dir total => z.fits && dir < 256 && total < 2 ^ 32
  | .blockData z _ seg data => z.fits && seg < 2 ^ 16 && data.length ≤ 1024
  | .blockClose z _ digest => z.fits && (digest.isEmpty || digest.length = 32)
  | .blockAbort z => z.fits
  | .blockTransferTimeout _ => true
  | .subscribe z minSeverity instNo => z.fits && minSeverity < 256 && instNo < 2 ^ 16
  | .unsubscribe z => z.fits
  | .restart z _ => z.fits
  | .keepalive z => z.fits
  | .close z => z.fits
  | .sessionIdleTimeout _ => true
  | .timeSet z value => z.fits && value.length < 2 ^ 16
  | .lcRequest z target token => z.fits && target < 256 && token.length = 32
  | .lcWipeDone readback => decide (readback.length < 2 ^ 16)
  | .debugAllow z value => z.fits && value.length < 2 ^ 16
  | .archiveRatchet z value => z.fits && value.length < 2 ^ 16
  | .logClear z value => z.fits && value.length < 2 ^ 16
  | .logCheckRun z value => z.fits && value.length < 2 ^ 16
  | .eventCommit => true
  | .instCreate _ _ _ => true
  | .instEnable _ _ _ => true
  | .instSet _ _ _ => true
  | .instReset _ _ _ mode => mode < 256
  | .instanceResetDone _ => true
  | .instFreeze _ _ _ => true
  | .freezeDone _ => true
  | .instThaw _ _ _ => true
  | .instDestroy _ _ _ => true
  | .instStatus _ _ _ => true
  | .setTranslation _ _ _ _ => true
  | .invalidate _ _ _ _ _ => true
  | .migSave _ _ _ _ _ _ => true
  | .migRestore _ _ _ _ _ _ => true
  | .openSlotWrite _ _ a => a.fits
  | .openSlotClear _ _ _ => true
  | .openSlotRead _ _ _ => true
  | .qpEnable _ _ _ => true
  | .qpDisable _ _ _ => true
  | .spillGrant _ => true
  | .spillRevoke _ => true
  | .spillRevokeDone _ => true
  | .registerWrite _ offset size _ => offset < 2 ^ 24 && (size = 1 || size = 2 || size = 4 || size = 8)
  | .sqDoorbell _ _ _ => true
  | .sqWithdraw _ _ _ => true
  | .cqDoorbell _ _ _ => true
  | .descriptorArrival _ _ _ => true
  | .recordsPinned _ _ => true
  | .jobInputArrived _ input => input.fits
  | .engineCommandDone kind _ _ count => (2 ≤ kind && kind ≤ 6) && count < 2 ^ 32
  | .shieldBoundary _ => true
  | .completionPost _ _ => true
  | .cqWait _ _ => true
  | .drainTimeout _ => true
  | .entropyWaitTimeout _ => true
  | .placementTrapResolved _ => true
  | .ctxExpired _ _ => true
  | .statefulBuildBlock index => index < 2 ^ 24
  | .leafBlockJournaled index => index < 2 ^ 24
  | .nop _ => true
  | .fence _ => true
  | .mlkemKeygen _ => true
  | .mlkemEncaps _ => true
  | .mlkemEncapsKeep _ => true
  | .mlkemDecaps _ => true
  | .mlkemDecapsKeep _ => true
  | .mldsaKeygen _ => true
  | .mldsaSign _ => true
  | .mldsaSignDeterministic _ => true
  | .mldsaVerify _ => true
  | .fndsaKeygen _ => true
  | .fndsaSign _ => true
  | .fndsaVerify _ => true
  | .slhdsaKeygen _ => true
  | .slhdsaSign _ => true
  | .slhdsaSignDeterministic _ => true
  | .slhdsaVerify _ => true
  | .statefulKeygen _ => true
  | .statefulSign _ => true
  | .statefulVerify _ => true
  | .statefulStatus _ => true
  | .hash _ => true
  | .mac _ => true
  | .macVerify _ => true
  | .ctxClose _ => true
  | .measure _ => true
  | .quote _ => true
  | .hqcKeygen _ => true
  | .hqcEncaps _ => true
  | .hqcEncapsKeep _ => true
  | .hqcDecaps _ => true
  | .hqcDecapsKeep _ => true
  | .mceKeygen _ => true
  | .mceEncaps _ => true
  | .mceEncapsKeep _ => true
  | .mceDecaps _ => true
  | .mceDecapsKeep _ => true
  | .ecKeygen _ => true
  | .ecSign _ => true
  | .ecVerify _ => true
  | .ecAgree _ => true
  | .ecAgreeKeep _ => true
  | .rsaKeygen _ => true
  | .rsaSignPss _ => true
  | .rsaSignPkcs1 _ => true
  | .rsaVerifyPss _ => true
  | .rsaVerifyPkcs1 _ => true
  | .rsaOaepEncrypt _ => true
  | .rsaOaepDecrypt _ => true
  | .gcmEncrypt _ => true
  | .gcmDecrypt _ => true
  | .gmacGenerate _ => true
  | .gmacVerify _ => true
  | .kwWrap _ => true
  | .kwUnwrap _ => true
  | .xtsEncrypt _ => true
  | .xtsDecrypt _ => true
  | .frameTag _ => true
  | .frameCheck _ => true
  | .hybKeygen _ => true
  | .hybEncaps _ => true
  | .hybEncapsKeep _ => true
  | .hybDecaps _ => true
  | .hybDecapsKeep _ => true
  | .hybSign _ => true
  | .hybVerify _ => true
  | .kmUpdate _ => true
  | .kmGenerate _ => true
  | .kmDerive _ => true
  | .kmDeriveRelease _ => true
  | .kmWrap _ => true
  | .kmUnwrap _ => true
  | .kmExport _ => true
  | .kmImport _ => true
  | .kmImportPublic _ => true
  | .kmDelete _ => true
  | .kmInfo _ => true
  | .kmProve _ => true
  | .peerSetSecret _ => true
  | .peerRevoke _ => true
  | .peerInfo _ => true
  | .randomGenerate _ => true
  | .randomReseed _ => true
  | .recipeRun _ => true
  | .recipeLoad _ => true
  | .recipeUnload _ => true
  | .recipeInfo _ => true
  | .add _ _ _ _ => true
  | .sub _ _ _ _ => true
  | .and _ _ _ _ => true
  | .or _ _ _ _ => true
  | .xor _ _ _ _ => true
  | .shl _ _ _ _ => true
  | .shru _ _ _ _ => true
  | .shrs _ _ _ _ => true
  | .cmplt _ _ _ _ => true
  | .cmpltu _ _ _ _ => true
  | .rotl _ _ _ _ => true
  | .rotr _ _ _ _ => true
  | .clz _ _ _ _ => true
  | .popc _ _ _ _ => true
  | .mul _ _ _ _ => true
  | .mulhs _ _ _ _ => true
  | .mulhu _ _ _ _ => true
  | .div _ _ _ _ => true
  | .divu _ _ _ _ => true
  | .rem _ _ _ _ => true
  | .remu _ _ _ _ => true
  | .addi _ _ _ _ => true
  | .andi _ _ _ _ => true
  | .ori _ _ _ _ => true
  | .xori _ _ _ _ => true
  | .shli _ _ _ _ => true
  | .shrui _ _ _ _ => true
  | .shrsi _ _ _ _ => true
  | .rotli _ _ _ _ => true
  | .ldhi _ _ _ => true
  | .ldd _ _ _ _ => true
  | .ldw _ _ _ _ => true
  | .ldh _ _ _ _ => true
  | .ldb _ _ _ _ => true
  | .std _ _ _ _ => true
  | .stw _ _ _ _ => true
  | .sth _ _ _ _ => true
  | .stb _ _ _ _ => true
  | .beq _ _ _ _ => true
  | .bne _ _ _ _ => true
  | .blt _ _ _ _ => true
  | .bge _ _ _ _ => true
  | .bltu _ _ _ _ => true
  | .bgeu _ _ _ _ => true
  | .jmpl _ _ _ => true
  | .jmpr _ _ _ _ => true
  | .fadd _ _ _ _ => true
  | .fsub _ _ _ _ => true
  | .fmul _ _ _ _ => true
  | .fmin _ _ _ _ => true
  | .fmax _ _ _ _ => true
  | .fcopysign _ _ _ _ => true
  | .fdiv _ _ _ _ => true
  | .fsqrt _ _ _ _ => true
  | .ftoi _ _ _ _ => true
  | .itof _ _ _ _ => true
  | .fbits _ _ _ _ => true
  | .gbits _ _ _ _ => true
  | .fldd _ _ _ _ => true
  | .fstd _ _ _ _ => true
  | .fcmp _ _ _ _ => true
  | .ewait _ _ _ => true
  | .ctlr _ _ _ _ => true
  | .ctlw _ _ _ _ => true
  | .halt _ _ => true
  | .dma _ _ _ => true
  | .invoke _ _ => true
  | .retain _ _ => true
  | .permute _ _ _ => true
  | .absorb _ _ _ => true
  | .sha256 _ _ _ => true
  | .sha512 _ _ _ => true
  | .cloveNtt _ _ _ _ => true
  | .cloveIntt _ _ _ _ => true
  | .clovePmul _ _ _ _ => true
  | .cloveDot _ _ _ _ => true
  | .cloveAdd _ _ _ _ => true
  | .cloveSub _ _ _ _ => true
  | .cloveCmul _ _ _ _ => true
  | .cloveSampleSmall _ _ _ _ => true
  | .cloveSampleUniform _ _ _ _ => true
  | .cloveCompress _ _ _ _ => true
  | .cloveDecompress _ _ _ _ => true
  | .clovePower2round _ _ _ _ => true
  | .cloveDecompose _ _ _ _ => true
  | .cloveMakehint _ _ _ _ => true
  | .cloveUsehint _ _ _ _ => true
  | .cloveNormchk _ _ _ _ => true
  | .cloveA2b _ _ _ _ => true
  | .cloveB2a _ _ _ _ => true
  | .clovePack _ _ _ _ => true
  | .cloveUnpack _ _ _ _ => true
  | .cloveClmulmod _ _ _ _ => true
  | .cloveXor _ _ _ _ => true
  | .cloveGfmul _ _ _ _ => true
  | .cloveGfsqr _ _ _ _ => true
  | .cloveGfinv _ _ _ _ => true
  | .cloveGfeval _ _ _ _ => true
  | .cloveStreamMatvec _ _ _ _ => true
  | .cloveCopy _ _ _ _ => true
  | .cloveZero _ _ _ _ => true
  | .cloveMaskedEq _ _ _ _ => true
  | .cloveSelect _ _ _ _ => true
  | .cloveUnmask _ _ _ _ => true
  | .saffronMac _ _ _ => true
  | .macShift _ _ _ => true
  | .accOut _ _ _ => true
  | .accClear _ _ _ => true
  | .saffronFmul _ _ _ => true
  | .fmulSel _ _ _ => true
  | .unseal _ _ _ => true
  | .saffronZero _ _ _ => true
  | .vcfg _ _ _ _ _ => true
  | .vcfgx _ _ _ _ _ => true
  | .vldUnit _ _ _ _ _ => true
  | .vldStrided _ _ _ _ _ => true
  | .vldIndexed _ _ _ _ _ => true
  | .vstUnit _ _ _ _ _ => true
  | .vstStrided _ _ _ _ _ => true
  | .vstIndexed _ _ _ _ _ => true
  | .vadd _ _ _ _ _ => true
  | .vsub _ _ _ _ _ => true
  | .vand _ _ _ _ _ => true
  | .vor _ _ _ _ _ => true
  | .vxor _ _ _ _ _ => true
  | .vshl _ _ _ _ _ => true
  | .vshru _ _ _ _ _ => true
  | .vshrs _ _ _ _ _ => true
  | .vminu _ _ _ _ _ => true
  | .vmaxu _ _ _ _ _ => true
  | .vmul _ _ _ _ _ => true
  | .vmulhu _ _ _ _ _ => true
  | .vcmpeq _ _ _ _ _ => true
  | .vcmpltu _ _ _ _ _ => true
  | .vcmplt _ _ _ _ _ => true
  | .vblend _ _ _ _ _ => true
  | .vaddVs _ _ _ _ _ => true
  | .vsubVs _ _ _ _ _ => true
  | .vandVs _ _ _ _ _ => true
  | .vorVs _ _ _ _ _ => true
  | .vxorVs _ _ _ _ _ => true
  | .vshlVs _ _ _ _ _ => true
  | .vshruVs _ _ _ _ _ => true
  | .vshrsVs _ _ _ _ _ => true
  | .vminuVs _ _ _ _ _ => true
  | .vmaxuVs _ _ _ _ _ => true
  | .vmulVs _ _ _ _ _ => true
  | .vmulhuVs _ _ _ _ _ => true
  | .vcmpeqVs _ _ _ _ _ => true
  | .vcmpltuVs _ _ _ _ _ => true
  | .vcmpltVs _ _ _ _ _ => true
  | .vblendVs _ _ _ _ _ => true
  | .vmadd _ _ _ _ _ => true
  | .vmsub _ _ _ _ _ => true
  | .vmneg _ _ _ _ _ => true
  | .vmred _ _ _ _ _ => true
  | .vmmul _ _ _ _ _ => true
  | .vmmulx _ _ _ _ _ => true
  | .vfadd _ _ _ _ _ => true
  | .vfsub _ _ _ _ _ => true
  | .vfmul _ _ _ _ _ => true
  | .vfmin _ _ _ _ _ => true
  | .vfmax _ _ _ _ _ => true
  | .vftoi _ _ _ _ _ => true
  | .vitof _ _ _ _ _ => true
  | .vfdiv _ _ _ _ _ => true
  | .vfsqrt _ _ _ _ _ => true
  | .vsplat _ _ _ _ _ => true
  | .vextract _ _ _ _ _ => true
  | .vshiftdn _ _ _ _ _ => true
  | .vshiftup _ _ _ _ _ => true
  | .vperm _ _ _ _ _ => true
  | .vindex _ _ _ _ _ => true
  | .vfoldadd _ _ _ _ _ => true
  | .vfoldxor _ _ _ _ _ => true
  | .vmcount _ _ _ _ _ => true
  | .claim _ _ _ => true
  | .release _ _ _ => true
  | .digestStart _ _ _ => true
  | .data _ _ size _ _ => (size = 1 || size = 2 || size = 4 || size = 8)
  | .dataLast _ _ size _ _ => (size = 1 || size = 2 || size = 4 || size = 8)
  | .digestRead _ _ _ => true
  | .digestWindowIdle _ => true
  | .noiseSourceSample _ _ => true
  | .maskGeneratorReseed => true
  | .tempoWindow ps => ps < 2 ^ 32
  | .governorTick mw waiting inletMc => mw < 2 ^ 32 && waiting < 2 ^ 32 && decide (-273150 ≤ inletMc ∧ inletMc < 2 ^ 31)
  | .selfTestVisit _ _ duration fixed => duration < 2 ^ 64 && fixed < 2 ^ 64
  | .scrub loc _ => loc.fits
  | .watchdogExpiry stage _ => stage.fits
  | .graceTimerExpiry id => id < 2 ^ 32
  | .retry z _ _ => z.fits
  | .retire z _ => z.fits
  | .resetInstance z _ => z.fits
  | .accept z _ => z.fits
  | .spareVisitDone _ _ => true
  | .retiringUnitIdle _ => true
  | .idcode => true
  | .bypass => true
  | .dbgStatus => true
  | .dbgChallenge => true
  | .dbgResponse sig => sig.length = 4627
  | .dbgLcRequest target token => target < 256 && token.length = 32
  | .dbgChallengeExpiry => true
  | .cardDetectClose => true
  | .cardDetectDebounced => true
  | .cardReadyPoll _ _ => true
  | .cardAuthenticated cert => cert.fits
  | .cardDetectOpen => true
  | .cardRest => true
  | .approve z arg => z.fits && arg < 256
  | .configSave z arg => z.fits && arg < 256
  | .configLoad z arg => z.fits && arg < 256
  | .backup z arg => z.fits && arg < 256
  | .cardSegmentCommitted => true
  | .backupResumeExpiry => true
  | .restore z arg image => z.fits && arg < 256 && image.fits
  | .restoreReadPassDone _ => true
  | .protect z arg => z.fits && arg < 256
  | .unprotect z arg => z.fits && arg < 256
  | .cancel z arg => z.fits && arg < 256
  | .approvalExpiry _ => true
  | .ptpSourceLost => true
  | .linkStateChange state => state < 256
  | .ptmDisabled _ => true
  | .auxRailChange _ => true
  | .instanceDestroyDone _ => true
  | .migSaveDone _ => true
  | .migRestoreDone _ image => image.fits
  | .cardOpDone reply => reply.fits
  | .ecmd _ _ _ _ => true
  | .undefinedInstruction _ _ => true
  | .undefinedOpcode _ => true
  | .unknownService req => req.fits
  | .replayDiscard _ seq _ => seq < 2 ^ 64

end Sys2Proof
end

