-- ==== Sys2Proof/Config.lean ====
section
/-! DEFINITION. What the manual leaves to each module or does not state: constants without a body,
so that no proof can see what they are. -/

namespace Sys2Proof

/-- The algorithms of named standards that the model leaves opaque (log entry 8): each name is one
function of one standard, at one parameter set. -/
inductive Algorithm where
  | mlkemKeyGen (set : Nat) | mlkemEncaps (set : Nat) | mlkemDecaps (set : Nat)
  | mldsaKeyGen (set : Nat) | mldsaSign (set : Nat)
  | fndsaKeyGen (set : Nat) | fndsaSign (set : Nat)
  | slhdsaKeyGen (set : Nat) | slhdsaSign (set : Nat)
  | statefulKeyGen (set : Nat) | statefulSign (set : Nat)
  | hqcKeyGen (set : Nat) | hqcEncaps (set : Nat) | hqcDecaps (set : Nat)
  | mceKeyGen (set : Nat) | mceEncaps (set : Nat) | mceDecaps (set : Nat)
  | ecKeyGen (set : Nat) | ecSign (set : Nat) | ecAgree (set : Nat)
  | rsaKeyGen (set : Nat) | rsaSignPss (set : Nat) | rsaSignPkcs1 (set : Nat)
  | rsaOaepEncrypt (set : Nat) | rsaOaepDecrypt (set : Nat)
  | ladder (label : Nat)
  | drbg
  deriving DecidableEq, Repr

/-- The checks of named standards that the model leaves opaque (log entry 8): a signature verifies,
an encoded key or point is valid, a key pair is consistent, a key generation or a signing attempt
stays within its iteration limit. -/
inductive Check where
  | mldsaVerify (set : Nat) | fndsaVerify (set : Nat) | slhdsaVerify (set : Nat)
  | statefulVerify (set : Nat) | ecVerify (set : Nat)
  | rsaVerifyPss (set : Nat) | rsaVerifyPkcs1 (set : Nat)
  | mlkemKeyValid (set : Nat) | mlkemDkValid (set : Nat)
  | mldsaKeyValid (set : Nat) | fndsaKeyValid (set : Nat) | slhdsaKeyValid (set : Nat)
  | hqcKeyValid (set : Nat) | mceKeyValid (set : Nat) | mceCtValid (set : Nat)
  | ecPointValid (set : Nat) | ecSecretValid (set : Nat) | rsaKeyValid (set : Nat)
  | rsaOaepValid (set : Nat) | hqcCtValid (set : Nat)
  | pairwise (family : Nat) (set : Nat) | withinIterations (family : Nat) (set : Nat)
  | statefulParams (set : Nat)
  deriving DecidableEq, Repr

/-- The `n`-th free byte: a value the manual leaves open (log entry 7). -/
opaque Config.freeByte : Nat → Byte

/-- The output of an algorithm on its inputs (log entry 8). -/
opaque Config.algorithm : Algorithm → List Bytes → Bytes

/-- Whether a check of a named standard passes on its inputs (log entry 8). -/
opaque Config.check : Check → List Bytes → Bool

/-- The test root in mask ROM, 256 bits (R384). -/
opaque Config.testRoot : Bytes

/-- The digest D_TEST in mask ROM (R460). -/
opaque Config.testTokenDigest : Bytes

/-- Shedric's debug key, whose digest is held in mask ROM (R469). -/
opaque Config.debugKey : Bytes

/-- The value of a dictionary entry that each module reports for itself, by its key
256 x index + subindex (R534). -/
opaque Config.moduleValue : Nat → Bytes

/-- What IEEE 754 leaves to the implementation in a binary64 result, by operation (0 the NaN of an arithmetic
operation, 1 FMIN and 2 FMAX of a NaN or of zeros of both signs, 3 FTOI out of range) and operands (log entry
12). -/
opaque Config.floatChoice : Nat → BitVec 64 → BitVec 64 → BitVec 64

/-- Tininess is detected before rounding, else after it (log entry 12). -/
opaque Config.tinyBefore : Bool

end Sys2Proof
end

