-- ==== Sys2Proof/Machine/State.lean ====
section
/-! DEFINITION. The state of the block: everything the spec names, as plain data, and its value
right after reset. Each field's line names the rule that gives it; a reset value the spec does not
state carries its log entry. -/

namespace Sys2Proof.Machine

open Sys2Proof

/-- Sparse byte memory in its canonical form: addresses rising, no listed byte zero (R16: an
unlisted address of a cleared memory reads as zero). -/
abbrev Mem := List Host.Cell

/-- Step of Table - Power-fail sequence in force (R61). `rideThrough` is steps 1 and 2, `inFlight`
steps 3 and 4, `flushing` steps 5 and 6, `off` after step 7. -/
inductive PowerStage where
  | normal | rideThrough | inFlight | flushing | off
  deriving DecidableEq, Repr

/-- Phase of a start (R92, OD 0x1300.01); POWER_FAIL is read from the power stage. -/
inductive StartPhase where
  | warden | fabric | selfTest | firmware | archive | ready | halted
  deriving DecidableEq, Repr

/-- How far the key ladder is open (R50, R384, R486). -/
inductive Ladder where
  | closed | limited | full
  deriving DecidableEq, Repr

/-- Why a device-wide drain runs (R74, R464, R470). -/
inductive DrainKind where
  | restart | transition | debugReset
  deriving DecidableEq, Repr

/-- QP_STATUS.STATE (Table - QP_STATUS). -/
inductive QpState where
  | disabled | active | error | stopping
  deriving DecidableEq, Repr

/-- INST_STATE (R137, R146). -/
inductive InstState where
  | unallocated | created | enabled | frozen | resetting | destroying
  deriving DecidableEq, Repr

/-- What drains an instance (R148, R156). -/
inductive InstDrain where
  | reset | freeze
  deriving DecidableEq, Repr

/-- Status codes of completions, Zynbo responses and mailbox responses (R113, R179). -/
inductive Status where
  | ok | okCorrected | verifyFail | inputRejected | lengthMismatch | badOpcode | keyRefused
  | translationFault | stateConflict | outputTooSmall | entropyUnavailable | aborted | squashed
  | engineFault | recipeFault | cardRemoved | stateExhausted | noSuchEntry | accessDenied
  | roleDenied | badService | busy | cardAbsent | digestMismatch
  deriving DecidableEq, Repr

/-- How far a job has come on Table - Job path (R24): `dispatched` holds a slot (step 4), `pinned`
has its records and randomness (step 5), `running` has its input (step 7), `computed` waits for its
engine commands (step 8), `ready` has its result (step 9) and is held or about to be written,
`finished` waits in the collector (step 12). -/
inductive JobPhase where
  | dispatched | pinned | running | computed | ready | finished
  deriving DecidableEq, Repr

/-- State of a hardware unit (R498, OD 0x2100.01). -/
inductive UnitState where
  | active | spare | quarantined | retiring | retired
  deriving DecidableEq, Repr

/-- OD 0x2800.01 CARD_STATE (R533). -/
inductive CardState where
  | empty | identifying | ready | rest | busy | refused
  deriving DecidableEq, Repr

/-- What the block sends: bus writes and messages, frames, responses. The host is outside the
model, so what reaches it is recorded here, newest last (log entry 10). -/
inductive Outbound where
  | configAnswer (port : Nat) (retry : Bool)
  | fetchRead (inst qp index : Nat)
  | memWrite (inst : Nat) (iova : Nat) (bytes : Bytes)
  | completion (inst qp index : Nat) (entry : Bytes)
  | msix (port : Nat) (inst : Option Nat) (vector : Nat)
  | aer (port : Nat) (uncorrectable : Bool)
  | atsRequest (inst : Nat) (iova : Nat)
  | invalidateDone (inst : Nat)
  | frame (chan : Option Nat) (kind : Nat) (session : BitVec 32) (payload : Bytes)
  | resolved (v6 : Bool) (target : Bytes)
  | registerRead (port : Nat) (offset : Nat) (value : BitVec 64)
  | debugShift (bits : Bytes)
  | cardCommand (code arg : Nat)
  deriving DecidableEq, Repr


/-- Device time and its sources (R128, R135). -/
structure Clock where
  /-- Nanoseconds the block has counted; OD 0x1001.03 UPTIME_NS is this count less Start.t0 (R125). -/
  uptimeNs : Nat := 0
  /-- 64 bits; no value after a cold start (R128). -/
  devTime : Option Nat := none
  /-- 2 bits; 0 FREE_RUN 1 ACQUIRING 2 LOCKED 3 HOLDOVER; measured, reads 0 until set (R534) (R128). -/
  timeState : Nat := 0
  /-- 32 bits; OD 0x2900.22 (R128). -/
  offsetNs : Int := 0
  /-- OD 0x2900.25 (R128). -/
  gmIdentity : BitVec 64 := 0
  /-- Start of the present holdover (R128). Reset value: log entry 6. -/
  holdoverSince : Nat := 0
  deriving DecidableEq, Repr

/-- Rails, hold-up and status outputs (R42, R55 to R71). -/
structure Power where
  /-- +12V counted as present (R55). Reset value: log entry 5. -/
  rail12 : Bool := true
  /-- +3.3V counted as present (R55). Reset value: log entry 5. -/
  rail3v3 : Bool := true
  /-- 3.3Vaux present (R55). Reset value: log entry 5. -/
  aux : Bool := true
  /-- The die is powered (R63). Reset value: log entry 5. -/
  dieOn : Bool := true
  /-- Step of the power-fail sequence (R61). -/
  stage : PowerStage := .normal
  /-- Uptime at which the stage began (R61). Reset value: log entry 6. -/
  stageSince : Nat := 0
  /-- Ride-through in force, 10 ms unless R60 shortens it (R61). -/
  rideNs : Nat := 10000000
  /-- In-flight window in force, 20 ms unless R60 shortens it (R61). -/
  windowNs : Nat := 20000000
  /-- 32 bits; HOLDUP_ENERGY_MJ, 0 until measured (R534) (R72). -/
  holdupMj : Nat := 0
  /-- 32 bits; INPUT_POWER_MW (R72). -/
  inputMw : Nat := 0
  /-- 16 bits; RAIL_12V_MV (R72). -/
  rail12Mv : Nat := 0
  /-- 16 bits; RAIL_3V3_MV (R72). -/
  rail3v3Mv : Nat := 0
  /-- 16 bits; RAIL_3V3AUX_MV (R72). -/
  railAuxMv : Nat := 0
  /-- 16 bits; COIN_CELL_MV (R68). -/
  coinMv : Nat := 0
  /-- 32 bits; INLET_TEMP_MC (R69). -/
  inletMc : Int := 0
  /-- 32 bits; DIE_TEMP_MC (R71). -/
  dieMc : Int := 0
  /-- ALIVE contact closed; open during start-up (R43) (R42). -/
  alive : Bool := false
  /-- ALIVE_1K level; low during start-up (R43) (R52). -/
  alive1k : Bool := false
  /-- Dispatch paused by the junction temperature (R71). -/
  thermalPaused : Bool := false
  deriving DecidableEq, Repr

/-- The warden's retained register (R49, R501, R507). -/
structure Warden where
  /-- Tamper latch (R49). Reset value: log entry 6. -/
  latch : Bool := false
  /-- TAMPER_STATUS bit 1 (R49). Reset value: log entry 6. -/
  causeMesh : Bool := false
  /-- TAMPER_STATUS bit 2 (R49). Reset value: log entry 6. -/
  causeLoop : Bool := false
  /-- TAMPER_STATUS bit 3 (R49). Reset value: log entry 6. -/
  causeTemp : Bool := false
  /-- Register contents lost (R50). Reset value: log entry 6. -/
  cellLost : Bool := false
  /-- Warden's time of the tamper (R49). Reset value: log entry 6. -/
  latchTime : Nat := 0
  /-- 2 bits; loop mode last committed (default 2) (R48). -/
  loopMode : Nat := 2
  /-- Consecutive pulses that found a tamper condition (R47). Reset value: log entry 6. -/
  loopRun : Nat := 0
  /-- Last loop resistance measured (R46). Reset value: log entry 6. -/
  loopOhm : Nat := 0
  /-- TAMPER_STATUS bit 5 (R72). Reset value: log entry 6. -/
  loopCondition : Bool := false
  /-- Debug was authorised since the last power-on; cleared at power-off (R470). -/
  debugFlag : Bool := false
  /-- 32 bits; DEBUG_AUTH_COUNT (R473). -/
  debugAuths : Nat := 0
  /-- 64 bits; next event SEQ (R501). -/
  nextSeq : Nat := 1
  /-- Records lost in the buffer at a power-down (R507). -/
  lostRecords : Nat := 0
  /-- Warden lanes retired (R476). -/
  lanesOut : Nat := 0
  deriving DecidableEq, Repr

/-- One-time programmable memory (R384, R419, R454, R457 to R461, R490). -/
structure Otp where
  /-- Three state copies of 64 bits (R457). Reset value: log entry 5. -/
  copies : List (BitVec 64) := [0x0000000000FFFFFF#64, 0x0000000000FFFFFF#64, 0x0000000000FFFFFF#64]
  /-- Eight slots of three 16-bit copies (R459). Reset value: log entry 5. -/
  intents : List (List (BitVec 16)) := (List.replicate 3 (List.replicate 3 0xFFFF#16) ++ List.replicate 5 (List.replicate 3 0#16))
  /-- 32 bytes (R460). Reset value: log entry 6. -/
  dFactory : Option Bytes := none
  /-- 32 bytes (R460). Reset value: log entry 6. -/
  dDeploy : Option Bytes := none
  /-- 32 bytes (R460). Reset value: log entry 6. -/
  dAnalysis : Option Bytes := none
  /-- 32 bytes (R460). Reset value: log entry 6. -/
  dScrapV : Option Bytes := none
  /-- 32 bytes (R460). Reset value: log entry 6. -/
  dScrapC : Option Bytes := none
  /-- 32 bytes (R454). Reset value: log entry 6. -/
  dFactoryCred : Option Bytes := none
  /-- Three copies of the 256-bit device root (R384). Reset value: log entry 6. -/
  rootCopies : List Bytes := (List.replicate 3 (List.replicate 32 0#8))
  /-- 32 bytes (R456). Reset value: log entry 6. -/
  identityRow : Option Bytes := none
  /-- Programmed bits of the 4,096-bit thermometer (R419). Reset value: log entry 6. -/
  genBits : Nat := 0
  /-- 387-bit retirement map as the list of set bits (R490). -/
  retired : List Nat := []
  /-- Birth ratio of every unit, in parts per 10,000 (R493). Reset value: log entry 5. -/
  birthRatios : List Nat := (List.replicate 387 10000)
  /-- Minimum firmware version (R80). Reset value: log entry 6. -/
  fwMin : Nat := 0
  /-- 16 bytes (R125). Reset value: log entry 6. -/
  dieId : Bytes := (List.replicate 16 0#8)
  /-- 16 bits; from OTP (R452). Reset value: log entry 6. -/
  tempoBirth : Nat := 0
  deriving DecidableEq, Repr

/-- A life-cycle transition in progress (R462 to R467). -/
structure Transition where
  /-- 3 bits; target state (R462). -/
  target : Nat := 0
  /-- 3 bits; state it leaves (R462). -/
  source : Nat := 0
  /-- Intent slot (R459). -/
  slot : Nat := 0
  /-- The wipe of step 3 onward is running (R464). -/
  wiping : Bool := false
  deriving DecidableEq, Repr

/-- Life-cycle transitions and debug authorisation (R462 to R473). -/
structure LifeCycle where
  /-- Transition in progress (R464). -/
  transition : Option Transition := none
  /-- 16 bits; LC_TOKEN_FAILS (R463). -/
  tokenFails : Nat := 0
  /-- 16 bytes; LAST_TRANSITION (R473). -/
  lastTransition : Bytes := (List.replicate 16 0#8)
  /-- Debug port open by authorisation (R468). -/
  debugOpen : Bool := false
  /-- A debug allowance stands (R469). -/
  allowance : Bool := false
  /-- Challenge in force and the time of its reading (R469). -/
  challenge : Option (Bytes × Nat) := none
  /-- Refusals since power-on (R468). -/
  dbgRefusals : Nat := 0
  /-- DBG_STATUS bits 23:16 (R468). -/
  dbgLastRefused : Bool := false
  /-- Data register last captured by the debug port (R468). Reset value: log entry 6. -/
  tdo : Bytes := []
  /-- Factory credential area of the NOR, up to 8 records (R454). -/
  factoryCreds : List Bytes := []
  deriving DecidableEq, Repr

/-- Start-up (R73 to R92, R384 to R386). -/
structure Start where
  /-- 3 bits; START_PHASE (R92). -/
  phase : StartPhase := .warden
  /-- Step 1 of the present start has been run (R73). -/
  began : Bool := false
  /-- LAST_START_KIND (R92). -/
  warm : Bool := false
  /-- LAST_START_CAUSE (R92). -/
  cause : Nat := 0
  /-- The nanosecond count at t0 of the last start (R73). -/
  t0 : Nat := 0
  /-- Intent slots closed as interrupted at step 1, whose event follows at step 7 (R467). -/
  abandoned : Nat := 0
  /-- Time of step 2, from which R79 counts (R16). Reset value: log entry 6. -/
  fabricAt : Nat := 0
  /-- An internal DRBG instance holds its first seed (R79). -/
  seedDone : Bool := false
  /-- Step 4 has ended (R75). -/
  katDone : Bool := false
  /-- Step 6 has ended (R75). -/
  fwDone : Bool := false
  /-- 32 bits; START_TIME_US, 0 if not reached (R92). -/
  startTimeUs : Nat := 0
  /-- FW_SLOT (R92). -/
  fwSlot : Nat := 0
  /-- 32 bits; FW_VERSION (R92). -/
  fwVersion : Nat := 0
  /-- Running image carries the RELEASED mark (R496). -/
  fwReleased : Bool := false
  /-- 16 bits; START_KAT_RETIRED (R92). -/
  katRetired : Nat := 0
  /-- HALT_CAUSE (R92). -/
  haltCause : BitVec 16 := 0
  /-- Eight 32-bit values; PHASE_TIMES_US (R92). -/
  phaseTimes : List Nat := (List.replicate 8 0)
  /-- Key ladder (R384). -/
  ladder : Ladder := .closed
  /-- Archive mounted (R75). -/
  mounted : Bool := false
  /-- Archive mounted read-only under debug (R470). -/
  readOnly : Bool := false
  /-- 32 bytes; vault memory encryption key (R19). -/
  vmek : Option Bytes := none
  /-- Drawn at start (R124). Reset value: log entry 6. -/
  restartNonce : BitVec 32 := 0
  /-- Bifurcation mode in force, from the last cold start (R129). -/
  bifurcation : Nat := 0
  /-- A restart, transition or debug reset drains (R74). -/
  draining : Option DrainKind := none
  /-- Start of that drain (R74). Reset value: log entry 6. -/
  drainSince : Nat := 0
  /-- The last power-down came from a power-fail sequence (R92). -/
  powerFailed : Bool := false
  /-- Fetching is stopped on every port (R61). -/
  fetchStopped : Bool := false
  deriving DecidableEq, Repr

/-- One MSI-X table entry (R155; PCI Express Base 4.0). -/
structure MsixEntry where
  /-- Message address (R155). Reset value: log entry 6. -/
  addr : BitVec 64 := 0
  /-- Message data (R155). Reset value: log entry 6. -/
  data : BitVec 32 := 0
  /-- Vector control mask bit (R155). Reset value: log entry 6. -/
  masked : Bool := true
  deriving DecidableEq, Repr

/-- One host port (R129 to R155). -/
structure Port where
  /-- PERSTn# asserted (R76). Reset value: log entry 5. -/
  perst : Bool := true
  /-- Time of the last deassertion (R76). Reset value: log entry 6. -/
  perstAt : Nat := 0
  /-- Link up (R130). Reset value: log entry 6. -/
  linkUp : Bool := false
  /-- 8 bits (R136). Reset value: log entry 6. -/
  linkSpeed : Nat := 0
  /-- 8 bits (R136). Reset value: log entry 6. -/
  linkWidth : Nat := 0
  /-- PTM enabled by the host (R135). Reset value: log entry 6. -/
  ptm : Bool := false
  /-- 16 bits; INSTANCE_BASE in force (R136). -/
  base : Nat := 0
  /-- 16 bits; INSTANCE_COUNT in force (R136). -/
  count : Nat := 0
  /-- TRANSLATION_MODE in force (R142). -/
  deviceTable : Bool := false
  /-- PM_QP_COUNT in force (R142). -/
  pmQps : Nat := 16
  /-- PORT_EVENT_STATUS (R136). -/
  evStatus : BitVec 32 := 0
  /-- PORT_EVENT_ENABLE (R136). Reset value: log entry 6. -/
  evEnable : BitVec 32 := 0
  /-- PORT_EVENT_VECTOR (R136). Reset value: log entry 6. -/
  evVector : BitVec 16 := 0
  /-- 256 bytes; MBX_REQUEST (R149). Reset value: log entry 6. -/
  mbxReq : Bytes := (List.replicate 256 0#8)
  /-- 256 bytes; MBX_RESPONSE (R149). Reset value: log entry 6. -/
  mbxResp : Bytes := (List.replicate 256 0#8)
  /-- MBX_STATUS bit 0 (R149). Reset value: log entry 6. -/
  mbxBusy : Bool := false
  /-- MBX_STATUS bit 1 (R149). Reset value: log entry 6. -/
  mbxDone : Bool := false
  /-- 1,400 bytes; TX_FRAME (R141). Reset value: log entry 6. -/
  txFrame : Bytes := (List.replicate 1400 0#8)
  /-- TX_LEN (R141). Reset value: log entry 6. -/
  txLen : BitVec 32 := 0
  /-- TX_STATUS bit 0 (R141). Reset value: log entry 6. -/
  txBusy : Bool := false
  /-- RX_FRAME and RX_LEN (R141). -/
  rxFrame : Option Bytes := none
  /-- Up to 32 outgoing frames (R141). -/
  rxQueue : List Bytes := []
  /-- 16 bits; deassertions of PERST# since the device start (R296). -/
  bootCount : Nat := 0
  /-- 32 bits; PORT_RESET_COUNTS (R142). -/
  resets : Nat := 0
  /-- PF MSI-X table, 256 entries; an unlisted entry is at its reset value (R136). -/
  msix : List (Nat × MsixEntry) := []
  /-- PF MSI-X PBA (R136). -/
  msixPending : List Nat := []
  deriving DecidableEq, Repr

/-- One CTR_DRBG instance (R427, R428, R430). -/
structure Drbg where
  /-- Instantiated and seeded (R430). -/
  seeded : Bool := false
  /-- Instantiated (R430). -/
  instantiated : Bool := false
  /-- Requests since the last reseed (R428). -/
  requests : Nat := 0
  /-- Time of the last reseed (R428). Reset value: log entry 6. -/
  reseedAt : Nat := 0
  /-- A reseed is due or asked for and waits for its block (R428). -/
  due : Bool := false
  deriving DecidableEq, Repr

/-- One queue pair (R137 to R139, R181 to R194, R537). -/
structure Qp where
  /-- QP_CTRL bit 0 (R137). -/
  enable : Bool := false
  /-- QP_CTRL bit 1 (R137). -/
  ordered : Bool := false
  /-- QP_CTRL bits 7:4, LOG2_SIZE (R137). -/
  log2 : Nat := 4
  /-- QP_CTRL bits 27:16 (R137). -/
  vector : Nat := 0
  /-- QP_STATUS bits 1:0 (R137). -/
  state : QpState := .disabled
  /-- QP_STATUS bits 31:16 (R137). -/
  errCode : BitVec 16 := 0
  /-- SQ_BASE (R137). Reset value: log entry 6. -/
  sqBase : BitVec 64 := 0
  /-- CQ_BASE (R137). Reset value: log entry 6. -/
  cqBase : BitVec 64 := 0
  /-- Submission producer index P (R182). -/
  p : Nat := 0
  /-- Submission consumer index C, SQ_FETCH_INDEX (R182). -/
  c : Nat := 0
  /-- Completion producer index Q, CQ_POST_INDEX (R182). -/
  q : Nat := 0
  /-- Completion consumer index D (R182). -/
  d : Nat := 0
  /-- Prefetched entries from C onward, at most 32 (R184). -/
  cache : List SqEntry := []
  /-- Fetch reads issued and not yet answered (R184). -/
  fetching : Nat := 0
  /-- Submission order number of the next entry dispatched (R187). -/
  order : Nat := 0
  /-- Order number of a dispatched fenced entry not yet posted (R188). -/
  fenceBy : Option Nat := none
  /-- The next entry has waited for a fence (R176). -/
  fenceWaited : Bool := false
  /-- Since when some completion has waited for room (R191). -/
  waitSince : Option Nat := none
  /-- CQ_WAIT written for the present wait (R191). -/
  waitTold : Bool := false
  /-- The next entry has waited for a slot (R219). -/
  slotWaited : Bool := false
  /-- Sequencer that served the previous ORDERED_HINT entry (R166). -/
  lastHinted : Option Nat := none
  deriving DecidableEq, Repr

/-- One loaded recipe (R361 to R365). -/
structure Recipe where
  /-- Header, code, data and signature (R361). -/
  package : Bytes := []
  /-- V extended into MR1 since the start (R364). -/
  measured : Bool := false
  deriving DecidableEq, Repr

/-- A completion kept for the image or for thaw (R156, R159). -/
structure HeldCompletion where
  /-- Queue pair (R156). -/
  qp : Nat := 0
  /-- Submission order number (R187). -/
  order : Nat := 0
  /-- Completion entry without PHASE and index, 32 bytes (R157). -/
  entry : Bytes := []
  /-- Vector due after it (R189). -/
  irq : Bool := false
  deriving DecidableEq, Repr

/-- A save or restore in progress (R157, R158). -/
structure MigWork where
  /-- Save, else restore (R157). -/
  save : Bool := false
  /-- FLAGS bit 0 OMIT (R157). -/
  omitOthers : Bool := false
  /-- BUF_IOVA (R157). -/
  iova : BitVec 64 := 0
  /-- BUF_LEN (R157). -/
  len : BitVec 64 := 0
  deriving DecidableEq, Repr

/-- One instance (R145 to R160, R536, R537). -/
structure Inst where
  /-- INST_STATE (R137). -/
  state : InstState := .unallocated
  /-- State to return to after a reset (R146). -/
  wasEnabled : Bool := false
  /-- 16 bits (R160). -/
  qpCount : Nat := 0
  /-- 16 bits (R160). -/
  vecCount : Nat := 0
  /-- 16 bits; ENGINE_WEIGHT (R160). -/
  weight : Nat := 0
  /-- SLOT_QUOTA (R160). -/
  slotQuota : Nat := 0
  /-- 32 bits; RECORD_QUOTA (R160). -/
  recQuota : Nat := 0
  /-- 32 bits; TIER_S_QUOTA_KIB (R160). -/
  tierSKib : Nat := 0
  /-- ERROR_STATUS (R137). -/
  errStatus : BitVec 32 := 0
  /-- ERROR_VECTOR (R137). Reset value: log entry 6. -/
  errVector : BitVec 16 := 0
  /-- SPILL_IOVA (R140). Reset value: log entry 6. -/
  spillIova : BitVec 64 := 0
  /-- SPILL_SIZE_MIB (R140). Reset value: log entry 6. -/
  spillMib : BitVec 32 := 0
  /-- SPILL_CTRL bit 0 (R140). Reset value: log entry 6. -/
  spillEnable : Bool := false
  /-- SPILL_CTRL bit 1 (R140). Reset value: log entry 6. -/
  spillBusy : Bool := false
  /-- Device-table root; an instance with no root set has none (R153). -/
  root : Option (BitVec 64) := none
  /-- The instance's DRBG (R427). -/
  drbg : Drbg := {}
  /-- Conditioned blocks taken toward the instantiation (R427). -/
  drbgBlocks : Nat := 0
  /-- 64 bits; JOBS_POSTED (R160). -/
  posted : Nat := 0
  /-- 32 bits; RESET_COUNT (R160). -/
  resets : Nat := 0
  /-- LAST_MIG_RESULT (R160). -/
  migResult : BitVec 16 := 0
  /-- 64 bits; IMAGE_LEN of INST_STATUS (R149). Reset value: log entry 6. -/
  imageLen : Nat := 0
  /-- A save or restore in progress (R157). -/
  migBusy : Option MigWork := none
  /-- Drain reset or freeze in progress (R148). -/
  drain : Option InstDrain := none
  /-- Start of that drain (R148). Reset value: log entry 6. -/
  drainSince : Nat := 0
  /-- An instance reset has reached step 5 and waits for its reseed (R148). -/
  reseeding : Bool := false
  /-- Queue pair and TAG of each SQUASHED job kept for the image (R156). -/
  squashed : List (Nat × BitVec 32) := []
  /-- Completions kept for the image or to post at thaw (R156). -/
  held : List HeldCompletion := []
  /-- Record places reserved by jobs past check 2 (R225). -/
  reserved : Nat := 0
  /-- The queue pairs, qpCount of them (R137). -/
  qps : List Qp := []
  /-- Recipe slots 0 to 63 (R362). -/
  recipes : List (Nat × Recipe) := []
  /-- VF MSI-X table, 128 entries (R137). -/
  msix : List (Nat × MsixEntry) := []
  /-- VF MSI-X PBA (R137). -/
  msixPending : List Nat := []
  deriving DecidableEq, Repr

/-- The state of a stateful hash-based key (R271 to R281). -/
structure Stateful where
  /-- SET code (R271). -/
  set : Nat := 0
  /-- 28-byte parameter block (R272). -/
  params : Bytes := []
  /-- 32 bits (R280). -/
  buildDone : Nat := 0
  /-- 32 bits (R280). -/
  buildTotal : Nat := 0
  /-- 64 bits (R280). -/
  nextLeaf : Nat := 0
  /-- 64 bits (R280). -/
  reservedTo : Nat := 0
  /-- Last tree of each lower level whose build is complete (R274). -/
  subBuilt : List Nat := []
  /-- Blocks built of the next tree being built (R274). -/
  subDone : Nat := 0
  /-- A reservation waits for its journal write (R276). -/
  journalDue : Bool := false
  /-- Bytes its initial trees take in tier V (R274). -/
  trees : Nat := 0
  /-- 64 bits (R280). -/
  total : Nat := 0
  /-- 64 bits (R280). -/
  skipped : Nat := 0
  deriving DecidableEq, Repr

/-- One key record (R391 to R395). -/
structure KeyRecord where
  /-- 10 bits (R389). -/
  owner : Nat := 0
  /-- 14 bits (R389). -/
  gen : Nat := 0
  /-- 8 bits; CLASS (R394). -/
  cls : Nat := 0
  /-- 8 bits; STATE (R394). -/
  state : Nat := 0
  /-- BINDING (R394). -/
  binding : BitVec 16 := 0
  /-- FLAGS (R394). -/
  flags : BitVec 32 := 0
  /-- Secret part, behind the sealed boundary (R394). -/
  secret : Bytes := []
  /-- Public part (R394). -/
  pub : Bytes := []
  /-- 64 bits; starts at 1 (R394). -/
  version : Nat := 1
  /-- CREATE_TIME (R394). -/
  createTime : BitVec 64 := 0
  /-- 8 bits; ORIGIN (R394). -/
  origin : Nat := 0
  /-- PARENT (R394). -/
  parent : BitVec 64 := 0
  /-- For STATEFUL records (R271). -/
  stateful : Option Stateful := none
  /-- IV_GEN invocations counted (R339). -/
  ivUsed : Nat := 0
  /-- IV_GEN counts reserved by jobs past check 2 (R339). -/
  ivReserved : Nat := 0
  /-- IV_GEN count journalled to tier A (R339). -/
  ivJournal : Nat := 0
  /-- Copy present in tier S (R18). -/
  inS : Bool := false
  /-- Copy present in tier V (R18). -/
  inV : Bool := true
  /-- Copy committed to tier A (R18). -/
  inA : Bool := false
  /-- Sealed copy in the spill area (R18). -/
  inH : Bool := false
  /-- The sealed copy fails authentication or its version (R22). -/
  badSeal : Bool := false
  /-- Time of last use (R213). Reset value: log entry 6. -/
  lastUse : Nat := 0
  deriving DecidableEq, Repr

/-- One peer record (R416). -/
structure Peer where
  /-- 16 bits (R416). -/
  owner : Nat := 0
  /-- 14 bits (R416). -/
  gen : Nat := 0
  /-- PEER_ID (R416). -/
  peerId : BitVec 64 := 0
  /-- 8 bits (R416). -/
  sigSet : Nat := 0
  /-- 8 bits (R416). -/
  mlkemSet : Nat := 0
  /-- PEER_FLAGS bit 0 (R416). -/
  secretPresent : Bool := false
  /-- PEER_FLAGS bit 1 (R418). -/
  revoked : Bool := false
  /-- ENROL_TIME (R416). -/
  enrolTime : BitVec 64 := 0
  /-- PAIRWISE_SECRET (R416). -/
  secret : Bytes := []
  /-- SIG_PK (R416). -/
  sigPk : Bytes := []
  /-- MLKEM_PK (R416). -/
  mlkemPk : Bytes := []
  /-- Copy present in tier S (R18). -/
  inS : Bool := false
  /-- Time of last use (R213). Reset value: log entry 6. -/
  lastUse : Nat := 0
  deriving DecidableEq, Repr

/-- One open slot (R412 to R414). -/
structure OpenSlot where
  /-- 10 bits (R412). -/
  user : Nat := 0
  /-- 14 bits (R390). -/
  gen : Nat := 0
  /-- 8 bits (R413). -/
  cls : Nat := 0
  /-- BINDING (R413). -/
  binding : BitVec 16 := 0
  /-- The key (R412). -/
  secret : Bytes := []
  /-- IV_GEN invocations counted (R339). -/
  ivUsed : Nat := 0
  /-- IV_GEN counts reserved by jobs past check 2 (R339). -/
  ivReserved : Nat := 0
  /-- CREATE_TIME (R394). -/
  createTime : BitVec 64 := 0
  deriving DecidableEq, Repr

/-- The key store (R384 to R421). -/
structure KeyStore where
  /-- Key records by index 0 to 0x3F_FFFF (R389). -/
  records : List (Nat × KeyRecord) := []
  /-- Peer records 0 to 1,048,575 (R416). -/
  peers : List (Nat × Peer) := []
  /-- Open slots by 1,024 p + s (R389). -/
  slots : List (Nat × OpenSlot) := []
  /-- Generation counter of every index used so far (R390). -/
  gens : List (Nat × Nat) := []
  /-- Sixteen 64-bit counters (R410). -/
  counters : List Nat := (List.replicate 16 0)
  /-- DOMAIN_AUTHORITY bytes 0 to 31 (R388). -/
  domainId : Bytes := (List.replicate 32 0#8)
  /-- Authority ML-DSA-87 public key (R388). -/
  authMldsa : Bytes := []
  /-- Authority P-384 public key (R388). -/
  authP384 : Bytes := []
  /-- Domain root secret (R388). -/
  domainSecret : Option Bytes := none
  /-- Generation in the archive superblock (R419). -/
  archiveGen : Nat := 0
  /-- UPDATE_RESULT (R411). -/
  updateResult : BitVec 16 := 0
  /-- UPDATE_HANDLES (R411). -/
  updateHandles : List (BitVec 64) := []
  /-- Last 1,024 restored IMAGE_IDs (R158). -/
  restoredIds : List Bytes := []
  /-- Time of the last TIER_V_FULL event (R215). -/
  tierVFullAt : Option Nat := none
  /-- Deleted indices still pinned, with their generation (R399). -/
  pinnedGone : List (Nat × Nat) := []
  deriving DecidableEq, Repr

/-- A job's Clove region (R249). -/
structure Region where
  /-- Engine that holds it (R250). -/
  engine : Nat := 0
  /-- First line (R249). -/
  sealedBase : Nat := 0
  /-- Lines (R249). -/
  sealedLines : Nat := 0
  /-- First line (R249). -/
  publicBase : Nat := 0
  /-- Lines (R249). -/
  publicLines : Nat := 0
  /-- First line (R249). -/
  matrixBase : Nat := 0
  /-- Lines (R249). -/
  matrixLines : Nat := 0
  /-- The matrix part is a staged copy (R251). -/
  staged : Bool := false
  deriving DecidableEq, Repr

/-- One outstanding engine command of a context (R254, R355). -/
structure EngineResult where
  /-- Engine kind (R355). -/
  kind : Nat := 0
  /-- Its result word (R254). -/
  word : BitVec 64 := 0
  /-- The command has completed (R254). -/
  ready : Bool := false
  deriving DecidableEq, Repr

/-- The state of one recipe run (R346 to R360, R368 to R383). -/
structure Run where
  /-- Recipe slot (R362). -/
  recipeSlot : Nat := 0
  /-- The recipe as pinned (R365). -/
  package : Bytes := []
  /-- G0 to g31, 64 bits each (R347). -/
  g : List (BitVec 64) := (List.replicate 32 0#64)
  /-- V0 to v31, 1,024 bits each, f0 to f31 their low 64 bits (R347). -/
  v : List (BitVec 1024) := (List.replicate 32 0#1024)
  /-- Program counter, ENTRY at the start of a run (R347). -/
  pc : BitVec 64 := 0
  /-- Control register VL (R347). -/
  vl : Nat := 0
  /-- Control register VTYPE, EW (R347). -/
  ew : Nat := 0
  /-- Control register VRESUME (R347). -/
  vresume : Nat := 0
  /-- FPCTL.RM (R347). -/
  rm : Nat := 0
  /-- FPCTL.FLAGS (R347). -/
  fflags : BitVec 5 := 0
  /-- Budget in force (R364). -/
  budget : Nat := 0
  /-- BUDGET_USED (R347). -/
  used : Nat := 0
  /-- OUTLEN (R347). -/
  outlen : BitVec 64 := 0
  /-- Bytes of the DATA, SCRATCH, OUT and VSCRATCH windows (R350). -/
  mem : Mem := []
  /-- DIRECTORY entries and VSCRATCH pages in the run's page cache (R352). -/
  resident : List Nat := []
  /-- Page a placement trap waits for (R352). -/
  trapPage : Option Nat := none
  /-- Base charge already taken by the instruction that restarts (R381). -/
  baseCharged : Bool := false
  /-- 64-byte block that the memory instruction under way touched last (R379). -/
  lastBlock : Option Nat := none
  /-- Outstanding commands in issue order (R355). -/
  results : List EngineResult := []
  deriving DecidableEq, Repr

/-- One streaming context (R285 to R287). -/
structure Ctx where
  /-- OPCODE fixed by FIRST (R285). -/
  opcode : BitVec 16 := 0
  /-- KEY0 fixed by FIRST (R285). -/
  key0 : BitVec 64 := 0
  /-- PARAM fixed by FIRST (R285). -/
  param : BitVec 64 := 0
  /-- The message taken so far, standing for the chaining state and partial block (R287). -/
  message : Bytes := []
  /-- S as read in FIRST (R285). -/
  sBytes : Bytes := []
  /-- Time a job last named it (R287). -/
  lastUse : Nat := 0
  deriving DecidableEq, Repr

/-- A change a job makes as its last act before its completion is posted (R175). -/
inductive LastAct where
  | createRecord (rec : KeyRecord)
  | deleteRecord (index gen field : Nat)
  | peerSecret (peer peerGen index gen : Nat) (secret : Bytes)
  | revokePeer (peer gen : Nat)
  | loadRecipe (inst slot : Nat) (recipe : Recipe)
  | unloadRecipe (inst slot : Nat)
  | storeCtx (key : Nat) (ctx : Ctx)
  | closeCtx (key : Nat)
  | extendMeasure (mr source port : Nat) (v : Bytes)
  | update (message : Bytes)
  | retainKeys (handles : List (BitVec 64))
  deriving DecidableEq, Repr


/-- What a job will complete with (R176, R179). -/
structure JobResult where
  /-- STATUS (R179). -/
  status : Status := .ok
  /-- DETAIL (R179). -/
  detail : BitVec 64 := 0
  /-- Output to write (R172). -/
  output : Bytes := []
  /-- OUT_LEN (R176). -/
  outLen : Nat := 0
  /-- Bytes of DST to write as zeros (R340). -/
  zeroDst : Nat := 0
  /-- Bytes of DST already written as the operation ran (R340). -/
  streamed : Nat := 0
  /-- Changes made as the job's last act (R175). -/
  acts : List LastAct := []
  deriving DecidableEq, Repr

/-- One job slot's context (R195). -/
structure Job where
  /-- Instance (R195). -/
  inst : Nat := 0
  /-- Queue pair (R195). -/
  qp : Nat := 0
  /-- Submission order number (R187). -/
  order : Nat := 0
  /-- The submission entry as fetched (R161). -/
  entry : SqEntry := {}
  /-- Step of Table - Job path (R24). -/
  phase : JobPhase := .dispatched
  /-- Shield class (R203). -/
  cls : Nat := 0
  /-- INFO FENCED (R176). -/
  fenced : Bool := false
  /-- INFO WAITED (R176). -/
  waited : Bool := false
  /-- INFO SHIELDED (R176). -/
  shielded : Bool := false
  /-- Unit kind and number of a corrected fault (R34). -/
  corrected : Option (Nat × Nat) := none
  /-- Record indices pinned (R23). -/
  pins : List Nat := []
  /-- Generation of each as pinned (R23). -/
  pinGens : List (Nat × Nat) := []
  /-- Sequencer chosen (R202). -/
  sequencer : Nat := 0
  /-- Clove region (R249). -/
  region : Option Region := none
  /-- Tier V job data bytes held (R307). -/
  jobData : Nat := 0
  /-- Record places reserved at check 2 (R225). -/
  reservedPlaces : Nat := 0
  /-- An IV_GEN count is reserved (R339). -/
  ivReserved : Bool := false
  /-- Leaf assigned (R275). -/
  leaf : Option Nat := none
  /-- Randomness drawn at step 5 (R224). -/
  random : Bytes := []
  /-- Waiting for randomness since (R432). -/
  waitSince : Option Nat := none
  /-- The wait is for a due reseed (R432). -/
  waitDue : Bool := false
  /-- Secret part of KEY0 as pinned (R23). -/
  key0 : Bytes := []
  /-- Secret part of KEY1 as pinned (R23). -/
  key1 : Bytes := []
  /-- Public part of KEY0 as pinned (R23). -/
  pub0 : Bytes := []
  /-- KEY0 is a peer record (R23). -/
  peer0 : Bool := false
  /-- 28-byte parameter block of a stateful KEY0 as pinned (R272). -/
  params0 : Bytes := []
  /-- Attributes of KEY0 as pinned (R394). -/
  attrs0 : Bytes := []
  /-- Attributes of KEY1 as pinned (R394). -/
  attrs1 : Bytes := []
  /-- Input in the sequencer local bank (R24). -/
  input : Bytes := []
  /-- The pieces of the output space: first address and length, in order (R163). -/
  dst : List (Nat × Nat) := []
  /-- The result once computed (R24). -/
  result : JobResult := {}
  /-- Class quantum in force at the origin (R205). -/
  quantum : Nat := 0
  /-- Time of the shield origin (R204). -/
  origin : Option Nat := none
  /-- Count R at which the result was ready (R205). -/
  ready : Nat := 0
  /-- The job has issued an engine command (R259). -/
  issued : Bool := false
  /-- Time at which the collector accepted the job (R186). -/
  finish : Nat := 0
  /-- Holds a sequencer in sealed float mode (R238). -/
  floatMode : Bool := false
  /-- Holds a sequencer in sealed decode mode (R310). -/
  decodeMode : Bool := false
  /-- Place in the dispatch order of the whole device (R286). -/
  seq : Nat := 0
  /-- Marks of what the job has been told or has done: 0 to 3 WAIT_COUNTS positions counted, 4 CLOVE_REGION_WAITS, 5 randomness drawn, 6 sequencer chosen, 7 reseed asked for, 8 records pinned, 9 recipe run begun (R219). -/
  told : List Nat := []
  /-- Handles of job-scoped records (R358). -/
  runKeys : List (BitVec 64) := []
  /-- Handles marked by RETAIN (R358). -/
  keepKeys : List (BitVec 64) := []
  /-- Recipe run state (R346). -/
  run : Option Run := none
  deriving DecidableEq, Repr

/-- One hardware unit (R487 to R494). -/
structure UnitInfo where
  /-- UNIT_STATE (R498). -/
  state : UnitState := .active
  /-- Last self-test visit passed (R488). Reset value: log entry 6. -/
  lastPass : Bool := true
  /-- Last 16 visit ratios, in parts per 10,000 (R493). -/
  ratios : List Nat := []
  /-- 16 bits; WEAR_DRIFT (R493). -/
  drift : Int := 0
  /-- WEAR_WARNING written (R494). -/
  warned : Bool := false
  /-- Times of C faults within the sliding window (R475). -/
  corrected : List Nat := []
  /-- One RETRY had since the last start (R482). -/
  retried : Bool := false
  /-- Time of the last visit (R497). Reset value: log entry 6. -/
  lastVisit : Nat := 0
  /-- A quarantined unit was a spare (R482). -/
  wasSpare : Bool := false
  /-- Clove unit paired with a sequencer, by physical number (R488). -/
  partner : Nat := 0
  deriving DecidableEq, Repr

/-- A staged copy of a cached matrix (R243, R250, R251). -/
structure Staged where
  /-- Engine (R243). -/
  engine : Nat := 0
  /-- Matrix of a key: 2 x record index, + 1 for its ML-KEM matrix (R243). -/
  key : Nat := 0
  /-- First matrix-area line (R249). -/
  base : Nat := 0
  /-- Lines (R249). -/
  lines : Nat := 0
  deriving DecidableEq, Repr

/-- One engine command waiting for an engine (R199). -/
structure Waiting where
  /-- Engine kind 2 to 6 (R199). -/
  kind : Nat := 0
  /-- Port (R199). -/
  port : Nat := 0
  /-- Instance (R199). -/
  inst : Nat := 0
  /-- Queue pair (R199). -/
  qp : Nat := 0
  /-- Job slot (R199). -/
  slot : Nat := 0
  /-- Cost in handshakes (R199). -/
  cost : Nat := 0
  deriving DecidableEq, Repr

/-- Dispatch and engine scheduling (R197 to R202, R216). -/
structure Sched where
  /-- Port that had the last dispatch turn (R197). Reset value: log entry 6. -/
  rrPort : Nat := 0
  /-- Instance of each port that had the last turn (R197). -/
  rrInst : List (Nat × Nat) := []
  /-- Queue pair of each instance that had the last turn (R197). -/
  rrQp : List (Nat × Nat) := []
  /-- Jobs dispatched so far (R286). -/
  dispatches : Nat := 0
  /-- Jobs dispatched in the present second (R219). -/
  inSecond : Nat := 0
  /-- DISPATCH_RATE (R219). -/
  lastSecond : Nat := 0
  /-- Dispatch times within the last 1 ms (R197). -/
  rate : List Nat := []
  /-- Commands waiting, oldest first (R199). -/
  waiting : List Waiting := []
  /-- Vt_port[k][p], keyed 8 k + p (R199). -/
  vtPort : List (Nat × Nat) := []
  /-- Vt_inst[k][i], keyed 1,024 k + i (R199). -/
  vtInst : List (Nat × Nat) := []
  /-- Queue pair of each instance and kind that had the last turn (R199). -/
  qpTurn : List (Nat × Nat) := []
  /-- Staged copies (R243). -/
  staged : List Staged := []
  /-- Cached matrices, 2 x record index + 1 for ML-KEM, with last use (R216). -/
  matrix : List (Nat × Nat) := []
  /-- Matrix uses within the last second: matrix and time (R216). -/
  uses : List (Nat × Nat) := []
  deriving DecidableEq, Repr

/-- One wide multiply-accumulate unit (R317 to R320). -/
structure Saffron where
  /-- Accumulator ACC (R318). -/
  acc : BitVec 640 := 0
  /-- B0 to B31 (R318). -/
  bank : List (BitVec 256) := (List.replicate 32 0#256)
  /-- P0 to P127 (R318). -/
  file : List (BitVec 256) := (List.replicate 128 0#256)
  /-- Modulus register (R317). Reset value: log entry 6. -/
  modulus : BitVec 4096 := 0
  /-- Result word of the last command (R319). Reset value: log entry 6. -/
  result : BitVec 64 := 0
  /-- Job slot that holds the unit (R320). -/
  holder : Option Nat := none
  deriving DecidableEq, Repr

/-- One noise source (R423 to R425, R433). -/
structure Source where
  /-- Admitted to the pool (R425). -/
  admitted : Bool := false
  /-- Has failed a test since the start (R425). -/
  failed : Bool := false
  /-- RETIRED until the next start (R425). -/
  retired : Bool := false
  /-- Held dropped by NOISE_SOURCE_RATE (R476). -/
  heldDropped : Bool := false
  /-- Last sample (R424). Reset value: log entry 6. -/
  last : Bool := false
  /-- Length of the present run of identical samples (R424). -/
  run : Nat := 0
  /-- First sample of the present window (R424). Reset value: log entry 6. -/
  ref : Bool := false
  /-- Recurrences of it within the window (R424). -/
  count : Nat := 0
  /-- Samples of the present window (R424). -/
  pos : Nat := 0
  /-- Consecutive passing samples (R425). -/
  clean : Nat := 0
  /-- Debias mode in force, taken at the start (R423). -/
  vonNeumann : Bool := false
  /-- Drop times within the sliding window (R475). -/
  corrected : List Nat := []
  deriving DecidableEq, Repr

/-- Entropy pool and internal DRBG instances (R426 to R439). -/
structure Rng where
  /-- Eighteen noise sources (R423). -/
  sources : List Source := (List.replicate 18 {})
  /-- Pool register (R426). Reset value: log entry 6. -/
  pool : BitVec 512 := 0
  /-- Rotating position (R426). Reset value: log entry 6. -/
  poolPos : Nat := 0
  /-- Credited entropy in hundredths of a bit (R426). -/
  credit : Nat := 0
  /-- Conditioned block ready for the next request (R426). -/
  ready : Option Bytes := none
  /-- Instances whose instantiation waits for blocks, in request order (R428). -/
  instQueue : List Nat := []
  /-- Instances whose reseed waits for a block, in request order (R428). -/
  reseedQueue : List Nat := []
  /-- Blocks taken toward the next internal instantiation (R427). -/
  internalBlocks : Nat := 0
  /-- Two admitted sources of different kinds exist (R426). -/
  running : Bool := false
  /-- The pool has stopped (R434). -/
  stopped : Bool := false
  /-- Sixteen internal instances (R427). -/
  internal : List Drbg := (List.replicate 16 {})
  /-- 32 bits; FIRST_SEED_US (R431). -/
  firstSeedUs : Nat := 0
  /-- Mask generators hold a seed (R429). -/
  masksSeeded : Bool := false
  /-- Samples taken in the present second (R439). -/
  taken : Nat := 0
  /-- POOL_RATE (R439). -/
  poolRate : Nat := 0
  /-- A restart whose reseeds are not all done (R435). -/
  restarting : Bool := false
  deriving DecidableEq, Repr

/-- Tempo and power governor (R441 to R452). -/
structure Governor where
  /-- 16 bits; TEMPO_PS (R441). -/
  tempo : Nat := 0
  /-- 16 bits; VCORE_MV (R444). Reset value: log entry 6. -/
  vcore : Nat := 800
  /-- VCORE_FLOOR_MV (R442). -/
  floor : Nat := 650
  /-- Consecutive windows at or below 2,000 ps (R442). -/
  calmWindows : Nat := 0
  /-- Governor periods of 100 us in a row below 92 % (R444). -/
  below92 : Nat := 0
  /-- Sixteenths gated (R446). -/
  gated : Nat := 0
  /-- Rotation of the gated units (R446). -/
  rotation : Nat := 0
  /-- Governor periods since the last rotation (R446). -/
  rotTicks : Nat := 0
  /-- Time of the last CAP_GATED event (R446). -/
  gatedEventAt : Option Nat := none
  /-- EFFECTIVE_CAP_W (R57). -/
  effCap : Nat := 0
  /-- GOVERNOR_STATE (R452). -/
  state : Nat := 0
  /-- DYNAMIC_POWER_MW (R452). -/
  dynamicMw : Nat := 0
  /-- Tempo-reference handshakes counted in this start (R204). -/
  refCount : Nat := 0
  /-- Picoseconds of the handshake under way (R204). -/
  refRem : Nat := 0
  /-- Module input energy since the last start, in nanojoules (R452). -/
  energyNj : Nat := 0
  /-- Dynamic power summed over the present 100 ms (R452). -/
  dynSum : Nat := 0
  /-- Governor periods of the present 100 ms (R452). -/
  dynTicks : Nat := 0
  deriving DecidableEq, Repr

/-- One event record (R500). -/
structure Event where
  /-- 64 bits (R500). -/
  seq : Nat := 0
  /-- TIME (R502). -/
  time : BitVec 64 := 0
  /-- 8 bits (R500). -/
  severity : Nat := 0
  /-- CODE; SOURCE is its high byte (R503). -/
  code : BitVec 16 := 0
  /-- 16 bits (R500). -/
  inst : Nat := 0xFFFF
  /-- 16 bits (R509). -/
  epoch : Nat := 0
  /-- 16 bits (R506). -/
  dropped : Nat := 0
  /-- FLAGS (R500). -/
  flags : BitVec 16 := 0
  /-- 24 bytes (R504). -/
  detail : Bytes := []
  /-- 8 bytes; CHAIN_TAG (R508). -/
  tag : Bytes := []
  /-- CRC (R508). -/
  crc : BitVec 32 := 0
  /-- SEQ of the record it will be written over (R506). -/
  victim : Option Nat := none
  deriving DecidableEq, Repr

/-- One source of refusals (R123). -/
structure ConflictSource where
  /-- 0 Zynbo session, 1 mailbox, 2 job path (R504). -/
  kind : Nat := 0
  /-- CRED_ID, port, or 1,024 q + instance (R504). -/
  ident : Nat := 0
  /-- Time of its last STATE_CONFLICT event (R123). -/
  lastEvent : Option Nat := none
  /-- Refusals since without an event (R123). -/
  uncounted : Nat := 0
  deriving DecidableEq, Repr

/-- The event recorder (R500 to R513). -/
structure Recorder where
  /-- At most 1,024 records waiting (R505). -/
  buffer : List Event := []
  /-- Committed records, at most 32,768, ascending SEQ (R506). -/
  log : List Event := []
  /-- 16 bits; EPOCH (R509). Reset value: log entry 6. -/
  epoch : Nat := 0
  /-- Root under which the epoch is written: 0 device root, 1 test root (R509). Reset value: log entry 6. -/
  epochRoot : Nat := 0
  /-- CHAIN_TAG of the last tagged record of the epoch (R508). -/
  lastTag : Option Bytes := none
  /-- Records dropped since the previous record was written (R506). -/
  droppedNow : Nat := 0
  /-- Loss count of each epoch (R506). -/
  loss : List (Nat × Nat) := []
  /-- First SEQ of each epoch (R510). Reset value: log entry 6. -/
  first : List (Nat × Nat) := [(0, 1)]
  /-- LOG_CHECK (R510). -/
  check : List Nat := [0, 0, 0, 0]
  /-- Last STATE_CONFLICT event and uncounted refusals of each source (R123). -/
  conflicts : List ConflictSource := []
  deriving DecidableEq, Repr

/-- One open fault record (R480). -/
structure FaultRecord where
  /-- 32 bits (R480). -/
  id : Nat := 0
  /-- 16 bits (R480). -/
  source : Nat := 0
  /-- 8 bits (R480). -/
  kind : Nat := 0
  /-- 8 bits (R480). -/
  number : Nat := 0
  /-- 16 bits (R480). -/
  inst : Nat := 0xFFFF
  /-- 16 bits (R480). -/
  qp : Nat := 0xFFFF
  /-- 8 bits (R480). -/
  escalation : Nat := 0
  /-- 8 bits (R480). -/
  allowed : Nat := 0
  /-- TIME64 (R480). -/
  detectTime : BitVec 64 := 0
  /-- Uptime count at which the grace timer expires (R481). -/
  deadline : Nat := 0
  /-- DEADLINE (R480). -/
  deadlineTime : BitVec 64 := 0
  /-- 64 bits (R480). -/
  eventSeq : Nat := 0
  /-- DETAIL (R480). -/
  detail : BitVec 64 := 0
  deriving DecidableEq, Repr

/-- Fault handling (R474 to R499). -/
structure Faults where
  /-- At most 64 open records, ascending FAULT_ID (R480). -/
  open_ : List FaultRecord := []
  /-- Next FAULT_ID (R480). -/
  nextId : Nat := 1
  /-- C faults of memory lines within the sliding window (R475). -/
  lines : List (Nat × List Nat) := []
  /-- Lines and pages mapped out (R476). -/
  mappedOut : List Nat := []
  /-- Double-bit errors seen per tier S line (R476). -/
  keyCacheHits : List (Nat × Nat) := []
  /-- 24 bytes; LAST_FATAL (R499). -/
  lastFatal : Bytes := (List.replicate 24 0#8)
  /-- Source and detail of fatal faults that wait for a transition to end (R486). -/
  pendingFatal : List (Nat × Nat) := []
  /-- Spares whose promotion visit is running (R488). -/
  pendingVisits : List Nat := []
  /-- FAULT_IDs whose escalation waits for the end of a power-fail warning (R483). -/
  deferred : List Nat := []
  deriving DecidableEq, Repr

/-- One quorum approval (R531). -/
structure Approval where
  /-- Card serial (R531). -/
  serial : BitVec 64 := 0
  /-- 8 bits (R531). -/
  target : Nat := 0
  /-- Time it was made (R531). -/
  at_ : Nat := 0
  deriving DecidableEq, Repr

/-- What tier A holds at one moment (R470, R527, R529). -/
structure Snapshot where
  /-- Records, peer records, counters and domain (R527). -/
  keys : KeyStore := {}
  /-- Committed dictionary values (R527). -/
  od : List (Nat × Bytes) := []
  /-- Dictionary counters (R527). -/
  cnt : List (Nat × Nat) := []
  /-- Instance configurations and recipes (R527). -/
  insts : List (Nat × Inst) := []
  deriving DecidableEq, Repr

/-- The card operation running or suspended (R525). -/
structure CardOp where
  /-- 8 bits; operation code (R525). -/
  op : Nat := 0
  /-- 8 bits; argument (R525). -/
  arg : Nat := 0
  /-- 0 IDLE 1 RUNNING 2 SUSPENDED 3 DONE (R533). -/
  state : Nat := 0
  /-- Status code (R533). -/
  status : BitVec 16 := 0
  /-- 32 bits; segments done (R533). -/
  done : Nat := 0
  /-- 32 bits; segments total (R533). -/
  total : Nat := 0
  /-- Card operated on (R523). -/
  serial : BitVec 64 := 0
  /-- Session that wrote CARD_OP (R526). -/
  session : Nat := 0
  /-- Time of suspension (R523). Reset value: log entry 6. -/
  suspendedAt : Nat := 0
  /-- 16 bytes; IMAGE_ID (R527). -/
  imageId : Bytes := []
  /-- Archive generation at the snapshot (R527). -/
  generation : Nat := 0
  deriving DecidableEq, Repr

/-- The custody card port (R514 to R533). -/
structure Card where
  /-- DETECT closed (R516). Reset value: log entry 6. -/
  detect : Bool := false
  /-- Time DETECT closed (R516). Reset value: log entry 6. -/
  detectAt : Nat := 0
  /-- CARD_STATE (R533). -/
  state : CardState := .empty
  /-- Step of Table - Card identification reached (R516). -/
  step : Nat := 0
  /-- VDD on (R39). Reset value: log entry 6. -/
  vdd : Bool := false
  /-- Time VDD was switched on (R516). Reset value: log entry 6. -/
  vddAt : Nat := 0
  /-- CARD_INFO serial (R533). -/
  serial : BitVec 64 := 0
  /-- CARD_INFO role (R533). -/
  role : Nat := 0
  /-- CARD_INFO mode (R533). -/
  recovery : Bool := false
  /-- CARD_INFO protection bit 0 (R533). -/
  protPerm : Bool := false
  /-- CARD_INFO protection bit 1 (R533). -/
  protTemp : Bool := false
  /-- CARD_INFO enrolled (R533). -/
  enrolled : Bool := false
  /-- 2,721 bytes; CARD_AUTHORITY (R533). -/
  authority : Bytes := (List.replicate 2721 0#8)
  /-- 32 bytes; SHA3-256 digest of the seated card's public key (R515). -/
  keyDigest : Bytes := []
  /-- The recovery identification under way has fallen back to normal mode (R518). -/
  fallback : Bool := false
  /-- Deployment token read from a seated DEPLOY card (R462). -/
  token : Option Bytes := none
  /-- Time of the last card command (R520). Reset value: log entry 6. -/
  lastCmd : Nat := 0
  /-- 32 bytes; challenge sent to the card (R517). -/
  challenge : Bytes := []
  /-- CARD_OP_STATUS (R533). -/
  op : CardOp := {}
  /-- At most 8 approvals (R531). -/
  approvals : List Approval := []
  /-- RESTORE_MARKER set (R533). -/
  markerSet : Bool := false
  /-- RESTORE_MARKER segments applied (R533). -/
  markerDone : Nat := 0
  /-- RESTORE_MARKER IMAGE_ID (R533). -/
  markerImage : Bytes := (List.replicate 16 0#8)
  /-- The snapshot of a backup running or suspended (R527). -/
  image : Option Snapshot := none
  /-- What each image this module has written to a card holds, by IMAGE_ID (R527). Reset value: log entry 22. -/
  images : List (Bytes × Snapshot) := []
  /-- NOR mirror of CUSTODY_CARDS (R515). -/
  cardMirror : List (BitVec 64 × Bytes) := []
  deriving DecidableEq, Repr

/-- One digest window (R289 to R293). -/
structure Window where
  /-- Owning port; free at reset (R290). -/
  owner : Option Nat := none
  /-- CLAIM token (R290). Reset value: log entry 6. -/
  token : BitVec 32 := 0
  /-- WCTRL (R289). -/
  wctrl : BitVec 32 := 0
  /-- Ports whose view of WSTATUS has BUSY set (R290). -/
  busyFor : List Nat := []
  /-- WSTATUS bit 10 (R289). -/
  configError : Bool := false
  /-- WSTATUS bit 9 (R289). -/
  extendRefused : Bool := false
  /-- WSTATUS bit 8 (R289). -/
  extended : Bool := false
  /-- WSTATUS bit 7 (R289). -/
  alarm : Bool := false
  /-- WSTATUS bit 6 (R289). -/
  busError : Bool := false
  /-- WSTATUS bit 5 (R289). -/
  lengthError : Bool := false
  /-- WSTATUS bit 4 (R289). -/
  earlyRead : Bool := false
  /-- WSTATUS bit 3 (R289). -/
  done : Bool := false
  /-- WSTATUS bit 2 (R289). -/
  active : Bool := false
  /-- 64 bits; DECLARED_LEN (R289). Reset value: log entry 6. -/
  declared : Nat := 0
  /-- DECLARED_LEN as read at START (R291). Reset value: log entry 6. -/
  limit : Nat := 0
  /-- ALG as read at START (R291). -/
  alg : Nat := 0
  /-- Bytes taken since START; BYTE_COUNT is their number (R291). -/
  message : Bytes := []
  /-- DIGEST (R289). -/
  digest : Bytes := []
  /-- Time of the owner's last write (R290). Reset value: log entry 6. -/
  lastWrite : Nat := 0
  deriving DecidableEq, Repr

/-- One measurement log entry (R296). -/
structure MLogEntry where
  /-- 8 bits (R296). -/
  mr : Nat := 0
  /-- 8 bits (R296). -/
  source : Nat := 0
  /-- 16 bits (R296). -/
  boot : Nat := 0
  /-- 32 bits (R296). -/
  seq : Nat := 0
  /-- 48 bytes (R296). -/
  v : Bytes := []
  /-- TIME64 (R296). -/
  time : BitVec 64 := 0
  deriving DecidableEq, Repr

/-- Digest windows and measurement registers (R289 to R297). -/
structure Measure where
  /-- Four windows (R289). -/
  windows : List Window := (List.replicate 4 {})
  /-- MR0 to MR39, 48 bytes each, zero (R294). -/
  mr : List Bytes := (List.replicate 40 (List.replicate 48 0#8))
  /-- At most 131,072 entries (R296). -/
  mlog : List MLogEntry := []
  deriving DecidableEq, Repr

/-- A session's block transfer (R115, R116). -/
structure BlockTransfer where
  /-- Entry (R115). -/
  key : Nat := 0
  /-- Direction (R115). -/
  write : Bool := false
  /-- TOTAL_LEN (R115). -/
  total : Nat := 0
  /-- Content of a read (R116). -/
  snapshot : Bytes := []
  /-- Segments received (R115). -/
  segs : List (Nat × Bytes) := []
  /-- Time of the last BLOCK_DATA (R116). -/
  lastData : Nat := 0
  deriving DecidableEq, Repr

/-- One Zynbo session or opening (R102 to R117). -/
structure Session where
  /-- SESSION_ID (R107). -/
  id : BitVec 32 := 0
  /-- False while the opening is in progress (R102). -/
  opened : Bool := false
  /-- CRED_ID (R105). -/
  credId : BitVec 64 := 0
  /-- Role granted (R105). -/
  role : Nat := 0
  /-- Port of an in-band session (R101). -/
  inBand : Option Nat := none
  /-- Time of OPEN_1 (R105). -/
  startedAt : Nat := 0
  /-- Digest T of the opening (R105). -/
  transcript : Bytes := []
  /-- Credential public key (R105). -/
  pk : Bytes := []
  /-- 72 bytes; K_CD, K_DC, SALT_CD, SALT_DC (R106). -/
  keys : Bytes := []
  /-- Highest SEQ accepted (R109). -/
  rxHigh : Nat := 0
  /-- SEQs accepted within the 63 below it (R109). -/
  rxSeen : List Nat := []
  /-- Last SEQ sent (R107). -/
  txSeq : Nat := 0
  /-- Time of the last accepted frame (R110). -/
  lastFrame : Nat := 0
  /-- Time of the last READ, WRITE, block or transaction service (R122). -/
  lastService : Nat := 0
  /-- Last 16 responses by REQUEST_ID (R112). -/
  responses : List (BitVec 16 × Bytes) := []
  /-- Block transfer (R115). -/
  block : Option BlockTransfer := none
  /-- Subscription MIN_SEVERITY (R117). -/
  subSeverity : Option Nat := none
  /-- Subscription INSTANCE (R117). -/
  subInst : Nat := 0xFFFF
  /-- Times of EVENT frames within the last second (R117). -/
  evSent : List Nat := []
  deriving DecidableEq, Repr

/-- Refusals of one CRED_ID (R105). -/
structure CredRefusal where
  /-- CRED_ID (R105). -/
  credId : BitVec 64 := 0
  /-- Refusals within 60 s (R105). -/
  times : List Nat := []
  /-- Start of the present block (R105). -/
  blockedAt : Option Nat := none
  deriving DecidableEq, Repr

/-- The device-wide transaction (R118 to R122). -/
structure Txn where
  /-- TXN_STATE (R118). -/
  open_ : Bool := false
  /-- 32 bits; TXN_ID (R126). -/
  id : Nat := 0
  /-- Owning session (R118). Reset value: log entry 6. -/
  session : BitVec 32 := 0
  /-- TXN_OWNER (R126). -/
  owner : BitVec 64 := 0
  /-- Staged values in order of their first staging (R119). -/
  staged : List (Nat × Bytes) := []
  /-- LAST_COMMIT_PAUSE_NS (R126). -/
  lastPauseNs : Nat := 0
  deriving DecidableEq, Repr

/-- Management network, sessions and transactions (R100 to R128). -/
structure Mgmt where
  /-- LINK_STATE (R128). -/
  link : Nat := 0
  /-- At most 16 (R102). -/
  sessions : List Session := []
  /-- Refusal counts and blocks (R105). -/
  refusals : List CredRefusal := []
  /-- Transaction (R118). -/
  txn : Txn := {}
  /-- Next SESSION_ID (R105). Reset value: log entry 6. -/
  nextSession : Nat := 1
  /-- Times of datagrams within the last second (R100). -/
  datagrams : List Nat := []
  /-- NOR mirror of the credentials (R104). -/
  credMirror : List (Nat × Bytes) := []
  deriving DecidableEq, Repr

/-- One cached ATS translation (R152). -/
structure AtcEntry where
  /-- Instance tag (R152). -/
  inst : Nat := 0
  /-- First address (R152). -/
  base : Nat := 0
  /-- Length (R152). -/
  len : Nat := 0
  /-- Read permission (R152). -/
  read : Bool := false
  /-- Write permission (R152). -/
  write : Bool := false
  /-- Time cached (R152). -/
  since : Nat := 0
  deriving DecidableEq, Repr

/-- The translation unit (R151 to R154). -/
structure Translation where
  /-- ATS translation cache (R152). -/
  atc : List AtcEntry := []
  /-- Cached device-table entries: instance, entry address, value (R154). -/
  table : List (Nat × Nat × BitVec 64) := []
  deriving DecidableEq, Repr

/-- The whole block. -/
structure State where
  /-- The commands waiting, first in first out; the model's own queue (R24). Reset value: log entry 15. -/
  pending : List Instr := []
  /-- Counter of the free values taken so far; the model's own field (R7). Reset value: log entry 7. -/
  free : Nat := 0
  /-- What the block has sent, oldest first; the model's own record (R24). Reset value: log entry 10. -/
  out : List Outbound := []
  /-- Device time (R128). -/
  clk : Clock := {}
  /-- Rails, hold-up, status outputs (R61). -/
  pwr : Power := {}
  /-- Retained register (R49). -/
  warden : Warden := {}
  /-- One-time programmable memory (R457). -/
  otp : Otp := {}
  /-- Life cycle and debug (R464). -/
  lc : LifeCycle := {}
  /-- Start-up (R75). -/
  start : Start := {}
  /-- HP0 to HP3 (R129). -/
  ports : List Port := (List.replicate 4 {})
  /-- Instances by ID; an unlisted one is UNALLOCATED (R145). -/
  insts : List (Nat × Inst) := []
  /-- The job context table by slot, 16,384 slots; an unlisted slot is free (R195). -/
  jobs : List (Nat × Job) := []
  /-- Key store (R391). -/
  keys : KeyStore := {}
  /-- Streaming contexts, keyed 4,096 instance + CTX (R286). -/
  ctxs : List (Nat × Ctx) := []
  /-- 387 units in the order of the unit index; at reset the lowest numbers of each kind ACTIVE up to the active count, the others SPARE (R487). -/
  units : List UnitInfo := []
  /-- Dispatch and engine scheduling (R197). -/
  sched : Sched := {}
  /-- 72 operand memories of 256 KiB, zero (R16) (R246). -/
  clove : List Mem := (List.replicate 72 [])
  /-- 18 units (R317). -/
  saffron : List Saffron := (List.replicate 18 {})
  /-- Random number generation (R426). -/
  rng : Rng := {}
  /-- Tempo and governor (R441). -/
  gov : Governor := {}
  /-- Event recorder (R505). -/
  log : Recorder := {}
  /-- Faults (R480). -/
  faults : Faults := {}
  /-- Custody card port (R516). -/
  card : Card := {}
  /-- Digest windows and measurement registers (R294). -/
  meas : Measure := {}
  /-- Management network, sessions and transaction (R102). -/
  mgmt : Mgmt := {}
  /-- Translation unit (R152). -/
  trans : Translation := {}
  /-- What stands in tier A while debug in DEPLOYED or FACTORY keeps it from being loaded (R470). -/
  shelf : Option Snapshot := none
  /-- Committed values of writable dictionary entries that differ from their default, keyed 256 x index + subindex (R98). -/
  od : List (Nat × Bytes) := []
  /-- Dictionary counters that are not zero, keyed 1,024 x (entry key) + position (R98). -/
  cnt : List (Nat × Nat) := []
  deriving DecidableEq, Repr

/-- The active counts of the unit kinds, sequencer first (Table - Unit inventory, R8). -/
def activeCounts : List (Nat × Nat) :=
  [(72, 64), (72, 64), (144, 128), (72, 64), (18, 16), (9, 8)]

/-- The units as the factory sets them: the lowest numbers of each kind ACTIVE (R487), each sequencer
paired with the ring arithmetic engine of its own number (R246). -/
def factoryUnits : List UnitInfo :=
  activeCounts.flatMap fun p =>
    (List.range p.1).map fun n => { state := if n < p.2 then .active else .spare, partner := n }

/-- The block right after reset: nothing has been started, nothing is stored, the main rails are
present (log entry 5) and every register stands at the value its line names. -/
def State.reset : State := { units := factoryUnits }

/-- Why a command faults. -/
inductive Fault where
  /-- Raised by no meaning: the types of the operands and `wellFormed` bound what the outside world can send,
  and a command that cannot happen in a state leaves it unchanged (log entry 2). Safe: nothing stops. -/
  | illFormed
  deriving DecidableEq, Repr

/-- Why a command is refused by the model. -/
inductive Refusal where
  /-- Raised by an arm of `exec` whose command has no meaning yet. Safe: the model stops. -/
  | notModelled (mnemonic : String)
  deriving DecidableEq, Repr

end Sys2Proof.Machine
end

