-- ==== Sys2Proof/Machine/Ops.lean ====
section
/-! DEFINITION. The named operations every meaning is written over: bytes and byte order, sparse
lists and memories, the parts of the state, free values, what the block sends. -/

namespace Sys2Proof.Machine

open Sys2Proof

/-! ### Bytes -/

/-- `n` bytes of `v`, least significant first (R1). -/
def le (n v : Nat) : Bytes :=
  match n with
  | 0 => []
  | n + 1 => BitVec.ofNat 8 v :: le n (v / 256)

/-- `n` bytes of `v`, most significant first, for fields a named standard writes so. -/
def be (n v : Nat) : Bytes := (le n v).reverse

/-- The number a little-endian byte string spells (R1). -/
def ofLe : Bytes → Nat
  | [] => 0
  | b :: bs => b.toNat + 256 * ofLe bs

/-- The number a big-endian byte string spells. -/
def ofBe (bs : Bytes) : Nat := ofLe bs.reverse

/-- `n` zero bytes. -/
def zeros (n : Nat) : Bytes := List.replicate n 0

/-- `n` bytes from offset `o`, short where the string ends. -/
def slice (o n : Nat) (bs : Bytes) : Bytes := (bs.drop o).take n

/-- The little-endian field of `n` bytes at offset `o`. -/
def fieldLe (o n : Nat) (bs : Bytes) : Nat := ofLe (slice o n bs)

/-- Exactly `n` bytes: cut, or filled with zeros. -/
def fit (n : Nat) (bs : Bytes) : Bytes := bs.take n ++ zeros (n - bs.length)

/-- Little-endian fields, each with its size in bytes, one after another. -/
def fields : List (Nat × Nat) → Bytes
  | [] => []
  | (n, v) :: r => le n v ++ fields r

/-- Exclusive-or of two byte strings, as long as the shorter. -/
def xorBytes : Bytes → Bytes → Bytes
  | a :: as, b :: bs => (a ^^^ b) :: xorBytes as bs
  | _, _ => []

/-- The text as ASCII bytes. -/
def ascii (t : String) : Bytes := t.toList.map fun c => BitVec.ofNat 8 c.toNat

/-- Bits `hi` down to `lo` of a number. -/
def bits (v hi lo : Nat) : Nat := v / 2 ^ lo % 2 ^ (hi - lo + 1)

/-- Bit `i` of a number. -/
def bit (v i : Nat) : Bool := v / 2 ^ i % 2 == 1

/-- A number with bit `i` set to `b`. -/
def withBit (v i : Nat) (b : Bool) : Nat :=
  if bit v i then (if b then v else v - 2 ^ i) else (if b then v + 2 ^ i else v)

/-- Least multiple of `q` at or above `n`, for positive `q`. -/
def roundUp (n q : Nat) : Nat := (n + q - 1) / q * q

/-- Quotient rounded up. -/
def ceilDiv (n q : Nat) : Nat := (n + q - 1) / q

/-! ### Sparse lists by key, keys rising -/

/-- The value at a key. -/
def look {α : Type} (k : Nat) : List (Nat × α) → Option α
  | [] => none
  | (j, v) :: r => if j = k then some v else look k r

/-- The list with the value at a key set, keys kept rising. -/
def put {α : Type} (k : Nat) (v : α) : List (Nat × α) → List (Nat × α)
  | [] => [(k, v)]
  | (j, w) :: r =>
    if k < j then (k, v) :: (j, w) :: r
    else if j = k then (k, v) :: r
    else (j, w) :: put k v r

/-- The list without a key. -/
def del {α : Type} (k : Nat) (l : List (Nat × α)) : List (Nat × α) := l.filter (·.1 != k)

/-- The list with the value at a key changed, if it is there. -/
def upd {α : Type} (k : Nat) (f : α → α) (l : List (Nat × α)) : List (Nat × α) :=
  l.map fun p => if p.1 = k then (p.1, f p.2) else p

/-- The number at a key, 0 where nothing is listed. -/
def num (k : Nat) (l : List (Nat × Nat)) : Nat := (look k l).getD 0

/-- The list with a number set, dropped when zero. -/
def putNum (k v : Nat) (l : List (Nat × Nat)) : List (Nat × Nat) :=
  if v = 0 then del k l else put k v l

/-- The first of the numbers below `n` that a list of keys does not hold. -/
def firstFree {α : Type} (n : Nat) (l : List (Nat × α)) : Option Nat :=
  let c := (List.range (min n (l.length + 1))).find? fun i => (look i l).isNone
  c

/-! ### Memories -/

/-- The byte at an address: zero where nothing is listed (R16). -/
def Mem.read (a : Nat) : Mem → Byte
  | [] => 0
  | (b, v) :: r => if b = a then v else Mem.read a r

/-- The memory with a listed byte: addresses kept rising. -/
def Mem.insert (a : Nat) (v : Byte) : Mem → Mem
  | [] => [(a, v)]
  | (b, w) :: r =>
    if a < b then (a, v) :: (b, w) :: r
    else if b = a then (a, v) :: r
    else (b, w) :: Mem.insert a v r

/-- The memory with one byte written; a zero byte leaves no entry. -/
def Mem.write (a : Nat) (v : Byte) (m : Mem) : Mem :=
  if v = 0 then m.filter (·.1 != a) else Mem.insert a v m

/-- `n` bytes from an address. -/
def Mem.readN (m : Mem) (a n : Nat) : Bytes := (List.range n).map fun i => Mem.read (a + i) m

/-- The memory with a byte string written from an address. -/
def Mem.writeN (m : Mem) (a : Nat) : Bytes → Mem
  | [] => m
  | b :: bs => Mem.writeN (Mem.write a b m) (a + 1) bs

/-- The memory with every byte of an address range zero. -/
def Mem.clear (m : Mem) (a n : Nat) : Mem := m.filter fun c => c.1 < a || a + n ≤ c.1

/-- The canonical form: addresses rising, no zero byte listed. -/
def Mem.wf : Mem → Bool
  | [] => true
  | [(_, v)] => v != 0
  | (a, v) :: (b, w) :: r => v != 0 && decide (a < b) && Mem.wf ((b, w) :: r)

/-! ### Parts of the state -/

/-- A port, HP0 to HP3. -/
def State.port (s : State) (p : Nat) : Port := s.ports.getD p {}

/-- The state with one port changed. -/
def State.modPort (s : State) (p : Nat) (f : Port → Port) : State :=
  { s with ports := s.ports.modify p f }

/-- An instance; an unlisted one is UNALLOCATED. -/
def State.inst (s : State) (i : Nat) : Inst := (look i s.insts).getD {}

/-- The state with one instance set. -/
def State.setInst (s : State) (i : Nat) (v : Inst) : State := { s with insts := put i v s.insts }

/-- The state with one instance changed. -/
def State.modInst (s : State) (i : Nat) (f : Inst → Inst) : State := s.setInst i (f (s.inst i))

/-- A queue pair of an instance. -/
def State.qp (s : State) (i q : Nat) : Option Qp := (s.inst i).qps[q]?

/-- The state with one queue pair changed. -/
def State.modQp (s : State) (i q : Nat) (f : Qp → Qp) : State :=
  s.modInst i fun n => { n with qps := n.qps.modify q f }

/-- The job in a slot. -/
def State.job (s : State) (k : Nat) : Option Job := look k s.jobs

/-- The state with a job put in a slot. -/
def State.setJob (s : State) (k : Nat) (j : Job) : State := { s with jobs := put k j s.jobs }

/-- The state with the job of a slot changed. -/
def State.modJob (s : State) (k : Nat) (f : Job → Job) : State := { s with jobs := upd k f s.jobs }

/-- The state with a slot released (R35: its context is gone). -/
def State.freeJob (s : State) (k : Nat) : State := { s with jobs := del k s.jobs }

/-- The state with one unit changed, by its index (R487). -/
def State.modUnit (s : State) (u : Nat) (f : UnitInfo → UnitInfo) : State :=
  { s with units := s.units.modify u f }

/-- A key record. -/
def State.record (s : State) (k : Nat) : Option KeyRecord := look k s.keys.records

/-- The state with a key record set. -/
def State.setRecord (s : State) (k : Nat) (r : KeyRecord) : State :=
  { s with keys := { s.keys with records := put k r s.keys.records } }

/-- The state with a key record changed, if present. -/
def State.modRecord (s : State) (k : Nat) (f : KeyRecord → KeyRecord) : State :=
  { s with keys := { s.keys with records := upd k f s.keys.records } }

/-- The operand memory of a ring arithmetic engine. -/
def State.opMem (s : State) (e : Nat) : Mem := s.clove.getD e []

/-- The state with the operand memory of an engine changed. -/
def State.modOpMem (s : State) (e : Nat) (f : Mem → Mem) : State :=
  { s with clove := s.clove.modify e f }

/-- The present time on the uptime count, in nanoseconds. -/
def State.now (s : State) : Nat := s.clk.uptimeNs

/-- OD 0x1001.03 UPTIME_NS: time since t0 of the last start (R125). -/
def State.uptime (s : State) : Nat := s.clk.uptimeNs - s.start.t0

/-- Handshakes of the tempo reference that a stretch of picoseconds completes, and what is left of
one, at a tempo of so many picoseconds (R204); none while no tempo is measured. -/
def handshakes (tempo ps : Nat) : Nat × Nat := if tempo = 0 then (0, ps) else (ps / tempo, ps % tempo)

/-- Seconds are counted from t0 of the last start: at the end of one the samples it took are POOL_RATE
(R439). `k` seconds have ended. -/
def Rng.endSeconds (r : Rng) (k : Nat) : Rng :=
  if k = 0 then r else { r with poolRate := if k = 1 then r.taken else 0, taken := 0 }

/-- At the end of a second the jobs it dispatched are DISPATCH_RATE (R219). -/
def Sched.endSeconds (d : Sched) (k : Nat) : Sched :=
  if k = 0 then d else { d with lastSecond := if k = 1 then d.inSecond else 0, inSecond := 0 }

/-- Time passes: the uptime count, device time and the count of the tempo reference move on. -/
def State.advance (s : State) (ns : Nat) : State :=
  let h := handshakes s.gov.tempo (s.gov.refRem + 1000 * ns)
  let k := (s.uptime + ns) / 1000000000 - s.uptime / 1000000000
  { s with
    rng := s.rng.endSeconds k
    sched := s.sched.endSeconds k
    clk := { s.clk with uptimeNs := s.clk.uptimeNs + ns, devTime := s.clk.devTime.map (· + ns) }
    gov := { s.gov with refCount := s.gov.refCount + h.1, refRem := h.2 } }

/-- Time passes until a moment of the uptime count, if it is still to come (log entry 4). -/
def State.until (s : State) (t : Nat) : State := s.advance (t - s.clk.uptimeNs)

/-- Time passes until the tempo reference has counted to a number (log entry 4). -/
def State.untilCount (s : State) (n : Nat) : State :=
  let s := s.advance (((n - s.gov.refCount) * s.gov.tempo + 999) / 1000)
  { s with gov := { s.gov with refCount := max s.gov.refCount n } }

/-- TIME64 as the block writes it: device time, 0 while it has none (R128). -/
def State.time64 (s : State) : BitVec 64 := BitVec.ofNat 64 (s.clk.devTime.getD 0)

/-- What the block sends, added to what it has sent (log entry 10). -/
def State.send (s : State) (o : Outbound) : State := { s with out := s.out ++ [o] }

/-- Several things sent in order. -/
def State.sendAll (s : State) (os : List Outbound) : State := { s with out := s.out ++ os }

/-- The next `n` free bytes, from the counter on (log entry 7). -/
def freeBytes (c n : Nat) : Bytes := (List.range n).map fun i => Config.freeByte (c + i)

/-- Taking `n` free bytes moves the counter past them. -/
def State.take (s : State) (n : Nat) : Bytes × State :=
  (freeBytes s.free n, { s with free := s.free + n })

/-- The warden measures the rails: RAIL_12V_MV, RAIL_3V3_MV and RAIL_3V3AUX_MV are free values each time (R72; log
entry 7). -/
def State.measureRails (s : State) : State :=
  let x := s.take 6
  { x.2 with pwr := { x.2.pwr with
    rail12Mv := fieldLe 0 2 x.1, rail3v3Mv := fieldLe 2 2 x.1, railAuxMv := fieldLe 4 2 x.1 } }

/-- A counter of the dictionary: position `pos` of the entry at `key`. -/
def State.counter (s : State) (key pos : Nat) : Nat := num (1024 * key + pos) s.cnt

/-- A counter raised by `n`. -/
def State.bump (s : State) (key pos n : Nat) : State :=
  { s with cnt := putNum (1024 * key + pos) (s.counter key pos + n) s.cnt }

/-- A counter set. -/
def State.setCounter (s : State) (key pos n : Nat) : State :=
  { s with cnt := putNum (1024 * key + pos) n s.cnt }

/-- The state after a test: changed when it holds, else as it was. -/
def State.when (s : State) (c : Bool) (f : State → State) : State := if c then f s else s

/-- The state changed once for each member of a list, in order. -/
def State.forEach {α : Type} (s : State) (l : List α) (f : State → α → State) : State :=
  l.foldl f s

/-- A meaning that always answers a next state. -/
abbrev Result := Host.Outcome State Fault Refusal

/-- Code of a status (R113, R179). -/
def Status.code : Status → Nat
  | .ok => 0x0000 | .okCorrected => 0x0001 | .verifyFail => 0x0010
  | .inputRejected => 0x0100 | .lengthMismatch => 0x0101 | .badOpcode => 0x0102
  | .keyRefused => 0x0103 | .translationFault => 0x0104 | .stateConflict => 0x0105
  | .outputTooSmall => 0x0106 | .entropyUnavailable => 0x0200 | .aborted => 0x0201
  | .squashed => 0x0202 | .engineFault => 0x0203 | .recipeFault => 0x0204
  | .cardRemoved => 0x0205 | .stateExhausted => 0x0206 | .noSuchEntry => 0x0300
  | .accessDenied => 0x0301 | .roleDenied => 0x0302 | .badService => 0x0303
  | .busy => 0x0304 | .cardAbsent => 0x0305 | .digestMismatch => 0x0306

end Sys2Proof.Machine
end

