-- ==== Sys2Proof/Machine/Aes.lean ====
section
/-! DEFINITION. AES and the modes over it that the chapters name by their standards: AES (FIPS 197),
GCM and GMAC (SP 800-38D), KW and KWP (SP 800-38F), XTS (IEEE 1619) (log entry 9). -/

namespace Sys2Proof.Machine

open Sys2Proof

/-- Doubling in GF(2^8) with the polynomial of FIPS 197. -/
def xtime (b : Nat) : Nat := if 2 * b ≥ 256 then (2 * b - 256) ^^^ 0x1B else 2 * b

/-- A product in GF(2^8), over the eight bits of the first factor. -/
def gfByteMul (a b : Nat) : Nat :=
  ((List.range 8).foldl
    (fun (p : Nat × Nat) i => (if bit a i then p.1 ^^^ p.2 else p.1, xtime p.2)) (0, b)).1

/-- A square in GF(2^8). -/
def gfByteSqr (a : Nat) : Nat := gfByteMul a a

/-- The inverse in GF(2^8), 0 for 0: the power 254. -/
def gfByteInv (a : Nat) : Nat :=
  let a2 := gfByteSqr a
  let a4 := gfByteSqr a2
  let a8 := gfByteSqr a4
  let a16 := gfByteSqr a8
  let a32 := gfByteSqr a16
  let a64 := gfByteSqr a32
  let a128 := gfByteSqr a64
  gfByteMul a2 (gfByteMul a4 (gfByteMul a8 (gfByteMul a16 (gfByteMul a32 (gfByteMul a64 a128)))))

/-- Rotation of a byte to the left. -/
def rotl8 (n x : Nat) : Nat := (x * 2 ^ n + x / 2 ^ (8 - n)) % 256

/-- The S-box of FIPS 197. -/
def sboxOf (b : Nat) : Nat :=
  let i := gfByteInv b
  i ^^^ rotl8 1 i ^^^ rotl8 2 i ^^^ rotl8 3 i ^^^ rotl8 4 i ^^^ 0x63

/-- The S-box as a table. -/
def sboxTable : List Nat := (List.range 256).map sboxOf

/-- The inverse S-box of FIPS 197. -/
def invSbox (b : Nat) : Nat :=
  gfByteInv (rotl8 1 b ^^^ rotl8 3 b ^^^ rotl8 6 b ^^^ 0x05)

/-- The S-box on a byte. -/
def subByte (b : Nat) : Nat := sboxTable.getD b 0

/-- Key expansion: the words so far, newest first; `i` is the number of the next word. -/
def expandKey (nk : Nat) : Nat → Nat → Nat → List (List Nat) → List (List Nat)
  | 0, _, _, ws => ws
  | n + 1, i, rc, ws =>
    let t := ws.headD []
    let old := ws.getD (nk - 1) []
    let (t', rc') :=
      if i % nk = 0 then
        match t.drop 1 ++ t.take 1 with
        | a :: r => ((subByte a ^^^ rc) :: r.map subByte, xtime rc)
        | [] => ([], rc)
      else if nk > 6 ∧ i % nk = 4 then (t.map subByte, rc)
      else (t, rc)
    expandKey nk n (i + 1) rc' (List.zipWith (· ^^^ ·) old t' :: ws)

/-- The round keys of a key of 16 or 32 bytes, 16 bytes each. -/
def roundKeys (key : Bytes) : List (List Nat) :=
  let nk := key.length / 4
  let first := (List.range nk).map fun i => (slice (4 * i) 4 key).map (·.toNat)
  let total := 4 * (nk + 7)
  let ws := (expandKey nk (total - nk) nk 1 first.reverse).reverse
  (List.range (nk + 7)).map fun r => ((ws.drop (4 * r)).take 4).flatten

/-- ShiftRows on 16 bytes, column by column. -/
def shiftRows (s : List Nat) : List Nat :=
  (List.range 16).map fun i => s.getD ((i + 4 * (i % 4)) % 16) 0

/-- The inverse of ShiftRows. -/
def invShiftRows (s : List Nat) : List Nat :=
  (List.range 16).map fun i => s.getD ((i + 16 - 4 * (i % 4)) % 16) 0

/-- A column product with a circulant of four coefficients. -/
def mixWith (m : List Nat) (s : List Nat) : List Nat :=
  (List.range 16).map fun i =>
    (List.range 4).foldl
      (fun acc j => acc ^^^ gfByteMul (m.getD ((j + 4 - i % 4) % 4) 0) (s.getD (i / 4 * 4 + j) 0)) 0

/-- Adding a round key. -/
def addKey (k s : List Nat) : List Nat := List.zipWith (· ^^^ ·) k s

/-- One block encrypted under expanded keys. -/
def cipherBlock (ks : List (List Nat)) (s : List Nat) : List Nat :=
  let n := ks.length
  let s := addKey (ks.headD []) s
  let s := ((ks.drop 1).take (n - 2)).foldl
    (fun s k => addKey k (mixWith [2, 3, 1, 1] (shiftRows (s.map subByte)))) s
  addKey (ks.getD (n - 1) []) (shiftRows (s.map subByte))

/-- One block decrypted under expanded keys. -/
def invCipherBlock (ks : List (List Nat)) (s : List Nat) : List Nat :=
  let n := ks.length
  let s := addKey (ks.getD (n - 1) []) s
  let s := (((ks.drop 1).take (n - 2)).reverse).foldl
    (fun s k => mixWith [14, 11, 13, 9] (addKey k ((invShiftRows s).map invSbox))) s
  addKey (ks.headD []) ((invShiftRows s).map invSbox)

/-- AES encryption of a 16-byte block. -/
@[irreducible] def aesEnc (key block : Bytes) : Bytes :=
  (cipherBlock (roundKeys key) (block.map (·.toNat))).map (BitVec.ofNat 8)

/-- AES decryption of a 16-byte block. -/
@[irreducible] def aesDec (key block : Bytes) : Bytes :=
  (invCipherBlock (roundKeys key) (block.map (·.toNat))).map (BitVec.ofNat 8)

/-! ### GCM -/

/-- A product in GF(2^128) in the bit order of SP 800-38D: bit 0 is the most significant. -/
def ghashMul (x y : Nat) : Nat :=
  ((List.range 128).foldl
    (fun (p : Nat × Nat) i =>
      (if bit x (127 - i) then p.1 ^^^ p.2 else p.1,
       if p.2 % 2 = 1 then p.2 / 2 ^^^ (0xE1 * 2 ^ 120) else p.2 / 2)) (0, y)).1

/-- The blocks of 16 bytes of a string, the last filled with zeros. -/
def blocks16 (m : Bytes) : List Bytes :=
  (List.range (ceilDiv m.length 16)).map fun i => fit 16 (slice (16 * i) 16 m)

/-- GHASH. -/
def ghash (h : Nat) (m : Bytes) : Nat :=
  (blocks16 m).foldl (fun y b => ghashMul (y ^^^ ofBe b) h) 0

/-- The counter block `n` after `j0`: the low 32 bits count. -/
def counterBlock (j0 : Bytes) (n : Nat) : Bytes :=
  j0.take 12 ++ be 4 ((ofBe (j0.drop 12) + n) % 2 ^ 32)

/-- Counter-mode key stream over a string, from counter `j0 + 1`. -/
def gctr (key j0 m : Bytes) : Bytes :=
  (List.range (ceilDiv m.length 16)).flatMap fun i =>
    xorBytes (slice (16 * i) 16 m) (aesEnc key (counterBlock j0 (i + 1)))

/-- The block J0 of an IV of 12 bytes, or of any other length. -/
def gcmJ0 (key iv : Bytes) : Bytes :=
  if iv.length = 12 then iv ++ [0, 0, 0, 1]
  else
    let h := ofBe (aesEnc key (zeros 16))
    be 16 (ghash h (fit (roundUp iv.length 16) iv ++ zeros 8 ++ be 8 (8 * iv.length)))

/-- The 16-byte tag over additional data and ciphertext. -/
def gcmTag (key iv aad ct : Bytes) : Bytes :=
  let h := ofBe (aesEnc key (zeros 16))
  let y := ghash h (fit (roundUp aad.length 16) aad ++ fit (roundUp ct.length 16) ct
    ++ be 8 (8 * aad.length) ++ be 8 (8 * ct.length))
  xorBytes (be 16 y) (aesEnc key (gcmJ0 key iv))

/-- AES-GCM encryption: ciphertext and tag. -/
@[irreducible] def gcmSeal (key iv aad pt : Bytes) : Bytes × Bytes :=
  let ct := gctr key (gcmJ0 key iv) pt
  (ct, gcmTag key iv aad ct)

/-- AES-GCM decryption: the plaintext, where the tag (cut to its length) agrees. -/
@[irreducible] def gcmOpen (key iv aad ct tag : Bytes) : Option Bytes :=
  if (gcmTag key iv aad ct).take tag.length = tag then some (gctr key (gcmJ0 key iv) ct) else none

/-! ### Key wrap -/

/-- One step of the wrapping: position `i` of `n`, step count `t`. -/
def kwStep (key : Bytes) (st : Bytes × List Bytes) (i t : Nat) : Bytes × List Bytes :=
  let b := aesEnc key (st.1 ++ st.2.getD i [])
  (xorBytes (b.take 8) (be 8 t), st.2.set i (b.drop 8))

/-- The wrapping function W of SP 800-38F on semiblocks. -/
def kwWrap (key a : Bytes) (r : List Bytes) : Bytes :=
  let n := r.length
  let st := (List.range (6 * n)).foldl (fun st k => kwStep key st (k % n) (k + 1)) (a, r)
  st.1 ++ st.2.flatten

/-- One step of the unwrapping. -/
def kwUnstep (key : Bytes) (st : Bytes × List Bytes) (i t : Nat) : Bytes × List Bytes :=
  let b := aesDec key (xorBytes st.1 (be 8 t) ++ st.2.getD i [])
  (b.take 8, st.2.set i (b.drop 8))

/-- The inverse of W. -/
def kwUnwrap (key a : Bytes) (r : List Bytes) : Bytes × List Bytes :=
  let n := r.length
  (List.range (6 * n)).reverse.foldl (fun st k => kwUnstep key st (k % n) (k + 1)) (a, r)

/-- The semiblocks of 8 bytes of a string. -/
def semiblocks (m : Bytes) : List Bytes :=
  (List.range (m.length / 8)).map fun i => slice (8 * i) 8 m

/-- AES-KW of a string of whole semiblocks. -/
@[irreducible] def aesKw (key pt : Bytes) : Bytes := kwWrap key (List.replicate 8 0xA6) (semiblocks pt)

/-- AES-KW inverse, where the check value agrees. -/
@[irreducible] def aesKwInv (key ct : Bytes) : Option Bytes :=
  let (a, r) := kwUnwrap key (ct.take 8) (semiblocks (ct.drop 8))
  if a = List.replicate 8 0xA6 then some r.flatten else none

/-- AES-KWP of a string. -/
@[irreducible] def aesKwp (key pt : Bytes) : Bytes :=
  let a : Bytes := [0xA6, 0x59, 0x59, 0xA6] ++ be 4 pt.length
  let p := fit (roundUp pt.length 8) pt
  if p.length = 8 then aesEnc key (a ++ p) else kwWrap key a (semiblocks p)

/-- AES-KWP inverse, where the check value, the length and the padding agree. -/
@[irreducible] def aesKwpInv (key ct : Bytes) : Option Bytes :=
  let (a, p) :=
    if ct.length = 16 then
      let b := aesDec key ct
      (b.take 8, b.drop 8)
    else
      let (a, r) := kwUnwrap key (ct.take 8) (semiblocks (ct.drop 8))
      (a, r.flatten)
  let n := ofBe (a.drop 4)
  if a.take 4 = [0xA6, 0x59, 0x59, 0xA6] ∧ n ≤ p.length ∧ p.length < n + 8 ∧ 0 < n
      ∧ (p.drop n).all (· == 0)
  then some (p.take n) else none

/-! ### XTS -/

/-- Doubling in GF(2^128) in the little-endian order of IEEE 1619. -/
def xtsDouble (t : Nat) : Nat := if 2 * t ≥ 2 ^ 128 then (2 * t - 2 ^ 128) ^^^ 0x87 else 2 * t

/-- The tweak of block `j` of a unit. -/
def xtsTweak (k2 : Bytes) (unitNo j : Nat) : Bytes :=
  le 16 ((List.range j).foldl (fun t _ => xtsDouble t) (ofLe (aesEnc k2 (le 16 unitNo))))

/-- One XTS block. -/
def xtsBlock (dec : Bool) (k1 t b : Bytes) : Bytes :=
  xorBytes t ((if dec then aesDec k1 else aesEnc k1) (xorBytes t b))

/-- One data unit, with ciphertext stealing for a last partial block. -/
@[irreducible] def xtsUnit (dec : Bool) (key : Bytes) (unitNo : Nat) (m : Bytes) : Bytes :=
  let h := key.length / 2
  let k1 := key.take h
  let k2 := key.drop h
  let n := m.length / 16
  let r := m.length % 16
  let t := xtsTweak k2 unitNo
  let whole (k : Nat) := (List.range k).flatMap fun j => xtsBlock dec k1 (t j) (slice (16 * j) 16 m)
  if r = 0 then whole n
  else if n = 0 then m
  else
    let j1 := if dec then n else n - 1
    let j2 := if dec then n - 1 else n
    let cc := xtsBlock dec k1 (t j1) (slice (16 * (n - 1)) 16 m)
    let last := slice (16 * n) r m ++ cc.drop r
    whole (n - 1) ++ xtsBlock dec k1 (t j2) last ++ cc.take r

end Sys2Proof.Machine
end

