-- ==== Sys2Proof/Machine/Entries.lean ====
section
/-! DEFINITION. The object dictionary's definitions: every entry of every table of the chapters,
with its type, access, role, persistence, range and default (R93 to R95, R534). -/

namespace Sys2Proof.Machine

open Sys2Proof

/-- Entry types (Table - Entry types, R94); `u n` is an unsigned number of `n` bytes. -/
inductive OdType where
  | bool | u (n : Nat) | i32 | octets (n : Nat) | string (n : Nat) | time64 | handle48
  | domain (max : Nat)
  deriving DecidableEq, Repr

/-- Accesses (R95). -/
inductive OdAccess where
  | ro | wo | rw | rwt
  deriving DecidableEq, Repr

/-- Defaults: zero or empty, a number, bytes, a text, the quanta of Table - Shield classes, or a
value each module reports for itself (R534). -/
inductive OdDefault where
  | zero | num (n : Nat) | bytes (b : List Nat) | text (t : String) | quanta | module
  deriving DecidableEq, Repr

/-- The definition of an entry (R93). -/
structure EntryDef where
  ty : OdType
  access : OdAccess
  role : Nat
  persistent : Bool
  card : Bool := false
  lo : Nat := 0
  hi : Nat := 0xFFFFFFFFFFFFFFFF
  default : OdDefault := .zero
  deriving DecidableEq, Repr

/-- Entries of index 0x1000. -/
def area1000 : List (OdKey × EntryDef) := [
  -- VENDOR_NAME
  (⟨0x1000, 0x01⟩, { ty := .string 32, access := .ro, role := 1, persistent := true, card := false, default := .text "Shedric Microsystems" }),
  -- PRODUCT_NAME
  (⟨0x1000, 0x02⟩, { ty := .string 32, access := .ro, role := 1, persistent := true, card := false, default := .text "Kertal KQ9 module" }),
  -- ORDERING_CODE
  (⟨0x1000, 0x03⟩, { ty := .string 16, access := .ro, role := 1, persistent := true, card := false, default := .text "KQ9-E01" }),
  -- SERIAL_NUMBER
  (⟨0x1000, 0x04⟩, { ty := .string 16, access := .ro, role := 1, persistent := true, card := false, default := .module }),
  -- BOARD_ISSUE
  (⟨0x1000, 0x05⟩, { ty := .u 2, access := .ro, role := 1, persistent := true, card := false, default := .module }),
  -- DIE_ID
  (⟨0x1000, 0x06⟩, { ty := .octets 16, access := .ro, role := 1, persistent := true, card := false, default := .module }),
  -- IDENTITY_DIGEST
  (⟨0x1000, 0x07⟩, { ty := .octets 32, access := .ro, role := 1, persistent := false, card := false, default := .module }),
  -- IDENTITY_CERT
  (⟨0x1000, 0x08⟩, { ty := .domain 32768, access := .ro, role := 1, persistent := true, card := false, default := .module }),
  -- MANUFACTURE_TIME
  (⟨0x1000, 0x09⟩, { ty := .time64, access := .ro, role := 1, persistent := true, card := false, default := .module }),
  -- DICTIONARY_VERSION
  (⟨0x1000, 0x0A⟩, { ty := .u 4, access := .ro, role := 1, persistent := false, card := false, default := .module })]

/-- Entries of index 0x1001. -/
def area1001 : List (OdKey × EntryDef) := [
  -- DEVICE_STATE
  (⟨0x1001, 0x01⟩, { ty := .u 1, access := .ro, role := 1, persistent := false, card := false, default := .zero }),
  -- LIFE_CYCLE_STATE
  (⟨0x1001, 0x02⟩, { ty := .u 1, access := .ro, role := 1, persistent := false, card := false, default := .zero }),
  -- UPTIME_NS
  (⟨0x1001, 0x03⟩, { ty := .u 8, access := .ro, role := 1, persistent := false, card := false, default := .zero }),
  -- DEVICE_TIME
  (⟨0x1001, 0x04⟩, { ty := .time64, access := .ro, role := 1, persistent := false, card := false, default := .zero }),
  -- SESSIONS_OPEN
  (⟨0x1001, 0x05⟩, { ty := .u 1, access := .ro, role := 1, persistent := false, card := false, default := .zero }),
  -- STATE_CONFLICT_COUNT
  (⟨0x1001, 0x06⟩, { ty := .u 4, access := .ro, role := 1, persistent := false, card := false, default := .zero })]

/-- Entries of index 0x1002. -/
def area1002 : List (OdKey × EntryDef) := [
  -- RESTART_NONCE
  (⟨0x1002, 0x01⟩, { ty := .u 4, access := .ro, role := 3, persistent := false, card := false, default := .module }),
  -- LAST_RESTART_CRED
  (⟨0x1002, 0x02⟩, { ty := .octets 8, access := .ro, role := 1, persistent := true, card := false, default := .zero })]

/-- Entries of index 0x1010. -/
def area1010 : List (OdKey × EntryDef) := [
  -- CREDENTIAL_n, one definition for subindices 0x01 to 0x40
  (⟨0x1010, 0x01⟩, { ty := .domain 1968, access := .rwt, role := 3, persistent := true, card := false, default := .zero })]

/-- Entries of index 0x1100. -/
def area1100part0 : List (OdKey × EntryDef) := [
  -- INPUT_POWER_MW
  (⟨0x1100, 0x01⟩, { ty := .u 4, access := .ro, role := 1, persistent := false, card := false, default := .zero }),
  -- RAIL_12V_MV
  (⟨0x1100, 0x02⟩, { ty := .u 2, access := .ro, role := 1, persistent := false, card := false, default := .zero }),
  -- RAIL_3V3_MV
  (⟨0x1100, 0x03⟩, { ty := .u 2, access := .ro, role := 1, persistent := false, card := false, default := .zero }),
  -- RAIL_3V3AUX_MV
  (⟨0x1100, 0x04⟩, { ty := .u 2, access := .ro, role := 1, persistent := false, card := false, default := .zero }),
  -- HOLDUP_ENERGY_MJ
  (⟨0x1100, 0x05⟩, { ty := .u 4, access := .ro, role := 1, persistent := false, card := false, default := .zero }),
  -- COIN_CELL_MV
  (⟨0x1100, 0x06⟩, { ty := .u 2, access := .ro, role := 1, persistent := false, card := false, default := .zero }),
  -- INLET_TEMP_MC
  (⟨0x1100, 0x07⟩, { ty := .i32, access := .ro, role := 1, persistent := false, card := false, default := .zero }),
  -- DIE_TEMP_MC
  (⟨0x1100, 0x08⟩, { ty := .i32, access := .ro, role := 1, persistent := false, card := false, default := .zero }),
  -- TAMPER_LOOP_MODE
  (⟨0x1100, 0x09⟩, { ty := .u 1, access := .rwt, role := 3, persistent := true, card := false, lo := 0, hi := 3, default := .num 2 }),
  -- TAMPER_STATUS
  (⟨0x1100, 0x0A⟩, { ty := .u 4, access := .ro, role := 1, persistent := false, card := false, default := .zero }),
  -- TAMPER_ACK
  (⟨0x1100, 0x0B⟩, { ty := .u 4, access := .wo, role := 4, persistent := false, card := true, lo := 0, hi := 4294967295, default := .zero }),
  -- POWER_FAIL_COUNT
  (⟨0x1100, 0x0C⟩, { ty := .u 4, access := .ro, role := 1, persistent := true, card := false, default := .zero })]

/-- More entries of index 0x1100. -/
def area1100part1 : List (OdKey × EntryDef) := [
  -- AIRFLOW_DM_S
  (⟨0x1100, 0x0D⟩, { ty := .u 2, access := .rwt, role := 3, persistent := true, card := false, lo := 10, hi := 50, default := .num 20 })]

/-- All entries of index 0x1100. -/
def area1100 : List (OdKey × EntryDef) :=
  area1100part0 ++ area1100part1

/-- Entries of index 0x1200. -/
def area1200part0 : List (OdKey × EntryDef) := [
  -- TEMPO_PS
  (⟨0x1200, 0x01⟩, { ty := .u 2, access := .ro, role := 1, persistent := false, card := false, default := .zero }),
  -- TEMPO_BIRTH_PS
  (⟨0x1200, 0x02⟩, { ty := .u 2, access := .ro, role := 1, persistent := true, card := false, default := .module }),
  -- VCORE_MV
  (⟨0x1200, 0x03⟩, { ty := .u 2, access := .ro, role := 1, persistent := false, card := false, default := .zero }),
  -- VCORE_CEILING_MV
  (⟨0x1200, 0x04⟩, { ty := .u 2, access := .rwt, role := 3, persistent := true, card := false, lo := 700, hi := 900, default := .num 800 }),
  -- VCORE_FLOOR_MV
  (⟨0x1200, 0x05⟩, { ty := .u 2, access := .ro, role := 1, persistent := false, card := false, default := .num 650 }),
  -- POWER_CAP_W
  (⟨0x1200, 0x06⟩, { ty := .u 1, access := .rwt, role := 3, persistent := true, card := false, lo := 25, hi := 60, default := .num 60 }),
  -- EFFECTIVE_CAP_W
  (⟨0x1200, 0x07⟩, { ty := .u 1, access := .ro, role := 1, persistent := false, card := false, default := .zero }),
  -- GOVERNOR_STATE
  (⟨0x1200, 0x08⟩, { ty := .u 1, access := .ro, role := 1, persistent := false, card := false, default := .zero }),
  -- ENGINES_GATED_PCT
  (⟨0x1200, 0x09⟩, { ty := .u 1, access := .ro, role := 1, persistent := false, card := false, default := .zero }),
  -- DYNAMIC_POWER_MW
  (⟨0x1200, 0x0A⟩, { ty := .u 4, access := .ro, role := 1, persistent := false, card := false, default := .zero }),
  -- GOVERNOR_COUNTS
  (⟨0x1200, 0x0B⟩, { ty := .octets 24, access := .ro, role := 1, persistent := false, card := false, default := .zero }),
  -- ENERGY_MJ
  (⟨0x1200, 0x0C⟩, { ty := .u 8, access := .ro, role := 1, persistent := false, card := false, default := .zero })]

/-- More entries of index 0x1200. -/
def area1200part1 : List (OdKey × EntryDef) := [
  -- TEMPO_LIMIT_PS
  (⟨0x1200, 0x0D⟩, { ty := .u 2, access := .ro, role := 1, persistent := true, card := false, default := .num 2150 }),
  -- TEMPO_FAST_LIMIT_PS
  (⟨0x1200, 0x0E⟩, { ty := .u 2, access := .ro, role := 1, persistent := true, card := false, default := .num 950 })]

/-- All entries of index 0x1200. -/
def area1200 : List (OdKey × EntryDef) :=
  area1200part0 ++ area1200part1

/-- Entries of index 0x1300. -/
def area1300part0 : List (OdKey × EntryDef) := [
  -- START_PHASE
  (⟨0x1300, 0x01⟩, { ty := .u 1, access := .ro, role := 1, persistent := false, card := false, default := .zero }),
  -- LAST_START_KIND
  (⟨0x1300, 0x02⟩, { ty := .u 1, access := .ro, role := 1, persistent := false, card := false, default := .zero }),
  -- LAST_START_CAUSE
  (⟨0x1300, 0x03⟩, { ty := .u 1, access := .ro, role := 1, persistent := false, card := false, default := .zero }),
  -- START_TIME_US
  (⟨0x1300, 0x04⟩, { ty := .u 4, access := .ro, role := 1, persistent := false, card := false, default := .zero }),
  -- FW_SLOT
  (⟨0x1300, 0x05⟩, { ty := .u 1, access := .ro, role := 1, persistent := false, card := false, default := .zero }),
  -- FW_VERSION
  (⟨0x1300, 0x06⟩, { ty := .u 4, access := .ro, role := 1, persistent := false, card := false, default := .zero }),
  -- FW_SLOT_PREFERRED
  (⟨0x1300, 0x07⟩, { ty := .u 1, access := .rwt, role := 3, persistent := true, card := false, lo := 0, hi := 1, default := .zero }),
  -- COLD_START_COUNT
  (⟨0x1300, 0x08⟩, { ty := .u 4, access := .ro, role := 1, persistent := true, card := false, default := .zero }),
  -- WARM_RESET_COUNT
  (⟨0x1300, 0x09⟩, { ty := .u 4, access := .ro, role := 1, persistent := true, card := false, default := .zero }),
  -- START_KAT_RETIRED
  (⟨0x1300, 0x0A⟩, { ty := .u 2, access := .ro, role := 1, persistent := false, card := false, default := .zero }),
  -- HALT_CAUSE
  (⟨0x1300, 0x0B⟩, { ty := .u 2, access := .ro, role := 1, persistent := false, card := false, default := .zero }),
  -- PHASE_TIMES_US
  (⟨0x1300, 0x0C⟩, { ty := .octets 32, access := .ro, role := 1, persistent := false, card := false, default := .zero })]

/-- More entries of index 0x1300. -/
def area1300part1 : List (OdKey × EntryDef) := [
  -- DRAIN_TIMEOUT_MS
  (⟨0x1300, 0x0D⟩, { ty := .u 2, access := .rwt, role := 3, persistent := true, card := false, lo := 1, hi := 10000, default := .num 100 }),
  -- SELF_TEST_ENABLE
  (⟨0x1300, 0x20⟩, { ty := .bool, access := .rwt, role := 4, persistent := true, card := true, default := .num 1 }),
  -- SELF_TEST_PERIOD_MS
  (⟨0x1300, 0x21⟩, { ty := .u 1, access := .rwt, role := 3, persistent := true, card := false, lo := 2, hi := 8, default := .num 8 }),
  -- SELF_TEST_VISITS
  (⟨0x1300, 0x22⟩, { ty := .u 8, access := .ro, role := 1, persistent := false, card := false, default := .zero }),
  -- SELF_TEST_FAILS
  (⟨0x1300, 0x23⟩, { ty := .u 4, access := .ro, role := 1, persistent := true, card := false, default := .zero }),
  -- LONGEST_VISIT_GAP_US
  (⟨0x1300, 0x24⟩, { ty := .u 4, access := .ro, role := 1, persistent := false, card := false, default := .zero })]

/-- All entries of index 0x1300. -/
def area1300 : List (OdKey × EntryDef) :=
  area1300part0 ++ area1300part1

/-- Entries of index 0x1400. -/
def area1400part0 : List (OdKey × EntryDef) := [
  -- BIFURCATION
  (⟨0x1400, 0x01⟩, { ty := .u 1, access := .rwt, role := 4, persistent := true, card := false, lo := 0, hi := 3, default := .zero }),
  -- PORT_RESET_COUNTS
  (⟨0x1400, 0x02⟩, { ty := .octets 16, access := .ro, role := 1, persistent := false, card := false, default := .zero }),
  -- HP0 INSTANCE_BASE
  (⟨0x1400, 0x11⟩, { ty := .u 2, access := .rwt, role := 3, persistent := true, card := false, lo := 0, hi := 1023, default := .num 4 }),
  -- HP0 INSTANCE_COUNT
  (⟨0x1400, 0x12⟩, { ty := .u 2, access := .rwt, role := 3, persistent := true, card := false, lo := 0, hi := 1020, default := .num 1020 }),
  -- HP0 QP_SHARE
  (⟨0x1400, 0x13⟩, { ty := .u 2, access := .rwt, role := 3, persistent := true, card := false, lo := 0, hi := 8192, default := .num 8192 }),
  -- HP0 SLOT_SHARE
  (⟨0x1400, 0x14⟩, { ty := .u 2, access := .rwt, role := 3, persistent := true, card := false, lo := 0, hi := 16384, default := .num 16384 }),
  -- HP0 RECORD_QUOTA
  (⟨0x1400, 0x15⟩, { ty := .u 4, access := .rwt, role := 3, persistent := true, card := false, lo := 0, hi := 4194304, default := .num 4194304 }),
  -- HP0 TIER_S_QUOTA_KIB
  (⟨0x1400, 0x16⟩, { ty := .u 4, access := .rwt, role := 3, persistent := true, card := false, lo := 0, hi := 15360, default := .num 15360 }),
  -- HP0 ENGINE_WEIGHT
  (⟨0x1400, 0x17⟩, { ty := .u 2, access := .rwt, role := 3, persistent := true, card := false, lo := 1, hi := 4096, default := .num 256 }),
  -- HP0 TRANSLATION_MODE
  (⟨0x1400, 0x18⟩, { ty := .u 1, access := .rwt, role := 3, persistent := true, card := false, lo := 0, hi := 1, default := .zero }),
  -- HP0 PM_QP_COUNT
  (⟨0x1400, 0x19⟩, { ty := .u 2, access := .rwt, role := 3, persistent := true, card := false, lo := 1, hi := 1023, default := .num 16 }),
  -- HP1 INSTANCE_BASE
  (⟨0x1400, 0x21⟩, { ty := .u 2, access := .rwt, role := 3, persistent := true, card := false, lo := 0, hi := 1023, default := .zero })]

/-- More entries of index 0x1400. -/
def area1400part1 : List (OdKey × EntryDef) := [
  -- HP1 INSTANCE_COUNT
  (⟨0x1400, 0x22⟩, { ty := .u 2, access := .rwt, role := 3, persistent := true, card := false, lo := 0, hi := 1020, default := .zero }),
  -- HP1 QP_SHARE
  (⟨0x1400, 0x23⟩, { ty := .u 2, access := .rwt, role := 3, persistent := true, card := false, lo := 0, hi := 8192, default := .zero }),
  -- HP1 SLOT_SHARE
  (⟨0x1400, 0x24⟩, { ty := .u 2, access := .rwt, role := 3, persistent := true, card := false, lo := 0, hi := 16384, default := .zero }),
  -- HP1 RECORD_QUOTA
  (⟨0x1400, 0x25⟩, { ty := .u 4, access := .rwt, role := 3, persistent := true, card := false, lo := 0, hi := 4194304, default := .zero }),
  -- HP1 TIER_S_QUOTA_KIB
  (⟨0x1400, 0x26⟩, { ty := .u 4, access := .rwt, role := 3, persistent := true, card := false, lo := 0, hi := 15360, default := .zero }),
  -- HP1 ENGINE_WEIGHT
  (⟨0x1400, 0x27⟩, { ty := .u 2, access := .rwt, role := 3, persistent := true, card := false, lo := 1, hi := 4096, default := .num 256 }),
  -- HP1 TRANSLATION_MODE
  (⟨0x1400, 0x28⟩, { ty := .u 1, access := .rwt, role := 3, persistent := true, card := false, lo := 0, hi := 1, default := .zero }),
  -- HP1 PM_QP_COUNT
  (⟨0x1400, 0x29⟩, { ty := .u 2, access := .rwt, role := 3, persistent := true, card := false, lo := 1, hi := 1023, default := .num 16 }),
  -- HP2 INSTANCE_BASE
  (⟨0x1400, 0x31⟩, { ty := .u 2, access := .rwt, role := 3, persistent := true, card := false, lo := 0, hi := 1023, default := .zero }),
  -- HP2 INSTANCE_COUNT
  (⟨0x1400, 0x32⟩, { ty := .u 2, access := .rwt, role := 3, persistent := true, card := false, lo := 0, hi := 1020, default := .zero }),
  -- HP2 QP_SHARE
  (⟨0x1400, 0x33⟩, { ty := .u 2, access := .rwt, role := 3, persistent := true, card := false, lo := 0, hi := 8192, default := .zero }),
  -- HP2 SLOT_SHARE
  (⟨0x1400, 0x34⟩, { ty := .u 2, access := .rwt, role := 3, persistent := true, card := false, lo := 0, hi := 16384, default := .zero })]

/-- More entries of index 0x1400. -/
def area1400part2 : List (OdKey × EntryDef) := [
  -- HP2 RECORD_QUOTA
  (⟨0x1400, 0x35⟩, { ty := .u 4, access := .rwt, role := 3, persistent := true, card := false, lo := 0, hi := 4194304, default := .zero }),
  -- HP2 TIER_S_QUOTA_KIB
  (⟨0x1400, 0x36⟩, { ty := .u 4, access := .rwt, role := 3, persistent := true, card := false, lo := 0, hi := 15360, default := .zero }),
  -- HP2 ENGINE_WEIGHT
  (⟨0x1400, 0x37⟩, { ty := .u 2, access := .rwt, role := 3, persistent := true, card := false, lo := 1, hi := 4096, default := .num 256 }),
  -- HP2 TRANSLATION_MODE
  (⟨0x1400, 0x38⟩, { ty := .u 1, access := .rwt, role := 3, persistent := true, card := false, lo := 0, hi := 1, default := .zero }),
  -- HP2 PM_QP_COUNT
  (⟨0x1400, 0x39⟩, { ty := .u 2, access := .rwt, role := 3, persistent := true, card := false, lo := 1, hi := 1023, default := .num 16 }),
  -- HP3 INSTANCE_BASE
  (⟨0x1400, 0x41⟩, { ty := .u 2, access := .rwt, role := 3, persistent := true, card := false, lo := 0, hi := 1023, default := .zero }),
  -- HP3 INSTANCE_COUNT
  (⟨0x1400, 0x42⟩, { ty := .u 2, access := .rwt, role := 3, persistent := true, card := false, lo := 0, hi := 1020, default := .zero }),
  -- HP3 QP_SHARE
  (⟨0x1400, 0x43⟩, { ty := .u 2, access := .rwt, role := 3, persistent := true, card := false, lo := 0, hi := 8192, default := .zero }),
  -- HP3 SLOT_SHARE
  (⟨0x1400, 0x44⟩, { ty := .u 2, access := .rwt, role := 3, persistent := true, card := false, lo := 0, hi := 16384, default := .zero }),
  -- HP3 RECORD_QUOTA
  (⟨0x1400, 0x45⟩, { ty := .u 4, access := .rwt, role := 3, persistent := true, card := false, lo := 0, hi := 4194304, default := .zero }),
  -- HP3 TIER_S_QUOTA_KIB
  (⟨0x1400, 0x46⟩, { ty := .u 4, access := .rwt, role := 3, persistent := true, card := false, lo := 0, hi := 15360, default := .zero }),
  -- HP3 ENGINE_WEIGHT
  (⟨0x1400, 0x47⟩, { ty := .u 2, access := .rwt, role := 3, persistent := true, card := false, lo := 1, hi := 4096, default := .num 256 })]

/-- More entries of index 0x1400. -/
def area1400part3 : List (OdKey × EntryDef) := [
  -- HP3 TRANSLATION_MODE
  (⟨0x1400, 0x48⟩, { ty := .u 1, access := .rwt, role := 3, persistent := true, card := false, lo := 0, hi := 1, default := .zero }),
  -- HP3 PM_QP_COUNT
  (⟨0x1400, 0x49⟩, { ty := .u 2, access := .rwt, role := 3, persistent := true, card := false, lo := 1, hi := 1023, default := .num 16 })]

/-- All entries of index 0x1400. -/
def area1400 : List (OdKey × EntryDef) :=
  area1400part0 ++ area1400part1 ++ area1400part2 ++ area1400part3

/-- Entries of index 0x1800 and up, one set for each instance. -/
def area1800part0 : List (OdKey × EntryDef) := [
  -- INST_STATE
  (⟨0x1800, 0x01⟩, { ty := .u 1, access := .ro, role := 1, persistent := false, card := false, default := .zero }),
  -- PORT
  (⟨0x1800, 0x02⟩, { ty := .u 1, access := .ro, role := 1, persistent := true, card := false, default := .zero }),
  -- QP_COUNT
  (⟨0x1800, 0x03⟩, { ty := .u 2, access := .ro, role := 1, persistent := true, card := false, default := .zero }),
  -- VECTOR_COUNT
  (⟨0x1800, 0x04⟩, { ty := .u 2, access := .ro, role := 1, persistent := true, card := false, default := .zero }),
  -- SLOT_QUOTA
  (⟨0x1800, 0x05⟩, { ty := .u 2, access := .ro, role := 1, persistent := true, card := false, default := .zero }),
  -- RECORD_QUOTA
  (⟨0x1800, 0x06⟩, { ty := .u 4, access := .ro, role := 1, persistent := true, card := false, default := .zero }),
  -- TIER_S_QUOTA_KIB
  (⟨0x1800, 0x07⟩, { ty := .u 4, access := .ro, role := 1, persistent := true, card := false, default := .zero }),
  -- ENGINE_WEIGHT
  (⟨0x1800, 0x08⟩, { ty := .u 2, access := .ro, role := 1, persistent := true, card := false, default := .zero }),
  -- SLOTS_IN_USE
  (⟨0x1800, 0x09⟩, { ty := .u 2, access := .ro, role := 1, persistent := false, card := false, default := .zero }),
  -- RECORDS_OWNED
  (⟨0x1800, 0x0A⟩, { ty := .u 4, access := .ro, role := 1, persistent := false, card := false, default := .zero }),
  -- JOBS_POSTED
  (⟨0x1800, 0x0B⟩, { ty := .u 8, access := .ro, role := 1, persistent := false, card := false, default := .zero }),
  -- RESET_COUNT
  (⟨0x1800, 0x0C⟩, { ty := .u 4, access := .ro, role := 1, persistent := false, card := false, default := .zero })]

/-- More entries of index 0x1800. -/
def area1800part1 : List (OdKey × EntryDef) := [
  -- LAST_MIG_RESULT
  (⟨0x1800, 0x0D⟩, { ty := .u 2, access := .ro, role := 1, persistent := false, card := false, default := .zero }),
  -- SPILL_MIB
  (⟨0x1800, 0x0E⟩, { ty := .u 4, access := .ro, role := 1, persistent := false, card := false, default := .zero })]

/-- All entries of index 0x1800. -/
def area1800 : List (OdKey × EntryDef) :=
  area1800part0 ++ area1800part1

/-- Entries of index 0x1F00. -/
def area1F00 : List (OdKey × EntryDef) := [
  -- TXN_STATE
  (⟨0x1F00, 0x01⟩, { ty := .u 1, access := .ro, role := 1, persistent := false, card := false, default := .zero }),
  -- TXN_ID
  (⟨0x1F00, 0x02⟩, { ty := .u 4, access := .ro, role := 1, persistent := false, card := false, default := .zero }),
  -- TXN_OWNER
  (⟨0x1F00, 0x03⟩, { ty := .octets 8, access := .ro, role := 1, persistent := false, card := false, default := .zero }),
  -- TXN_STAGED
  (⟨0x1F00, 0x04⟩, { ty := .u 2, access := .ro, role := 1, persistent := false, card := false, default := .zero }),
  -- TXN_COMMITS
  (⟨0x1F00, 0x05⟩, { ty := .u 4, access := .ro, role := 1, persistent := true, card := false, default := .zero }),
  -- TXN_ROLLBACKS
  (⟨0x1F00, 0x06⟩, { ty := .u 4, access := .ro, role := 1, persistent := true, card := false, default := .zero }),
  -- LAST_COMMIT_TIME
  (⟨0x1F00, 0x07⟩, { ty := .time64, access := .ro, role := 1, persistent := true, card := false, default := .zero }),
  -- LAST_COMMIT_PAUSE_NS
  (⟨0x1F00, 0x08⟩, { ty := .u 4, access := .ro, role := 1, persistent := false, card := false, default := .zero })]

/-- Entries of index 0x2000. -/
def area2000part0 : List (OdKey × EntryDef) := [
  -- SHIELD_QUANTA
  (⟨0x2000, 0x01⟩, { ty := .domain 128, access := .rwt, role := 3, persistent := true, card := false, default := .quanta }),
  -- SHIELD_OVERRIDE_ALLOW
  (⟨0x2000, 0x02⟩, { ty := .domain 4096, access := .rwt, role := 4, persistent := true, card := true, default := .zero }),
  -- MATRIX_CACHE_MIN_USES
  (⟨0x2000, 0x03⟩, { ty := .u 2, access := .rwt, role := 3, persistent := true, card := false, lo := 1, hi := 1000, default := .num 4 }),
  -- MATRIX_CACHE_LIMIT_MIB
  (⟨0x2000, 0x04⟩, { ty := .u 2, access := .rwt, role := 3, persistent := true, card := false, lo := 256, hi := 3072, default := .num 3072 }),
  -- SPILL_HIGH_WATER_PCT
  (⟨0x2000, 0x05⟩, { ty := .u 1, access := .rwt, role := 3, persistent := true, card := false, lo := 50, hi := 98, default := .num 90 }),
  -- TIER_S_USED_KIB
  (⟨0x2000, 0x10⟩, { ty := .octets 16, access := .ro, role := 1, persistent := false, card := false, default := .zero }),
  -- TIER_S_PINNED_KIB
  (⟨0x2000, 0x11⟩, { ty := .octets 16, access := .ro, role := 1, persistent := false, card := false, default := .zero }),
  -- TIER_V_USED_MIB
  (⟨0x2000, 0x12⟩, { ty := .octets 16, access := .ro, role := 1, persistent := false, card := false, default := .zero }),
  -- RESIDENCY_COUNTS
  (⟨0x2000, 0x13⟩, { ty := .octets 64, access := .ro, role := 1, persistent := false, card := false, default := .zero }),
  -- MATRIX_CACHE_COUNTS
  (⟨0x2000, 0x14⟩, { ty := .octets 32, access := .ro, role := 1, persistent := false, card := false, default := .zero }),
  -- WAIT_COUNTS
  (⟨0x2000, 0x15⟩, { ty := .octets 32, access := .ro, role := 1, persistent := false, card := false, default := .zero }),
  -- SHIELD_COUNTS
  (⟨0x2000, 0x16⟩, { ty := .octets 32, access := .ro, role := 1, persistent := false, card := false, default := .zero })]

/-- More entries of index 0x2000. -/
def area2000part1 : List (OdKey × EntryDef) := [
  -- COLLECTOR_MAX_BURST
  (⟨0x2000, 0x17⟩, { ty := .u 2, access := .ro, role := 1, persistent := false, card := false, default := .zero }),
  -- DISPATCH_RATE
  (⟨0x2000, 0x18⟩, { ty := .u 4, access := .ro, role := 1, persistent := false, card := false, default := .zero }),
  -- TIER_V_FULL_COUNT
  (⟨0x2000, 0x19⟩, { ty := .u 4, access := .ro, role := 1, persistent := false, card := false, default := .zero })]

/-- All entries of index 0x2000. -/
def area2000 : List (OdKey × EntryDef) :=
  area2000part0 ++ area2000part1

/-- Entries of index 0x2100. -/
def area2100 : List (OdKey × EntryDef) := [
  -- UNIT_STATE
  (⟨0x2100, 0x01⟩, { ty := .octets 387, access := .ro, role := 1, persistent := false, card := false, default := .zero }),
  -- ACTIVE_COUNTS
  (⟨0x2100, 0x02⟩, { ty := .octets 12, access := .ro, role := 1, persistent := false, card := false, default := .zero }),
  -- SPARES_LEFT
  (⟨0x2100, 0x03⟩, { ty := .octets 12, access := .ro, role := 1, persistent := false, card := false, default := .zero }),
  -- MIN_ACTIVE
  (⟨0x2100, 0x04⟩, { ty := .octets 12, access := .rwt, role := 3, persistent := true, card := false, default := .bytes [16, 0, 16, 0, 32, 0, 16, 0, 4, 0, 2, 0] }),
  -- WEAR_DRIFT
  (⟨0x2100, 0x05⟩, { ty := .octets 774, access := .ro, role := 1, persistent := false, card := false, default := .zero }),
  -- WEAR_WARN_BP
  (⟨0x2100, 0x06⟩, { ty := .u 2, access := .rwt, role := 3, persistent := true, card := false, lo := 100, hi := 799, default := .num 500 }),
  -- WEAR_RETIRE_BP
  (⟨0x2100, 0x07⟩, { ty := .u 2, access := .rwt, role := 3, persistent := true, card := false, lo := 500, hi := 800, default := .num 750 }),
  -- CORRECTED_COUNTS
  (⟨0x2100, 0x08⟩, { ty := .octets 1548, access := .ro, role := 1, persistent := false, card := false, default := .zero }),
  -- PROMOTIONS
  (⟨0x2100, 0x09⟩, { ty := .u 4, access := .ro, role := 1, persistent := true, card := false, default := .zero }),
  -- RETIREMENT_MAP
  (⟨0x2100, 0x0A⟩, { ty := .octets 49, access := .ro, role := 1, persistent := true, card := false, default := .module })]

/-- Entries of index 0x2200. -/
def area2200part0 : List (OdKey × EntryDef) := [
  -- MLKEM_SET_DISABLE
  (⟨0x2200, 0x01⟩, { ty := .u 1, access := .rwt, role := 3, persistent := true, card := false, lo := 0, hi := 255, default := .zero }),
  -- MLKEM_RELEASE_DISABLE
  (⟨0x2200, 0x02⟩, { ty := .bool, access := .rwt, role := 3, persistent := true, card := false, default := .zero }),
  -- MLDSA_SET_DISABLE
  (⟨0x2200, 0x03⟩, { ty := .u 1, access := .rwt, role := 3, persistent := true, card := false, lo := 0, hi := 255, default := .zero }),
  -- MLDSA_DETERMINISTIC_DISABLE
  (⟨0x2200, 0x04⟩, { ty := .bool, access := .rwt, role := 3, persistent := true, card := false, default := .zero }),
  -- FNDSA_SET_DISABLE
  (⟨0x2200, 0x05⟩, { ty := .u 1, access := .rwt, role := 3, persistent := true, card := false, lo := 0, hi := 255, default := .zero }),
  -- FNDSA_SIGN_DISABLE
  (⟨0x2200, 0x06⟩, { ty := .bool, access := .rwt, role := 4, persistent := true, card := true, default := .zero }),
  -- FNDSA_SIGN_SEQUENCERS
  (⟨0x2200, 0x07⟩, { ty := .u 1, access := .rwt, role := 3, persistent := true, card := false, lo := 1, hi := 32, default := .num 16 }),
  -- LATTICE_JOB_COUNTS
  (⟨0x2200, 0x08⟩, { ty := .octets 64, access := .ro, role := 1, persistent := false, card := false, default := .zero }),
  -- SLHDSA_SET_DISABLE
  (⟨0x2200, 0x20⟩, { ty := .u 2, access := .rwt, role := 3, persistent := true, card := false, lo := 0, hi := 65535, default := .zero }),
  -- SLHDSA_DETERMINISTIC_DISABLE
  (⟨0x2200, 0x21⟩, { ty := .bool, access := .rwt, role := 3, persistent := true, card := false, default := .zero }),
  -- STATEFUL_SCHEME_DISABLE
  (⟨0x2200, 0x22⟩, { ty := .u 1, access := .rwt, role := 3, persistent := true, card := false, lo := 0, hi := 255, default := .zero }),
  -- HASH_CTX_IDLE_S
  (⟨0x2200, 0x23⟩, { ty := .u 2, access := .rwt, role := 3, persistent := true, card := false, lo := 10, hi := 65535, default := .num 600 })]

/-- More entries of index 0x2200. -/
def area2200part1 : List (OdKey × EntryDef) := [
  -- HASH_CTX_OPEN
  (⟨0x2200, 0x24⟩, { ty := .u 4, access := .ro, role := 1, persistent := false, card := false, default := .zero }),
  -- MEASUREMENTS
  (⟨0x2200, 0x25⟩, { ty := .octets 1920, access := .ro, role := 1, persistent := false, card := false, default := .zero }),
  -- MEASUREMENT_LOG
  (⟨0x2200, 0x26⟩, { ty := .domain 8388608, access := .ro, role := 1, persistent := false, card := false, default := .zero }),
  -- DIGEST_WINDOW_OWNERS
  (⟨0x2200, 0x27⟩, { ty := .octets 4, access := .ro, role := 1, persistent := false, card := false, default := .zero }),
  -- HASH_JOB_COUNTS
  (⟨0x2200, 0x28⟩, { ty := .octets 64, access := .ro, role := 1, persistent := false, card := false, default := .zero }),
  -- STATEFUL_LEAVES_SKIPPED
  (⟨0x2200, 0x29⟩, { ty := .u 8, access := .ro, role := 1, persistent := true, card := false, default := .zero }),
  -- HQC_SET_DISABLE
  (⟨0x2200, 0x30⟩, { ty := .u 1, access := .rwt, role := 3, persistent := true, card := false, lo := 0, hi := 255, default := .zero }),
  -- MCE_SET_DISABLE
  (⟨0x2200, 0x31⟩, { ty := .u 1, access := .rwt, role := 3, persistent := true, card := false, lo := 0, hi := 255, default := .zero }),
  -- HQC_DECODE_SEQUENCERS
  (⟨0x2200, 0x32⟩, { ty := .u 1, access := .rwt, role := 3, persistent := true, card := false, lo := 1, hi := 32, default := .num 16 }),
  -- MCE_INPUT_PK_DISABLE
  (⟨0x2200, 0x33⟩, { ty := .bool, access := .rwt, role := 3, persistent := true, card := false, default := .zero }),
  -- CODE_JOB_COUNTS
  (⟨0x2200, 0x34⟩, { ty := .octets 48, access := .ro, role := 1, persistent := false, card := false, default := .zero }),
  -- MCE_STREAM_BYTES
  (⟨0x2200, 0x35⟩, { ty := .u 8, access := .ro, role := 1, persistent := false, card := false, default := .zero })]

/-- More entries of index 0x2200. -/
def area2200part2 : List (OdKey × EntryDef) := [
  -- EC_SET_DISABLE
  (⟨0x2200, 0x40⟩, { ty := .u 1, access := .rwt, role := 3, persistent := true, card := false, lo := 0, hi := 255, default := .zero }),
  -- EC_AGREE_RELEASE_DISABLE
  (⟨0x2200, 0x41⟩, { ty := .bool, access := .rwt, role := 3, persistent := true, card := false, default := .zero }),
  -- RSA_SET_DISABLE
  (⟨0x2200, 0x42⟩, { ty := .u 1, access := .rwt, role := 3, persistent := true, card := false, lo := 0, hi := 255, default := .zero }),
  -- RSA_PKCS1_SIGN_DISABLE
  (⟨0x2200, 0x43⟩, { ty := .bool, access := .rwt, role := 3, persistent := true, card := false, default := .zero }),
  -- AES_EXTERNAL_IV_DISABLE
  (⟨0x2200, 0x44⟩, { ty := .bool, access := .rwt, role := 3, persistent := true, card := false, default := .zero }),
  -- HYBRID_SET_DISABLE
  (⟨0x2200, 0x45⟩, { ty := .u 1, access := .rwt, role := 3, persistent := true, card := false, lo := 0, hi := 255, default := .zero }),
  -- HYBRID_RELEASE_DISABLE
  (⟨0x2200, 0x46⟩, { ty := .bool, access := .rwt, role := 3, persistent := true, card := false, default := .zero }),
  -- CLASSICAL_JOB_COUNTS
  (⟨0x2200, 0x47⟩, { ty := .octets 64, access := .ro, role := 1, persistent := false, card := false, default := .zero }),
  -- FRAME_MISMATCHES
  (⟨0x2200, 0x48⟩, { ty := .u 8, access := .ro, role := 1, persistent := false, card := false, default := .zero })]

/-- All entries of index 0x2200. -/
def area2200 : List (OdKey × EntryDef) :=
  area2200part0 ++ area2200part1 ++ area2200part2

/-- Entries of index 0x2300. -/
def area2300part0 : List (OdKey × EntryDef) := [
  -- RECORDS_USED
  (⟨0x2300, 0x01⟩, { ty := .u 4, access := .ro, role := 1, persistent := false, card := false, default := .zero }),
  -- PEERS_USED
  (⟨0x2300, 0x02⟩, { ty := .u 4, access := .ro, role := 1, persistent := false, card := false, default := .zero }),
  -- UPDATE_COUNTERS
  (⟨0x2300, 0x03⟩, { ty := .octets 128, access := .ro, role := 1, persistent := true, card := false, default := .zero }),
  -- DOMAIN_STATE
  (⟨0x2300, 0x04⟩, { ty := .u 1, access := .ro, role := 1, persistent := true, card := false, default := .zero }),
  -- DOMAIN_AUTHORITY
  (⟨0x2300, 0x05⟩, { ty := .octets 2721, access := .rwt, role := 5, persistent := true, card := false, default := .zero }),
  -- IDENTITY_PUBLIC_KEYS
  (⟨0x2300, 0x06⟩, { ty := .octets 2689, access := .ro, role := 1, persistent := false, card := false, default := .module }),
  -- TRANSPORT_PUBLIC_KEY
  (⟨0x2300, 0x07⟩, { ty := .octets 1568, access := .ro, role := 1, persistent := false, card := false, default := .module }),
  -- ARCHIVE_GENERATION
  (⟨0x2300, 0x08⟩, { ty := .u 4, access := .ro, role := 1, persistent := false, card := false, default := .zero }),
  -- UPDATE_SUBMIT
  (⟨0x2300, 0x09⟩, { ty := .domain 16777216, access := .wo, role := 2, persistent := false, card := false, default := .zero }),
  -- UPDATE_RESULT
  (⟨0x2300, 0x0A⟩, { ty := .u 2, access := .ro, role := 1, persistent := false, card := false, default := .zero }),
  -- UPDATE_HANDLES
  (⟨0x2300, 0x0B⟩, { ty := .domain 16777216, access := .ro, role := 1, persistent := false, card := false, default := .zero }),
  -- GENERATIONS_LEFT
  (⟨0x2300, 0x0C⟩, { ty := .u 2, access := .ro, role := 1, persistent := true, card := false, default := .num 4096 })]

/-- More entries of index 0x2300. -/
def area2300part1 : List (OdKey × EntryDef) := [
  -- ARCHIVE_RATCHET
  (⟨0x2300, 0x0D⟩, { ty := .u 4, access := .wo, role := 4, persistent := false, card := true, lo := 0, hi := 4294967295, default := .zero }),
  -- DERIVE_RELEASE_DISABLE
  (⟨0x2300, 0x0E⟩, { ty := .bool, access := .rwt, role := 3, persistent := true, card := false, default := .zero }),
  -- OPEN_SLOTS_USED
  (⟨0x2300, 0x0F⟩, { ty := .octets 8, access := .ro, role := 1, persistent := false, card := false, default := .zero }),
  -- UPDATE_REFUSALS
  (⟨0x2300, 0x10⟩, { ty := .u 4, access := .ro, role := 1, persistent := true, card := false, default := .zero })]

/-- All entries of index 0x2300. -/
def area2300 : List (OdKey × EntryDef) :=
  area2300part0 ++ area2300part1

/-- Entries of index 0x2400. -/
def area2400 : List (OdKey × EntryDef) := [
  -- RNG_STATE
  (⟨0x2400, 0x01⟩, { ty := .u 1, access := .ro, role := 1, persistent := false, card := false, default := .zero }),
  -- SOURCE_ENABLE
  (⟨0x2400, 0x02⟩, { ty := .u 4, access := .rwt, role := 3, persistent := true, card := false, lo := 0, hi := 4294967295, default := .num 262143 }),
  -- DEBIAS_MODE
  (⟨0x2400, 0x03⟩, { ty := .u 4, access := .rwt, role := 3, persistent := true, card := false, lo := 0, hi := 4294967295, default := .zero }),
  -- SOURCE_HEALTH
  (⟨0x2400, 0x04⟩, { ty := .octets 18, access := .ro, role := 1, persistent := false, card := false, default := .zero }),
  -- SOURCE_FAILURES
  (⟨0x2400, 0x05⟩, { ty := .octets 72, access := .ro, role := 1, persistent := false, card := false, default := .zero }),
  -- POOL_RATE
  (⟨0x2400, 0x06⟩, { ty := .u 4, access := .ro, role := 1, persistent := false, card := false, default := .zero }),
  -- UNSEEDED_INSTANCES
  (⟨0x2400, 0x07⟩, { ty := .u 2, access := .ro, role := 1, persistent := false, card := false, default := .zero }),
  -- FIRST_SEED_US
  (⟨0x2400, 0x08⟩, { ty := .u 4, access := .ro, role := 1, persistent := false, card := false, default := .zero }),
  -- POOL_STOPS
  (⟨0x2400, 0x09⟩, { ty := .u 4, access := .ro, role := 1, persistent := true, card := false, default := .zero }),
  -- DRBG_COUNTS
  (⟨0x2400, 0x0A⟩, { ty := .octets 32, access := .ro, role := 1, persistent := false, card := false, default := .zero }),
  -- RESEED_INTERVAL_MS
  (⟨0x2400, 0x0B⟩, { ty := .u 2, access := .rwt, role := 3, persistent := true, card := false, lo := 10, hi := 1000, default := .num 1000 })]

/-- Entries of index 0x2500. -/
def area2500part0 : List (OdKey × EntryDef) := [
  -- LC_REQUEST
  (⟨0x2500, 0x01⟩, { ty := .octets 36, access := .wo, role := 4, persistent := false, card := false, default := .zero }),
  -- INTENT_SLOTS
  (⟨0x2500, 0x02⟩, { ty := .octets 8, access := .ro, role := 1, persistent := false, card := false, default := .zero }),
  -- ANALYSIS_TOKEN_DIGEST
  (⟨0x2500, 0x03⟩, { ty := .octets 32, access := .wo, role := 4, persistent := true, card := true, default := .zero }),
  -- CUSTOMER_SCRAP_TOKEN_DIGEST
  (⟨0x2500, 0x04⟩, { ty := .octets 32, access := .wo, role := 4, persistent := true, card := false, default := .zero }),
  -- DIGESTS_WRITTEN
  (⟨0x2500, 0x05⟩, { ty := .u 1, access := .ro, role := 1, persistent := true, card := false, default := .zero }),
  -- DEBUG_ALLOW
  (⟨0x2500, 0x06⟩, { ty := .u 4, access := .wo, role := 4, persistent := false, card := true, lo := 0, hi := 4294967295, default := .zero }),
  -- DEBUG_STATE
  (⟨0x2500, 0x07⟩, { ty := .u 1, access := .ro, role := 1, persistent := false, card := false, default := .zero }),
  -- DEBUG_AUTH_COUNT
  (⟨0x2500, 0x08⟩, { ty := .u 4, access := .ro, role := 1, persistent := true, card := false, default := .zero }),
  -- LC_TOKEN_FAILS
  (⟨0x2500, 0x09⟩, { ty := .u 2, access := .ro, role := 1, persistent := false, card := false, default := .zero }),
  -- LAST_TRANSITION
  (⟨0x2500, 0x0A⟩, { ty := .octets 16, access := .ro, role := 1, persistent := true, card := false, default := .zero }),
  -- FACTORY_TOKEN_DIGEST
  (⟨0x2500, 0x10⟩, { ty := .octets 32, access := .wo, role := 5, persistent := true, card := false, default := .zero }),
  -- DEPLOY_TOKEN_DIGEST
  (⟨0x2500, 0x11⟩, { ty := .octets 32, access := .wo, role := 5, persistent := true, card := false, default := .zero })]

/-- More entries of index 0x2500. -/
def area2500part1 : List (OdKey × EntryDef) := [
  -- VENDOR_SCRAP_TOKEN_DIGEST
  (⟨0x2500, 0x12⟩, { ty := .octets 32, access := .wo, role := 5, persistent := true, card := false, default := .zero }),
  -- FACTORY_CREDENTIAL_DIGEST
  (⟨0x2500, 0x16⟩, { ty := .octets 32, access := .wo, role := 5, persistent := true, card := false, default := .zero })]

/-- All entries of index 0x2500. -/
def area2500 : List (OdKey × EntryDef) :=
  area2500part0 ++ area2500part1

/-- Entries of index 0x2600. -/
def area2600 : List (OdKey × EntryDef) := [
  -- GRACE_TIMER_MS
  (⟨0x2600, 0x01⟩, { ty := .u 2, access := .rwt, role := 3, persistent := true, card := false, lo := 1, hi := 1000, default := .num 20 }),
  -- OPEN_FAULTS
  (⟨0x2600, 0x02⟩, { ty := .domain 3072, access := .ro, role := 1, persistent := false, card := false, default := .zero }),
  -- DISPOSE
  (⟨0x2600, 0x03⟩, { ty := .octets 8, access := .wo, role := 2, persistent := false, card := false, default := .zero }),
  -- FAULT_COUNTS
  (⟨0x2600, 0x04⟩, { ty := .octets 24, access := .ro, role := 1, persistent := true, card := false, default := .zero }),
  -- AER_REPORT_CORRECTED
  (⟨0x2600, 0x05⟩, { ty := .bool, access := .rwt, role := 3, persistent := true, card := false, default := .zero }),
  -- GUARANTEE_STATE
  (⟨0x2600, 0x06⟩, { ty := .u 1, access := .ro, role := 1, persistent := false, card := false, default := .zero }),
  -- LAST_FATAL
  (⟨0x2600, 0x07⟩, { ty := .octets 24, access := .ro, role := 1, persistent := true, card := false, default := .zero }),
  -- WATCHDOG_US
  (⟨0x2600, 0x08⟩, { ty := .u 2, access := .rwt, role := 3, persistent := true, card := false, lo := 20, hi := 1000, default := .num 100 }),
  -- FAULT_TABLE_OVERFLOWS
  (⟨0x2600, 0x09⟩, { ty := .u 4, access := .ro, role := 1, persistent := false, card := false, default := .zero })]

/-- Entries of index 0x2700. -/
def area2700 : List (OdKey × EntryDef) := [
  -- LOG_RECORDS
  (⟨0x2700, 0x01⟩, { ty := .domain 2097152, access := .ro, role := 1, persistent := true, card := false, default := .zero }),
  -- LOG_HEAD
  (⟨0x2700, 0x02⟩, { ty := .octets 24, access := .ro, role := 1, persistent := false, card := false, default := .zero }),
  -- LOG_CLEAR
  (⟨0x2700, 0x03⟩, { ty := .u 4, access := .wo, role := 4, persistent := false, card := true, lo := 0, hi := 4294967295, default := .zero }),
  -- LOG_DROPPED
  (⟨0x2700, 0x04⟩, { ty := .u 8, access := .ro, role := 1, persistent := true, card := false, default := .zero }),
  -- LOG_OVERWRITTEN
  (⟨0x2700, 0x05⟩, { ty := .u 8, access := .ro, role := 1, persistent := true, card := false, default := .zero }),
  -- LOG_CHECK
  (⟨0x2700, 0x06⟩, { ty := .octets 16, access := .ro, role := 1, persistent := false, card := false, default := .zero }),
  -- LOG_CHECK_RUN
  (⟨0x2700, 0x07⟩, { ty := .u 4, access := .wo, role := 2, persistent := false, card := false, lo := 0, hi := 4294967295, default := .zero }),
  -- LOG_CLEARS
  (⟨0x2700, 0x08⟩, { ty := .u 4, access := .ro, role := 1, persistent := true, card := false, default := .zero }),
  -- LOG_SEVERITY_COUNTS
  (⟨0x2700, 0x09⟩, { ty := .octets 24, access := .ro, role := 1, persistent := false, card := false, default := .zero })]

/-- Entries of index 0x2800. -/
def area2800 : List (OdKey × EntryDef) := [
  -- CARD_STATE
  (⟨0x2800, 0x01⟩, { ty := .u 1, access := .ro, role := 1, persistent := false, card := false, default := .zero }),
  -- CARD_INFO
  (⟨0x2800, 0x02⟩, { ty := .octets 16, access := .ro, role := 1, persistent := false, card := false, default := .zero }),
  -- CARD_OP
  (⟨0x2800, 0x03⟩, { ty := .u 4, access := .wo, role := 4, persistent := false, card := true, lo := 0, hi := 4294967295, default := .zero }),
  -- CARD_OP_STATUS
  (⟨0x2800, 0x04⟩, { ty := .octets 16, access := .ro, role := 1, persistent := false, card := false, default := .zero }),
  -- APPROVALS
  (⟨0x2800, 0x05⟩, { ty := .octets 128, access := .ro, role := 1, persistent := false, card := false, default := .zero }),
  -- CARD_AUTHORITY
  (⟨0x2800, 0x06⟩, { ty := .octets 2721, access := .ro, role := 1, persistent := false, card := false, default := .zero }),
  -- CARD_REST_S
  (⟨0x2800, 0x07⟩, { ty := .u 2, access := .rwt, role := 3, persistent := true, card := false, lo := 1, hi := 600, default := .num 5 }),
  -- BACKUP_RESUME_S
  (⟨0x2800, 0x08⟩, { ty := .u 2, access := .rwt, role := 3, persistent := true, card := false, lo := 10, hi := 3600, default := .num 600 }),
  -- RESTORE_MARKER
  (⟨0x2800, 0x09⟩, { ty := .octets 24, access := .ro, role := 1, persistent := true, card := false, default := .zero }),
  -- CUSTODY_CARDS
  (⟨0x2800, 0x10⟩, { ty := .domain 1536, access := .rwt, role := 5, persistent := true, card := false, default := .zero }),
  -- CARD_COUNTS
  (⟨0x2800, 0x11⟩, { ty := .octets 32, access := .ro, role := 1, persistent := true, card := false, default := .zero })]

/-- Entries of index 0x2900. -/
def area2900part0 : List (OdKey × EntryDef) := [
  -- MGMT_ENABLE
  (⟨0x2900, 0x01⟩, { ty := .bool, access := .rwt, role := 4, persistent := true, card := false, default := .num 1 }),
  -- MGMT_UDP_PORT
  (⟨0x2900, 0x02⟩, { ty := .u 2, access := .rwt, role := 3, persistent := true, card := false, lo := 1024, hi := 65535, default := .num 47310 }),
  -- IPV6_ADDR
  (⟨0x2900, 0x03⟩, { ty := .octets 16, access := .rwt, role := 3, persistent := true, card := false, default := .zero }),
  -- IPV6_PREFIX_LEN
  (⟨0x2900, 0x04⟩, { ty := .u 1, access := .rwt, role := 3, persistent := true, card := false, lo := 1, hi := 128, default := .num 64 }),
  -- IPV6_GATEWAY
  (⟨0x2900, 0x05⟩, { ty := .octets 16, access := .rwt, role := 3, persistent := true, card := false, default := .zero }),
  -- IPV4_ADDR
  (⟨0x2900, 0x06⟩, { ty := .octets 4, access := .rwt, role := 3, persistent := true, card := false, default := .zero }),
  -- IPV4_PREFIX_LEN
  (⟨0x2900, 0x07⟩, { ty := .u 1, access := .rwt, role := 3, persistent := true, card := false, lo := 8, hi := 30, default := .num 24 }),
  -- IPV4_GATEWAY
  (⟨0x2900, 0x08⟩, { ty := .octets 4, access := .rwt, role := 3, persistent := true, card := false, default := .zero }),
  -- VLAN_ID
  (⟨0x2900, 0x09⟩, { ty := .u 2, access := .rwt, role := 3, persistent := true, card := false, lo := 0, hi := 4094, default := .zero }),
  -- MAC_ADDRESS
  (⟨0x2900, 0x0A⟩, { ty := .octets 6, access := .ro, role := 1, persistent := true, card := false, default := .module }),
  -- LINK_STATE
  (⟨0x2900, 0x0B⟩, { ty := .u 1, access := .ro, role := 1, persistent := false, card := false, default := .zero }),
  -- SESSION_IDLE_S
  (⟨0x2900, 0x0E⟩, { ty := .u 2, access := .rwt, role := 3, persistent := true, card := false, lo := 10, hi := 3600, default := .num 120 })]

/-- More entries of index 0x2900. -/
def area2900part1 : List (OdKey × EntryDef) := [
  -- FRAMES_DISCARDED
  (⟨0x2900, 0x10⟩, { ty := .u 4, access := .ro, role := 1, persistent := false, card := false, default := .zero }),
  -- OPEN_FAIL_COUNT
  (⟨0x2900, 0x11⟩, { ty := .u 4, access := .ro, role := 1, persistent := true, card := false, default := .zero }),
  -- REPLAY_DISCARDS
  (⟨0x2900, 0x12⟩, { ty := .u 4, access := .ro, role := 1, persistent := false, card := false, default := .zero }),
  -- TIME_SOURCE
  (⟨0x2900, 0x20⟩, { ty := .u 1, access := .rwt, role := 3, persistent := true, card := false, lo := 0, hi := 5, default := .num 1 }),
  -- TIME_STATE
  (⟨0x2900, 0x21⟩, { ty := .u 1, access := .ro, role := 1, persistent := false, card := false, default := .zero }),
  -- TIME_OFFSET_NS
  (⟨0x2900, 0x22⟩, { ty := .i32, access := .ro, role := 1, persistent := false, card := false, default := .zero }),
  -- PTP_DOMAIN
  (⟨0x2900, 0x23⟩, { ty := .u 1, access := .rwt, role := 3, persistent := true, card := false, lo := 0, hi := 255, default := .zero }),
  -- HOLDOVER_LIMIT_S
  (⟨0x2900, 0x24⟩, { ty := .u 4, access := .rwt, role := 3, persistent := true, card := false, lo := 1, hi := 86400, default := .num 3600 }),
  -- PTP_GM_IDENTITY
  (⟨0x2900, 0x25⟩, { ty := .octets 8, access := .ro, role := 1, persistent := false, card := false, default := .zero }),
  -- TIME_SET
  (⟨0x2900, 0x26⟩, { ty := .time64, access := .wo, role := 3, persistent := false, card := false, default := .zero })]

/-- All entries of index 0x2900. -/
def area2900 : List (OdKey × EntryDef) :=
  area2900part0 ++ area2900part1

/-- Entries of index 0x2A00. -/
def area2A00 : List (OdKey × EntryDef) := [
  -- RECIPE_SIGNING_KEY_1 to _4
  (⟨0x2A00, 0x01⟩, { ty := .octets 1952, access := .rwt, role := 3, persistent := true, card := false, default := .zero }),
  -- RECIPE_SIGNING_KEY_1 to _4
  (⟨0x2A00, 0x02⟩, { ty := .octets 1952, access := .rwt, role := 3, persistent := true, card := false, default := .zero }),
  -- RECIPE_SIGNING_KEY_1 to _4
  (⟨0x2A00, 0x03⟩, { ty := .octets 1952, access := .rwt, role := 3, persistent := true, card := false, default := .zero }),
  -- RECIPE_SIGNING_KEY_1 to _4
  (⟨0x2A00, 0x04⟩, { ty := .octets 1952, access := .rwt, role := 3, persistent := true, card := false, default := .zero }),
  -- RECIPE_BUDGET_MAX
  (⟨0x2A00, 0x05⟩, { ty := .u 4, access := .rwt, role := 3, persistent := true, card := false, lo := 6400, hi := 4000000000, default := .num 50000000 }),
  -- RECIPE_RUN_DISABLE
  (⟨0x2A00, 0x06⟩, { ty := .bool, access := .rwt, role := 3, persistent := true, card := false, default := .zero }),
  -- RECIPE_SIGNER_DIGESTS
  (⟨0x2A00, 0x07⟩, { ty := .octets 128, access := .ro, role := 1, persistent := false, card := false, default := .zero }),
  -- RECIPES_LOADED
  (⟨0x2A00, 0x08⟩, { ty := .u 2, access := .ro, role := 1, persistent := false, card := false, default := .zero }),
  -- RECIPE_COUNTS
  (⟨0x2A00, 0x09⟩, { ty := .octets 48, access := .ro, role := 1, persistent := false, card := false, default := .zero })]

/-- Entries of index 0x5100. -/
def area5100 : List (OdKey × EntryDef) := [
  -- CLOVE_COMMANDS
  (⟨0x5100, 0x01⟩, { ty := .octets 576, access := .ro, role := 1, persistent := false, card := false, default := .zero }),
  -- CLOVE_HANDSHAKES
  (⟨0x5100, 0x02⟩, { ty := .octets 576, access := .ro, role := 1, persistent := false, card := false, default := .zero }),
  -- CLOVE_REGION_WAITS
  (⟨0x5100, 0x03⟩, { ty := .u 8, access := .ro, role := 1, persistent := false, card := false, default := .zero }),
  -- CLOVE_RETRIES
  (⟨0x5100, 0x04⟩, { ty := .u 8, access := .ro, role := 1, persistent := false, card := false, default := .zero }),
  -- CLOVE_ZEROISE_MAX_NS
  (⟨0x5100, 0x05⟩, { ty := .u 4, access := .ro, role := 1, persistent := false, card := false, default := .zero }),
  -- CLOVE_STAGED
  (⟨0x5100, 0x06⟩, { ty := .octets 72, access := .ro, role := 1, persistent := false, card := false, default := .zero }),
  -- CLOVE_COMMAND_REFUSALS
  (⟨0x5100, 0x07⟩, { ty := .octets 24, access := .ro, role := 1, persistent := false, card := false, default := .zero })]

/-- The entries of an index; the instance record area repeats one set, the credentials one
definition (R99, R125, R160). -/
def areaOf (index : BitVec 16) : List (OdKey × EntryDef) :=
  let i := index.toNat
  if 0x1800 ≤ i ∧ i ≤ 0x1BFF then area1800.map fun p => (⟨index, p.1.sub⟩, p.2)
  else if i = 0x1010 then
    (List.range 64).flatMap fun n => area1010.map fun p => (⟨index, BitVec.ofNat 8 (n + 1)⟩, p.2)
  else if i = 0x1000 then area1000
  else if i = 0x1001 then area1001
  else if i = 0x1002 then area1002
  else if i = 0x1100 then area1100
  else if i = 0x1200 then area1200
  else if i = 0x1300 then area1300
  else if i = 0x1400 then area1400
  else if i = 0x1F00 then area1F00
  else if i = 0x2000 then area2000
  else if i = 0x2100 then area2100
  else if i = 0x2200 then area2200
  else if i = 0x2300 then area2300
  else if i = 0x2400 then area2400
  else if i = 0x2500 then area2500
  else if i = 0x2600 then area2600
  else if i = 0x2700 then area2700
  else if i = 0x2800 then area2800
  else if i = 0x2900 then area2900
  else if i = 0x2A00 then area2A00
  else if i = 0x5100 then area5100
  else []

/-- The indices that hold entries, rising. -/
def areaIndices : List Nat :=
  [0x1000, 0x1001, 0x1002, 0x1010, 0x1100, 0x1200, 0x1300, 0x1400] ++
  (List.range 1024).map (0x1800 + ·) ++
  [0x1F00, 0x2000, 0x2100, 0x2200, 0x2300, 0x2400, 0x2500, 0x2600, 0x2700, 0x2800, 0x2900, 0x2A00, 0x5100]

/-- The definition at a key, if an entry stands there (R99). -/
def entryDef (k : OdKey) : Option EntryDef := ((areaOf k.index).find? (·.1 == k)).map (·.2)

end Sys2Proof.Machine
end

