-- ==== Sys2Proof/Machine/Recorder.lean ====
section
/-! DEFINITION. The event recorder's arrival side: how a record is raised and takes its place in the
log buffer (R500 to R507), and the refusals of R123 that it counts. -/

namespace Sys2Proof.Machine

open Sys2Proof

/-- The event codes of Table - Event codes and of Table - Card events (R503, R514 on). -/
inductive EventCode where
  | powerFail | powerRestored | holdupShortened | holdupLow | tamperLatched | tamperAcknowledged
  | tamperLoopChange | coinCellLow | thermalPause | lcTransition | lcRefused | lcCopyFault
  | lcIntentAbandoned | debugAuthorised | debugRefused | factoryCredMismatch
  | startComplete | katFail | firmwareSlotFail | firmwareInvalid | entropyStartFail
  | archiveRollback | restartRequested
  | openFailed | credentialBlocked | txnTimeout | stateConflict | timeFreeRun
  | ringError | cqWait | instanceDestroyed | recipeDropped | digestWindowFreed
  | tierVFull | updateRefused | ladderFault | statefulReady | leavesSkipped | ctxExpired
  | sourceDropped | poolStopped | poolRestarted | capGated
  | faultCorrected | faultOpen | faultDisposed | faultEscalated | sparePromoted
  | capacityReduced | wearWarning | fatal | otpDecode | logCleared | logCheckFail
  | cardVddOvercurrent | cardInserted | cardIdentified | cardRefused | cardRemoved
  | cardVoltageFallback | cardOpDone | cardOpFailed | cardApproval | backupSuspended
  | restoreApplied | restoreIncomplete | firmwareRecovered
  deriving DecidableEq, Repr

/-- CODE of an event. -/
def EventCode.code : EventCode → Nat
  | .powerFail => 0x0101 | .powerRestored => 0x0102 | .holdupShortened => 0x0103
  | .holdupLow => 0x0104 | .tamperLatched => 0x0105 | .tamperAcknowledged => 0x0106
  | .tamperLoopChange => 0x0107 | .coinCellLow => 0x0108 | .thermalPause => 0x0109
  | .lcTransition => 0x0110 | .lcRefused => 0x0111 | .lcCopyFault => 0x0112
  | .lcIntentAbandoned => 0x0113 | .debugAuthorised => 0x0114 | .debugRefused => 0x0115
  | .factoryCredMismatch => 0x0116 | .startComplete => 0x0201 | .katFail => 0x0202
  | .firmwareSlotFail => 0x0203 | .firmwareInvalid => 0x0204 | .entropyStartFail => 0x0205
  | .archiveRollback => 0x0206 | .restartRequested => 0x0207 | .openFailed => 0x0301
  | .credentialBlocked => 0x0302 | .txnTimeout => 0x0303 | .stateConflict => 0x0304
  | .timeFreeRun => 0x0305 | .ringError => 0x0401 | .cqWait => 0x0402
  | .instanceDestroyed => 0x0403 | .recipeDropped => 0x0404 | .digestWindowFreed => 0x0405
  | .tierVFull => 0x0501 | .updateRefused => 0x0601 | .ladderFault => 0x0602
  | .statefulReady => 0x0701 | .leavesSkipped => 0x0702 | .ctxExpired => 0x0703
  | .sourceDropped => 0x0801 | .poolStopped => 0x0802 | .poolRestarted => 0x0803
  | .capGated => 0x0901 | .faultCorrected => 0x0A01 | .faultOpen => 0x0A02
  | .faultDisposed => 0x0A03 | .faultEscalated => 0x0A04 | .sparePromoted => 0x0A05
  | .capacityReduced => 0x0A06 | .wearWarning => 0x0A07 | .fatal => 0x0A08
  | .otpDecode => 0x0A09 | .logCleared => 0x0B01 | .logCheckFail => 0x0B02
  | .cardVddOvercurrent => 0x0C01 | .cardInserted => 0x0C02 | .cardIdentified => 0x0C03
  | .cardRefused => 0x0C04 | .cardRemoved => 0x0C05 | .cardVoltageFallback => 0x0C06
  | .cardOpDone => 0x0C07 | .cardOpFailed => 0x0C08 | .cardApproval => 0x0C09
  | .backupSuspended => 0x0C0A | .restoreApplied => 0x0C0B | .restoreIncomplete => 0x0C0C
  | .firmwareRecovered => 0x0C0D

/-- Severity of an event (Table - Event codes, Table - Card events); those of FAULT_OPEN and FATAL
follow the fault source and are given at the event. -/
def EventCode.severity : EventCode → Nat
  | .stateConflict | .startComplete | .digestWindowFreed | .statefulReady | .ctxExpired
  | .cardInserted | .cardIdentified => 0
  | .powerRestored | .holdupShortened | .tamperLoopChange | .lcIntentAbandoned
  | .restartRequested | .openFailed | .txnTimeout | .instanceDestroyed | .recipeDropped
  | .leavesSkipped | .sourceDropped | .poolRestarted | .capGated | .faultCorrected
  | .faultDisposed | .faultEscalated | .sparePromoted | .wearWarning | .cardRemoved
  | .cardOpDone | .cardApproval => 1
  | .powerFail | .holdupLow | .coinCellLow | .lcRefused | .debugRefused | .katFail
  | .firmwareSlotFail | .credentialBlocked | .timeFreeRun | .ringError | .cqWait | .tierVFull
  | .updateRefused | .faultOpen | .capacityReduced | .logCheckFail | .cardVddOvercurrent
  | .cardRefused | .cardVoltageFallback | .cardOpFailed | .backupSuspended => 2
  | .thermalPause | .lcCopyFault | .factoryCredMismatch | .poolStopped => 3
  | .firmwareInvalid | .entropyStartFail | .ladderFault | .fatal | .otpDecode
  | .restoreIncomplete => 4
  | .tamperLatched | .tamperAcknowledged | .lcTransition | .debugAuthorised | .archiveRollback
  | .logCleared | .restoreApplied | .firmwareRecovered => 5

/-- A record is dropped: it is counted and takes no SEQ (R506). -/
def State.dropRecord (s : State) : State :=
  { s.bump 0x270004 0 1 with log := { s.log with droppedNow := s.log.droppedNow + 1 } }

/-- The record a new one of a severity is written over, where the log is full: the oldest of that
severity or lower that is no ALERT and that no waiting record has been given (R506). -/
def Recorder.victim (r : Recorder) (severity : Nat) : Option Nat :=
  (r.log.find? fun e =>
    decide (e.severity ≤ severity) && e.severity != 5 &&
      r.buffer.all fun w => w.victim != some e.seq).map (·.seq)

/-- Whether the log is full, the records waiting in the buffer counted (R506). -/
def Recorder.full (r : Recorder) : Bool :=
  decide (32768 ≤ r.log.length + (r.buffer.filter fun e => e.victim.isNone).length)

/-- Whether the buffer has a place for a record: sixty-four of the 1,024 serve only records of
WARNING and above (R505). -/
def Recorder.hasPlace (r : Recorder) (severity : Nat) : Bool :=
  decide (r.buffer.length < (if severity < 2 then 960 else 1024))

/-- TIME and FLAGS of a record raised now (R502): device time, or uptime while there is none. -/
def State.eventTime (s : State) : BitVec 64 × BitVec 16 :=
  match s.clk.devTime with
  | some t => (BitVec.ofNat 64 t, if s.clk.timeState = 2 then 0 else 1)
  | none => (BitVec.ofNat 64 s.uptime, 3)

/-- A record arrives at the warden's log buffer: it takes a place and the next SEQ, or is dropped
(R501, R505, R506). -/
def State.raise (s : State) (c : EventCode) (severity inst : Nat) (detail : Bytes) : State :=
  let t := s.eventTime
  if !s.log.hasPlace severity then s.dropRecord
  else
    let accept (victim : Option Nat) : State :=
      { s with
        warden := { s.warden with nextSeq := s.warden.nextSeq + 1, lostRecords := 0 }
        log := { s.log with
          droppedNow := 0
          buffer := s.log.buffer ++ [{
            seq := s.warden.nextSeq, time := t.1, severity := severity
            code := BitVec.ofNat 16 c.code, inst := inst
            dropped := min 65535 (s.log.droppedNow + s.warden.lostRecords)
            flags := t.2, detail := fit 24 detail, victim := victim }] } }
    if s.log.full then
      match s.log.victim severity with
      | some v => accept (some v)
      | none => s.dropRecord
    else accept none

/-- A device-wide event of its code's own severity. -/
def State.event (s : State) (c : EventCode) (detail : Bytes) : State :=
  s.raise c c.severity 0xFFFF detail

/-- An event about an instance. -/
def State.eventOf (s : State) (c : EventCode) (inst : Nat) (detail : Bytes) : State :=
  s.raise c c.severity inst detail

/-- A refusal in the present state (R123): counted, with one INFO event a second for each source
that carries the refusals made since its last one. `kind` is 0 session, 1 mailbox, 2 job path;
`who` is the identity field of the event (R504). -/
def State.conflict (s : State) (kind ident inst : Nat) (who : Bytes) : State :=
  let s := s.bump 0x100106 0 1
  let isSrc (c : ConflictSource) : Bool := c.kind == kind && c.ident == ident
  let old := (s.log.conflicts.find? isSrc).getD { kind := kind, ident := ident }
  let others := s.log.conflicts.filter fun c => !isSrc c
  let due : Bool := match old.lastEvent with
    | none => true
    | some t => decide (t + 1000000000 ≤ s.now)
  if due then
    let s := { s with log := { s.log with
      conflicts := others ++ [{ old with lastEvent := some s.now, uncounted := 0 }] } }
    s.eventOf .stateConflict inst (le 4 old.uncounted ++ le 1 kind ++ who)
  else
    { s with log := { s.log with
      conflicts := others ++ [{ old with uncounted := old.uncounted + 1 }] } }

end Sys2Proof.Machine
end

