-- ==== Sys2Proof/Machine/Hashes.lean ====
section
/-! DEFINITION. The hash functions and the codes over them that the chapters name by their
standards: Keccak, SHA-3 and SHAKE (FIPS 202), KMAC (SP 800-185), SHA-2 (FIPS 180-4), HMAC
(FIPS 198-1) and CRC-32C (log entry 9). -/

namespace Sys2Proof.Machine

open Sys2Proof

/-! ### Keccak -/

/-- One step of the round-constant register of FIPS 202: bit 0 out, taps 0x171. -/
def lfsrStep (r : Nat) : Nat :=
  let t := 2 * r
  if t ≥ 256 then (t - 256) ^^^ 0x71 else t

/-- The round-constant bit `rc(t)`. -/
def rcBit (t : Nat) : Bool := bit ((List.range (t % 255)).foldl (fun r _ => lfsrStep r) 1) 0

/-- The constant of round `i`. -/
def roundConstant (i : Nat) : BitVec 64 :=
  (List.range 7).foldl
    (fun acc j => if rcBit (j + 7 * i) then acc ||| (BitVec.ofNat 64 (2 ^ (2 ^ j - 1))) else acc) 0

/-- The walk of the rho offsets: position after `t` steps from (1, 0), and the offset there. -/
def rhoWalk : Nat → Nat → Nat → Nat → List (Nat × Nat)
  | 0, _, _, _ => []
  | n + 1, t, x, y =>
    (x + 5 * y, (t + 1) * (t + 2) / 2 % 64) :: rhoWalk n (t + 1) y ((2 * x + 3 * y) % 5)

/-- The rotation of lane `i` (x + 5 y). -/
def rhoOffset (i : Nat) : Nat := num i ((0, 0) :: rhoWalk 24 0 1 0)

/-- The lanes of a Keccak state. -/
abbrev Lanes := List (BitVec 64)

/-- Theta. -/
def theta (a : Lanes) : Lanes :=
  let c := (List.range 5).map fun x =>
    (List.range 5).foldl (fun acc y => acc ^^^ a.getD (x + 5 * y) 0) 0#64
  let d := (List.range 5).map fun x =>
    c.getD ((x + 4) % 5) 0 ^^^ (c.getD ((x + 1) % 5) 0).rotateLeft 1
  (List.range 25).map fun i => a.getD i 0 ^^^ d.getD (i % 5) 0

/-- Rho and pi together: the lane now at (x, y) comes from ((x + 3 y) mod 5, x). -/
def rhoPi (a : Lanes) : Lanes :=
  (List.range 25).map fun i =>
    let x := i % 5
    let y := i / 5
    let src := (x + 3 * y) % 5 + 5 * x
    (a.getD src 0).rotateLeft (rhoOffset src)

/-- Chi. -/
def chi (a : Lanes) : Lanes :=
  (List.range 25).map fun i =>
    let x := i % 5
    let y := 5 * (i / 5)
    a.getD i 0 ^^^ (~~~(a.getD ((x + 1) % 5 + y) 0) &&& a.getD ((x + 2) % 5 + y) 0)

/-- One round. -/
def keccakRound (a : Lanes) (i : Nat) : Lanes :=
  (chi (rhoPi (theta a))).modify 0 (· ^^^ roundConstant i)

/-- The permutation Keccak-f[1600]. -/
@[irreducible] def keccakF (a : Lanes) : Lanes := (List.range 24).foldl keccakRound a

/-- The lanes of 200 bytes. -/
def toLanes (b : Bytes) : Lanes := (List.range 25).map fun i => BitVec.ofNat 64 (ofLe (slice (8 * i) 8 b))

/-- The 200 bytes of the lanes. -/
def ofLanes (a : Lanes) : Bytes := (List.range 25).flatMap fun i => le 8 (a.getD i 0).toNat

/-- The permutation on 200 bytes. -/
def keccakBytes (b : Bytes) : Bytes := ofLanes (keccakF (toLanes b))

/-- Absorbing whole blocks of `rate` bytes. -/
def absorbBlocks (rate : Nat) : Nat → Bytes → Bytes → Bytes
  | 0, _, st => st
  | n + 1, m, st =>
    absorbBlocks rate n (m.drop rate)
      (keccakBytes (xorBytes (fit 200 (m.take rate)) st))

/-- Squeezing `n` blocks of `rate` bytes. -/
def squeeze (rate : Nat) : Nat → Bytes → Bytes
  | 0, _ => []
  | n + 1, st => st.take rate ++ squeeze rate n (keccakBytes st)

/-- The padding of FIPS 202 with the domain bits in the low bits of `dom`. -/
def keccakPad (rate dom : Nat) (m : Bytes) : Bytes :=
  let z := rate - 1 - m.length % rate
  if z = 0 then m ++ [BitVec.ofNat 8 (dom + 128)]
  else m ++ [BitVec.ofNat 8 dom] ++ zeros (z - 1) ++ [0x80]

/-- The sponge: `out` bytes of the function with the given rate and domain bits. -/
@[irreducible] def sponge (rate dom : Nat) (m : Bytes) (out : Nat) : Bytes :=
  let p := keccakPad rate dom m
  let st := absorbBlocks rate (p.length / rate) p (zeros 200)
  (squeeze rate (ceilDiv out rate) st).take out

/-- SHA3-256, used all over the chapters. -/
def sha3_256 (m : Bytes) : Bytes := sponge 136 0x06 m 32

/-- SHAKE128 and SHAKE256. -/
def shake128 (m : Bytes) (n : Nat) : Bytes := sponge 168 0x1F m n
/-- SHAKE256. -/
def shake256 (m : Bytes) (n : Nat) : Bytes := sponge 136 0x1F m n

/-- The bytes of a number, most significant first, at least one (SP 800-185). -/
def minBe (v : Nat) : Bytes :=
  match (List.range 8).find? fun n => v < 256 ^ (n + 1) with
  | some n => be (n + 1) v
  | none => be 8 v

/-- left_encode of SP 800-185. -/
def leftEncode (v : Nat) : Bytes := BitVec.ofNat 8 (minBe v).length :: minBe v

/-- right_encode of SP 800-185. -/
def rightEncode (v : Nat) : Bytes := minBe v ++ [BitVec.ofNat 8 (minBe v).length]

/-- encode_string of SP 800-185. -/
def encodeString (b : Bytes) : Bytes := leftEncode (8 * b.length) ++ b

/-- bytepad of SP 800-185. -/
def bytePad (w : Nat) (b : Bytes) : Bytes :=
  let z := leftEncode w ++ b
  z ++ zeros (roundUp z.length w - z.length)

/-- cSHAKE with function name KMAC, over the KMAC input; `xof` encodes a length of 0. -/
def kmac (rate : Nat) (key msg cust : Bytes) (out : Nat) (xof : Bool) : Bytes :=
  let x := bytePad rate (encodeString key) ++ msg ++ rightEncode (if xof then 0 else 8 * out)
  sponge rate 0x04 (bytePad rate (encodeString (ascii "KMAC") ++ encodeString cust) ++ x) out

/-- KMAC128. -/
def kmac128 (key msg cust : Bytes) (out : Nat) : Bytes := kmac 168 key msg cust out false

/-- KMAC256. -/
def kmac256 (key msg cust : Bytes) (out : Nat) : Bytes := kmac 136 key msg cust out false

/-! ### SHA-2 -/

/-- Whether a number below 410 is prime, by division. -/
def isPrime (n : Nat) : Bool :=
  2 ≤ n && (List.range 21).all fun d => d < 2 || d * d > n || n % d != 0

/-- The first 80 primes. -/
def primes80 : List Nat := ((List.range 410).filter isPrime).take 80

/-- The largest `r` below `2 ^ k` with `r ^ e ≤ x`, bit by bit. -/
def rootBits (e x : Nat) : Nat → Nat → Nat
  | 0, r => r
  | k + 1, r => rootBits e x k (if (r + 2 ^ k) ^ e ≤ x then r + 2 ^ k else r)

/-- The first `w` bits of the fractional part of the `e`-th root of `p`. -/
def rootFraction (e w p : Nat) : Nat := rootBits e (p * 2 ^ (e * w)) (w + 6) 0 % 2 ^ w

/-- The round constants: cube roots of the primes (FIPS 180-4). -/
def shaK (w : Nat) : List Nat := (primes80.take (if w = 32 then 64 else 80)).map (rootFraction 3 w)

/-- The starting value of SHA-256 and SHA-512: square roots of the first eight primes. -/
def shaIv (w : Nat) : List Nat := (primes80.take 8).map (rootFraction 2 w)

/-- The starting value of SHA-384: square roots of the ninth to sixteenth primes; of SHA-224, the
low halves of the same. -/
def shaIv384 : List Nat := ((primes80.drop 8).take 8).map (rootFraction 2 64)

/-- Rotation right of a `w`-bit number. -/
def rotr (w n x : Nat) : Nat := (x / 2 ^ n + x % 2 ^ n * 2 ^ (w - n)) % 2 ^ w

/-- The rotations of the four sigma functions, by word size. -/
def shaRot (w : Nat) : (Nat × Nat × Nat) × (Nat × Nat × Nat) × (Nat × Nat × Nat) × (Nat × Nat × Nat) :=
  if w = 32 then ((2, 13, 22), (6, 11, 25), (7, 18, 3), (17, 19, 10))
  else ((28, 34, 39), (14, 18, 41), (1, 8, 7), (19, 61, 6))

/-- A large sigma: three rotations. -/
def bigSigma (w : Nat) (r : Nat × Nat × Nat) (x : Nat) : Nat :=
  rotr w r.1 x ^^^ rotr w r.2.1 x ^^^ rotr w r.2.2 x

/-- A small sigma: two rotations and a shift. -/
def smallSigma (w : Nat) (r : Nat × Nat × Nat) (x : Nat) : Nat :=
  rotr w r.1 x ^^^ rotr w r.2.1 x ^^^ (x / 2 ^ r.2.2)

/-- The message schedule, newest word first. -/
def shaSchedule (w : Nat) : Nat → List Nat → List Nat
  | 0, ws => ws
  | n + 1, ws =>
    let (_, _, s0, s1) := shaRot w
    let x := (smallSigma w s1 (ws.getD 1 0) + ws.getD 6 0 + smallSigma w s0 (ws.getD 14 0)
      + ws.getD 15 0) % 2 ^ w
    shaSchedule w n (x :: ws)

/-- One round on the eight working variables. -/
def shaRound (w : Nat) (v : List Nat) (kw : Nat × Nat) : List Nat :=
  let (b0, b1, _, _) := shaRot w
  match v with
  | [a, b, c, d, e, f, g, h] =>
    let ch := (e &&& f) ^^^ ((2 ^ w - 1 - e) &&& g)
    let t1 := h + bigSigma w b1 e + ch + kw.1 + kw.2
    let mj := (a &&& b) ^^^ (a &&& c) ^^^ (b &&& c)
    let t2 := bigSigma w b0 a + mj
    [(t1 + t2) % 2 ^ w, a, b, c, (d + t1) % 2 ^ w, e, f, g]
  | _ => v

/-- The compression of one block of 16 words into the chaining value. -/
@[irreducible] def shaCompress (w : Nat) (h : List Nat) (block : Bytes) : List Nat :=
  let ws := (List.range 16).map fun i => ofBe (slice (w / 8 * i) (w / 8) block)
  let n := if w = 32 then 48 else 64
  let sched := (shaSchedule w n ws.reverse).reverse
  let v := ((shaK w).zip sched).foldl (shaRound w) h
  List.zipWith (fun a b => (a + b) % 2 ^ w) h v

/-- Compressing whole blocks. -/
def shaBlocks (w : Nat) : Nat → List Nat → Bytes → List Nat
  | 0, h, _ => h
  | n + 1, h, m => shaBlocks w n (shaCompress w h (m.take (w * 2))) (m.drop (w * 2))

/-- The padding of FIPS 180-4 for word size `w`. -/
def shaPad (w : Nat) (m : Bytes) : Bytes :=
  let blk := 2 * w
  let lf := w / 4
  let z := (blk - (m.length + 1 + lf) % blk) % blk
  m ++ [0x80] ++ zeros z ++ be lf (8 * m.length)

/-- SHA-2 with word size `w` from a starting value. -/
@[irreducible] def sha2 (w : Nat) (iv : List Nat) (m : Bytes) : Bytes :=
  let p := shaPad w m
  (shaBlocks w (p.length / (2 * w)) iv p).flatMap (be (w / 8))

/-- SHA-256. -/
def sha256 (m : Bytes) : Bytes := sha2 32 (shaIv 32) m
/-- SHA-384. -/
def sha384 (m : Bytes) : Bytes := (sha2 64 shaIv384 m).take 48
/-- SHA-512. -/
def sha512 (m : Bytes) : Bytes := sha2 64 (shaIv 64) m

/-- The starting value of SHA-512/t. -/
def shaIvT (name : String) : List Nat :=
  let d := sha2 64 ((shaIv 64).map (· ^^^ 0xA5A5A5A5A5A5A5A5)) (ascii name)
  (List.range 8).map fun i => ofBe (slice (8 * i) 8 d)

/-- Block bytes and digest bytes of a function of Table - Hash functions (R282); a digest length of
0 stands for the XOF's. -/
def hashSizes : Nat → Nat × Nat
  | 1 => (64, 28) | 2 => (64, 32) | 3 => (128, 48) | 4 => (128, 64) | 5 => (128, 28)
  | 6 => (128, 32) | 7 => (144, 28) | 8 => (136, 32) | 9 => (104, 48) | 10 => (72, 64)
  | 11 => (168, 0) | 12 => (136, 0) | _ => (0, 0)

/-- The hash function of a SET (R282): `n` is the output length of SHAKE. -/
def hashOf (set : Nat) (m : Bytes) (n : Nat) : Bytes :=
  match set with
  | 1 => (sha2 32 (shaIv384.map (· % 2 ^ 32)) m).take 28
  | 2 => sha256 m
  | 3 => sha384 m
  | 4 => sha512 m
  | 5 => (sha2 64 (shaIvT "SHA-512/224") m).take 28
  | 6 => (sha2 64 (shaIvT "SHA-512/256") m).take 32
  | 7 => sponge 144 0x06 m 28
  | 8 => sha3_256 m
  | 9 => sponge 104 0x06 m 48
  | 10 => sponge 72 0x06 m 64
  | 11 => shake128 m n
  | 12 => shake256 m n
  | _ => []

/-- HMAC over the function of a SET. -/
def hmacOf (set : Nat) (key m : Bytes) : Bytes :=
  let b := (hashSizes set).1
  let k := fit b (if key.length > b then hashOf set key 0 else key)
  hashOf set (k.map (· ^^^ 0x5C) ++ hashOf set (k.map (· ^^^ 0x36) ++ m) 0) 0

/-! ### CRC-32C -/

/-- One bit of the reflected Castagnoli division (R508). -/
def crcStep (c : Nat) : Nat := if c % 2 = 1 then c / 2 ^^^ 0x82F63B78 else c / 2

/-- One byte into the register. -/
def crcByte (c : Nat) (b : Byte) : Nat := (List.range 8).foldl (fun x _ => crcStep x) (c ^^^ b.toNat)

/-- CRC-32C: polynomial 0x1EDC6F41 reflected, all ones before and after (R508). -/
def crc32c (m : Bytes) : BitVec 32 :=
  BitVec.ofNat 32 (m.foldl crcByte 0xFFFFFFFF ^^^ 0xFFFFFFFF)

end Sys2Proof.Machine
end

