-- ==== Sys2Proof/Machine/Schemes.lean ====
section
/-! DEFINITION. The public-key schemes as the block calls them: the sizes of their objects, the messages
their standards sign, and the calls of the algorithms the model leaves opaque (R220, R222, R231, R232, R264,
R267, R299, R301, R315, R322, R328, R333; log entry 8). -/

namespace Sys2Proof.Machine

open Sys2Proof

/-! ### Sizes -/

/-- Sizes of a KEM: public key, private part as held, ciphertext, shared secret. -/
structure KemSizes where
  pk : Nat
  sk : Nat
  ct : Nat
  ss : Nat

/-- Sizes of a KEM's objects (Table - Lattice object sizes, Table - Code-based sets, Table - Hybrid sets);
a hybrid private part is the post-quantum part, then the classical one (R333). -/
def kemSizes (fam set : Nat) : KemSizes :=
  match fam, set with
  | 1, 1 => ⟨800, 1632, 768, 32⟩
  | 1, 2 => ⟨1184, 2400, 1088, 32⟩
  | 1, _ => ⟨1568, 3168, 1568, 32⟩
  | 6, 1 => ⟨2249, 2289, 4433, 64⟩
  | 6, 2 => ⟨4522, 4562, 8978, 64⟩
  | 6, _ => ⟨7245, 7285, 14421, 64⟩
  | 7, 1 => ⟨261120, 6492, 96, 32⟩
  | 7, 2 => ⟨524160, 13608, 156, 32⟩
  | 7, 3 => ⟨1044992, 13932, 208, 32⟩
  | 7, 4 => ⟨1047319, 13948, 194, 32⟩
  | 7, _ => ⟨1357824, 14120, 208, 32⟩
  | _, 8 => ⟨1216, 2432, 1120, 32⟩
  | _, _ => ⟨1665, 3216, 1665, 32⟩

/-- Sizes of a signature scheme: public key, private part as held, signature. -/
structure SigSizes where
  pk : Nat
  sk : Nat
  sig : Nat

/-- Modulus length of an RSA set (R328). -/
def rsaK (set : Nat) : Nat := 128 * (set + 1)

/-- Sizes of a signature scheme's objects (Table - Lattice object sizes, Table - SLH-DSA sets, Table -
Elliptic-curve sets, R328, Table - Hybrid sets). -/
def sigSizes (fam set : Nat) : SigSizes :=
  match fam, set with
  | 2, 1 => ⟨1312, 2560, 2420⟩
  | 2, 2 => ⟨1952, 4032, 3309⟩
  | 2, _ => ⟨2592, 4896, 4627⟩
  | 3, 1 => ⟨897, 1281, 666⟩
  | 3, _ => ⟨1793, 2305, 1280⟩
  | 4, 1 | 4, 7 => ⟨32, 64, 7856⟩
  | 4, 2 | 4, 8 => ⟨32, 64, 17088⟩
  | 4, 3 | 4, 9 => ⟨48, 96, 16224⟩
  | 4, 4 | 4, 10 => ⟨48, 96, 35664⟩
  | 4, 5 | 4, 11 => ⟨64, 128, 29792⟩
  | 4, _ => ⟨64, 128, 49856⟩
  | 8, 1 => ⟨65, 32, 64⟩
  | 8, 2 => ⟨97, 48, 96⟩
  | 8, 3 => ⟨133, 66, 132⟩
  | 8, 4 => ⟨32, 32, 64⟩
  | 8, 5 => ⟨57, 57, 114⟩
  | 8, 6 => ⟨32, 32, 0⟩
  | 8, _ => ⟨56, 56, 0⟩
  | 9, n => ⟨rsaK n + 4, match n with | 1 => 900 | 2 => 1348 | _ => 1796, rsaK n⟩
  | _, 10 => ⟨2017, 4064, 3373⟩
  | _, _ => ⟨2689, 4944, 4723⟩

/-- Length of an elliptic-curve shared secret (Table - Elliptic-curve sets). -/
def agreeLen (set : Nat) : Nat :=
  match set with
  | 1 => 32 | 2 => 48 | 3 => 66 | 6 => 32 | _ => 56

/-- Digest length of a pre-hash function (Table - Pre-hash functions). -/
def phLen : Nat → Nat
  | 1 => 32 | 2 => 48 | 3 => 64 | 4 => 32 | 5 => 48 | 6 => 64 | 7 => 32 | 8 => 64 | _ => 0

/-- A pre-hash function's digest. -/
def phHash (alg : Nat) (m : Bytes) : Bytes :=
  match alg with
  | 1 => sha256 m
  | 2 => sha384 m
  | 3 => sha512 m
  | 4 => hashOf 8 m 32
  | 5 => hashOf 9 m 48
  | 6 => hashOf 10 m 64
  | 7 => shake128 m 32
  | _ => shake256 m 64

/-! ### Messages -/

/-- The DER object identifier of a pre-hash function, as FIPS 204 and FIPS 205 write it. -/
def phOid (alg : Nat) : Bytes :=
  [0x06#8, 0x09#8, 0x60#8, 0x86#8, 0x48#8, 0x01#8, 0x65#8, 0x03#8, 0x04#8, 0x02#8,
    BitVec.ofNat 8 (if alg ≤ 3 then alg else alg + 4)]

/-- The message representative of pure signing with a context (FIPS 204, FIPS 205). -/
def pureMsg (ctx m : Bytes) : Bytes := [0x00#8, BitVec.ofNat 8 ctx.length] ++ ctx ++ m

/-- The message representative of pre-hash signing with a context (FIPS 204, FIPS 205). -/
def hashMsg (ctx : Bytes) (alg : Nat) (digest : Bytes) : Bytes :=
  [0x01#8, BitVec.ofNat 8 ctx.length] ++ ctx ++ phOid alg ++ digest

/-! ### Key pairs and signatures -/

/-- A key pair of a signature scheme. -/
structure KeyPair where
  pk : Bytes
  sk : Bytes

/-- The key pair in an opaque key generation's output: the public key, then the private part as held. -/
def pairOf (pk sk : Nat) (b : Bytes) : KeyPair := ⟨fit pk b, fit sk (b.drop pk)⟩

/-- The ML-DSA key pair of a seed. -/
def mldsaPair (set : Nat) (seed : Bytes) : KeyPair :=
  pairOf (sigSizes 2 set).pk (sigSizes 2 set).sk (Config.algorithm (.mldsaKeyGen set) [seed])

/-- An ML-DSA signature of a message representative. -/
def mldsaSig (set : Nat) (sk m rnd : Bytes) : Bytes :=
  fit (sigSizes 2 set).sig (Config.algorithm (.mldsaSign set) [sk, m, rnd])

/-- An ML-DSA signature of a message representative verifies. -/
def mldsaOk (set : Nat) (pk m sig : Bytes) : Bool := Config.check (.mldsaVerify set) [pk, m, sig]

/-- The elliptic-curve key pair of random bytes. -/
def ecPair (set : Nat) (seed : Bytes) : KeyPair :=
  pairOf (sigSizes 8 set).pk (sigSizes 8 set).sk (Config.algorithm (.ecKeyGen set) [seed])

/-- An ECDSA signature of a digest, with the bytes k is drawn from. -/
def ecdsaSig (set : Nat) (sk digest rnd : Bytes) : Bytes :=
  fit (sigSizes 8 set).sig (Config.algorithm (.ecSign set) [sk, digest, rnd])

/-- An ECDSA signature of a digest verifies (R326). -/
def ecdsaOk (set : Nat) (pk digest sig : Bytes) : Bool := Config.check (.ecVerify set) [pk, digest, sig]

/-- A shared secret of an elliptic curve. -/
def ecShared (set : Nat) (sk pk : Bytes) : Bytes :=
  fit (agreeLen set) (Config.algorithm (.ecAgree set) [sk, pk])

/-! ### Keys that encapsulate -/

/-- What an encapsulation yields. -/
structure Encaps where
  ct : Bytes
  ss : Bytes

/-- The ML-KEM key pair of d and z. -/
def mlkemPair (set : Nat) (dz : Bytes) : KeyPair :=
  pairOf (kemSizes 1 set).pk (kemSizes 1 set).sk (Config.algorithm (.mlkemKeyGen set) [dz])

/-- An ML-KEM encapsulation of a message m. -/
def mlkemEncapsulate (set : Nat) (ek m : Bytes) : Encaps :=
  let z := kemSizes 1 set
  let b := Config.algorithm (.mlkemEncaps set) [ek, m]
  ⟨fit z.ct b, fit z.ss (b.drop z.ct)⟩

/-- An ML-KEM decapsulation, with the implicit rejection of FIPS 203 (R229). -/
def mlkemShared (set : Nat) (dk ct : Bytes) : Bytes :=
  fit (kemSizes 1 set).ss (Config.algorithm (.mlkemDecaps set) [dk, ct])

end Sys2Proof.Machine
end

