-- ==== Sys2Proof/Machine/Roots.lean ====
section
/-! DEFINITION. The life-cycle words, the root in use and the keys the ladder derives from it
(R384 to R388, R453 to R459). -/

namespace Sys2Proof.Machine

open Sys2Proof

/-- The leading 0xFF bytes of a state copy, of `n` bytes still to read (R457). -/
def leadingOnes : Nat → Nat → Nat
  | 0, _ => 0
  | n + 1, w => if w % 256 = 255 then leadingOnes n (w / 256) + 1 else 0

/-- Value of a state copy (R457). -/
def copyValue (w : BitVec 64) : Nat := leadingOnes 8 w.toNat

/-- A copy that holds a 0xFF byte after a byte that is not 0xFF (R458). -/
def copyBroken (w : BitVec 64) : Bool :=
  let v := copyValue w
  (List.range 8).any fun i => v < i && bits w.toNat (8 * i + 7) (8 * i) == 255

/-- What an intent slot holds (R459). -/
inductive SlotContent where
  | unused | closed | written (target : Nat) | interrupted
  deriving DecidableEq, Repr

/-- A valid copy of an intent slot: the target its low byte names (R459). -/
def intentCopy (c : BitVec 16) : Option Nat :=
  let t := c.toNat % 256
  if 1 ≤ t ∧ t ≤ 5 ∧ c.toNat / 256 = 255 - t then some t else none

/-- The content of an intent slot (R459, R467): written when two copies are valid and equal,
interrupted when some copy is valid and no two agree. -/
def slotContent (cs : List (BitVec 16)) : SlotContent :=
  if cs.all (· == 0xFFFF) then .closed
  else if cs.all (· == 0) then .unused
  else
    let vs := cs.filterMap intentCopy
    match vs.find? fun v => 2 ≤ vs.count v with
    | some v => .written v
    | none => .interrupted

/-- The highest value at least two copies reach (R458). -/
def reachedState (o : Otp) : Nat :=
  let vs := o.copies.map copyValue
  ((List.range 9).reverse.find? fun v => 2 ≤ (vs.filter (v ≤ ·)).length).getD 0

/-- The legal successors of a state (Table - Transition requests). -/
def successor (from_ to_ : Nat) : Bool :=
  match from_, to_ with
  | 0, 1 | 1, 2 | 2, 3 | 3, 4 | 1, 5 | 2, 5 | 3, 5 | 4, 5 => true
  | _, _ => false

/-- The written slots whose target lies above a state: slot number and target. -/
def pendingSlots (o : Otp) (v : Nat) : List (Nat × Nat) :=
  (List.range 8).filterMap fun i =>
    match slotContent (o.intents.getD i []) with
    | .written t => if v < t then some (i, t) else none
    | _ => none

/-- The decoded life-cycle state, if the words decode (R458, R459). -/
def lcDecode (o : Otp) : Option Nat :=
  let v := reachedState o
  let ps := pendingSlots o v
  if 2 ≤ (o.copies.filter copyBroken).length then none
  else if ps.any fun p => ps.any fun q => p.2 != q.2 then none
  else if ps.any fun p => !successor v p.2 then none
  else some v

/-- OD 0x1001.02 LIFE_CYCLE_STATE. -/
def State.lcState (s : State) : Nat := (lcDecode s.otp).getD (reachedState s.otp)

/-- The device root: the value on which at least two copies agree (R385). -/
def deviceRoot (o : Otp) : Option Bytes :=
  o.rootCopies.find? fun c => 2 ≤ o.rootCopies.count c

/-- The root in use and whether it is the test root (Table - Root in use, R384, R470); none where
the ladder stays closed. -/
def State.rootInUse (s : State) : Option (Bool × Bytes) :=
  match lcDecode s.otp with
  | some 1 => some (true, Config.testRoot)
  | some 2 => if s.warden.debugFlag then none else (deviceRoot s.otp).map (false, ·)
  | some 3 =>
    if s.warden.debugFlag then some (true, Config.testRoot) else (deviceRoot s.otp).map (false, ·)
  | some 4 => some (true, Config.testRoot)
  | _ => none

/-- The root's bytes, none standing for an empty string. -/
def State.root (s : State) : Bytes := (s.rootInUse.map (·.2)).getD []

/-- A key of Table - Key ladder: KMAC256 with the root as key, the label as customisation (R386). -/
def State.ladderKey (s : State) (label : String) (len : Nat) : Bytes :=
  kmac256 s.root [] (ascii label) len

/-- A domain key of Table - Key ladder, where a domain root secret is held. -/
def State.domainKey (s : State) (label : String) : Option Bytes :=
  s.keys.domainSecret.map fun d => kmac256 d [] (ascii label) 32

/-- The ML-DSA-87 key pair of the identity (R386). -/
def State.identityMldsa (s : State) : KeyPair := mldsaPair 3 (s.ladderKey "KQ9-ID-MLDSA87" 32)

/-- The P-384 key pair of the identity (R386). -/
def State.identityP384 (s : State) : KeyPair := ecPair 2 (s.ladderKey "KQ9-ID-P384" 56)

/-- The ML-KEM-1024 key pair of the transport key (R386). -/
def State.transportPair (s : State) : KeyPair := mlkemPair 3 (s.ladderKey "KQ9-TRANSPORT" 64)

/-- Public keys of the identity: ML-DSA-87 (2,592 bytes), then P-384 (97 bytes) (R386, R387). -/
def State.identityKeys (s : State) : Bytes := s.identityMldsa.pk ++ s.identityP384.pk

/-- The identity digest (R387). -/
def State.identityDigest (s : State) : Bytes := sha3_256 s.identityKeys

/-- Whether the ladder holds the log chain key (R386, R486). -/
def State.logKeyHeld (s : State) : Bool := s.start.ladder != .closed

/-- The log chain key. -/
def State.logKey (s : State) : Bytes := s.ladderKey "KQ9-LOG-CHAIN" 32

end Sys2Proof.Machine
end

