-- ==== Sys2Proof/Machine/Dictionary.lean ====
section
/-! DEFINITION. What each dictionary entry reads: the committed values of writable entries and the
values the block measures, counts or holds (R93 to R99, R125 to R128 and each chapter's table). -/

namespace Sys2Proof.Machine

open Sys2Proof

/-! ### Committed values -/

/-- The number that names an entry inside the model: 256 x index + subindex. -/
def OdKey.num (k : OdKey) : Nat := 256 * k.index.toNat + k.sub.toNat

/-- The key a number names. -/
def keyOf (n : Nat) : OdKey := ⟨BitVec.ofNat 16 (n / 256), BitVec.ofNat 8 n⟩

/-- Size in bytes of a type's values (Table - Entry types); the greatest, for the variable ones. -/
def OdType.size : OdType → Nat
  | .bool => 1 | .u n => n | .i32 => 4 | .octets n => n | .string n => n
  | .time64 => 8 | .handle48 => 6 | .domain m => m

/-- Code of a type (Table - Entry types). -/
def OdType.code : OdType → Nat
  | .bool => 0 | .u 1 => 1 | .u 2 => 2 | .u 4 => 3 | .u _ => 4 | .i32 => 5 | .octets _ => 6
  | .string _ => 7 | .time64 => 8 | .handle48 => 9 | .domain _ => 10

/-- Code of an access (R95). -/
def OdAccess.code : OdAccess → Nat
  | .ro => 0 | .wo => 1 | .rw => 2 | .rwt => 3

/-- Default quanta of the shield classes, class 0 first; unused classes hold 0
(Table - Shield classes, R209). -/
def defaultQuanta : List Nat :=
  [0, 6400, 9600, 6400, 25600, 38400, 12800, 51200, 102400, 6553600, 13107200, 209715200,
   204800, 838860800, 102400, 819200, 209715200, 12800, 51200, 51200, 204800, 409600, 819200,
   209715200, 0, 0, 0, 0, 0, 0, 0, 0]

/-- The bytes of an entry's default. -/
def EntryDef.defaultBytes (d : EntryDef) (key : Nat) : Bytes :=
  match d.default with
  | .zero => match d.ty with
    | .domain _ => []
    | .string _ => []
    | t => zeros t.size
  | .num n => le d.ty.size n
  | .bytes b => b.map (BitVec.ofNat 8)
  | .text t => ascii t
  | .quanta => defaultQuanta.flatMap (le 4)
  | .module => match d.ty with
    | .domain m => (Config.moduleValue key).take m
    | .string n => (Config.moduleValue key).take n
    | t => fit t.size (Config.moduleValue key)

/-- The committed value of an entry: the value listed, else its default (R98). -/
def State.odBytes (s : State) (key : Nat) : Bytes :=
  match look key s.od with
  | some v => v
  | none => match entryDef (keyOf key) with
    | some d => d.defaultBytes key
    | none => []

/-- The committed value of a numeric entry. -/
def State.odNum (s : State) (key : Nat) : Nat := ofLe (s.odBytes key)

/-- A value committed; one equal to the default leaves no entry. -/
def State.setOd (s : State) (key : Nat) (v : Bytes) : State :=
  let isDefault : Bool := match entryDef (keyOf key) with
    | some d => d.defaultBytes key == v
    | none => false
  { s with od := if isDefault then del key s.od else put key v s.od }

/-! ### What the rules derive from the state -/

/-- A power-fail warning is in force, from step 3 of Table - Power-fail sequence on (R61). -/
def State.warning (s : State) : Bool := s.pwr.stage == .inFlight || s.pwr.stage == .flushing

/-- DEVICE_READY (R75). -/
def State.ready (s : State) : Bool := s.start.phase == .ready

/-- HALTED. -/
def State.halted (s : State) : Bool := s.start.phase == .halted

/-- A life-cycle transition is in force (R464, R466). -/
def State.inTransition (s : State) : Bool := s.lc.transition.isSome

/-- The number of ports the bifurcation mode in force uses (Table - Bifurcation modes). -/
def State.portsUsed (s : State) : Nat := s.start.bifurcation + 1

/-- TIME_STATE (R128). -/
def State.timeState (s : State) : Nat :=
  match s.clk.devTime with
  | some _ => s.clk.timeState
  | none => if s.odNum 0x290020 = 0 then 0 else 1

/-- The port that an instance ID belongs to: the manager's own, or the range it lies in (R132). -/
def State.portOf (s : State) (i : Nat) : Option Nat :=
  if i < 4 then some i
  else (List.range 4).find? fun p =>
    decide ((s.port p).base ≤ i) && decide (i < (s.port p).base + (s.port p).count)

/-- An entry of a port: 0x1400.p1 to 0x1400.p9 (R142). -/
def State.portOd (s : State) (p n : Nat) : Nat := s.odNum (0x140000 + 16 * (p + 1) + n)

/-- Queue pairs an instance holds; the manager's own holds PM_QP_COUNT (R536). -/
def State.qpCountOf (s : State) (i : Nat) : Nat :=
  if i < 4 then (s.port i).pmQps else (s.inst i).qpCount

/-- MSI-X vectors an instance holds (R536). -/
def State.vecCountOf (s : State) (i : Nat) : Nat := if i < 4 then 256 else (s.inst i).vecCount

/-- SLOT_QUOTA of an instance (R536). -/
def State.slotQuotaOf (s : State) (i : Nat) : Nat :=
  if i < 4 then s.portOd i 4 else (s.inst i).slotQuota

/-- RECORD_QUOTA of an instance (R536). -/
def State.recQuotaOf (s : State) (i : Nat) : Nat :=
  if i < 4 then s.portOd i 5 else (s.inst i).recQuota

/-- TIER_S_QUOTA_KIB of an instance (R536). -/
def State.tierSOf (s : State) (i : Nat) : Nat :=
  if i < 4 then s.portOd i 6 else (s.inst i).tierSKib

/-- ENGINE_WEIGHT of an instance within its port (R536). -/
def State.weightOf (s : State) (i : Nat) : Nat := if i < 4 then 256 else (s.inst i).weight

/-- The state of an instance: the manager's own is ENABLED while its port is used and out of reset
and the block is in DEVICE_READY (chapter 5, Instances). -/
def State.instState (s : State) (i : Nat) : InstState :=
  if i < 4 then
    if i < s.portsUsed && !(s.port i).perst && s.ready then .enabled else .unallocated
  else (s.inst i).state

/-- Code of INST_STATE (R137). -/
def InstState.code : InstState → Nat
  | .unallocated => 0 | .created => 1 | .enabled => 2 | .frozen => 3
  | .resetting => 4 | .destroying => 5

/-- Jobs of an instance that hold a slot. -/
def State.slotsOf (s : State) (i : Nat) : Nat := (s.jobs.filter (·.2.inst == i)).length

/-- Jobs of a port that hold a slot. -/
def State.slotsOfPort (s : State) (p : Nat) : Nat :=
  (s.jobs.filter fun j => s.portOf j.2.inst == some p).length

/-- Key records an instance owns. -/
def State.recordsOf (s : State) (i : Nat) : Nat :=
  (s.keys.records.filter (·.2.owner == i)).length

/-- Key records the instances of a port own. -/
def State.recordsOfPort (s : State) (p : Nat) : Nat :=
  (s.keys.records.filter fun r => s.portOf r.2.owner == some p).length

/-- Bytes a key record takes in tier S: its attributes and both its parts (R395). -/
def KeyRecord.bytes (r : KeyRecord) : Nat := roundUp (64 + r.secret.length + r.pub.length) 64

/-- Bytes a peer record takes in tier S (R395). -/
def Peer.bytes (r : Peer) : Nat := roundUp (96 + r.sigPk.length + r.mlkemPk.length) 64

/-- A record that enters tier S: at most 64 KiB (R212). -/
def KeyRecord.cacheable (r : KeyRecord) : Bool := decide (r.bytes ≤ 65536)

/-- Bytes of tier S that the records of an instance hold. -/
def State.tierSBytes (s : State) (i : Nat) : Nat :=
  ((s.keys.records.filter fun r => r.2.owner == i && r.2.inS).map (·.2.bytes)).sum +
  ((s.keys.peers.filter fun r => r.2.owner == i && r.2.inS).map (·.2.bytes)).sum

/-- Bytes of tier S that the records of a port's instances hold. -/
def State.tierSBytesPort (s : State) (p : Nat) : Nat :=
  ((s.keys.records.filter fun r => s.portOf r.2.owner == some p && r.2.inS).map (·.2.bytes)).sum +
  ((s.keys.peers.filter fun r => s.portOf r.2.owner == some p && r.2.inS).map (·.2.bytes)).sum

/-- Bytes of tier S that a pinned record index holds: a key record of at most 64 KiB, or a peer record; an
open slot holds none of the quotas (R212, R214, R395, R414). -/
def State.pinSize (s : State) (k : Nat) : Nat :=
  if k < 0x400000 then (match look k s.keys.records with
    | some r => if r.cacheable then r.bytes else 0
    | none => 0)
  else match look (k - 0x800000) s.keys.peers with
    | some r => if k < 0xC00000 then r.bytes else 0
    | none => 0

/-- The record indices that some jobs pin, each once. -/
def pinsOf (js : List (Nat × Job)) : List Nat := (js.flatMap (·.2.pins)).eraseDups

/-- Bytes of tier S that an instance's jobs hold pinned (R214). -/
def State.pinnedBytes (s : State) (i : Nat) : Nat :=
  ((pinsOf (s.jobs.filter (·.2.inst == i))).map s.pinSize).sum

/-- Bytes of tier S that a port's jobs hold pinned (R214). -/
def State.pinnedBytesPort (s : State) (p : Nat) : Nat :=
  ((pinsOf (s.jobs.filter fun j => s.portOf j.2.inst == some p)).map s.pinSize).sum

/-- Bytes of the trees of a stateful key (R274). -/
def KeyRecord.treeBytes (r : KeyRecord) : Nat :=
  match r.stateful with
  | some t => t.trees
  | none => 0

/-- Bytes of the key record area of tier V in use (R211, R274). -/
def State.tierVBytes (s : State) : Nat :=
  ((s.keys.records.filter (·.2.inV)).map fun r => r.2.bytes + r.2.treeBytes).sum

/-- The instances of a port that are not UNALLOCATED, the manager's own apart. -/
def State.instsOfPort (s : State) (p : Nat) : List Nat :=
  (s.insts.filter fun n => 4 ≤ n.1 && s.portOf n.1 == some p && n.2.state != .unallocated).map (·.1)

/-- Queue pairs a port's instances hold (R136, R536). -/
def State.qpAllocated (s : State) (p : Nat) : Nat :=
  (s.port p).pmQps + ((s.instsOfPort p).map fun i => (s.inst i).qpCount).sum

/-- MSI-X vectors a port's functions hold (R136, R536). -/
def State.vecAllocated (s : State) (p : Nat) : Nat :=
  256 + ((s.instsOfPort p).map fun i => (s.inst i).vecCount).sum

/-- Code of DEVICE_STATE (R125). -/
def State.deviceState (s : State) : Nat :=
  match s.start.phase with
  | .ready => if s.warning then 2 else 1
  | .halted => 3
  | _ => if s.lcState = 0 ∨ s.lcState = 5 then 3 else 0

/-- Code of START_PHASE (R92). -/
def State.phaseCode (s : State) : Nat :=
  if s.warning then 6
  else match s.start.phase with
    | .warden => 0 | .fabric => 1 | .selfTest => 2 | .firmware => 3 | .archive => 4
    | .ready => 5 | .halted => 7

/-- First unit index of each kind, sequencer first (R487). -/
def kindBase : List Nat := [0, 72, 144, 288, 360, 378, 387]

/-- Kind of a unit, 1 to 6 as in Table - Status codes. -/
def unitKind (u : Nat) : Nat :=
  if u < 72 then 1 else if u < 144 then 2 else if u < 288 then 3
  else if u < 360 then 4 else if u < 378 then 5 else 6

/-- Physical number of a unit within its kind. -/
def unitNumber (u : Nat) : Nat := u - kindBase.getD (unitKind u - 1) 0

/-- Index of a unit from its kind and number. -/
def unitIndex (kind number : Nat) : Nat := kindBase.getD (kind - 1) 0 + number

/-- Units of a kind in a state. -/
def State.unitsIn (s : State) (kind : Nat) (st : UnitState) : List Nat :=
  (List.range (kindBase.getD kind 387 - kindBase.getD (kind - 1) 0)).filterMap fun n =>
    let u := unitIndex kind n
    if (s.units.getD u {}).state == st then some u else none

/-- Code of a unit state (R498). -/
def UnitState.code : UnitState → Nat
  | .active => 0 | .spare => 1 | .quarantined => 2 | .retiring => 3 | .retired => 4

/-- Kind of a noise source: 0 jitter, 1 metastability, 2 thermal (Table - Noise sources and
cut-offs). -/
def sourceKind (i : Nat) : Nat := if i < 8 then 0 else if i < 16 then 1 else 2

/-- A list of sources holds two of different kinds (R426, R439). -/
def bothKinds (l : List Nat) : Bool := l.any fun a => l.any fun b => sourceKind a != sourceKind b

/-- The sources admitted to the pool. -/
def State.admitted (s : State) : List Nat :=
  (List.range 18).filter fun i => (s.rng.sources.getD i {}).admitted

/-- A source enabled by SOURCE_ENABLE (R425). -/
def State.sourceEnabled (s : State) (i : Nat) : Bool := bit (s.odNum 0x240002) i

/-- Code of a source's health (R439). -/
def State.sourceHealth (s : State) (i : Nat) : Nat :=
  let n := s.rng.sources.getD i {}
  if n.retired then 4
  else if !s.sourceEnabled i then 0
  else if n.admitted then 2
  else if n.failed then 3
  else 1

/-- Code of RNG_STATE (R439). -/
def State.rngState (s : State) : Nat :=
  if s.rng.stopped then 3
  else if !s.rng.running then 0
  else if (List.range 18).any fun i => s.sourceEnabled i && !(s.rng.sources.getD i {}).admitted then 2
  else 1

/-- Whether the debug port is open: in BLANK and TEST, and when authorised (Table - Life-cycle
states, R470). -/
def State.debugState (s : State) : Nat :=
  if s.lc.debugOpen then 3
  else if s.lcState ≤ 1 then 1
  else if s.lc.allowance then 2
  else 0

/-- Bytes of an event before its tag, offsets 0 to 51 (Table - Event record). -/
def Event.head (e : Event) : Bytes :=
  fields [(8, e.seq), (8, e.time.toNat), (1, e.severity), (1, e.code.toNat / 256),
    (2, e.code.toNat), (2, e.inst), (2, e.epoch), (2, e.dropped), (2, e.flags.toNat)] ++
  fit 24 e.detail

/-- The 64 bytes of an event record (R500). -/
def Event.bytes (e : Event) : Bytes := e.head ++ fit 8 e.tag ++ le 4 e.crc.toNat

/-- The 48 bytes of an open fault record (Table - Fault record, R480). -/
def FaultRecord.bytes (f : FaultRecord) : Bytes :=
  fields [(4, f.id), (2, f.source), (1, f.kind), (1, f.number), (2, f.inst), (2, f.qp),
    (1, f.escalation), (1, f.allowed), (2, 0), (8, f.detectTime.toNat), (8, f.deadlineTime.toNat),
    (8, f.eventSeq), (8, f.detail.toNat)]

/-- The 64 bytes of a measurement log entry (R296). -/
def MLogEntry.bytes (e : MLogEntry) : Bytes :=
  fields [(1, e.mr), (1, e.source), (2, e.boot), (4, e.seq)] ++ fit 48 e.v ++ le 8 e.time.toNat

/-- A key handle (Table - Handle, R389). -/
def handle (owner index gen : Nat) : BitVec 64 :=
  BitVec.ofNat 64 (owner % 1024 * 2 ^ 38 + index % 2 ^ 24 * 2 ^ 14 + gen % 2 ^ 14)

/-- DOMAIN_STATE (R421). -/
def State.domainState (s : State) : Nat :=
  if s.keys.domainSecret.isSome then 2
  else if s.keys.authMldsa.isEmpty then 0 else 1

/-- OD 0x2300.05 DOMAIN_AUTHORITY as it reads (R388). -/
def State.domainAuthority (s : State) : Bytes :=
  fit 32 s.keys.domainId ++ fit 2592 s.keys.authMldsa ++ fit 97 s.keys.authP384

/-- `n` counters of an entry, each `w` bytes. -/
def State.counters (s : State) (key n w : Nat) : Bytes :=
  (List.range n).flatMap fun i => le w (s.counter key i)

/-! ### Read-only entries, by area -/

/-- Areas 0x1000 to 0x1100. -/
def State.roGeneral (s : State) (key : Nat) : Option Bytes :=
  match key with
  | 0x100006 => some (fit 16 s.otp.dieId)
  | 0x100007 => some (if s.start.ladder = .closed then zeros 32 else s.identityDigest)
  | 0x100101 => some (le 1 s.deviceState)
  | 0x100102 => some (le 1 s.lcState)
  | 0x100103 => some (le 8 s.uptime)
  | 0x100104 => some (le 8 s.time64.toNat)
  | 0x100105 => some (le 1 (s.mgmt.sessions.filter (·.opened)).length)
  | 0x100106 => some (s.counters key 1 4)
  | 0x100201 => some (le 4 s.start.restartNonce.toNat)
  | 0x110001 => some (le 4 s.pwr.inputMw)
  | 0x110002 => some (le 2 s.pwr.rail12Mv)
  | 0x110003 => some (le 2 s.pwr.rail3v3Mv)
  | 0x110004 => some (le 2 s.pwr.railAuxMv)
  | 0x110005 => some (le 4 s.pwr.holdupMj)
  | 0x110006 => some (le 2 s.pwr.coinMv)
  | 0x110007 => some (le 4 (BitVec.ofInt 32 s.pwr.inletMc).toNat)
  | 0x110008 => some (le 4 (BitVec.ofInt 32 s.pwr.dieMc).toNat)
  | 0x11000A => some (le 4 ((if s.warden.latch then 1 else 0) + (if s.warden.causeMesh then 2 else 0)
      + (if s.warden.causeLoop then 4 else 0) + (if s.warden.causeTemp then 8 else 0)
      + (if s.warden.cellLost then 16 else 0) + (if s.warden.loopCondition then 32 else 0)))
  | 0x11000C => some (s.counters key 1 4)
  | _ => none

/-- Areas 0x1200 to 0x1F00. -/
def State.roStart (s : State) (key : Nat) : Option Bytes :=
  match key with
  | 0x120001 => some (le 2 s.gov.tempo)
  | 0x120002 => some (le 2 s.otp.tempoBirth)
  | 0x120003 => some (le 2 s.gov.vcore)
  | 0x120005 => some (le 2 s.gov.floor)
  | 0x120007 => some (le 1 s.gov.effCap)
  | 0x120008 => some (le 1 s.gov.state)
  | 0x120009 => some (le 1 (s.gov.gated * 625 / 100))
  | 0x12000A => some (le 4 s.gov.dynamicMw)
  | 0x12000B => some (s.counters key 3 8)
  | 0x12000C => some (le 8 (s.gov.energyNj / 1000000))
  | 0x130001 => some (le 1 s.phaseCode)
  | 0x130002 => some (le 1 (if s.start.warm then 1 else 0))
  | 0x130003 => some (le 1 s.start.cause)
  | 0x130004 => some (le 4 s.start.startTimeUs)
  | 0x130005 => some (le 1 s.start.fwSlot)
  | 0x130006 => some (le 4 s.start.fwVersion)
  | 0x130008 => some (s.counters key 1 4)
  | 0x130009 => some (s.counters key 1 4)
  | 0x13000A => some (le 2 s.start.katRetired)
  | 0x13000B => some (le 2 s.start.haltCause.toNat)
  | 0x13000C => some (fit 32 (s.start.phaseTimes.flatMap (le 4)))
  | 0x130022 => some (s.counters key 1 8)
  | 0x130023 => some (s.counters key 1 4)
  | 0x130024 => some (s.counters key 1 4)
  | 0x140002 => some ((List.range 4).flatMap fun p => le 4 (s.port p).resets)
  | 0x1F0001 => some (le 1 (if s.mgmt.txn.open_ then 1 else 0))
  | 0x1F0002 => some (le 4 s.mgmt.txn.id)
  | 0x1F0003 => some (le 8 s.mgmt.txn.owner.toNat)
  | 0x1F0004 => some (le 2 s.mgmt.txn.staged.length)
  | 0x1F0005 => some (s.counters key 1 4)
  | 0x1F0006 => some (s.counters key 1 4)
  | 0x1F0008 => some (le 4 s.mgmt.txn.lastPauseNs)
  | _ => none

/-- The instance records 0x1800 to 0x1BFF (R160, R536). -/
def State.roInst (s : State) (i sub : Nat) : Option Bytes :=
  let inUse : Bool := decide (4 ≤ i) || decide (i < s.portsUsed)
  let cell (w v : Nat) := some (le w (if inUse then v else 0))
  match sub with
  | 0x01 => some (le 1 (s.instState i).code)
  | 0x02 => some (le 1 ((s.portOf i).getD 0xFF))
  | 0x03 => cell 2 (s.qpCountOf i)
  | 0x04 => cell 2 (s.vecCountOf i)
  | 0x05 => cell 2 (s.slotQuotaOf i)
  | 0x06 => cell 4 (s.recQuotaOf i)
  | 0x07 => cell 4 (s.tierSOf i)
  | 0x08 => cell 2 (s.weightOf i)
  | 0x09 => some (le 2 (s.slotsOf i))
  | 0x0A => some (le 4 (s.recordsOf i))
  | 0x0B => some (le 8 (s.inst i).posted)
  | 0x0C => some (le 4 (s.inst i).resets)
  | 0x0D => some (le 2 (s.inst i).migResult.toNat)
  | 0x0E => some (le 4 (if (s.inst i).spillEnable then (s.inst i).spillMib.toNat else 0))
  | _ => none

/-- Areas 0x2000 and 0x2100. -/
def State.roUnits (s : State) (key : Nat) : Option Bytes :=
  match key with
  | 0x200010 => some ((List.range 4).flatMap fun p => le 4 (ceilDiv (s.tierSBytesPort p) 1024))
  | 0x200011 => some ((List.range 4).flatMap fun p => le 4 (ceilDiv (s.pinnedBytesPort p) 1024))
  | 0x200012 => some (le 4 (ceilDiv (3584 * s.keys.peers.length) (2 ^ 20)) ++
      le 4 (ceilDiv s.tierVBytes (2 ^ 20)) ++ le 4 (s.counter key 2) ++
      le 4 (ceilDiv ((s.jobs.map (·.2.jobData)).sum) (2 ^ 20)))
  | 0x200013 => some (s.counters key 8 8)
  | 0x200014 => some (s.counters key 4 8)
  | 0x200015 => some (s.counters key 4 8)
  | 0x200016 => some (s.counters key 4 8)
  | 0x200017 => some (s.counters key 1 2)
  | 0x200018 => some (le 4 s.sched.lastSecond)
  | 0x200019 => some (s.counters key 1 4)
  | 0x210001 => some (s.units.map fun u => BitVec.ofNat 8 u.state.code)
  | 0x210002 => some ((List.range 6).flatMap fun k => le 2 (s.unitsIn (k + 1) .active).length)
  | 0x210003 => some ((List.range 6).flatMap fun k => le 2 (s.unitsIn (k + 1) .spare).length)
  | 0x210005 => some (s.units.flatMap fun u => le 2 (BitVec.ofInt 16 u.drift).toNat)
  | 0x210008 => some (s.counters key 387 4)
  | 0x210009 => some (s.counters key 1 4)
  | 0x21000A => some ((List.range 49).map fun b =>
      BitVec.ofNat 8 (((List.range 8).map fun j =>
        if s.otp.retired.contains (8 * b + j) then 2 ^ j else 0).sum))
  | _ => none

/-- Areas 0x2200 and 0x2300. -/
def State.roKeys (s : State) (key : Nat) : Option Bytes :=
  match key with
  | 0x220008 => some (s.counters key 8 8)
  | 0x220024 => some (le 4 s.ctxs.length)
  | 0x220025 => some (s.meas.mr.flatMap (fit 48))
  | 0x220026 => some (s.meas.mlog.flatMap MLogEntry.bytes)
  | 0x220027 => some (s.meas.windows.map fun w => BitVec.ofNat 8 (w.owner.getD 0xFF))
  | 0x220028 => some (s.counters key 8 8)
  | 0x220029 => some (s.counters key 1 8)
  | 0x220034 => some (s.counters key 6 8)
  | 0x220035 => some (s.counters key 1 8)
  | 0x220047 => some (s.counters key 8 8)
  | 0x220048 => some (s.counters key 1 8)
  | 0x230001 => some (le 4 s.keys.records.length)
  | 0x230002 => some (le 4 s.keys.peers.length)
  | 0x230003 => some (fit 128 (s.keys.counters.flatMap (le 8)))
  | 0x230004 => some (le 1 s.domainState)
  | 0x230005 => some s.domainAuthority
  | 0x230006 => some (if s.start.ladder = .closed then zeros 2689 else s.identityKeys)
  | 0x230007 => some (if s.start.ladder = .full then
      s.transportPair.pk else zeros 1568)
  | 0x230008 => some (le 4 s.keys.archiveGen)
  | 0x23000A => some (le 2 s.keys.updateResult.toNat)
  | 0x23000B => some (s.keys.updateHandles.flatMap fun h => le 8 h.toNat)
  | 0x23000C => some (le 2 (4096 - s.otp.genBits))
  | 0x23000F => some ((List.range 4).flatMap fun p =>
      le 2 (s.keys.slots.filter fun x => x.1 / 1024 == p).length)
  | 0x230010 => some (s.counters key 1 4)
  | _ => none

/-- Areas 0x2400 and 0x2500. -/
def State.roRandom (s : State) (key : Nat) : Option Bytes :=
  match key with
  | 0x240001 => some (le 1 s.rngState)
  | 0x240004 => some ((List.range 18).map fun i => BitVec.ofNat 8 (s.sourceHealth i))
  | 0x240005 => some (s.counters key 18 4)
  | 0x240006 => some (le 4 s.rng.poolRate)
  | 0x240007 => some (le 2 (s.insts.filter fun n =>
      n.2.state == .enabled && (!n.2.drbg.seeded || n.2.drbg.due)).length)
  | 0x240008 => some (le 4 s.rng.firstSeedUs)
  | 0x240009 => some (s.counters key 1 4)
  | 0x24000A => some (s.counters key 4 8)
  | 0x250002 => some (s.otp.intents.map fun cs => BitVec.ofNat 8 (match slotContent cs with
      | .unused => 0 | .closed => 0xFF | .written t => t | .interrupted => 0xFE))
  | 0x250005 => some (le 1 ((if s.otp.dFactory.isSome then 1 else 0) +
      (if s.otp.dDeploy.isSome then 2 else 0) + (if s.otp.dAnalysis.isSome then 4 else 0) +
      (if s.otp.dScrapV.isSome then 8 else 0) + (if s.otp.dScrapC.isSome then 16 else 0) +
      (if s.otp.dFactoryCred.isSome then 32 else 0)))
  | 0x250007 => some (le 1 s.debugState)
  | 0x250008 => some (le 4 s.warden.debugAuths)
  | 0x250009 => some (le 2 s.lc.tokenFails)
  | 0x25000A => some (fit 16 s.lc.lastTransition)
  | _ => none

/-- GUARANTEE_STATE (R496, R499). -/
def State.guarantee (s : State) : Nat :=
  (if s.pwr.rail12 && s.pwr.rail3v3 then 1 else 0) +
  (if -25000 ≤ s.pwr.inletMc ∧ s.pwr.inletMc ≤ 65000 ∧ !s.pwr.thermalPaused then 2 else 0) +
  (if s.start.fwReleased then 4 else 0) + (if s.odNum 0x130020 = 1 then 8 else 0)

/-- Areas 0x2600 and 0x2700. -/
def State.roFaults (s : State) (key : Nat) : Option Bytes :=
  match key with
  | 0x260002 => some (s.faults.open_.flatMap FaultRecord.bytes)
  | 0x260004 => some (s.counters key 3 8)
  | 0x260006 => some (le 1 s.guarantee)
  | 0x260007 => some (fit 24 s.faults.lastFatal)
  | 0x260009 => some (s.counters key 1 4)
  | 0x270001 => some (s.log.log.flatMap Event.bytes)
  | 0x270002 => some (fields [(8, (s.log.log.getLast?.map (·.seq)).getD 0),
      (8, (s.log.log.head?.map (·.seq)).getD 0), (4, s.log.log.length), (2, s.log.epoch), (2, 0)])
  | 0x270004 => some (s.counters key 1 8)
  | 0x270005 => some (s.counters key 1 8)
  | 0x270006 => some (fit 16 (s.log.check.flatMap (le 4)))
  | 0x270008 => some (s.counters key 1 4)
  | 0x270009 => some ((List.range 6).flatMap fun v =>
      le 4 (s.log.log.filter (·.severity == v)).length)
  | _ => none

/-- Code of CARD_STATE (R533). -/
def CardState.code : CardState → Nat
  | .empty => 0 | .identifying => 1 | .ready => 2 | .rest => 3 | .busy => 4 | .refused => 5

/-- Areas 0x2800 and above. -/
def State.roCards (s : State) (key : Nat) : Option Bytes :=
  match key with
  | 0x280001 => some (le 1 s.card.state.code)
  | 0x280002 => some (fields [(8, s.card.serial.toNat), (1, s.card.role),
      (1, if s.card.recovery then 1 else 0),
      (1, (if s.card.protPerm then 1 else 0) + (if s.card.protTemp then 2 else 0)),
      (1, if s.card.enrolled then 1 else 0), (4, 0)])
  | 0x280004 => some (fields [(1, s.card.op.op), (1, s.card.op.state), (2, s.card.op.status.toNat),
      (4, s.card.op.done), (4, s.card.op.total), (4, 0)])
  | 0x280005 => some (fit 128 (s.card.approvals.flatMap fun a =>
      fields [(8, a.serial.toNat), (1, a.target), (3, 0), (4, (s.now - a.at_) / 1000000000)]))
  | 0x280006 => some (fit 2721 s.card.authority)
  | 0x280009 => some (fields [(1, if s.card.markerSet then 1 else 0), (3, 0),
      (4, s.card.markerDone)] ++ fit 16 s.card.markerImage)
  | 0x280011 => some (s.counters key 4 8)
  | 0x29000B => some (le 1 s.mgmt.link)
  | 0x290010 => some (s.counters key 1 4)
  | 0x290011 => some (s.counters key 1 4)
  | 0x290012 => some (s.counters key 1 4)
  | 0x290021 => some (le 1 s.timeState)
  | 0x290022 => some (le 4 (BitVec.ofInt 32 s.clk.offsetNs).toNat)
  | 0x290025 => some (le 8 s.clk.gmIdentity.toNat)
  | 0x2A0007 => some ((List.range 4).flatMap fun i =>
      let k := s.odBytes (0x2A0001 + i)
      if k.all (· == 0) then zeros 32 else sha3_256 k)
  | 0x2A0008 => some (le 2 ((s.insts.map fun n => n.2.recipes.length).sum))
  | 0x2A0009 => some (s.counters key 6 8)
  | 0x510001 => some (s.counters key 72 8)
  | 0x510002 => some (s.counters key 72 8)
  | 0x510003 => some (s.counters key 1 8)
  | 0x510004 => some (s.counters key 1 8)
  | 0x510005 => some (s.counters key 1 4)
  | 0x510006 => some ((List.range 72).map fun e =>
      BitVec.ofNat 8 (s.sched.staged.filter (·.engine == e)).length)
  | 0x510007 => some (s.counters key 3 8)
  | _ => none

/-- The value an entry reads (R98, R534): what the block measures, counts or holds for a read-only
entry, else the committed value. -/
def State.odRead (s : State) (key : Nat) : Bytes :=
  let v :=
    if 0x180000 ≤ key ∧ key < 0x1C0000 then s.roInst (key / 256 - 0x1800) (key % 256)
    else if key < 0x120000 then s.roGeneral key
    else if key < 0x200000 then s.roStart key
    else if key < 0x220000 then s.roUnits key
    else if key < 0x240000 then s.roKeys key
    else if key < 0x260000 then s.roRandom key
    else if key < 0x280000 then s.roFaults key
    else s.roCards key
  v.getD (s.odBytes key)

/-! ### DESCRIBE and NEXT -/

/-- The least and greatest value of a numeric type. -/
def EntryDef.range (d : EntryDef) : Int × Int :=
  match d.ty with
  | .bool => (0, 1)
  | .u n => (d.lo, min d.hi (2 ^ (8 * n) - 1))
  | .i32 => (-(2 ^ 31), 2 ^ 31 - 1)
  | .time64 => (0, 2 ^ 64 - 1)
  | _ => (0, 0)

/-- What DESCRIBE answers (R93, Table - Zynbo services). -/
def EntryDef.describe (d : EntryDef) : Bytes :=
  let r := d.range
  fields [(1, d.ty.code), (1, d.access.code), (1, d.role), (1, if d.persistent then 1 else 0),
    (4, d.ty.size), (8, (BitVec.ofInt 64 r.1).toNat), (8, (BitVec.ofInt 64 r.2).toNat)]

/-- The next existing entry after a key, in rising order (Table - Zynbo services). -/
def nextEntry (k : OdKey) : Option OdKey :=
  match ((areaOf k.index).map (·.1.sub.toNat)).filter (k.sub.toNat < ·) with
  | b :: _ => some ⟨k.index, BitVec.ofNat 8 b⟩
  | [] =>
    match areaIndices.find? (k.index.toNat < ·) with
    | some i => ((areaOf (BitVec.ofNat 16 i)).head?).map (·.1)
    | none => none

end Sys2Proof.Machine
end

