-- ==== Sys2Proof/Machine/Bus.lean ====
section
/-! DEFINITION. What leaves the block: MSI-X vectors and port events (R136, R137, R155), AER reports
(R134, R484), Zynbo frames (R107, R108, R141), and the commit of event records (R505 to R509). -/

namespace Sys2Proof.Machine

open Sys2Proof

/-! ### MSI-X and status bits -/

/-- A vector of a port's physical function is raised: sent, or left pending while masked (R155). -/
def State.raisePf (s : State) (p v : Nat) : State :=
  if ((look v (s.port p).msix).getD {}).masked then
    s.modPort p fun t => { t with msixPending := if t.msixPending.contains v then t.msixPending
      else t.msixPending ++ [v] }
  else s.send (.msix p none v)

/-- A vector of an instance is raised; the manager's own instance uses the PF's table. A vector at
or above VECTOR_COUNT raises none (R155, R189). -/
def State.raiseVec (s : State) (i v : Nat) : State :=
  if s.vecCountOf i ≤ v then s
  else if i < 4 then s.raisePf i v
  else if ((look v (s.inst i).msix).getD {}).masked then
    s.modInst i fun n => { n with msixPending := if n.msixPending.contains v then n.msixPending
      else n.msixPending ++ [v] }
  else s.send (.msix ((s.portOf i).getD 0) (some i) v)

/-- Bits of PORT_EVENT_STATUS (Table - PORT_EVENT_STATUS). -/
inductive PortEvent where
  | powerFail | powerRestored | halted | capacityChange | instanceEvent | mailboxDone | mgmtRx
  deriving DecidableEq, Repr

/-- Bit number of a port event. -/
def PortEvent.bit : PortEvent → Nat
  | .powerFail => 0 | .powerRestored => 1 | .halted => 2 | .capacityChange => 3
  | .instanceEvent => 4 | .mailboxDone => 5 | .mgmtRx => 6

/-- A port event: its bit is set, and an enabled one raises PORT_EVENT_VECTOR (R136). -/
def State.portEvent (s : State) (p : Nat) (e : PortEvent) : State :=
  let m : BitVec 32 := BitVec.ofNat 32 (2 ^ e.bit)
  let s' := s.modPort p fun t => { t with evStatus := t.evStatus ||| m }
  if (s.port p).evEnable &&& m = 0 then s' else s'.raisePf p (s.port p).evVector.toNat

/-- A port event on every port. -/
def State.portEventAll (s : State) (e : PortEvent) : State :=
  s.forEach (List.range 4) fun s p => s.portEvent p e

/-- Bits of ERROR_STATUS (Table - ERROR_STATUS). -/
inductive ErrorBit where
  | qpError | stateChange | resetDone | configIgnored | spillFault
  deriving DecidableEq, Repr

/-- Bit number of an ERROR_STATUS bit. -/
def ErrorBit.bit : ErrorBit → Nat
  | .qpError => 0 | .stateChange => 2 | .resetDone => 3 | .configIgnored => 4 | .spillFault => 5

/-- An ERROR_STATUS bit is set; when the register gains it, ERROR_VECTOR and INSTANCE_EVENT are
raised (R136, R137, R155). -/
def State.errorBit (s : State) (i : Nat) (b : ErrorBit) : State :=
  let m : BitVec 32 := BitVec.ofNat 32 (2 ^ b.bit)
  if (s.inst i).errStatus &&& m = 0 then
    let s := s.modInst i fun n => { n with errStatus := n.errStatus ||| m }
    let s := s.raiseVec i (s.inst i).errVector.toNat
    match s.portOf i with
    | some p => s.portEvent p .instanceEvent
    | none => s
  else s

/-- INST_STATE changes, with STATE_CHANGE (R137). -/
def State.setInstState (s : State) (i : Nat) (st : InstState) : State :=
  (s.modInst i fun n => { n with state := st }).errorBit i .stateChange

/-! ### AER -/

/-- A report through AER on every port whose link is up (R134, R484). -/
def State.aerAll (s : State) (uncorrectable : Bool) : State :=
  s.sendAll ((List.range 4).filterMap fun p =>
    if (s.port p).linkUp then some (.aer p uncorrectable) else none)

/-- A report on the port of an instance, or on every port for a device-wide fault (R484). -/
def State.aerFor (s : State) (inst : Nat) : State :=
  if inst = 0xFFFF then s.aerAll false
  else match s.portOf inst with
    | some p => s.send (.aer p false)
    | none => s.aerAll false

/-! ### Zynbo frames -/

/-- Header of a frame (Table - Frame header, R107). -/
def frameHeader (kind : Nat) (session : BitVec 32) (seq len part parts : Nat) : Bytes :=
  fields [(2, 0x595A), (1, 1), (1, kind), (4, session.toNat), (8, seq), (2, len), (1, part),
    (1, parts)]

/-- A protected frame from the block: AES-256-GCM under K_DC, nonce SALT_DC and SEQ, the header as
additional data (R106, R108). -/
def protectedFrame (keys : Bytes) (kind : Nat) (session : BitVec 32) (seq : Nat) (payload : Bytes) :
    Bytes :=
  let h := frameHeader kind session seq payload.length 0 1
  let r := gcmSeal (slice 32 32 keys) (slice 68 4 keys ++ le 8 seq) h payload
  h ++ r.1 ++ r.2

/-- A frame for a management window: it takes RX_FRAME when that is free, else waits; an EVENT frame
is left out when 32 wait (R141). -/
def State.pushWindow (s : State) (p : Nat) (isEvent : Bool) (f : Bytes) : State :=
  match (s.port p).rxFrame with
  | none =>
    (s.modPort p fun t => { t with rxFrame := some f }).portEvent p .mgmtRx
  | some _ =>
    if isEvent && decide (32 ≤ (s.port p).rxQueue.length) then s
    else s.modPort p fun t => { t with rxQueue := t.rxQueue ++ [f] }

/-- The session of an identifier. -/
def State.session (s : State) (id : BitVec 32) : Option Session :=
  s.mgmt.sessions.find? (·.id == id)

/-- The state with a session changed. -/
def State.modSession (s : State) (id : BitVec 32) (f : Session → Session) : State :=
  { s with mgmt := { s.mgmt with
    sessions := s.mgmt.sessions.map fun x => if x.id == id then f x else x } }

/-- A protected frame is sent to a session's client on its channel, with the next SEQ (R101, R107). -/
def State.sendFrame (s : State) (id : BitVec 32) (kind : Nat) (payload : Bytes) : State :=
  match s.session id with
  | none => s
  | some x =>
    let seq := x.txSeq + 1
    let s := s.modSession id fun y => { y with txSeq := seq }
    let s := s.send (.frame x.inBand kind id payload)
    match x.inBand with
    | some p => s.pushWindow p (kind == 0x12) (protectedFrame x.keys kind id seq payload)
    | none => s

/-- An unprotected frame is sent on a channel (R102, R105). -/
def State.sendOpen (s : State) (chan : Option Nat) (kind : Nat) (session : BitVec 32)
    (part parts : Nat) (payload : Bytes) : State :=
  let s := s.send (.frame chan kind session payload)
  match chan with
  | some p => s.pushWindow p false
      (frameHeader kind session 0 payload.length part parts ++ payload)
  | none => s

/-! ### Committing event records -/

/-- A subscription takes a record: by severity, by instance, and by port for an in-band session
(R117). -/
def State.subscribes (s : State) (x : Session) (e : Event) : Bool :=
  match x.subSeverity with
  | none => false
  | some m =>
    x.opened && decide (m ≤ e.severity) && (x.subInst == 0xFFFF || x.subInst == e.inst) &&
    (match x.inBand with
     | none => true
     | some p => e.inst == 0xFFFF || s.portOf e.inst == some p)

/-- A committed record goes to its subscribers, at most 1,000 a second for each session (R117). -/
def State.publish (s : State) (e : Event) : State :=
  s.forEach (s.mgmt.sessions.filter fun x => s.subscribes x e) fun s x =>
    let sent := x.evSent.filter fun t => decide (s.now < t + 1000000000)
    if 1000 ≤ sent.length then s
    else
      (s.modSession x.id fun y => { y with evSent := sent ++ [s.now] }).sendFrame x.id 0x12
        (fields [(1, 0), (1, 0), (2, 0), (2, 0), (2, 0), (4, 64)] ++ e.bytes)

/-- The chain takes up the epoch a record is written under: a new one when the root in use differs
from the previous record's (R509). -/
def State.chainEpoch (s : State) (seq : Nat) : Recorder :=
  let r : Nat := match s.rootInUse with
    | some (true, _) => 1
    | _ => 0
  if s.log.epochRoot = r then s.log
  else { s.log with
    epochRoot := r, epoch := s.log.epoch + 1, lastTag := none
    first := put (s.log.epoch + 1) seq s.log.first }

/-- The tag before the first record of an epoch (R508). -/
def State.anchor (s : State) (epoch : Nat) : Bytes :=
  kmac128 s.logKey (le 2 epoch ++ s.identityDigest) (ascii "KQ9-LOG-EPOCH") 8

/-- A record as it is written: epoch, flags, tag and CRC (R502, R507 to R509). -/
def State.sealEvent (s : State) (log : Recorder) (e : Event) : Event :=
  let hold : BitVec 16 := if s.warning then 4 else 0
  let root : BitVec 16 := if log.epochRoot = 1 && s.logKeyHeld then 8 else 0
  let untagged : BitVec 16 := if s.logKeyHeld then 0 else 16
  let e := { e with epoch := log.epoch, flags := e.flags ||| hold ||| root ||| untagged }
  let tag := if s.logKeyHeld then
      kmac128 s.logKey ((log.lastTag.getD (s.anchor log.epoch)) ++ e.head) (ascii "KQ9-LOG") 8
    else zeros 8
  let e := { e with tag := tag }
  { e with crc := crc32c (e.head ++ fit 8 tag) }

/-- Whether records can be committed: the ladder holds the log chain key, or a start or a halt left
it without one (R508). -/
def State.canCommit (s : State) : Bool :=
  s.logKeyHeld || s.halted || decide (s.lcState = 0) || decide (s.lcState = 5)

/-- The oldest waiting record is written, over its victim where it was given one, and goes to its
subscribers (R505, R506, R508). -/
def State.commitOne (s : State) : State :=
  match s.log.buffer with
  | [] => s
  | e :: rest =>
    let log := if s.logKeyHeld then s.chainEpoch e.seq else s.log
    let e' := { s.sealEvent log e with victim := none }
    let victim := log.log.find? fun x => some x.seq == e.victim
    let log := match victim with
      | some v => { log with
          log := log.log.filter (·.seq != v.seq)
          loss := putNum v.epoch (num v.epoch log.loss + 1) log.loss }
      | none => log
    let log := { log with
      buffer := rest, log := log.log ++ [e']
      lastTag := if s.logKeyHeld then some e'.tag else log.lastTag }
    let s := { s with log := log }
    let s := if victim.isSome then s.bump 0x270005 0 1 else s
    s.publish e'

/-- Every waiting record is written (a record the rule says the block commits, R505; the flush,
R86). -/
def State.commitAll (s : State) : State :=
  if s.canCommit then s.forEach s.log.buffer fun s _ => s.commitOne else s

end Sys2Proof.Machine
end

