-- ==== Sys2Proof/Machine/Jobs.lean ====
section
/-! DEFINITION. What every job shares from dispatch to the release of its slot: the fetches of its
queue pair, its engine side, how it ends, the timing shield's boundary and the waits of the
completion ring (R24, R35, R136 to R140, R182 to R207, R259 to R262). -/

namespace Sys2Proof.Machine

open Sys2Proof

/-! ### Queue pairs -/

/-- N, the entries of both rings of a queue pair (R139). -/
def Qp.n (q : Qp) : Nat := 2 ^ q.log2

/-- Entries announced and not dispatched, (P - C) mod 2N (R182). -/
def Qp.held (q : Qp) : Nat := (q.p + 2 * q.n - q.c) % (2 * q.n)

/-- Completions posted and not consumed, (Q - D) mod 2N (R182). -/
def Qp.unread (q : Qp) : Nat := (q.q + 2 * q.n - q.d) % (2 * q.n)

/-- The completion ring is full (R190). -/
def Qp.full (q : Qp) : Bool := decide (q.n ≤ q.unread)

/-- Code of QP_STATUS.STATE (Table - QP_STATUS). -/
def QpState.code : QpState → Nat
  | .disabled => 0 | .active => 1 | .error => 2 | .stopping => 3

/-- The jobs of a queue pair, with their slots. -/
def State.jobsOfQp (s : State) (i q : Nat) : List (Nat × Job) :=
  s.jobs.filter fun k => k.2.inst == i && k.2.qp == q

/-- The jobs of an instance, with their slots. -/
def State.jobsOf (s : State) (i : Nat) : List (Nat × Job) := s.jobs.filter (·.2.inst == i)

/-- Undispatched entries leave the prefetch cache; reads under way are dropped when they answer. -/
def Qp.discard (q : Qp) : Qp := { q with cache := [], fetching := 0 }

/-- Entries of the shared prefetch cache in use or asked for (R184). -/
def State.prefetched (s : State) : Nat :=
  (s.insts.map fun n => (n.2.qps.map fun q => q.cache.length + q.fetching).sum).sum

/-- Whether a queue pair may fetch: the block serves, its instance is ENABLED and not draining, the
queue pair is ACTIVE (R77, R138, R148, R156). -/
def State.mayFetch (s : State) (i : Nat) (q : Qp) : Bool :=
  s.ready && !s.start.fetchStopped && s.start.draining.isNone && s.instState i == .enabled &&
  (s.inst i).drain.isNone && q.state == .active

/-- Reads the fetcher issues now for a queue pair: at most 32 entries held ahead of dispatch, two
always granted, the rest within the 16,384 shared ones (R184). -/
def State.fetchRoom (s : State) (q : Qp) : Nat :=
  let own := q.cache.length + q.fetching
  let want := min (q.held - own) (32 - own)
  let shared := 16384 - s.prefetched
  max (min want shared) (min want (2 - own))

/-- The descriptor fetcher issues its reads for a queue pair (R24 step 2, R184). -/
def State.fetch (s : State) (i q : Nat) : State :=
  match s.qp i q with
  | none => s
  | some x =>
    if s.mayFetch i x then
      let n := s.fetchRoom x
      let first := x.c + x.cache.length + x.fetching
      (s.modQp i q fun y => { y with fetching := y.fetching + n }).sendAll
        ((List.range n).map fun j => .fetchRead i q ((first + j) % (2 * x.n)))
    else s

/-- A queue pair becomes DISABLED with its indices at 0, and ACTIVE at once where ENABLE has been
set again (R138). -/
def State.stopQp (s : State) (i q : Nat) : State :=
  let on := s.instState i == .enabled
  s.modQp i q fun x =>
    { x.discard with
      state := if x.enable && on then .active else .disabled
      errCode := 0, p := 0, c := 0, q := 0, d := 0
      fenceBy := none, fenceWaited := false, waitSince := none, waitTold := false
      lastHinted := none }

/-- A queue pair whose ENABLE is clear and whose last job has left passes through STOPPING to
DISABLED (R138, R192, R194). -/
def State.checkStopped (s : State) (i q : Nat) : State :=
  match s.qp i q with
  | none => s
  | some x =>
    if (x.state == .stopping || (x.state == .error && !x.enable)) && (s.jobsOfQp i q).isEmpty then
      s.stopQp i q
    else s

/-! ### The engine side of a job -/

/-- The clear port zeroes a region's sealed and public allocations and its job-private matrix
allocation (R261); a staged copy stays. How long it takes is a free value within the bound of R261, kept in
CLOVE_ZEROISE_MAX_NS (R263, log entry 7). -/
def State.clearRegion (s : State) (r : Region) : State :=
  let lines := r.sealedLines + r.publicLines + if r.staged then 0 else r.matrixLines
  let x := s.take 2
  let ns := ofLe x.1 % (2 * lines * s.gov.tempo / 1000 + 1)
  let s := if x.2.counter 0x510005 0 < ns then x.2.setCounter 0x510005 0 ns else x.2
  s.modOpMem r.engine fun m =>
    let m := (Mem.clear m (512 * r.sealedBase) (512 * r.sealedLines))
    let m := (Mem.clear m (512 * r.publicBase) (512 * r.publicLines))
    if r.staged then m else Mem.clear m (512 * r.matrixBase) (512 * r.matrixLines)

/-- The Saffron units a job holds are zeroed and freed (R28, R320). -/
def State.freeSaffron (s : State) (k : Nat) : State :=
  { s with saffron := s.saffron.map fun u => if u.holder == some k then {} else u }

/-- A job's commands leave the engines' queues. -/
def State.dropWaiting (s : State) (k : Nat) : State :=
  { s with sched := { s.sched with waiting := s.sched.waiting.filter (·.slot != k) } }

/-- The end of a job's work on the engines: its region zeroed and freed, its holds given back, its
job data space released (R35, R251, R261, R307). -/
def State.releaseUnits (s : State) (k : Nat) : State :=
  match s.job k with
  | none => s
  | some j =>
    let s := match j.region with
      | some r => s.clearRegion r
      | none => s
    let s := (s.freeSaffron k).dropWaiting k
    s.modJob k fun j => { j with region := none, jobData := 0, floatMode := false, decodeMode := false, run := none }

/-! ### Key records that a job may leave behind -/

/-- The generation of a record index: 1 until it is first raised (R389, R390). -/
def State.genOf (s : State) (k : Nat) : Nat := (look k s.keys.gens).getD 1

/-- The generation of an index is raised, 16,383 going back to 1 (R390). -/
def State.bumpGen (s : State) (k : Nat) : State :=
  let g := s.genOf k
  { s with keys := { s.keys with gens := put k (if g = 16383 then 1 else g + 1) s.keys.gens } }

/-- INDEX of a handle. -/
def handleIndex (h : BitVec 64) : Nat := bits h.toNat 37 14
/-- FLAGS of a key record (Table - Record flags). -/
def KeyRecord.flag (r : KeyRecord) (b : Nat) : Bool := bit r.flags.toNat b
/-- A staged copy a region references (R250). -/
def State.stagedUsed (s : State) (e base : Nat) : Bool :=
  s.jobs.any fun j => match j.2.region with
    | some r => r.staged && r.engine == e && r.matrixBase == base
    | none => false

/-- The number that names an expanded matrix: two for each record index, the ML-DSA one and the ML-KEM
one (a peer record has both). -/
def matrixKey (k : Nat) (kem : Bool) : Nat := 2 * k + (if kem then 1 else 0)

/-- The expanded matrices of a record leave the cache; staged copies no region references go with
them (R216, R251). -/
def State.dropMatrix (s : State) (k : Nat) : State :=
  { s with sched := { s.sched with
    matrix := s.sched.matrix.filter (·.1 / 2 != k)
    staged := s.sched.staged.filter fun c => c.key / 2 != k || s.stagedUsed c.engine c.base } }

/-- A key record leaves every tier: its index takes a new generation and stays taken while a job
pins it (R23, R390, R399). -/
def State.removeRecord (s : State) (k : Nat) : State :=
  match s.record k with
  | none => s
  | some r =>
    let pinned := s.jobs.any fun j => j.2.pinGens.contains (k, r.gen)
    let s := { s with keys := { s.keys with
      records := del k s.keys.records
      pinnedGone := if pinned then s.keys.pinnedGone ++ [(k, r.gen)] else s.keys.pinnedGone } }
    (s.bumpGen k).dropMatrix k

/-- The job-scoped records of a job that are not retained are wiped (R358). -/
def State.wipeScoped (s : State) (k : Nat) : State :=
  match s.job k with
  | none => s
  | some j =>
    let s := s.forEach (j.runKeys.map handleIndex) fun s x =>
      match s.record x with
      | some r => if r.flag 6 then s.removeRecord x else s
      | none => s
    s.modJob k fun j => { j with runKeys := [] }

/-! ### The timing shield -/

/-- The quantum of a shield class (R203, R209). -/
def State.quantumOf (s : State) (c : Nat) : Nat := fieldLe (4 * c) 4 (s.odBytes 0x200001)

/-- An honoured SHIELD_OVERRIDE: the entry asks for it and the mask of its instance allows it for
the class (R165, R210). -/
def State.overridden (s : State) (j : Job) : Bool :=
  bit j.entry.flags.toNat 5 && bit (fieldLe (4 * j.inst) 4 (s.odBytes 0x200002)) j.cls

/-- The shield holds a job: its class is shielded and it has passed its origin (R206). -/
def State.shields (s : State) (j : Job) : Bool :=
  j.cls != 0 && j.origin.isSome && !s.overridden j

/-- The count since a job's origin (R204). -/
def State.elapsed (s : State) (j : Job) : Nat := s.gov.refCount - j.origin.getD s.gov.refCount

/-- B, the least multiple of Q that is at least R and at least Q (R205). -/
def boundary (q r : Nat) : Nat := max 1 (ceilDiv r q) * q

/-! ### How a job ends -/

/-- Whether a job's completion needs an entry: NO_POST leaves out the entries of OK and
OK_CORRECTED (R164). -/
def Job.posts (j : Job) : Bool :=
  !(bit j.entry.flags.toNat 6 && (j.result.status == .ok || j.result.status == .okCorrected))

/-- The finished jobs of a queue pair wait for room while its completion ring is full (R190, R191);
WAIT_COUNTS counts the jobs that begin to wait. -/
def State.markWaits (s : State) (i q : Nat) : State :=
  match s.qp i q with
  | none => s
  | some x =>
    let late := (s.jobsOfQp i q).filter fun k => k.2.phase == .finished && k.2.posts
    if x.full && !late.isEmpty then
      let fresh := late.filter fun k => !k.2.waited
      let s := s.forEach fresh fun s k => s.modJob k.1 fun j => { j with waited := true }
      let s := s.bump 0x200015 3 fresh.length
      s.modQp i q fun y => { y with waitSince := some (y.waitSince.getD s.now) }
    else s.modQp i q fun y => { y with waitSince := none, waitTold := false }

/-- The completion collector accepts a job (R24 step 12, R217). -/
def State.collect (s : State) (k : Nat) : State :=
  match s.job k with
  | none => s
  | some j =>
    ((s.wipeScoped k).modJob k fun j => { j with phase := .finished, finish := s.now }).markWaits j.inst j.qp

/-- A job has its result: the shield takes it, or it stands ready at once (R205, R206). -/
def State.settle (s : State) (k : Nat) (res : JobResult) : State :=
  match s.job k with
  | none => s
  | some j =>
    let held := s.shields j
    let overridden : Bool := j.cls != 0 && j.origin.isSome && s.overridden j
    let s := s.modJob k fun j =>
      { j with result := res, phase := .ready, ready := s.elapsed j, shielded := held }
    let s := s.when held fun s => s.bump 0x200016 0 1
    s.when overridden fun s => s.bump 0x200016 1 1

/-- Bytes written over the first of a job's output pieces, as the block's writes (R163). -/
def pieceWrites (i : Nat) : List (Nat × Nat) → Bytes → List Outbound
  | [], _ => []
  | (a, n) :: r, b =>
    if b.isEmpty then [] else .memWrite i a (b.take n) :: pieceWrites i r (b.drop n)

/-- A byte string written to a job's output space (R24 step 10). -/
def State.writeDst (s : State) (j : Job) (b : Bytes) : State := s.sendAll (pieceWrites j.inst j.dst b)

/-- Output that was streamed before its tag was checked is overwritten with zeros (R340). -/
def State.unstream (s : State) (j : Job) : State := s.writeDst j (zeros j.result.streamed)

/-- A LAST that has taken its context and passed checks 1 to 8 (R285). -/
def Job.closesCtx (j : Job) : Bool :=
  let o := j.entry.opcode.toNat
  bits o 15 8 == 0x0B && decide (bits o 3 0 ≤ 3) && bits j.entry.param.toNat 63 62 == 3 &&
  (j.phase == .running || j.phase == .computed || j.phase == .ready)

/-- Such a LAST closes its context whatever its final status (R285). -/
def State.closeLast (s : State) (j : Job) : State :=
  if j.closesCtx then { s with ctxs := del (4096 * j.inst + j.entry.ctx.toNat) s.ctxs } else s

/-- A job ends with a result and without a last act: its engine side is released, and unless the shield
holds it the collector takes it (R35, R206). A job whose result stands keeps it. -/
def State.endWith (s : State) (k : Nat) (res : JobResult) : State :=
  match s.job k with
  | none => s
  | some j =>
    if j.phase == .ready || j.phase == .finished then s
    else
      let s := ((s.closeLast j).releaseUnits k).settle k res
      if s.shields j then s else s.collect k

/-- A job ends with a status and its DETAIL. -/
def State.endJob (s : State) (k : Nat) (st : Status) (detail : Nat) : State :=
  s.endWith k { status := st, detail := BitVec.ofNat 64 detail }

/-- A job that is running ends with ABORTED, at once and unshielded (R35, R206, R207). -/
def State.abortJob (s : State) (k : Nat) (detail : Nat) : State :=
  match s.job k with
  | none => s
  | some j =>
    if j.phase == .finished then s
    else
      let s := ((s.unstream j).closeLast j).releaseUnits k
      let s := s.modJob k fun j =>
        { j with result := { status := .aborted, detail := BitVec.ofNat 64 detail }, shielded := false }
      s.collect k

/-! ### Releasing a slot -/

/-- The indices deleted while pinned become free when no job pins them any more (R399). -/
def State.freePinned (s : State) : State :=
  let pinned (g : Nat × Nat) : Bool := s.jobs.any fun j => j.2.pinGens.contains g
  { s with keys := { s.keys with pinnedGone := s.keys.pinnedGone.filter pinned } }

/-- The record places a job still reserves return to its instance (R225). -/
def State.returnPlaces (s : State) (j : Job) : State :=
  if j.reservedPlaces = 0 then s
  else s.modInst j.inst fun n => { n with reserved := n.reserved - j.reservedPlaces }

/-- The IV_GEN counts of a key record or an open slot, by its record index: invocations counted and counts
reserved (R336, R339, R389). -/
def State.ivCounts (s : State) (k : Nat) : Nat × Nat :=
  if k < 0xC00000 then (match s.record k with
    | some r => (r.ivUsed, r.ivReserved)
    | none => (0, 0))
  else match look (k - 0xC00000) s.keys.slots with
    | some r => (r.ivUsed, r.ivReserved)
    | none => (0, 0)

/-- The state with the IV_GEN counts of a record set. -/
def State.setIv (s : State) (k used reserved : Nat) : State :=
  if k < 0xC00000 then s.modRecord k fun r => { r with ivUsed := used, ivReserved := reserved }
  else { s with keys := { s.keys with
    slots := upd (k - 0xC00000) (fun r => { r with ivUsed := used, ivReserved := reserved }) s.keys.slots } }

/-- An IV_GEN count a job reserved and did not spend returns to its record (R339). -/
def State.returnIv (s : State) (j : Job) : State :=
  if j.ivReserved then
    let k := bits j.entry.key0.toNat 37 14
    let c := s.ivCounts k
    s.setIv k c.1 (c.2 - 1)
  else s

/-- A slot is released: context gone, records unpinned, the fence it stood for lifted, its queue
pair stopped where it was the last (R24 step 13, R35, R138, R188, R195). -/
def State.releaseSlot (s : State) (k : Nat) : State :=
  match s.job k with
  | none => s
  | some j =>
    let s := ((((s.wipeScoped k).releaseUnits k).returnPlaces j).returnIv j).freeJob k
    let s := s.freePinned
    let s := s.modQp j.inst j.qp fun x =>
      { x with fenceBy := if x.fenceBy == some j.order then none else x.fenceBy }
    s.checkStopped j.inst j.qp

/-- A job is squashed: it stops, is zeroed and posts nothing (R35, R148). -/
def State.squashJob (s : State) (k : Nat) : State := s.releaseSlot k

/-- Every job of an instance is squashed. -/
def State.squashInst (s : State) (i : Nat) : State :=
  s.forEach ((s.jobsOf i).map (·.1)) fun s k => s.squashJob k

/-- Every job of the block is squashed (R74). -/
def State.squashAll (s : State) : State :=
  s.forEach (s.jobs.map (·.1)) fun s k => s.squashJob k

end Sys2Proof.Machine
end

