-- ==== Sys2Proof/Machine/Records.lean ====
section
/-! DEFINITION. The key store's own operations: generations, how a record, a peer record or an open
slot comes and goes, the matrix cache beside them, and the wipes (R17, R84, R146, R211 to R216, R389,
R390, R399, R412 to R416). -/

namespace Sys2Proof.Machine

open Sys2Proof

/-! ### Generations and handles -/

/-- First record index of the peer records and of the open slots (R389). -/
def peerBase : Nat := 0x800000
/-- First record index of the open slots (R389). -/
def slotBase : Nat := 0xC00000

/-- OWNER of a handle. -/
def handleOwner (h : BitVec 64) : Nat := bits h.toNat 47 38
/-- GENERATION of a handle. -/
def handleGen (h : BitVec 64) : Nat := bits h.toNat 13 0

/-- PERSISTENT. -/
def KeyRecord.persistent (r : KeyRecord) : Bool := r.flag 0

/-- The handle of a key record. -/
def KeyRecord.handle (r : KeyRecord) (k : Nat) : BitVec 64 := Machine.handle r.owner k r.gen

/-- The attributes of a key record (Table - Record attributes, R394). -/
def KeyRecord.attributes (r : KeyRecord) (k : Nat) : Bytes :=
  fields [(8, (r.handle k).toNat), (1, r.cls), (1, r.state), (2, r.binding.toNat),
    (4, r.flags.toNat), (4, r.secret.length), (4, r.pub.length), (8, r.version),
    (8, r.createTime.toNat), (1, r.origin), (7, 0), (8, r.parent.toNat), (8, 0)]

/-- The handle of an open slot. -/
def OpenSlot.handle (r : OpenSlot) (k : Nat) : BitVec 64 := Machine.handle r.user (slotBase + k) r.gen

/-- The attributes of an open slot: HOST_WRITTEN alone, ORIGIN OPEN_SLOT (R394, R414). -/
def OpenSlot.attributes (r : OpenSlot) (k : Nat) : Bytes :=
  fields [(8, (r.handle k).toNat), (1, r.cls), (1, 0), (2, r.binding.toNat), (4, 32),
    (4, r.secret.length), (4, 0), (8, 1), (8, r.createTime.toNat), (1, 5), (7, 0), (8, 0), (8, 0)]

/-- The 3,584 bytes of a peer record as outputs and the DIRECTORY window show it: PAIRWISE_SECRET
zero (Table - Peer record, R416). -/
def Peer.bytesOut (r : Peer) : Bytes :=
  fields [(8, r.peerId.toNat), (2, r.owner), (1, r.sigSet), (1, r.mlkemSet),
    (2, (if r.secretPresent then 1 else 0) + (if r.revoked then 2 else 0)), (2, r.gen),
    (8, r.enrolTime.toNat), (8, 0)] ++ zeros 32 ++ fit 1952 r.sigPk ++ fit 1568 r.mlkemPk

/-! ### Records that go -/

/-- Several key records leave. -/
def State.removeRecords (s : State) (ks : List Nat) : State := s.forEach ks fun s k => s.removeRecord k

/-- A peer record leaves (R390, R416). -/
def State.removePeer (s : State) (i : Nat) : State :=
  if (look i s.keys.peers).isSome then
    let s := { s with keys := { s.keys with peers := del i s.keys.peers } }
    (s.bumpGen (peerBase + i)).dropMatrix (peerBase + i)
  else s

/-- An open slot is emptied (R390, R414). -/
def State.removeSlot (s : State) (k : Nat) : State :=
  if (look k s.keys.slots).isSome then
    ({ s with keys := { s.keys with slots := del k s.keys.slots } }).bumpGen (slotBase + k)
  else s

/-- Several open slots are emptied. -/
def State.removeSlots (s : State) (ks : List Nat) : State := s.forEach ks fun s k => s.removeSlot k

/-- The volatile records of an instance. -/
def State.volatileOf (s : State) (i : Nat) : List Nat :=
  (s.keys.records.filter fun r => r.2.owner == i && !r.2.persistent).map (·.1)

/-- Every record tier S and tier V hold alone is lost: volatile records, open slots, cached matrices
(R17, R84); persistent records and peer records stand in tier A. -/
def State.loseVolatile (s : State) : State :=
  let s := s.removeRecords ((s.keys.records.filter fun r => !r.2.persistent).map (·.1))
  let s := s.removeSlots (s.keys.slots.map (·.1))
  { s with
    keys := { s.keys with
      records := s.keys.records.map fun r => (r.1, { r.2 with inS := false, inV := false, inA := true })
      peers := s.keys.peers.map fun r => (r.1, { r.2 with inS := false }) }
    sched := { s.sched with matrix := [], staged := [], uses := [] } }

/-- Tier S and the vault memory encryption key are zeroed (R17, R61, R485). -/
def State.wipeKeys (s : State) : State :=
  ({ s with start := { s.start with vmek := none } }).loseVolatile

/-- The open streaming contexts of an instance are wiped (R287). -/
def State.dropCtxs (s : State) (i : Nat) : State :=
  { s with ctxs := s.ctxs.filter fun c => c.1 / 4096 != i }

/-! ### Tiers -/

/-- The 8 GiB of the key record area (R211). -/
def keyArea : Nat := 8 * 2 ^ 30

/-- Adds to a RESIDENCY_COUNTS counter: 0 S hits, 1 V reads, 2 A reads, 3 H reads, 4 S evictions,
5 V to H moves, 6 PERSISTENT V drops, 7 R22 discards (R219). -/
def State.countTier (s : State) (pos n : Nat) : State := s.bump 0x200013 pos n

/-- Records a job pins. -/
def State.isPinned (s : State) (k : Nat) : Bool := s.jobs.any fun j => j.2.pins.contains k

/-- The least recently used of a list of records. -/
def leastUsed : List (Nat × Nat) → Option Nat
  | [] => none
  | (k, t) :: r => match leastUsed r with
    | none => some k
    | some j => if num j r < t then some j else some k

/-- The least recently used unpinned record in tier S of those a test picks leaves it (R213). -/
def State.evictOne (s : State) (mine : KeyRecord → Bool) : Option State :=
  let c := s.keys.records.filter fun r => mine r.2 && r.2.inS && !s.isPinned r.1
  (leastUsed (c.map fun r => (r.1, r.2.lastUse))).map fun k =>
    (s.modRecord k fun r => { r with inS := false }).countTier 4 1

/-- The least recently used unpinned peer record in tier S of those a test picks leaves it. -/
def State.evictPeer (s : State) (mine : Peer → Bool) : Option State :=
  let c := s.keys.peers.filter fun r => mine r.2 && r.2.inS && !s.isPinned (peerBase + r.1)
  (leastUsed (c.map fun r => (r.1, r.2.lastUse))).map fun k =>
    ({ s with keys := { s.keys with peers := upd k (fun r => { r with inS := false }) s.keys.peers } }).countTier 4 1

/-- Records of an instance leave tier S until its use fits its quota, at most `n` of them (R213). -/
def State.evictInst (i : Nat) : Nat → State → State
  | 0, s => s
  | n + 1, s =>
    if s.tierSBytes i ≤ 1024 * s.tierSOf i then s
    else match s.evictOne (·.owner == i) with
      | some s' => State.evictInst i n s'
      | none => match s.evictPeer (·.owner == i) with
        | some s' => State.evictInst i n s'
        | none => s

/-- Records of a port leave tier S until its use fits its quota (R213). -/
def State.evictPort (p : Nat) : Nat → State → State
  | 0, s => s
  | n + 1, s =>
    if s.tierSBytesPort p ≤ 1024 * s.portOd p 6 then s
    else match s.evictOne fun r => s.portOf r.owner == some p with
      | some s' => State.evictPort p n s'
      | none => match s.evictPeer fun r => s.portOf r.owner == some p with
        | some s' => State.evictPort p n s'
        | none => s

/-- Tier S quotas of an instance and its port are kept (R213). -/
def State.trimS (s : State) (i : Nat) : State :=
  let n := s.keys.records.length + s.keys.peers.length
  let s := State.evictInst i n s
  match s.portOf i with
  | some p => State.evictPort p n s
  | none => s

/-- Room left in an instance's spill area: sealed records of 112 bytes beside their content
(R21, R395). -/
def State.spillRoom (s : State) (i : Nat) : Nat :=
  let used := ((s.keys.records.filter fun r => r.2.owner == i && r.2.inH).map
    fun r => 112 + r.2.secret.length + r.2.pub.length).sum
  if (s.inst i).spillEnable && !(s.inst i).spillBusy then
    (s.inst i).spillMib.toNat * 2 ^ 20 - used
  else 0

/-- Whether a record may leave tier V: a persistent one always, a volatile one where its owner's
spill area has room (R213). -/
def State.mayLeaveV (s : State) (k : Nat) (r : KeyRecord) : Bool :=
  r.inV && !s.isPinned k && r.state != 1 &&
  (r.persistent || decide (112 + r.secret.length + r.pub.length ≤ s.spillRoom r.owner))

/-- Records leave the key record area until its use is at most a mark, at most `n` of them (R213). -/
def State.drainV (mark : Nat) : Nat → State → State
  | 0, s => s
  | n + 1, s =>
    if s.tierVBytes ≤ mark then s
    else
      let c := s.keys.records.filter fun r => s.mayLeaveV r.1 r.2
      match leastUsed (c.map fun r => (r.1, r.2.lastUse)) with
      | none => s
      | some k =>
        let keep := ((s.record k).map (·.persistent)).getD true
        let s := s.modRecord k fun r => { r with inS := false, inV := false, inH := !keep }
        State.drainV mark n (s.countTier (if keep then 6 else 5) 1)

/-- Above SPILL_HIGH_WATER_PCT records leave tier V until use is five points below the mark (R213). -/
def State.trimV (s : State) : State :=
  let pct := s.odNum 0x200005
  if 100 * s.tierVBytes ≤ pct * keyArea then s
  else State.drainV ((pct - 5) * keyArea / 100) s.keys.records.length s

/-- Whether the key record area takes a further record of `n` bytes, once records have left it
(R215). -/
def State.roomV (s : State) (n : Nat) : Bool := decide (s.tierVBytes + n ≤ keyArea)

/-! ### New records -/

/-- The key record indices in use: those of records, of deleted records still pinned, and of records
that jobs have taken a place for. -/
def State.indexTaken (s : State) (k : Nat) : Bool :=
  (s.record k).isSome || s.keys.pinnedGone.any (·.1 == k)

/-- The lowest free key record index (R389); the manual does not say which free index is taken
(log entry 19). -/
def State.freeIndex (s : State) : Option Nat :=
  (List.range (min 0x400000 (s.keys.records.length + s.keys.pinnedGone.length + 1))).find? fun k =>
    !s.indexTaken k

/-- A record is created at an index: with its generation, present in tiers S and V, and in tier A
when persistent and not job-scoped (R20, R212, R225, R358). -/
def State.createAt (s : State) (k : Nat) (r : KeyRecord) : State :=
  let s := s.setRecord k { r with
    gen := s.genOf k, version := 1, createTime := s.time64, inV := true, inA := r.persistent && !r.flag 6
    inS := r.cacheable, inH := false, lastUse := s.now }
  (s.trimS r.owner).trimV

/-- Key records a port may still take, and an instance (R142, R150). -/
def State.placesLeft (s : State) (i : Nat) : Nat :=
  let mine := s.recQuotaOf i - (s.recordsOf i + (s.inst i).reserved)
  match s.portOf i with
  | none => mine
  | some p =>
    let res := (s.insts.filter fun n => s.portOf n.1 == some p).map fun n => n.2.reserved
    min mine (s.portOd p 5 - (s.recordsOfPort p + res.sum))

end Sys2Proof.Machine
end

