-- ==== Sys2Proof/Machine/Entropy.lean ====
section
/-! DEFINITION. Conditioned blocks and the DRBG instances that wait for them, and the draws of jobs
and of the block itself (R426 to R438). What a DRBG puts out is free bytes (log entry 17). -/

namespace Sys2Proof.Machine

open Sys2Proof

/-- Credit, in hundredths of a bit, at which the pool conditions a block (R426). -/
def blockCredit : Nat := 32000

/-- The pool conditions its register into a ready block when its credit suffices and none waits
(R426). -/
def State.condition (s : State) : State :=
  if s.rng.running && s.rng.ready.isNone && blockCredit ≤ s.rng.credit then
    { s with rng := { s.rng with ready := some (sha3_256 (le 64 s.rng.pool.toNat)), credit := 0 } }
  else s

/-- DRBG_COUNTS: 0 instantiations, 1 reseeds, 2 generate requests, 3 ENTROPY_UNAVAILABLE (R439). -/
def State.countDrbg (s : State) (pos n : Nat) : State := s.bump 0x24000A pos n

/-- An internal instance is not instantiated and lacks blocks (R428, R431). -/
def State.internalWants (s : State) : Bool :=
  let missing := (s.rng.internal.filter fun d => !d.instantiated).length
  decide (s.rng.internalBlocks < 2 * missing)

/-- The internal instances whose reseed is due (R435). -/
def State.internalDue (s : State) : Option Nat :=
  (List.range 16).find? fun j =>
    (s.rng.internal.getD j {}).instantiated && (s.rng.internal.getD j {}).due

/-- A DRBG that has just been seeded from the pool. -/
def State.freshDrbg (s : State) : Drbg :=
  { seeded := true, instantiated := true, requests := 0, reseedAt := s.now, due := false }

/-- The ready block goes to the first that waits for one: internal instances, instantiations, then
reseeds (R428). -/
def State.handBlock (s : State) : State :=
  if s.rng.ready.isNone then s
  else
    let s0 := { s with rng := { s.rng with ready := none } }
    if s.internalWants then
      { s0 with rng := { s0.rng with internalBlocks := s0.rng.internalBlocks + 1 } }
    else match s.internalDue with
    | some j =>
      ({ s0 with rng := { s0.rng with internal := s0.rng.internal.set j s.freshDrbg } }).countDrbg 1 1
    | none => match s.rng.instQueue with
      | i :: rest =>
        if (s.inst i).drbgBlocks = 0 then s0.modInst i fun n => { n with drbgBlocks := 1 }
        else
          let s1 := { s0 with rng := { s0.rng with instQueue := rest } }
          (s1.modInst i fun n => { n with drbg := s.freshDrbg, drbgBlocks := 0 }).countDrbg 0 1
      | [] => match s.rng.reseedQueue with
        | i :: rest =>
          let s1 := { s0 with rng := { s0.rng with reseedQueue := rest } }
          (s1.modInst i fun n => { n with drbg := s.freshDrbg }).countDrbg 1 1
        | [] => s

/-- The reseeds of a restart are all done: the mask generators take theirs after the internal
instances', and POOL_RESTARTED follows the last (R435). -/
def State.endRestart (s : State) : State :=
  if s.rng.restarting && !s.rng.stopped && s.internalDue.isNone && s.rng.reseedQueue.isEmpty then
    ({ s with rng := { s.rng with restarting := false, masksSeeded := true } }).event .poolRestarted []
  else s

/-- Blocks are handed out and the next conditioned, while there are any and someone waits: at most
two stand at one moment (R426). -/
def State.serveBlocks (s : State) : State :=
  (((((s.condition).handBlock).condition).handBlock).condition).endRestart

/-- The DRBG of an instance asks to be instantiated anew: its state is zeroed (R427, R430). While
the pool is stopped it stays uninstantiated until the restart (R436). -/
def State.askDrbg (s : State) (i : Nat) : State :=
  let s := s.modInst i fun n => { n with drbg := {}, drbgBlocks := 0 }
  ({ s with rng := { s.rng with
    instQueue := s.rng.instQueue.filter (· != i) ++ [i]
    reseedQueue := s.rng.reseedQueue.filter (· != i) } }).serveBlocks

/-- The DRBG of an instance is zeroed and uninstantiated (R430). -/
def State.clearDrbg (s : State) (i : Nat) : State :=
  let s := s.modInst i fun n => { n with drbg := {}, drbgBlocks := 0 }
  { s with rng := { s.rng with
    instQueue := s.rng.instQueue.filter (· != i)
    reseedQueue := s.rng.reseedQueue.filter (· != i) } }

/-- A reseed of an instance's DRBG falls due and waits for its block (R428, R538). -/
def State.askReseed (s : State) (i : Nat) : State :=
  if (s.inst i).drbg.due then s
  else
    let s := s.modInst i fun n => { n with drbg := { n.drbg with due := true } }
    ({ s with rng := { s.rng with reseedQueue := s.rng.reseedQueue ++ [i] } }).serveBlocks

/-- A reseed is due before the next generate request of an instance (R428). -/
def State.reseedDue (s : State) (d : Drbg) : Bool :=
  decide (2 ^ 20 ≤ d.requests) ||
  decide (d.reseedAt + 1000000 * s.odNum 0x24000B ≤ s.now)

/-- An instance's DRBG serves requests now. -/
def State.drbgServes (s : State) (i : Nat) : Bool :=
  let d := (s.inst i).drbg
  !s.rng.stopped && d.seeded && !d.due

/-- An internal instance that can serve the next request: seeded, with no reseed due (R427, R428). -/
def State.internalFree (s : State) : Option Nat :=
  (List.range 16).find? fun j =>
    let d := s.rng.internal.getD j {}
    d.seeded && !d.due && !s.reseedDue d

/-- Some internal instance serves, now or once the block that stands ready has reseeded it (R427, R428). -/
def State.internalServes (s : State) : Bool :=
  !s.rng.stopped &&
    (s.internalFree.isSome || (s.rng.ready.isSome && s.rng.internal.any fun d => d.seeded))

/-- The internal instances whose reseed has fallen due wait for their blocks (R428). -/
def State.ageInternal (s : State) : State :=
  let late (d : Drbg) : Bool := d.instantiated && d.seeded && s.reseedDue d
  if s.internalFree.isSome then s
  else ({ s with rng := { s.rng with
    internal := s.rng.internal.map fun d => if late d then { d with due := true } else d } }).serveBlocks

/-- Bytes an internal instance generates (R427, R428; log entry 17). -/
def State.drawInternal (s : State) (n : Nat) : Bytes × State :=
  let q := ceilDiv n 65536
  let s := s.ageInternal
  let r := s.take n
  let s := r.2.countDrbg 2 q
  (r.1, { s with rng := { s.rng with
    internal := s.rng.internal.modify (s.internalFree.getD 0) fun d => { d with requests := d.requests + q } } })

/-- Bytes an instance's DRBG generates, in requests of at most 65,536 (R427, R438). -/
def State.drawInst (s : State) (i n : Nat) : Bytes × State :=
  let q := ceilDiv n 65536
  let r := s.take n
  let s := r.2.modInst i fun x => { x with drbg := { x.drbg with requests := x.drbg.requests + q } }
  (r.1, s.countDrbg 2 q)

end Sys2Proof.Machine
end

