-- ==== Sys2Proof/Machine/Endings.lean ====
section
/-! DEFINITION. What ends together with the service: sessions and their transaction (R110, R122),
digest windows (R290, R293), card operations (R521 to R524), and the entry into HALTED (R50, R79,
R80, R82, R110, R486). -/

namespace Sys2Proof.Machine

open Sys2Proof

/-! ### Sessions and the transaction -/

/-- The open transaction is rolled back (R122). -/
def State.rollback (s : State) : State :=
  if s.mgmt.txn.open_ then
    ({ s with mgmt := { s.mgmt with
      txn := { s.mgmt.txn with open_ := false, session := 0, owner := 0, staged := [] } } }).bump
      0x1F0006 0 1
  else s

/-- A session closes: its keys, its block transfer and its subscription go, its transaction is
rolled back (R110). -/
def State.closeSession (s : State) (id : BitVec 32) : State :=
  let own := s.mgmt.txn.open_ && s.mgmt.txn.session == id
  let s := { s with mgmt := { s.mgmt with sessions := s.mgmt.sessions.filter (·.id != id) } }
  if own then s.rollback else s

/-- Every session of a list closes. -/
def State.closeSessions (s : State) (ids : List (BitVec 32)) : State :=
  s.forEach ids fun s id => s.closeSession id

/-- Every session and every opening closes. -/
def State.closeAllSessions (s : State) : State := s.closeSessions (s.mgmt.sessions.map (·.id))

/-! ### Digest windows -/

/-- A window's state is cleared: chaining state, partial block, BYTE_COUNT and DIGEST zero (R293). -/
def Window.clear (w : Window) : Window :=
  { w with message := [], digest := [], active := false, done := false, extended := false }

/-- A digest window. -/
def State.window (s : State) (w : Nat) : Window := s.meas.windows.getD w {}

/-- The state with a digest window changed. -/
def State.modWindow (s : State) (w : Nat) (f : Window → Window) : State :=
  { s with meas := { s.meas with windows := s.meas.windows.modify w f } }

/-- Every held window's state is cleared with ALARM set (R293). -/
def State.alarmWindows (s : State) : State :=
  { s with meas := { s.meas with windows := s.meas.windows.map fun w =>
    if w.owner.isSome then { w.clear with alarm := true } else w } }

/-- A window is cleared and freed, with its INFO event (R290). -/
def State.freeWindow (s : State) (w : Nat) : State :=
  if (s.window w).owner.isSome then
    (s.modWindow w fun _ => {}).event .digestWindowFreed []
  else s

/-- The windows a test picks are freed. -/
def State.freeWindows (s : State) (p : Window → Bool) : State :=
  s.forEach (List.range 4) fun s w => if p (s.window w) then s.freeWindow w else s

/-! ### The custody card -/

/-- DETAIL of a card event: the serial, then a step, cause or operation code (R532). -/
def cardDetail (serial : BitVec 64) (code : Nat) : Bytes := le 8 serial.toNat ++ le 1 code

/-- The ordered power-down: VDD off, the card no longer identified (R521). -/
def State.cardPowerDown (s : State) : State :=
  { s with card := { s.card with
    state := .empty, step := 0, vdd := false, recovery := false, serial := 0, role := 0
    protPerm := false, protTemp := false, enrolled := false, authority := zeros 2721
    keyDigest := [], fallback := false, token := none, challenge := [] } }

/-- The card operation running or suspended ends with a status (R525). -/
def State.endCardOp (s : State) (st : Status) : State :=
  let op := s.card.op
  let s := { s with card := { s.card with
    image := none, op := { op with state := 3, status := BitVec.ofNat 16 st.code } } }
  if st == .ok then s.event .cardOpDone (cardDetail op.serial op.op)
  else s.event .cardOpFailed (cardDetail op.serial op.op)

/-- A card operation runs or is suspended. -/
def State.cardOpActive (s : State) : Bool := s.card.op.state == 1 || s.card.op.state == 2

/-- A restart, a warm reset, a fatal fault or a transition ends every card operation and powers the
card down in order (R521, R524); the status is not stated (log entry 20). -/
def State.endCard (s : State) : State :=
  let s := if s.cardOpActive then s.endCardOp .cardRemoved else s
  if s.card.vdd then
    let serial := s.card.serial
    s.cardPowerDown.event .cardRemoved (cardDetail serial 0)
  else s

/-! ### HALTED -/

/-- How far the ladder stays open in HALTED: the identity, log chain and mirror keys, or nothing
after a ladder or decode failure and where no root is in use (R486). -/
def State.haltLadder (s : State) (closed : Bool) : Ladder :=
  if closed || s.rootInUse.isNone then .closed else .limited

/-- The entry into HALTED: sessions, transaction, windows and card operations end, ALIVE opens, the
ladder narrows, every port sees HALTED (R43, R110, R122, R290, R485, R486). `cause` is HALT_CAUSE. -/
def State.enterHalted (s : State) (cause : Nat) (closed : Bool) : State :=
  let s := { s with
    start := { s.start with
      phase := .halted, haltCause := BitVec.ofNat 16 cause, ladder := s.haltLadder closed
      draining := none }
    pwr := { s.pwr with alive := false, alive1k := false } }
  let s := (s.closeAllSessions.rollback).alarmWindows
  let s := (s.freeWindows fun _ => true).endCard
  s.portEventAll .halted

end Sys2Proof.Machine
end

