-- ==== Sys2Proof/Machine/InstOps.lean ====
section
/-! DEFINITION. Resets of instances and of ports, and the destruction of an instance (R84, R130,
R144 to R148, R156, R427, R436, R536, R537). -/

namespace Sys2Proof.Machine

open Sys2Proof

/-- The cached translations of an instance are invalid (R148, R152, R154). -/
def State.dropTranslations (s : State) (i : Nat) : State :=
  { s with trans := {
    atc := s.trans.atc.filter (·.inst != i)
    table := s.trans.table.filter (·.1 != i) } }

/-- The spill grant of an instance is revoked without reading back: persistent records remain in
tier A (R140). -/
def State.dropSpill (s : State) (i : Nat) : State :=
  let s := s.modInst i fun n => { n with spillEnable := false, spillBusy := false }
  { s with keys := { s.keys with records := s.keys.records.map fun r =>
    if r.2.owner = i then (r.1, { r.2 with inH := false }) else r } }

/-- Volatile records, streaming contexts, translations and the spill grant of an instance go (step 5
of Table - Instance reset). -/
def State.wipeInst (s : State) (i : Nat) : State :=
  let s := s.removeRecords (s.volatileOf i)
  (((s.dropCtxs i).dropTranslations i).dropSpill i)

/-- The queue pair after an instance reset: DISABLED, ENABLE clear, indices 0; its configuration
stays (R148, R537). -/
def Qp.afterReset (q : Qp) : Qp :=
  { enable := false, ordered := q.ordered, log2 := q.log2, vector := q.vector
    sqBase := q.sqBase, cqBase := q.cqBase }

/-- The registers of an instance at their reset values: its queue pair pages and the writable fields
of its control page (R537). -/
def State.resetRegs (s : State) (i : Nat) : State :=
  s.modInst i fun n => { n with
    qps := List.replicate (s.qpCountOf i) {}
    errVector := 0, spillIova := 0, spillMib := 0, spillEnable := false }

/-- An instance reset is accepted: RESETTING, fetching stops, undispatched entries are discarded,
a freeze under way is abandoned; in squash mode its jobs stop at once (R147, R148). -/
def State.startReset (s : State) (i : Nat) (squash : Bool) : State :=
  let was := (s.inst i).state == .enabled
  let s := s.modInst i fun n => { n with
    wasEnabled := was, drain := some .reset, drainSince := s.now, resets := n.resets + 1
    migBusy := none, squashed := [], held := [], reseeding := false
    qps := n.qps.map Qp.discard }
  let s := s.setInstState i .resetting
  s.when squash fun s => s.squashInst i

/-- The end of an instance reset: queue pairs DISABLED, RESET_DONE and STATE_CHANGE set, back to
ENABLED or CREATED (R146, R148). -/
def State.endReset (s : State) (i : Nat) : State :=
  let s := s.modInst i fun n => { n with
    qps := n.qps.map Qp.afterReset, drain := none, reseeding := false }
  let s := s.setInstState i (if (s.inst i).wasEnabled then .enabled else .created)
  s.errorBit i .resetDone

/-- Key records and peer records an instance owns. -/
def State.ownedRecords (s : State) (i : Nat) : List Nat :=
  (s.keys.records.filter (·.2.owner == i)).map (·.1)
/-- Peer records an instance owns. -/
def State.ownedPeers (s : State) (i : Nat) : List Nat :=
  (s.keys.peers.filter (·.2.owner == i)).map (·.1)

/-- The end of INST_DESTROY: every record, peer record and open slot of the instance is wiped, its
recipes and configuration go, INSTANCE_DESTROYED carries both counts (R146, R390, R414). -/
def State.endDestroy (s : State) (i : Nat) : State :=
  let ks := s.ownedRecords i
  let ps := s.ownedPeers i
  let slots := (s.keys.slots.filter (·.2.user == i)).map (·.1)
  let s := (s.removeRecords ks).forEach ps fun s p => s.removePeer p
  let s := (((s.removeSlots slots).dropCtxs i).dropTranslations i).clearDrbg i
  let s := s.setInstState i .unallocated
  let s := s.setInst i { errStatus := (s.inst i).errStatus }
  s.eventOf .instanceDestroyed i (le 4 ks.length ++ le 4 ps.length)

/-- The port manager's own instance with its fixed resources; once the block is ready its DRBG is
instantiated (R427, R536). -/
def State.ownInstance (s : State) (p : Nat) : State :=
  let s := s.setInst p { qps := List.replicate (s.port p).pmQps {} }
  if s.ready then s.askDrbg p else s.clearDrbg p

/-- A port reset reaches a VF instance of the port: squashed, wiped, registers at reset values,
CREATED; a destruction under way ends (R84, R145, R436, R537). -/
def State.portResetVf (s : State) (i : Nat) : State :=
  let s := s.squashInst i
  let s := ((s.wipeInst i).clearDrbg i).resetRegs i
  let s := s.modInst i fun n => { n with
    drain := none, reseeding := false, migBusy := none, squashed := [], held := [], wasEnabled := false
    msix := [], msixPending := [] }
  if (s.inst i).state == .destroying then s.endDestroy i
  else if (s.inst i).state == .created then s
  else s.setInstState i .created

/-- The registers of a port's functions at their reset values (R84, R136, R537; log entry 21), with
the values that take effect at a port reset (R144). -/
def State.portRegs (s : State) (p : Nat) : State :=
  s.modPort p fun t => { t with
    base := s.portOd p 1, count := s.portOd p 2, deviceTable := s.portOd p 8 == 1, pmQps := s.portOd p 9
    evStatus := 0, evEnable := 0, evVector := 0
    mbxReq := zeros 256, mbxResp := zeros 256, mbxBusy := false, mbxDone := false
    txFrame := zeros 1400, txLen := 0, txBusy := false, rxFrame := none, rxQueue := []
    msix := [], msixPending := [] }

/-- A port reset: every instance of the port is squashed and wiped, its open slots and digest windows
go, its registers return to their reset values, its own instance starts afresh (R84, R130, R144,
R145, R290, R414). -/
def State.portReset (s : State) (p : Nat) : State :=
  let s := (s.squashInst p).wipeInst p
  let s := s.forEach (s.instsOfPort p) fun s i => s.portResetVf i
  let s := s.removeSlots ((s.keys.slots.filter (·.1 / 1024 == p)).map (·.1))
  let s := s.freeWindows fun w => w.owner == some p
  let s := s.portRegs p
  let s := s.modPort p fun t => { t with resets := t.resets + 1 }
  s.ownInstance p

end Sys2Proof.Machine
end

