-- ==== Sys2Proof/Machine/Placement.lean ====
section
/-! DEFINITION. Where a job runs: the sequencer, the region of a ring arithmetic engine, and the
matrix cache beside it (R202, R216, R249 to R251, R307). -/

namespace Sys2Proof.Machine

open Sys2Proof

/-- A unit is ACTIVE. -/
def State.activeUnit (s : State) (u : Nat) : Bool := (s.units.getD u {}).state == .active

/-- The ring arithmetic engine paired with a sequencer (R246, R488). -/
def State.pairOf (s : State) (q : Nat) : Nat := (s.units.getD (unitIndex 1 q) {}).partner

/-- Work queued on a sequencer: the jobs it runs that are not held or finished (R202, R207). -/
def State.queuedOn (s : State) (q : Nat) : Nat :=
  (s.jobs.filter fun j => j.2.sequencer == q &&
    (j.2.phase == .pinned || j.2.phase == .running || j.2.phase == .computed)).length

/-- A sequencer reserved to a job in a sealed mode takes no other job (R238, R310). -/
def State.reserved (s : State) (q : Nat) : Bool :=
  s.jobs.any fun j => j.2.sequencer == q && (j.2.floatMode || j.2.decodeMode)

/-- The active sequencers that take jobs. -/
def State.openSequencers (s : State) : List Nat :=
  (List.range 72).filter fun q => s.activeUnit (unitIndex 1 q) && !s.reserved q

/-- The least loaded of a list of sequencers, the lowest number among equals. -/
def State.leastLoaded (s : State) : List Nat → Option Nat
  | [] => none
  | q :: r => match s.leastLoaded r with
    | none => some q
    | some b => if s.queuedOn b < s.queuedOn q then some b else some q

/-- The sequencer for a job: the one its hint prefers, one whose engine holds the staged matrix of
its key (while each of these has queued work, an idle one, into whose engine the matrix is then staged), the
one with the least queued work (R202, R243). -/
def State.chooseSequencer (s : State) (hint : Option Nat) (matrix : Option Nat) : Option Nat :=
  let all := s.openSequencers
  match hint.filter (all.contains ·) with
  | some q => some q
  | none =>
    let holds := all.filter fun q => match matrix with
      | some m => s.sched.staged.any fun c => c.engine == s.pairOf q && c.key == m
      | none => false
    let best := s.leastLoaded all
    match s.leastLoaded holds with
    | none => best
    | some q =>
      if 0 < s.queuedOn q && (best.map s.queuedOn) == some 0 then best else some q

/-! ### Regions -/

/-- The first of the bases `lo`, `lo + g`, … below `hi` at which `n` lines overlap no used stretch. -/
def firstFit (lo hi g n : Nat) (used : List (Nat × Nat)) : Option Nat :=
  ((List.range ((hi - lo) / g)).map fun i => lo + g * i).find? fun b =>
    decide (b + n ≤ hi) && used.all fun u => decide (b + n ≤ u.1) || decide (u.1 + u.2 ≤ b)

/-- The regions that lie in an engine. -/
def State.regionsIn (s : State) (e : Nat) : List Region :=
  s.jobs.filterMap fun j => match j.2.region with
    | some r => if r.engine = e then some r else none
    | none => none

/-- The number of a line of an on-die memory, or a page of tier V: 1 sequencer banks, 2 operand memories,
3 tier S, 4 the job context table, 5 tier V pages (R475, R476). -/
def lineNumber (area unit line : Nat) : Nat := 2 ^ 40 * area + 2 ^ 24 * unit + line

/-- The operand memory lines of an engine that lie in a mapped-out 64-byte line (R476). -/
def State.mappedIn (s : State) (e : Nat) : List (Nat × Nat) :=
  (s.faults.mappedOut.filter fun n => n / 2 ^ 24 == lineNumber 2 e 0 / 2 ^ 24).map
    fun n => (n % 2 ^ 24 / 8, 1)

/-- Staged copies no region references leave an engine's matrix area, oldest first, until `n` lines
fit, at most `k` of them (R250). -/
def State.fitMatrix (e n : Nat) : Nat → State → Option (Nat × State)
  | k, s =>
    let own := (s.regionsIn e).filterMap fun r =>
      if r.staged then none else some (r.matrixBase, r.matrixLines)
    let copies := (s.sched.staged.filter (·.engine == e)).map fun c => (c.base, c.lines)
    match firstFit 384 496 2 n (own ++ copies ++ s.mappedIn e) with
    | some b => some (b, s)
    | none => match k with
      | 0 => none
      | k + 1 =>
        match s.sched.staged.find? fun c => c.engine == e && !s.stagedUsed e c.base with
        | none => none
        | some c => State.fitMatrix e n k { s with sched := { s.sched with
            staged := s.sched.staged.erase c } }

/-- A region in one engine, sizes in KiB, with its matrix part where it needs one: a staged copy of a
cached matrix serves it, else a job-private allocation (R249 to R251). -/
def State.regionIn (s : State) (e sealedK publicK matrixK : Nat) (matrix : Option Nat) :
    Option (Region × State) :=
  if !s.activeUnit (unitIndex 2 e) then none
  else
    let rs := s.regionsIn e
    let out := s.mappedIn e
    match firstFit 0 256 8 (2 * sealedK) (rs.map (fun r => (r.sealedBase, r.sealedLines)) ++ out),
        firstFit 256 384 8 (2 * publicK) (rs.map (fun r => (r.publicBase, r.publicLines)) ++ out) with
    | some a, some b =>
      let r : Region := { engine := e, sealedBase := a, sealedLines := roundUp (2 * sealedK) 8
                          publicBase := b, publicLines := roundUp (2 * publicK) 8 }
      if matrixK = 0 then some (r, s)
      else
        let n := 2 * matrixK
        let copy := s.sched.staged.find? fun c => c.engine == e && some c.key == matrix
        match copy with
        | some c => some ({ r with matrixBase := c.base, matrixLines := c.lines, staged := true }, s)
        | none =>
          match State.fitMatrix e n s.sched.staged.length s with
          | none => none
          | some (m, s) =>
            let cached := match matrix with
              | some k => (look k s.sched.matrix).isSome
              | none => false
            let r := { r with matrixBase := m, matrixLines := n, staged := cached }
            if cached then some (r, { s with sched := { s.sched with
              staged := s.sched.staged ++ [{ engine := e, key := matrix.getD 0, base := m, lines := n }] } })
            else some (r, s)
    | _, _ => none

/-- The first engine of a list that has room. -/
def State.firstRegion (s : State) (sealedK publicK matrixK : Nat) (matrix : Option Nat) :
    List Nat → Option (Region × State)
  | [] => none
  | e :: r => match s.regionIn e sealedK publicK matrixK matrix with
    | some x => some x
    | none => s.firstRegion sealedK publicK matrixK matrix r

/-- A job's region: in the engine paired with its sequencer, else in one that holds its staged
matrix, else in any with room (R250). -/
def State.findRegion (s : State) (seq sealedK publicK matrixK : Nat) (matrix : Option Nat) :
    Option (Region × State) :=
  let holding := (s.sched.staged.filter fun c => some c.key == matrix).map (·.engine)
  s.firstRegion sealedK publicK matrixK matrix (s.pairOf seq :: (holding ++ List.range 72))

/-! ### The matrix cache -/

/-- Size in KiB of an expanded ML-DSA matrix by its SET (Table - Lattice region sizes). -/
def dsaMatrixKiB : Nat → Nat
  | 1 => 16 | 2 => 30 | _ => 56

/-- Size in KiB of an expanded ML-KEM matrix by its SET (Table - Lattice region sizes). -/
def kemMatrixKiB : Nat → Nat
  | 1 => 2 | 2 => 5 | _ => 8

/-- Size in KiB of a cached matrix. -/
def State.matrixKiB (s : State) (m : Nat) : Nat :=
  let k := m / 2
  let set := if k < peerBase then bits (((s.record k).map (·.binding.toNat)).getD 0) 7 4
    else match look (k - peerBase) s.keys.peers with
      | some r => if m % 2 = 1 then r.mlkemSet else r.sigSet
      | none => 0
  if m % 2 = 1 then kemMatrixKiB set else dsaMatrixKiB set

/-- KiB in use in the matrix cache. -/
def State.matrixUsed (s : State) : Nat := (s.sched.matrix.map fun m => s.matrixKiB m.1).sum

/-- MATRIX_CACHE_COUNTS: 0 hits, 1 misses, 2 admissions, 3 evictions (R219). -/
def State.countMatrix (s : State) (pos : Nat) : State := s.bump 0x200014 pos 1

/-- A job runs on a key whose matrix it is (R216). -/
def State.matrixBusy (s : State) (m : Nat) : Bool := s.isPinned (m / 2)

/-- Least recently used matrices without a running job leave the cache until it holds at most
`limit` KiB, at most `n` of them (R216, R219). -/
def State.trimMatrix (limit : Nat) : Nat → State → State
  | 0, s => s
  | n + 1, s =>
    if s.matrixUsed ≤ limit then s
    else match leastUsed (s.sched.matrix.filter fun m => !s.matrixBusy m.1) with
      | none => s
      | some m =>
        let s := { s with sched := { s.sched with matrix := del m s.sched.matrix } }
        State.trimMatrix limit n (s.countMatrix 3)

/-- MATRIX_CACHE_LIMIT_MIB in KiB. -/
def State.matrixLimit (s : State) : Nat := 1024 * s.odNum 0x200004

/-- A use of a key's matrix: counted as a hit or a miss, and admitted once the key has been used
often enough within 1 s (R216). -/
def State.useMatrix (s : State) (m : Nat) : State :=
  let hit := (look m s.sched.matrix).isSome
  let recent := (s.sched.uses.filter fun u => decide (s.now < u.2 + 1000000000)) ++ [(m, s.now)]
  let s := { s with sched := { s.sched with uses := recent } }
  let s := s.countMatrix (if hit then 0 else 1)
  if hit then { s with sched := { s.sched with matrix := put m s.now s.sched.matrix } }
  else if s.odNum 0x200003 ≤ (recent.filter (·.1 == m)).length then
    let need := s.matrixKiB m
    let s := State.trimMatrix (s.matrixLimit - need) s.sched.matrix.length s
    if s.matrixUsed + need ≤ s.matrixLimit then
      ({ s with sched := { s.sched with matrix := put m s.now s.sched.matrix } }).countMatrix 2
    else s
  else s

end Sys2Proof.Machine
end

