-- ==== Sys2Proof/Machine/FaultOps.lean ====
section
/-! DEFINITION. How a fault is taken: corrected, uncorrected with its record and grace timer, fatal;
quarantine, retirement and the start of a spare's promotion (R474 to R494). -/

namespace Sys2Proof.Machine

open Sys2Proof

/-! ### Fatal faults -/

/-- Whether a fatal source leaves the ladder closed (R486). -/
def closesLadder (src : Nat) : Bool := src == 0x22 || src == 0x24

/-- Every job is stopped without a completion and every memory of Table - Fatal sequence step 4 is
zeroed (R35, R485). -/
def State.stopAll (s : State) : State :=
  let s := s.squashAll
  { s with
    clove := List.replicate 72 []
    saffron := List.replicate 18 {}
    insts := s.insts.map fun n => (n.1, { n.2 with qps := n.2.qps.map Qp.discard }) }

/-- The FATAL event: the source, then the detail; ALERT for tamper (R485, R503). -/
def State.fatalEvent (s : State) (src detail : Nat) : State :=
  s.raise .fatal (if src = 0x23 then 5 else 4) 0xFFFF (le 2 src ++ le 8 detail)

/-- A fatal fault: Table - Fatal sequence (R485). In HALTED it changes nothing but the event log
(R486); during a life-cycle transition it waits for its end. -/
def State.fatal (s : State) (src detail : Nat) : State :=
  if s.halted then s.fatalEvent src detail
  else if s.inTransition then
    { s with faults := { s.faults with pendingFatal := s.faults.pendingFatal ++ [(src, detail)] } }
  else
    let s := s.bump 0x260004 2 1
    let s := (s.wipeKeys).stopAll
    let s := { s with pwr := { s.pwr with alive := false, alive1k := false } }
    let s := s.aerAll true
    let s := (s.fatalEvent src detail).commitAll
    let s := { s with faults := { s.faults with
      lastFatal := fields [(2, src), (6, 0), (8, s.time64.toNat), (8, detail)] } }
    s.enterHalted EventCode.fatal.code (closesLadder src)

/-! ### Units -/

/-- A unit has work: a region, a hold or a command of some job lies on it (R489). -/
def State.unitBusy (s : State) (u : Nat) : Bool :=
  let n := unitNumber u
  match unitKind u with
  | 1 => s.queuedOn n != 0
  | 2 => !(s.regionsIn n).isEmpty
  | 5 => (s.saffron.getD n {}).holder.isSome
  | _ => false

/-- MIN_ACTIVE of a kind (R487). -/
def State.minActive (s : State) (kind : Nat) : Nat := fieldLe (2 * (kind - 1)) 2 (s.odBytes 0x210004)

/-- The spare to promote: of the kind, last visit passed, no visit under way, lowest drift (R488). -/
def State.pickSpare (s : State) (kind : Nat) : Option Nat :=
  let c := (s.unitsIn kind .spare).filter fun u =>
    (s.units.getD u {}).lastPass && !s.faults.pendingVisits.contains u
  c.foldl (fun best u => match best with
    | none => some u
    | some b => if (s.units.getD u {}).drift < (s.units.getD b {}).drift then some u else some b) none

/-- The next spare of a kind begins its visit, or the kind's capacity falls (R488). -/
def State.promote (s : State) (kind : Nat) : State :=
  match s.pickSpare kind with
  | some u => { s with faults := { s.faults with pendingVisits := s.faults.pendingVisits ++ [u] } }
  | none => (s.portEventAll .capacityChange).event .capacityReduced []

/-- The OTP retirement bit of a unit (R488, R490). -/
def State.markRetired (s : State) (u : Nat) : State :=
  if s.otp.retired.contains u then s
  else { s with otp := { s.otp with retired := s.otp.retired ++ [u] } }

/-- A unit is retired (R487 to R489): fatal where it leaves its kind below the minimum with no spare
left; a spare leaves at once; a quarantined unit, or one without work, becomes RETIRED, another
RETIRING. -/
def State.retireUnit (s : State) (u : Nat) : State :=
  let kind := unitKind u
  let st := (s.units.getD u {}).state
  let left := ((s.unitsIn kind .active).filter (· != u)).length
  let spares := ((s.unitsIn kind .spare).filter (· != u)).length
  if st == .retired || st == .retiring then s
  else if left < s.minActive kind && spares = 0 then s.fatal 0x25 u
  else
    let gone := st == .quarantined || st == .spare || !s.unitBusy u
    let s := (s.modUnit u fun x => { x with state := if gone then .retired else .retiring }).markRetired u
    if st == .spare then s else s.promote kind

/-! ### Quarantine -/

/-- A job whose region lies in an engine that is quarantined: it ends with ENGINE_FAULT where it has
issued a command, and receives a region elsewhere where it has not, or waits for one at step 5
(R250, R259). -/
def State.leaveEngine (s : State) (k : Nat) (e : Nat) : State :=
  match s.job k with
  | none => s
  | some j =>
    if j.issued then s.endJob k .engineFault (2 + 256 * e)
    else match j.region with
      | none => s
      | some r =>
        let s := (s.clearRegion r).modJob k fun j => { j with region := none }
        match s.findRegion j.sequencer (r.sealedLines / 2) (r.publicLines / 2) (r.matrixLines / 2) none with
        | some (r', s) => s.modJob k fun j => { j with region := some r' }
        | none => s.modJob k fun j => { j with phase := .dispatched }

/-- A unit is quarantined: it takes no new work; the jobs of a ring arithmetic engine leave it, and a wide
multiply-accumulate unit gives up its hold, so that the job's waiting command goes to another (R259, R476). -/
def State.quarantine (s : State) (u : Nat) : State :=
  let st := (s.units.getD u {}).state
  if st == .active || st == .spare then
    let s := s.modUnit u fun x => { x with state := .quarantined, wasSpare := st == .spare }
    if unitKind u = 2 then
      let e := unitNumber u
      let here := s.jobs.filter fun j => match j.2.region with
        | some r => r.engine == e
        | none => false
      s.forEach (here.map (·.1)) fun s k => s.leaveEngine k e
    else if unitKind u = 5 then { s with saffron := s.saffron.set (unitNumber u) {} }
    else s
  else s

/-- Every job with a command on a unit ends with ENGINE_FAULT (R476, source 0x04); a job that is held
or finished has none (R207). -/
def State.endJobsOn (s : State) (u : Nat) : State :=
  let n := unitNumber u
  let kind := unitKind u
  let here := s.jobs.filter fun j => match kind with
    | 1 => j.2.sequencer == n && j.2.phase != .dispatched
    | 2 => j.2.issued && (match j.2.region with
      | some r => r.engine == n
      | none => false)
    | 5 => (s.saffron.getD n {}).holder == some j.1
    | _ => false
  s.forEach (here.map (·.1)) fun s k => s.endJob k .engineFault (kind + 256 * n)

/-! ### Uncorrected faults -/

/-- Severity, ALLOWED and DEFAULT_ESCALATION of an uncorrected source, by whether a unit bears it
(Table - Fault sources). -/
def faultRow (src : Nat) (unit : Bool) : Nat × Nat × Nat :=
  match src with
  | 0x02 | 0x04 | 0x05 => (3, 0x0B, 1)
  | 0x03 => (2, 0x0B, 1)
  | 0x06 => (3, 0x08, 0)
  | 0x08 => (3, 0x0B, if unit then 1 else 0)
  | 0x0A | 0x0B | 0x0C | 0x0D => (2, 0x0C, 0)
  | 0x0F => (2, 0x0A, 1)
  | 0x12 => (2, 0x0A, 1)
  | _ => (3, 0x08, 0)

/-- What a fault concerns. -/
structure FaultOf where
  src : Nat
  kind : Nat := 0
  number : Nat := 0
  inst : Nat := 0xFFFF
  qp : Nat := 0xFFFF
  detail : Nat := 0
  deriving DecidableEq, Repr

/-- A fault of a unit. -/
def FaultOf.unit (src u detail : Nat) : FaultOf :=
  { src := src, kind := unitKind u, number := unitNumber u, detail := detail }

/-- DETAIL of FAULT_OPEN, FAULT_DISPOSED and FAULT_ESCALATED (R504). -/
def faultDetail (id action : Nat) (f : FaultOf) : Bytes :=
  fields [(4, id), (2, f.src), (1, f.kind), (1, f.number), (2, f.qp), (1, action), (5, 0),
    (8, f.detail)]

/-- What a record says of its fault. -/
def FaultRecord.of (r : FaultRecord) : FaultOf :=
  { src := r.source, kind := r.kind, number := r.number, inst := r.inst, qp := r.qp
    detail := r.detail.toNat }

/-- RETIRE of what a fault concerns: the unit, the noise source, the warden lane (Table - Fault
sources). -/
def State.retireOf (s : State) (f : FaultOf) : State :=
  if f.src = 0x0F then
    { s with rng := { s.rng with
      sources := s.rng.sources.modify f.detail fun n => { n with retired := true, admitted := false } } }
  else if f.src = 0x12 then
    { s with warden := { s.warden with lanesOut := s.warden.lanesOut + 1 } }
  else if f.kind = 0 then s
  else s.retireUnit (unitIndex f.kind f.number)

/-- RESET_INSTANCE of what a fault concerns: a drain reset, or a port reset for a port manager's own
instance (R482). -/
def State.resetOf (s : State) (f : FaultOf) : State :=
  if f.inst = 0xFFFF then s
  else if f.inst < 4 then s.portReset f.inst
  else match (s.inst f.inst).state with
    | .created | .enabled | .frozen => s.startReset f.inst false
    | _ => s

/-- The default escalation of a fault: 0 none, 1 RETIRE, 2 RESET_INSTANCE (R480, R481). -/
def State.escalate (s : State) (f : FaultOf) (esc : Nat) : State :=
  match esc with
  | 1 => s.retireOf f
  | 2 => s.resetOf f
  | _ => s

/-- The DISPOSITION code of a default escalation: none, RETIRE, RESET_INSTANCE (R504). -/
def escalationAction : Nat → Nat
  | 1 => 2
  | 2 => 3
  | _ => 0

/-- An uncorrected fault: counted, reported through AER, its record opened with its grace timer, or
its default escalation applied at once when 64 records stand (R474, R480, R481, R484). -/
def State.openFault (s : State) (f : FaultOf) : State :=
  let row := faultRow f.src (f.kind != 0)
  let s := (s.bump 0x260004 1 1).aerFor f.inst
  if 64 ≤ s.faults.open_.length then
    let s := s.raise .faultOpen row.1 f.inst (faultDetail 0 0 f)
    (s.bump 0x260009 0 1).escalate f row.2.2
  else
    let id := s.faults.nextId
    let seq := s.warden.nextSeq
    let s := s.raise .faultOpen row.1 f.inst (faultDetail id 0 f)
    let grace := 1000000 * s.odNum 0x260001
    let r : FaultRecord := {
      id := id, source := f.src, kind := f.kind, number := f.number, inst := f.inst, qp := f.qp
      escalation := row.2.2, allowed := row.2.1, detectTime := s.time64
      deadline := s.now + grace
      deadlineTime := match s.clk.devTime with
        | some t => BitVec.ofNat 64 (t + grace)
        | none => 0
      eventSeq := if s.warden.nextSeq = seq then 0 else seq
      detail := BitVec.ofNat 64 f.detail }
    { s with faults := { s.faults with open_ := s.faults.open_ ++ [r], nextId := id + 1 } }

/-! ### Corrected faults -/

/-- A corrected fault is counted and its NOTICE written; AER has it only while
AER_REPORT_CORRECTED is 1 (R474, R484). -/
def State.countCorrected (s : State) : State :=
  let s := (s.bump 0x260004 0 1).event .faultCorrected []
  s.when (s.odNum 0x260005 == 1) fun s => s.aerAll false

/-- The times of a sliding window of 1 s with one more added (R475). -/
def State.slide (s : State) (ts : List Nat) : List Nat :=
  ts.filter (fun t => decide (s.now < t + 1000000000)) ++ [s.now]

/-- A corrected fault of a unit; the sixteenth within 1 s is a UNIT_CORRECTED_RATE fault and
quarantines the unit (R475, R476). -/
def State.correctedUnit (s : State) (u : Nat) : State :=
  let s := (s.countCorrected).bump 0x210008 u 1
  let w := s.slide (s.units.getD u {}).corrected
  if 16 ≤ w.length then
    let s := (s.modUnit u fun x => { x with corrected := [] }).quarantine u
    s.openFault (.unit 0x03 u 0)
  else s.modUnit u fun x => { x with corrected := w }

/-- A corrected fault of a memory line: the sixteenth within 1 s is a UNIT_CORRECTED_RATE fault of
the line, borne by the unit whose bank it is (R475). -/
def State.correctedLine (s : State) (line : Nat) (f : FaultOf) : State :=
  let s := s.countCorrected
  let w := s.slide ((look line s.faults.lines).getD [])
  if 16 ≤ w.length then
    let s := { s with faults := { s.faults with lines := del line s.faults.lines } }
    let s := if f.kind = 0 then s else s.quarantine (unitIndex f.kind f.number)
    s.openFault f
  else { s with faults := { s.faults with lines := put line w s.faults.lines } }

/-! ### Closing records -/

/-- The record of a FAULT_ID. -/
def State.faultRecord (s : State) (id : Nat) : Option FaultRecord :=
  s.faults.open_.find? (·.id == id)

/-- A record closes, with FAULT_DISPOSED or FAULT_ESCALATED carrying the action (R481). -/
def State.closeFault (s : State) (r : FaultRecord) (c : EventCode) (action : Nat) : State :=
  let s := { s with faults := { s.faults with
    open_ := s.faults.open_.filter (·.id != r.id)
    deferred := s.faults.deferred.filter (· != r.id) } }
  s.eventOf c r.inst (faultDetail r.id action r.of)

/-- A record's default escalation is applied and the record closes (R481). -/
def State.escalateRecord (s : State) (r : FaultRecord) : State :=
  (s.closeFault r .faultEscalated (escalationAction r.escalation)).escalate r.of r.escalation

/-- A ring error puts a queue pair in ERROR (R192): fetching stops, its cache is discarded, QP_ERROR
and RING_ERROR follow, and the fault of its instance opens (R194, source 0x0D). -/
def State.ringError (s : State) (i q cause index : Nat) : State :=
  match s.qp i q with
  | none => s
  | some x =>
    if x.state == .error then s
    else
      let s := s.modQp i q fun y =>
        { y.discard with state := .error, errCode := BitVec.ofNat 16 cause }
      let s := s.errorBit i .qpError
      let s := s.eventOf .ringError i (le 2 i ++ le 2 q ++ le 2 cause ++ le 4 index)
      let s := s.openFault { src := 0x0D, inst := i, qp := q, detail := cause }
      s.checkStopped i q

end Sys2Proof.Machine
end

