-- ==== Sys2Proof/Machine/Opcodes.lean ====
section
/-! DEFINITION. The opcodes of submission entries: which are defined, which the algorithm policy disables,
their shield classes, the sizes of their objects (R167, R203, R221, R222, R244, R265 to R271, R300, R301,
R314, R316, R322, R328, R333, R345, R362, R396, R437). -/

namespace Sys2Proof.Machine

open Sys2Proof

/-! ### The opcode -/

/-- An opcode's FAMILY, SET and OP (Table - Opcode layout). -/
structure Opc where
  fam : Nat
  set : Nat
  op : Nat
  deriving DecidableEq, Repr

/-- The fields of an OPCODE. -/
def opcOf (c : BitVec 16) : Opc := ⟨bits c.toNat 15 8, bits c.toNat 7 4, bits c.toNat 3 0⟩

/-- The fields of an entry's OPCODE. -/
def entryOpc (e : SqEntry) : Opc := opcOf e.opcode

/-- The opcode is NOP (R168). -/
def Opc.isNop (o : Opc) : Bool := o == ⟨0x10, 0, 0⟩
/-- The opcode is FENCE (R168). -/
def Opc.isFence (o : Opc) : Bool := o == ⟨0x10, 0, 1⟩
/-- A hybrid KEM opcode (R333). -/
def Opc.hybKem (o : Opc) : Bool := o.fam == 0x0C && (o.set == 8 || o.set == 9)
/-- A hybrid signature opcode (R333). -/
def Opc.hybSig (o : Opc) : Bool := o.fam == 0x0C && (o.set == 10 || o.set == 11)
/-- An opcode of a KEM family: ML-KEM, HQC, Classic McEliece, hybrid KEM. -/
def Opc.kem (o : Opc) : Bool := o.fam == 1 || o.fam == 6 || o.fam == 7 || o.hybKem
/-- A key management opcode (R396). -/
def Opc.km (o : Opc) : Bool := o.fam == 0x0C && o.set == 0
/-- ECDSA on a P-curve, against EdDSA. -/
def Opc.ecdsa (o : Opc) : Bool := o.fam == 8 && decide (o.set ≤ 3)

/-- A value lies between two others. -/
def within (lo n hi : Nat) : Bool := decide (lo ≤ n) && decide (n ≤ hi)

/-- The opcodes that are defined; every other gives BAD_OPCODE (R168, R221, R265, R300, R301, R316, R333,
R362, R396, R437). -/
def Opc.defined (o : Opc) : Bool :=
  match o.fam with
  | 0x01 => within 1 o.set 3 && within 1 o.op 5
  | 0x02 => within 1 o.set 3 && within 1 o.op 4
  | 0x03 => within 1 o.set 2 && (o.op == 1 || o.op == 2 || o.op == 4)
  | 0x04 => within 1 o.set 12 && within 1 o.op 4
  | 0x05 => within 1 o.set 4 && (o.op == 1 || o.op == 2 || o.op == 4 || o.op == 5)
  | 0x06 => within 1 o.set 3 && within 1 o.op 5
  | 0x07 => (within 1 o.set 5 && within 1 o.op 5) || (within 6 o.set 10 && o.op == 1)
  | 0x08 => (o.op == 1 && within 1 o.set 7) || ((o.op == 2 || o.op == 4) && within 1 o.set 5) ||
      ((o.op == 6 || o.op == 7) && (within 1 o.set 3 || within 6 o.set 7))
  | 0x09 => within 1 o.set 3 && within 1 o.op 7
  | 0x0A => within 1 o.set 2 && within 1 o.op 8
  | 0x0B => within 1 o.set 12 && within 1 o.op 4
  | 0x0C => (o.set == 0 && within 1 o.op 15) || (o.hybKem && within 1 o.op 5) ||
      (o.hybSig && (o.op == 1 || o.op == 2 || o.op == 4))
  | 0x0D => o.set == 0 && within 1 o.op 2
  | 0x0E => o.set == 0 && within 1 o.op 4
  | 0x0F => within 1 o.set 4 && within 1 o.op 2
  | 0x10 => o.set == 0 && decide (o.op ≤ 3)
  | _ => false

/-- The base set of a Classic McEliece set (R301). -/
def mceBase (set : Nat) : Nat := if 5 < set then set - 5 else set

/-- The set an opcode's records are bound to (R301). -/
def Opc.baseSet (o : Opc) : Nat := if o.fam = 7 then mceBase o.set else o.set

/-- BINDING of the records of an asymmetric opcode: family, set, variant 0 (R392). -/
def Opc.binding (o : Opc) : BitVec 16 := BitVec.ofNat 16 (256 * o.fam + 16 * o.baseSet)

/-- The policy entries disable an opcode for an instance: check 1 (R230, R235, R244, R270, R295, R298,
R314, R327, R345, R400). -/
def State.policyOff (s : State) (i : Nat) (o : Opc) : Bool :=
  let set (key : Nat) (b : Nat) : Bool := bit (s.odNum key) b
  match o.fam with
  | 0x01 => set 0x220001 (o.set - 1) || (set 0x220002 0 && (o.op == 2 || o.op == 4))
  | 0x02 => set 0x220003 (o.set - 1) || (set 0x220004 0 && o.op == 3)
  | 0x03 => set 0x220005 (o.set - 1) || (set 0x220006 0 && (o.op == 1 || o.op == 2))
  | 0x04 => set 0x220020 (o.set - 1) || (set 0x220021 0 && o.op == 3)
  | 0x05 => set 0x220022 (o.set - 1)
  | 0x06 => set 0x220030 (o.set - 1)
  | 0x07 => set 0x220031 (mceBase o.set - 1)
  | 0x08 => set 0x220040 (o.set - 1) || (set 0x220041 0 && o.op == 6)
  | 0x09 => set 0x220042 (o.set - 1) || (set 0x220043 0 && o.op == 3)
  | 0x0C =>
    if o.km then set 0x23000E 0 && o.op == 4
    else set 0x220045 (o.set - 8) || (set 0x220046 0 && o.hybKem && (o.op == 2 || o.op == 4))
  | 0x10 => o.op == 2 && decide (4 ≤ i)
  | _ => false

/-! ### Shield classes -/

/-- The shield class of an opcode (Table - Shield classes, Table - Hybrid sets). -/
def Opc.shieldClass (o : Opc) : Nat :=
  match o.fam, o.op with
  | 1, 1 => 3
  | 1, 4 | 1, 5 => if o.set = 3 then 2 else 1
  | 2, 1 => 6
  | 2, 2 | 2, 3 => if o.set = 3 then 5 else 4
  | 3, 1 => 9
  | 3, 2 => if o.set = 2 then 8 else 7
  | 4, 1 | 4, 2 | 4, 3 => if o.set % 2 = 0 then 10 else 11
  | 5, 1 => 13
  | 5, 2 => 12
  | 6, 1 | 7, 1 => 16
  | 6, 4 | 6, 5 => 14
  | 7, 4 | 7, 5 => 15
  | 8, 1 => 19
  | 8, 2 => if o.set = 1 ∨ o.set = 4 then 17 else 18
  | 8, 6 | 8, 7 => if o.set = 1 ∨ o.set = 6 then 17 else 18
  | 9, 1 => 23
  | 9, 2 | 9, 3 | 9, 7 => 19 + o.set
  | 0x0C, n =>
    if o.hybKem then (if n = 1 then 19 else if o.set = 8 then 17 else 18)
    else if o.hybSig then (if n = 1 then 19 else if n = 2 then (if o.set = 10 then 4 else 18) else 0)
    else 0
  | 0x0E, 1 => 31
  | 0x10, 3 => 18
  | _, _ => 0

/-! ### Digest lengths -/

/-- Digest length of a hash function of family 0x0B; 0 for SHAKE (Table - Hash functions). -/
def digestLen : Nat → Nat
  | 1 => 28 | 2 => 32 | 3 => 48 | 4 => 64 | 5 => 28 | 6 => 32 | 7 => 28 | 8 => 32 | 9 => 48 | 10 => 64
  | _ => 0

/-! ### Symmetric bindings -/

/-- The secret lengths a symmetric binding holds: least and greatest (Table - Symmetric bindings). -/
def symLens (b : BitVec 16) : Option (Nat × Nat) :=
  match b.toNat with
  | 0x0A11 | 0x0A12 => some (16, 16)
  | 0x0A21 | 0x0A22 => some (32, 32)
  | 0x0A13 => some (32, 32)
  | 0x0A23 => some (64, 64)
  | 0x0B20 | 0x0B30 | 0x0B40 => some (16, 64)
  | 0x0BB0 | 0x0BC0 => some (32, 32)
  | 0x0C00 => some (32, 32)
  | _ => none

/-- The secret length of a generated or derived record: the digest length for HMAC (Table - Symmetric
bindings). -/
def symLen (b : BitVec 16) : Nat :=
  match b.toNat with
  | 0x0B20 => 32
  | 0x0B30 => 48
  | 0x0B40 => 64
  | _ => ((symLens b).map (·.1)).getD 0

/-- A key length that a symmetric binding allows. -/
def symLenOk (b : BitVec 16) (n : Nat) : Bool :=
  match symLens b with
  | some r => within r.1 n r.2
  | none => false

/-- The family, set and variant of a binding (R392). -/
def bindOpc (b : BitVec 16) : Opc := opcOf b

/-- A binding of variant 0 that names an asymmetric set (Table - Class and binding pairs). -/
def asymBinding (b : BitVec 16) : Bool :=
  let o := bindOpc b
  o.op == 0 && (match o.fam with
    | 1 | 2 | 6 => within 1 o.set 3
    | 3 => within 1 o.set 2
    | 4 => within 1 o.set 12
    | 5 => within 1 o.set 4
    | 7 => within 1 o.set 5
    | 8 => within 1 o.set 7
    | 9 => within 1 o.set 3
    | 0x0C => within 8 o.set 11
    | _ => false)

/-- The class and binding pairs of Table - Class and binding pairs (R397). -/
def classPairs (cls : Nat) (b : BitVec 16) : Bool :=
  let o := bindOpc b
  let asym := asymBinding b
  match cls with
  | 1 | 2 => [0x0A11, 0x0A21, 0x0A12, 0x0A22, 0x0A13, 0x0A23].contains b.toNat || (asym && o.fam == 9)
  | 3 => b.toNat == 0x0A22
  | 4 => (symLens b).isSome || (asym && ((o.fam == 8 && o.set != 4 && o.set != 5) ||
      o.fam == 1 || o.fam == 6 || o.fam == 7 || o.hybKem))
  | 5 | 6 => [0x0A11, 0x0A21, 0x0B20, 0x0B30, 0x0B40, 0x0BB0, 0x0BC0].contains b.toNat
  | 7 | 8 => asym && (within 2 o.fam 5 || (o.fam == 8 && decide (o.set ≤ 5)) || o.fam == 9 || o.hybSig)
  | 9 | 10 => asym && o.kem
  | 11 => b.toNat == 0x0C00
  | _ => false

/-- The length of the public key that a known asymmetric binding fixes (R398); a stateful key's follows
from its typecodes. -/
def publicLen (b : BitVec 16) : Option Nat :=
  let o := bindOpc b
  if !asymBinding b || o.fam = 5 then none
  else if o.kem then some (kemSizes o.fam o.set).pk
  else some (sigSizes o.fam o.set).pk

/-- The length of the private part as held that an asymmetric binding gives (R408 check 10). -/
def privateLen (b : BitVec 16) : Nat :=
  let o := bindOpc b
  if o.kem then (kemSizes o.fam o.set).sk else (sigSizes o.fam o.set).sk

/-! ### Stateful parameters -/

/-- One tree of a stateful key: hash length n, height, and the chains of a one-time signature. -/
structure Tree where
  n : Nat
  h : Nat
  p : Nat

/-- Chains of an LM-OTS typecode with its n (RFC 8554, SP 800-208). -/
def lmotsType : Nat → Option (Nat × Nat)
  | 1 => some (32, 265) | 2 => some (32, 133) | 3 => some (32, 67) | 4 => some (32, 34)
  | 5 => some (24, 200) | 6 => some (24, 101) | 7 => some (24, 51) | 8 => some (24, 26)
  | _ => none

/-- n and height of an LMS typecode, those the KQ9 supports (RFC 8554, SP 800-208, R271). -/
def lmsType : Nat → Option (Nat × Nat)
  | 5 => some (32, 5) | 6 => some (32, 10) | 7 => some (32, 15) | 8 => some (32, 20)
  | 10 => some (24, 5) | 11 => some (24, 10) | 12 => some (24, 15) | 13 => some (24, 20)
  | _ => none

/-- An LMS tree from its two typecodes, of the same hash. -/
def lmsTree (lms ots : Nat) : Option Tree :=
  match lmsType lms, lmotsType ots with
  | some (n, h), some (m, p) => if n = m then some ⟨n, h, p⟩ else none
  | _, _ => none

/-- The HSS levels from the second on, `k` of them, in pairs of typecode bytes (R272). -/
def hssLevels : Nat → Bytes → Option (List Tree)
  | 0, rest => if rest.all (· == 0) then some [] else none
  | k + 1, a :: b :: rest =>
    match lmsTree a.toNat b.toNat, hssLevels k rest with
    | some t, some ts => some (t :: ts)
    | _, _ => none
  | _ + 1, _ => none

/-- n and height of an XMSS OID the KQ9 supports (RFC 8391, SP 800-208, R271). -/
def xmssType : Nat → Option (Nat × Nat)
  | 1 => some (32, 10) | 2 => some (32, 16) | 3 => some (32, 20)
  | 0x0D => some (24, 10) | 0x0E => some (24, 16) | 0x0F => some (24, 20)
  | _ => none

/-- Height and layers of an XMSS^MT OID the KQ9 supports (RFC 8391, R271). -/
def xmssmtType : Nat → Option (Nat × Nat)
  | 1 => some (20, 2) | 2 => some (20, 4) | 4 => some (40, 4) | 5 => some (40, 8)
  | 7 => some (60, 6) | 8 => some (60, 12)
  | _ => none

/-- The trees of a parameter block, top first, where it lies within Table - Stateful parameters (R271,
R272). -/
def statefulTrees (set : Nat) (b : Bytes) : Option (List Tree) :=
  let levels := fieldLe 0 4 b
  let type := fieldLe 4 4 b
  let ots := fieldLe 8 4 b
  let rest := slice 12 16 b
  let plain : Bool := levels == 1 && rest.all (· == 0)
  if b.length != 28 then none
  else match set with
  | 1 => if plain then (lmsTree type ots).bind fun t => if t.h = 5 then none else some [t] else none
  | 2 =>
    if within 2 levels 8 then
      match lmsTree type ots, hssLevels (levels - 1) rest with
      | some t, some ts =>
        if within 10 ((t :: ts).map (·.h)).sum 64 then some (t :: ts) else none
      | _, _ => none
    else none
  | 3 => if plain && ots == 0 then (xmssType type).map fun t => [⟨t.1, t.2, if t.1 = 32 then 67 else 51⟩]
    else none
  | _ => if plain && ots == 0 then (xmssmtType type).map fun t => List.replicate t.2 ⟨32, t.1 / t.2, 67⟩
    else none

/-- Length of an LMS signature (RFC 8554). -/
def Tree.lmsSig (t : Tree) : Nat := 12 + t.n * (1 + t.p + t.h)

/-- Length of a stateful signature in the encoding of its standard (R280). -/
def statefulSig (set : Nat) (ts : List Tree) : Nat :=
  let h := (ts.map (·.h)).sum
  match set, ts with
  | 1, t :: _ => t.lmsSig
  | 2, _ => 4 + (ts.map (·.lmsSig)).sum + ((ts.drop 1).map fun t => 24 + t.n).sum
  | 3, t :: _ => 4 + t.n * (1 + t.p + t.h)
  | _, t :: _ => ceilDiv h 8 + t.n * (1 + h + ts.length * t.p)
  | _, [] => 0

/-- Length of a stateful public key. -/
def statefulPk (set : Nat) (ts : List Tree) : Nat :=
  match set, ts with
  | 1, t :: _ => 24 + t.n
  | 2, t :: _ => 28 + t.n
  | _, t :: _ => 4 + 2 * t.n
  | _, [] => 0

/-- Leaves of a stateful key. -/
def treeLeaves (ts : List Tree) : Nat := 2 ^ (ts.map (·.h)).sum

/-- Blocks of 1,024 leaves in the initial build: the top tree and the first tree of each lower level
(R273, R280). -/
def buildBlocks (ts : List Tree) : Nat := ceilDiv ((ts.map fun t => 2 ^ t.h).sum) 1024

/-- Bytes of the initial trees (R274). -/
def treeBytes (ts : List Tree) : Nat := (ts.map fun t => 2 ^ (t.h + 1) * t.n).sum

/-! ### What a job creates and counts -/

/-- Key records an opcode creates under R225: its own reservation at check 2; KM_UPDATE takes its places
at its own check 11. -/
def Opc.creates (o : Opc) : Nat :=
  let yes : Bool :=
    if o.kem then o.op == 1 || o.op == 3 || o.op == 5
    else if o.hybSig then o.op == 1
    else match o.fam with
      | 2 | 3 | 4 | 5 | 9 => o.op == 1
      | 8 => o.op == 1 || o.op == 7
      | 0x0C => o.op == 2 || o.op == 3 || o.op == 6 || o.op == 8 || o.op == 9
      | _ => false
  if yes then 1 else 0

/-- The counter that a posted job raises: entry and position (Table - Lattice policy entries, Table - Hash
policy entries, Table - Code-based policy entries, Table - Classical policy entries); frames are counted
by their number. -/
def Opc.counter (o : Opc) : Option (Nat × Nat) :=
  let kemPos : Nat := if o.op = 1 then 0 else if o.op ≤ 3 then 1 else 2
  match o.fam with
  | 1 => some (0x220008, kemPos)
  | 2 => some (0x220008, if o.op = 1 then 3 else if o.op = 4 then 5 else 4)
  | 3 => if o.op = 2 then some (0x220008, 6) else if o.op = 4 then some (0x220008, 7) else none
  | 4 => if o.op = 1 then none else some (0x220028, if o.op = 4 then 1 else 0)
  | 5 => if o.op = 2 then some (0x220028, 2) else if o.op = 4 then some (0x220028, 3) else none
  | 6 => some (0x220034, kemPos)
  | 7 => some (0x220034, 3 + kemPos)
  | 8 => if o.op = 2 then some (0x220047, 0) else if o.op = 4 then some (0x220047, 1)
      else if o.op = 1 then none else some (0x220047, 2)
  | 9 => if o.op = 1 then none
      else some (0x220047, if o.op = 2 ∨ o.op = 3 ∨ o.op = 7 then 3 else 4)
  | 0x0A => some (0x220047, 5)
  | 0x0B => if o.op ≤ 3 then some (0x220028, 3 + o.op) else none
  | 0x0F => some (0x220047, 5 + o.op)
  | _ => none

end Sys2Proof.Machine
end

