-- ==== Sys2Proof/Machine/KeyViews.lean ====
section
/-! DEFINITION. What a handle names for an instance, and the keys that each opcode accepts: check 3 of
Table - Entry checks (R172, R221 on, R389 to R391, R396, R402, R404, R416 to R418). -/

namespace Sys2Proof.Machine

open Sys2Proof

/-- A record as a job sees it: a key record, an open slot or a peer record. -/
inductive KeyView where
  | record (index : Nat) (r : KeyRecord)
  | slot (index : Nat) (r : OpenSlot)
  | peer (index : Nat) (r : Peer)
  deriving DecidableEq, Repr

/-- CLASS; a peer record has none. -/
def KeyView.cls : KeyView → Nat
  | .record _ r => r.cls
  | .slot _ r => r.cls
  | .peer _ _ => 0

/-- BINDING; a peer record has none. -/
def KeyView.binding : KeyView → BitVec 16
  | .record _ r => r.binding
  | .slot _ r => r.binding
  | .peer _ _ => 0

/-- A bit of FLAGS (Table - Record flags). -/
def KeyView.flag (v : KeyView) (b : Nat) : Bool :=
  match v with
  | .record _ r => r.flag b
  | .slot _ _ => b == 5
  | .peer _ _ => false

/-- The secret part. -/
def KeyView.secret : KeyView → Bytes
  | .record _ r => r.secret
  | .slot _ r => r.secret
  | .peer _ r => r.secret

/-- The public part, as an operation of a family reads it. -/
def KeyView.pubFor (v : KeyView) (fam : Nat) : Bytes :=
  match v with
  | .record _ r => r.pub
  | .slot _ _ => []
  | .peer _ r => if fam = 1 then r.mlkemPk else r.sigPk

/-- The record index that a job pins. -/
def KeyView.index : KeyView → Nat
  | .record k _ => k
  | .slot k _ => slotBase + k
  | .peer k _ => peerBase + k

/-- The generation it is pinned with. -/
def KeyView.gen : KeyView → Nat
  | .record _ r => r.gen
  | .slot _ r => r.gen
  | .peer _ r => r.gen

/-- The attributes that KM_INFO and the proof use (R394). -/
def KeyView.attributes : KeyView → Bytes
  | .record k r => r.attributes k
  | .slot k r => r.attributes k
  | .peer _ _ => []

/-- Bytes of tier S the record takes when pinned; a record above 64 KiB and an open slot take none of the
quota (R212, R214, R395, R414). -/
def KeyView.tierS : KeyView → Nat
  | .record _ r => if r.cacheable then r.bytes else 0
  | .slot _ _ => 0
  | .peer _ r => r.bytes

/-- What a handle names for an instance: its index in a range, bits 63:48 zero, its owner the instance, its
generation the record's (R389). A JOB_SCOPED record is seen by its own run alone, whose handles are `own`
(R358). -/
def State.viewIn (s : State) (own : List (BitVec 64)) (i : Nat) (h : BitVec 64) : Option KeyView :=
  let k := handleIndex h
  let g := handleGen h
  if 2 ^ 48 ≤ h.toNat || handleOwner h != i || g = 0 then none
  else if k < 0x400000 then
    match s.record k with
    | some r => if r.owner = i && r.gen = g && (!r.flag 6 || own.contains h) then some (.record k r) else none
    | none => none
  else if peerBase ≤ k && k < peerBase + 1048576 then
    match look (k - peerBase) s.keys.peers with
    | some r => if r.owner = i && r.gen = g then some (.peer (k - peerBase) r) else none
    | none => none
  else if slotBase ≤ k && k < slotBase + 4096 then
    match look (k - slotBase) s.keys.slots with
    | some r => if r.user = i && r.gen = g then some (.slot (k - slotBase) r) else none
    | none => none
  else none

/-- What a handle names for a job on a ring. -/
def State.viewOf (s : State) (i : Nat) (h : BitVec 64) : Option KeyView := s.viewIn [] i h

/-- How an opcode uses a key field: not at all, a record a test accepts, or such a record or 0. -/
inductive KeyUse where
  | unused
  | needs (accepts : KeyView → Bool)
  | optional (accepts : KeyView → Bool)

/-- A record of a class bound as the opcode. -/
def bound (o : Opc) (cls : Nat) (v : KeyView) : Bool := v.cls == cls && v.binding == o.binding

/-- A peer record whose ML-KEM key is bound to a set (R227, R416). -/
def KeyView.kemPeer (set : Nat) : KeyView → Bool
  | .peer _ r => r.mlkemSet == set
  | _ => false

/-- A peer record whose SIG_SET names an opcode's family and set (R416). -/
def KeyView.sigPeer (o : Opc) : KeyView → Bool
  | .peer _ r => (o.fam == 2 && decide (o.set ≤ 2) && r.sigSet == o.set) || (o.fam == 3 && r.sigSet == 2 + o.set)
  | _ => false

/-- A peer record. -/
def KeyView.isPeer : KeyView → Bool
  | .peer _ _ => true
  | _ => false

/-- A peer record that is revoked (R418). -/
def KeyView.revoked : KeyView → Bool
  | .peer _ r => r.revoked
  | _ => false

/-- A peer record whose SECRET_PRESENT is set (R400). -/
def KeyView.peerSecret : KeyView → Bool
  | .peer _ r => r.secretPresent
  | _ => false

/-- BINDING of an AES mode group: 1 GCM, 2 KW, 3 XTS (R336). -/
def aesBinding (set group : Nat) : BitVec 16 := BitVec.ofNat 16 (0x0A00 + 16 * set + group)

/-- The key an AES operation takes: class and mode group (Table - AES operations). -/
def aesKey (op : Nat) : Nat × Nat :=
  match op with
  | 1 => (1, 1) | 2 => (2, 1) | 3 => (5, 1) | 4 => (6, 1) | 5 => (1, 2) | 6 => (2, 2) | 7 => (1, 3)
  | _ => (2, 3)

/-- A frame batch's keys: HMAC with SHA-256 for SETs 1 and 2, the AES GCM group for SETs 3 and 4 (R342). -/
def frameKey (o : Opc) (v : KeyView) : Bool :=
  v.cls == (if o.op = 1 then 5 else 6) &&
  (if o.set ≤ 2 then v.binding == 0x0B20 else v.binding == 0x0A11 || v.binding == 0x0A21)

/-- A symmetric record that KM_WRAP wraps (R402). -/
def wrappable (v : KeyView) : Bool :=
  !v.isPeer && v.flag 1 && !v.flag 4 && !v.secret.isEmpty && (symLens v.binding).isSome

/-- KEY0 of the key management opcodes (Table - Key management opcodes). -/
def kmKey0 (op : Nat) : KeyUse :=
  match op with
  | 3 => .needs fun v => v.cls == 4 || v.peerSecret
  | 4 => .needs fun v => v.cls == 4 && !v.flag 7
  | 5 => .needs fun v => v.cls == 3 && v.flag 7 && v.binding == 0x0A22
  | 6 => .needs fun v => v.cls == 3 && v.binding == 0x0A22
  | 7 => .needs fun v => !v.isPeer && v.flag 1 && !v.flag 4 && !v.flag 5 && !v.flag 6
  | 0x0A | 0x0B => .needs fun v => !v.isPeer
  | 0x0C => .needs fun v => v.cls == 11
  | 0x0D | 0x0E | 0x0F => .needs KeyView.isPeer
  | _ => .unused

/-- How an opcode uses KEY0 (R227, R233, R239, R268, R280, R281, R283, R303, R325, R330, R334, R335, R337,
R342, R396). -/
def Opc.key0 (o : Opc) : KeyUse :=
  if o.km then kmKey0 o.op
  else if o.kem then
    match o.op with
    | 2 | 3 => .optional fun v => bound o 10 v || (o.fam == 1 && v.kemPeer o.set)
    | 4 | 5 => .needs (bound o 9)
    | _ => .unused
  else match o.fam with
  | 2 | 4 | 0x0C => match o.op with
    | 2 | 3 => .needs (bound o 7)
    | 4 => .optional fun v => bound o 8 v || v.sigPeer o
    | _ => .unused
  | 3 => match o.op with
    | 2 => .needs fun v => bound o 7 v && v.flag 3
    | 4 => .optional fun v => bound o 8 v || v.sigPeer o
    | _ => .unused
  | 5 => match o.op with
    | 2 | 5 => .needs fun v => bound o 7 v && v.flag 4
    | 4 => .optional (bound o 8)
    | _ => .unused
  | 8 => match o.op with
    | 2 => .needs (bound o 7)
    | 4 => .optional (bound o 8)
    | 6 | 7 => .needs (bound o 4)
    | _ => .unused
  | 9 => match o.op with
    | 2 | 3 => .needs (bound o 7)
    | 4 | 5 => .optional (bound o 8)
    | 6 => .optional (bound o 1)
    | 7 => .needs (bound o 2)
    | _ => .unused
  | 0x0A => .needs fun v => v.cls == (aesKey o.op).1 && v.binding == aesBinding o.set (aesKey o.op).2
  | 0x0B => match o.op with
    | 2 => .needs fun v => v.cls == 5 && v.binding == BitVec.ofNat 16 (0x0B00 + 16 * o.set)
    | 3 => .needs fun v => v.cls == 6 && v.binding == BitVec.ofNat 16 (0x0B00 + 16 * o.set)
    | _ => .unused
  | 0x0F => .needs (frameKey o)
  | _ => .unused

/-- How an entry uses KEY1 (R342, R396, R402, R415, R417). -/
def entryKey1 (e : SqEntry) : KeyUse :=
  let o := entryOpc e
  if o.km then
    match o.op with
    | 5 => .needs wrappable
    | 0x0C => .optional fun v => !v.isPeer
    | 0x0D => .needs fun v => v.cls == 4 && v.flag 7 && v.secret.length == 32
    | _ => .unused
  else if o.fam = 0x0F && bit e.param.toNat 8 then .needs (frameKey o)
  else .unused

/-- A key field passes check 3: unused, 0 where 0 is allowed, or a record the opcode accepts; a revoked peer
serves only PEER_INFO (R172, R418). -/
def State.keyPasses (s : State) (own : List (BitVec 64)) (i : Nat) (h : BitVec 64) (info : Bool) : KeyUse → Bool
  | .unused => true
  | .needs f => match s.viewIn own i h with
    | some v => f v && (!v.revoked || info)
    | none => false
  | .optional f => h == 0 || (match s.viewIn own i h with
    | some v => f v && !v.revoked
    | none => false)

/-- The record a used key field names. -/
def State.usedView (s : State) (own : List (BitVec 64)) (i : Nat) (h : BitVec 64) : KeyUse → Option KeyView
  | .unused => none
  | .needs _ => s.viewIn own i h
  | .optional _ => if h = 0 then none else s.viewIn own i h

/-- The records an entry's key fields name. -/
def State.entryViews (s : State) (own : List (BitVec 64)) (i : Nat) (e : SqEntry) : Option KeyView × Option KeyView :=
  (s.usedView own i e.key0 (entryOpc e).key0, s.usedView own i e.key1 (entryKey1 e))

/-- Check 3: the key field that fails, 0 or 1 (R172, R179). -/
def State.keyFails (s : State) (own : List (BitVec 64)) (i : Nat) (e : SqEntry) : Option Nat :=
  let o := entryOpc e
  if !s.keyPasses own i e.key0 (o == ⟨0x0C, 0, 0x0F⟩) o.key0 then some 0
  else if !s.keyPasses own i e.key1 false (entryKey1 e) then some 1
  else none

end Sys2Proof.Machine
end

