-- ==== Sys2Proof/Machine/Measures.lean ====
section
/-! DEFINITION. Measurement registers and the recipes an instance has loaded: what dispatch asks of them
(R294, R296, R361, R364). -/

namespace Sys2Proof.Machine

open Sys2Proof

/-! ### Measurement registers -/

/-- Whether an extension finds room in the measurement log: MR0 to MR7 while it is not full, a port
register while 65,536 entries are free (R296). -/
def State.mayExtend (s : State) (mr : Nat) : Bool :=
  decide (s.meas.mlog.length + (if mr < 8 then 1 else 65536) ≤ 131072)

/-- The port a measurement register belongs to (R294). -/
def mrPort (mr : Nat) : Nat := (mr - 8) / 8

/-- An extension: MR := SHA-384(MR ‖ V) and an entry of the measurement log (R294, R296). -/
def State.extendMr (s : State) (mr source : Nat) (v : Bytes) : State :=
  if s.mayExtend mr then
    let e : MLogEntry := {
      mr := mr, source := source
      boot := if mr < 8 then 0 else (s.port (mrPort mr)).bootCount
      seq := s.meas.mlog.length, v := fit 48 v, time := s.time64 }
    { s with meas := { s.meas with
      mr := s.meas.mr.modify mr fun m => sha384 (m ++ fit 48 v)
      mlog := s.meas.mlog ++ [e] } }
  else s

/-! ### Loaded recipes -/

/-- The recipe in a slot of an instance. -/
def State.recipe (s : State) (i n : Nat) : Option Recipe := look n (s.inst i).recipes

/-- The recipe slot that PARAM names (R362). -/
def recipeSlot (e : SqEntry) : Nat := bits e.param.toNat 5 0

/-- The recipe-signing key whose digest is SIGNER_DIGEST (R361, R363). -/
def State.signerKey (s : State) (package : Bytes) : Option Bytes :=
  ((List.range 4).map fun n => s.odBytes (0x2A0001 + n)).find? fun k =>
    !(k.all (· == 0)) && sha3_256 k == slice 32 32 package

/-- What the signature covers and V measures: the package without its 3,309 signature bytes (R361). -/
def recipeBody (package : Bytes) : Bytes := package.take (package.length - 3309)

/-- The measurement value V of a recipe (R361). -/
def recipeV (package : Bytes) : Bytes := sha384 (recipeBody package)

/-- A RECIPE_RUN is refused at check 2: its slot is empty, its signer is enrolled no more, runs are
disabled, or its measurement is refused (R364). -/
def State.runRefused (s : State) (i : Nat) (e : SqEntry) : Bool :=
  match s.recipe i (recipeSlot e) with
  | none => true
  | some r => (s.signerKey r.package).isNone || s.odNum 0x2A0006 == 1 || (!r.measured && !s.mayExtend 1)

end Sys2Proof.Machine
end

