-- ==== Sys2Proof/Machine/Dispatching.lean ====
section
/-! DEFINITION. Dispatch: which queue pairs have a turn, the claim of a job slot, and checks 1 and 2 of
Table - Entry checks as the dispatcher makes them (R24 step 4, R172, R185, R188, R195 to R198, R215,
R225, R453, R470). -/

namespace Sys2Proof.Machine

open Sys2Proof

/-! ### Checks 1 and 2 -/

/-- STAGE of a hash or MAC entry (R285). -/
def entryStage (e : SqEntry) : Nat := bits e.param.toNat 63 62

/-- A GCM_ENCRYPT or GMAC_GENERATE entry (R337, R339). -/
def drawsIv (o : Opc) : Bool := o.fam == 0x0A && (o.op == 1 || o.op == 3)

/-- IV_GEN of an AES entry (R337). -/
def entryIvGen (e : SqEntry) : Bool := bit e.param.toNat 40

/-- The entry asks for a PERSISTENT record (Table - PARAM for a new record, Table - PARAM for a key
management record). -/
def entryPersistent (e : SqEntry) : Bool := bit e.param.toNat 0

/-- The key record an entry's KEY0 names, where it passes check 3. -/
def State.keyView0 (s : State) (own : List (BitVec 64)) (i : Nat) (e : SqEntry) : Option KeyView :=
  if (s.keyFails own i e).isSome then none else (s.entryViews own i e).1

/-- The entry would change tier A: it creates a PERSISTENT record, spends a leaf or a journalled count,
deletes or changes what tier A holds (R20, R275, R339, R363, R365, R396; R470). -/
def State.changesTierA (s : State) (own : List (BitVec 64)) (i : Nat) (e : SqEntry) : Bool :=
  let o := entryOpc e
  let persistent : Bool := match s.keyView0 own i e with
    | some (.record _ r) => r.persistent
    | some (.peer _ _) => true
    | _ => false
  (o.creates != 0 && o != ⟨0x0C, 0, 8⟩ && entryPersistent e) ||
  (o.fam == 5 && (o.op == 1 || o.op == 2)) ||
  (o.km && (o.op == 1 || ((o.op == 0x0A || o.op == 0x0D || o.op == 0x0E) && persistent))) ||
  (drawsIv o && entryIvGen e && persistent) ||
  (o.fam == 0x0E && (o.op == 2 || o.op == 3))

/-- The entry uses a key (R470). -/
def usesKey (e : SqEntry) : Bool :=
  match (entryOpc e).key0, entryKey1 e with
  | .unused, .unused => false
  | .optional _, .unused => e.key0 != 0
  | _, _ => true

/-- The life-cycle state, or debug in force, does not allow the job (R396, R453, R470). -/
def State.stageRefuses (s : State) (own : List (BitVec 64)) (i : Nat) (e : SqEntry) : Bool :=
  let o := entryOpc e
  (s.lcState == 2 && !(o.fam == 0x0B || o.fam == 0x0D || o.fam == 0x10)) ||
  (s.start.readOnly && (s.changesTierA own i e || (s.lcState == 2 && usesKey e)))

/-- The IV_GEN counts of a record that no job has spent or reserved (R339). -/
def State.ivLeft (s : State) (k : Nat) : Nat :=
  let c := s.ivCounts k
  2 ^ 32 - (c.1 + c.2)

/-- The state of the device, the instance or a record does not allow an entry: the cases of check 2 that
dispatch judges (R278, R286, R314, R339, R345, R363 to R365, R388, R396, R399, R408). -/
def State.entryConflict (s : State) (own : List (BitVec 64)) (i : Nat) (e : SqEntry) : Bool :=
  let o := entryOpc e
  let v := s.keyView0 own i e
  if o.km then
    match o.op with
    | 1 => s.lcState != 3 || s.inTransition || s.warning || s.keys.authMldsa.isEmpty
    | 7 | 8 => s.keys.domainSecret.isNone
    | 0x0A => match s.viewIn own i e.key0 with
      | some (.peer _ _) => true
      | some (.slot _ _) => true
      | _ => false
    | _ => false
  else match o.fam with
  | 5 => o.op == 2 && (match v with
      | some (.record _ r) => r.state == 1
      | _ => false)
  | 7 => (o.op == 2 || o.op == 3) && e.key0 == 0 && s.odNum 0x220033 == 1
  | 0x0A => drawsIv o &&
      (if entryIvGen e then (match v with
        | some w => s.ivLeft w.index == 0
        | none => false)
       else s.odNum 0x220044 == 1)
  | 0x0B => decide (o.op ≤ 3) && entryStage e != 0 && (e.ctx == 0 || decide (4095 < e.ctx.toNat))
  | 0x0E => match o.op with
    | 1 => s.runRefused i e
    | 2 => (s.recipe i (recipeSlot e)).isSome
    | _ => (s.recipe i (recipeSlot e)).isNone
  | _ => false

/-- Bytes of tier V that the record an entry creates takes (R211, R212, R225, R395). -/
def newRecordBytes (e : SqEntry) : Nat :=
  let o := entryOpc e
  let body : Nat :=
    if o.km then
      match o.op with
      | 8 => e.srcLen.toNat - 192
      | 9 => e.srcLen.toNat
      | _ => symLen (BitVec.ofNat 16 (bits e.param.toNat 31 16))
    else if o.kem then
      let z := kemSizes o.fam o.baseSet
      if o.op = 1 then z.pk + z.sk else z.ss
    else if o.fam = 8 && o.op = 7 then agreeLen o.set
    else if o.fam = 5 then 128
    else
      let z := sigSizes o.fam o.set
      z.pk + z.sk
  roundUp (64 + body) 64

/-- A refusal under R215: one TIER_V_FULL event per 10 s, and its count. -/
def State.tierVFull (s : State) : State :=
  let s := s.bump 0x200019 0 1
  let due : Bool := match s.keys.tierVFullAt with
    | some t => decide (t + 10000000000 ≤ s.now)
    | none => true
  if due then
    ({ s with keys := { s.keys with tierVFullAt := some s.now } }).event .tierVFull []
  else s

/-- The key record area takes `n` bytes more, once records that may leave it have left (R213, R215). -/
def State.makeRoomV (s : State) (n : Nat) : State :=
  if s.roomV n then s else State.drainV (keyArea - n) s.keys.records.length s

/-- A job is refused in the present state: check 2, counted under R123 (R172). -/
def State.refuseState (s : State) (k : Nat) : State :=
  match s.job k with
  | none => s
  | some j => (s.conflict 2 (1024 * j.qp + j.inst) j.inst (le 2 j.qp)).endJob k .stateConflict 0

/-- Places for the records that a job creates are reserved, or the job is refused (R215, R225). -/
def State.reservePlaces (s : State) (k : Nat) (j : Job) : State :=
  let n := (entryOpc j.entry).creates
  if n = 0 then s
  else if s.placesLeft j.inst < n then s.refuseState k
  else
    let s := s.makeRoomV (newRecordBytes j.entry)
    if s.roomV (newRecordBytes j.entry) then
      (s.modInst j.inst fun x => { x with reserved := x.reserved + n }).modJob k
        fun j => { j with reservedPlaces := n }
    else s.tierVFull.refuseState k

/-- One IV_GEN count is reserved for a job (R339). -/
def State.reserveIv (s : State) (k : Nat) (j : Job) : State :=
  if drawsIv (entryOpc j.entry) && entryIvGen j.entry then
    match s.keyView0 [] j.inst j.entry with
    | none => s
    | some v =>
      let c := s.ivCounts v.index
      (s.setIv v.index c.1 (c.2 + 1)).modJob k fun j => { j with ivReserved := true }
  else s

/-- Checks 1 and 2 at dispatch (R172); an opcode no chapter defines is left to its own command. -/
def State.checkDispatch (s : State) (k : Nat) : State :=
  match s.job k with
  | none => s
  | some j =>
    let o := entryOpc j.entry
    if !o.defined then s
    else if s.policyOff j.inst o then s.endJob k .badOpcode j.entry.opcode.toNat
    else if s.stageRefuses [] j.inst j.entry then s.refuseState k
    else if s.entryConflict [] j.inst j.entry then
      let update : Bool := entryOpc j.entry == ⟨0x0C, 0, 1⟩
      (s.when update fun s => s.bump 0x230010 0 1).refuseState k
    else (s.reserveIv k j).reservePlaces k j

/-! ### Turns -/

/-- The entry is dispatched only after every earlier entry of its queue pair has posted (R188). -/
def fences (e : SqEntry) : Bool := bit e.flags.toNat 2 || (entryOpc e).isFence

/-- A fence holds the next entry of a queue pair (R188). -/
def State.fenceHolds (s : State) (i q : Nat) (x : Qp) (e : SqEntry) : Bool :=
  x.fenceBy.isSome || (fences e && !(s.jobsOfQp i q).isEmpty)

/-- A slot is free for an instance's jobs (R196). -/
def State.slotFree (s : State) (i : Nat) : Bool :=
  decide (s.jobs.length < 16384) && decide (s.slotsOf i < s.slotQuotaOf i) &&
  (match s.portOf i with
   | some p => decide (s.slotsOfPort p < s.portOd p 4)
   | none => false)

/-- Dispatches made within the last 1 ms (R197). -/
def State.recentRate (s : State) : List Nat := s.sched.rate.filter fun t => decide (s.now < t + 1000000)

/-- The block dispatches: junction temperature and dispatch rate allow it (R71, R197). -/
def State.mayDispatch (s : State) : Bool :=
  !s.pwr.thermalPaused && decide (s.recentRate.length < 8000)

/-- A queue pair of an instance that has an entry ready for the dispatcher, with that entry. -/
def State.heads (s : State) : List (Nat × Nat × Qp × SqEntry) :=
  s.insts.flatMap fun n => (List.range n.2.qps.length).filterMap fun q =>
    match n.2.qps[q]? with
    | none => none
    | some x => match x.cache with
      | [] => none
      | e :: _ => if s.mayFetch n.1 x then some (n.1, q, x, e) else none

/-- The entries that neither a fence nor the want of a slot holds back (R185, R197). -/
def State.turns (s : State) : List (Nat × Nat × Qp × SqEntry) :=
  s.heads.filter fun h => !s.fenceHolds h.1 h.2.1 h.2.2.1 h.2.2.2 && s.slotFree h.1

/-- The least of a list of numbers. -/
def leastOf : List Nat → Option Nat
  | [] => none
  | a :: r => match leastOf r with
    | none => some a
    | some b => some (min a b)

/-- Round robin: the least number above the last that had a turn, else the least of all. -/
def nextTurn (last : Nat) (l : List Nat) : Option Nat :=
  match leastOf (l.filter (last < ·)) with
  | some a => some a
  | none => leastOf l

/-- The next entry to be dispatched: its port, instance and queue pair in three round-robin levels
(R197). -/
def State.nextEntry (s : State) : Option (Nat × Nat × Nat × Qp × SqEntry) :=
  let ts := s.turns
  match nextTurn s.sched.rrPort (ts.filterMap fun t => s.portOf t.1) with
  | none => none
  | some p =>
    let ofPort := ts.filter fun t => s.portOf t.1 == some p
    match nextTurn (num p s.sched.rrInst) (ofPort.map (·.1)) with
    | none => none
    | some i =>
      let ofInst := ofPort.filter (·.1 == i)
      match nextTurn (num i s.sched.rrQp) (ofInst.map (·.2.1)) with
      | none => none
      | some q => (ofInst.find? (·.2.1 == q)).map fun t => (p, t)

/-- A slot is claimed for an entry: it leaves the prefetch cache, C moves on, its job begins with checks 1
and 2 (R24 step 4, R182, R188, R195, R203). Which free slot is taken is not stated: the lowest. -/
def State.claim (s : State) (p i q : Nat) (x : Qp) (e : SqEntry) : State :=
  match firstFree 16384 s.jobs with
  | none => s
  | some k =>
    let s := s.setJob k {
      inst := i, qp := q, order := x.order, entry := e, cls := (entryOpc e).shieldClass
      fenced := x.fenceWaited, seq := s.sched.dispatches }
    let s := s.modQp i q fun y => { y with
      cache := y.cache.drop 1, c := (y.c + 1) % (2 * y.n), order := y.order + 1
      fenceBy := if fences e then some x.order else y.fenceBy
      fenceWaited := false, slotWaited := false }
    let s := { s with sched := { s.sched with
      rrPort := p, rrInst := put p i s.sched.rrInst, rrQp := put i q s.sched.rrQp
      rate := s.recentRate ++ [s.now], dispatches := s.sched.dispatches + 1
      inSecond := s.sched.inSecond + 1 } }
    (s.checkDispatch k).fetch i q

/-- Entries are dispatched one after another, at most `n` of them. -/
def State.dispatchN : Nat → State → State
  | 0, s => s
  | n + 1, s =>
    if s.mayDispatch then
      match s.nextEntry with
      | none => s
      | some (p, i, q, x, e) => State.dispatchN n (s.claim p i q x e)
    else s

/-- The entries that go on waiting note for what: a fence, or a slot, which WAIT_COUNTS counts (R176,
R219). -/
def State.noteWaits (s : State) : State :=
  s.forEach s.heads fun s h =>
    if s.fenceHolds h.1 h.2.1 h.2.2.1 h.2.2.2 then
      s.modQp h.1 h.2.1 fun y => { y with fenceWaited := true }
    else if !s.slotFree h.1 && !h.2.2.1.slotWaited then
      (s.modQp h.1 h.2.1 fun y => { y with slotWaited := true }).bump 0x200015 0 1
    else s

/-- The dispatcher takes every entry that can be dispatched now (R24 step 4, R185, R196, R197). -/
def State.dispatch (s : State) : State :=
  (State.dispatchN ((s.insts.map fun n => (n.2.qps.map (·.cache.length)).sum).sum) s).noteWaits

end Sys2Proof.Machine
end

