-- ==== Sys2Proof/Machine/Power.lean ====
section
/-! DEFINITION. Rails, hold-up and power fail, tamper, the status outputs and the junction
temperature (R36 to R72, R86 to R90). -/

namespace Sys2Proof.Machine

open Sys2Proof

/-- Both main rails count as present (R55, R61). -/
def State.railsUp (s : State) : Bool := s.pwr.rail12 && s.pwr.rail3v3

/-- A main rail counts as present or lost. -/
def State.setRail (s : State) (r : Rail) (up : Bool) : State :=
  match r with
  | .v12 => { s with pwr := { s.pwr with rail12 := up } }
  | .v3v3 => { s with pwr := { s.pwr with rail3v3 := up } }

/-- A stage of the power-fail sequence begins. -/
def State.enterStage (s : State) (g : PowerStage) : State :=
  { s with pwr := { s.pwr with stage := g, stageSince := s.now } }

/-! ### MAIN_RAIL_LOSS -/

/-- Ride-through and in-flight window, in nanoseconds, that the bank's energy above the 600 mJ reserve
carries at a load: 10 ms and 20 ms, shortened ride-through first (R60). -/
def holdupSplit (loadMw storedMj : Nat) : Nat × Nat :=
  if loadMw = 0 then (10000000, 20000000)
  else
    let avail := (storedMj - 600) * 1000000000 / loadMw
    let window := min 20000000 avail
    (min 10000000 (avail - window), window)

/-- Step 1 of Table - Power-fail sequence, with what R60 leaves of its durations (R60, R61, R64). -/
def State.startRide (s : State) (loadMw storedMj : Nat) : State :=
  let d := holdupSplit loadMw storedMj
  let s := s.enterStage .rideThrough
  let s := { s with pwr := { s.pwr with rideNs := d.1, windowNs := d.2 } }
  if d = (10000000, 20000000) then s else s.event .holdupShortened []

/-- A main rail is lost: the power-fail sequence starts, or a start in progress is abandoned for the
flush (R61, R62, R90). -/
def State.railLoss (s : State) (r : Rail) (loadMw storedMj : Nat) : State :=
  let s := s.setRail r false
  if s.pwr.stage != .normal || !s.pwr.dieOn then s
  else if s.ready || s.halted then s.startRide loadMw storedMj
  else (s.enterStage .flushing).commitAll

/-- MAIN_RAIL_LOSS. -/
def execMainRailLoss (rail : Rail) (loadMw storedMj : Nat) (s : State) : Result :=
  .next (s.railLoss rail loadMw storedMj)

/-! ### RIDE_THROUGH_END -/

/-- Step 3 of Table - Power-fail sequence: the warning (R43, R61, R72, R293); during the wipe of a
transition the warden goes on to the flush (R466). -/
def State.powerWarning (s : State) : State :=
  let s := s.until (s.pwr.stageSince + s.pwr.rideNs)
  let s := s.enterStage .inFlight
  let s := { s with
    start := { s.start with fetchStopped := true }
    pwr := { s.pwr with alive := false, alive1k := false } }
  let s := ((s.event .powerFail []).bump 0x11000C 0 1).portEventAll .powerFail
  let s := s.alarmWindows
  match s.lc.transition with
  | some t => if t.wiping then s.enterStage .flushing else s
  | none => s

/-- RIDE_THROUGH_END. -/
def execRideThroughEnd (s : State) : Result :=
  .next (if s.pwr.stage == .rideThrough then s.powerWarning else s)

/-! ### IN_FLIGHT_WINDOW_END -/

/-- A job stopped at step 5: ABORTED on a port whose link is up (R35, R61). -/
def State.stopAtPowerFail (s : State) (k : Nat) (j : Job) : State :=
  match s.portOf j.inst with
  | some p => if (s.port p).linkUp then s.abortJob k 1 else s.squashJob k
  | none => s.squashJob k

/-- A card operation at step 6: the card is powered down in order, a running backup is suspended,
another operation ends (R86, R522 to R524). -/
def State.cardPowerFail (s : State) : State :=
  let s :=
    if s.card.op.state = 1 then
      if s.card.op.op = 4 then
        (({ s with card := { s.card with op := { s.card.op with state := 2, suspendedAt := s.now } } }).event
          .backupSuspended (cardDetail s.card.op.serial s.card.op.op))
      else s.endCardOp .cardRemoved
    else s
  if s.card.vdd then s.cardPowerDown else s

/-- The end of the in-flight window: the jobs still running stop unless the rails are back; the flush
begins (R61, R62, R86). -/
def State.windowEnd (s : State) : State :=
  let running := s.jobs.filter fun j => j.2.phase != .finished
  let s := if running.isEmpty then s else s.until (s.pwr.stageSince + s.pwr.windowNs)
  let s := if s.railsUp then s
    else s.forEach running fun s j => s.stopAtPowerFail j.1 j.2
  let s := s.enterStage .flushing
  s.commitAll.cardPowerFail

/-- IN_FLIGHT_WINDOW_END. -/
def execInFlightWindowEnd (s : State) : Result :=
  .next (if s.pwr.stage == .inFlight then s.windowEnd else s)

/-! ### FLUSH_DONE -/

/-- PHASE_TIMES_US of the flush: its duration in µs, and the bank energy used in mJ, which the
manual does not relate to anything the model holds (R92; log entry 7). -/
def State.noteFlush (s : State) : State :=
  let f := s.take 4
  let d := (s.now - s.pwr.stageSince) / 1000
  { f.2 with start := { f.2.start with
    phaseTimes := (f.2.start.phaseTimes.set 6 d).set 7 (ofLe f.1) } }

/-- The deferred escalations take place (R483). -/
def State.runDeferred (s : State) : State :=
  let ids := s.faults.deferred
  let s := { s with faults := { s.faults with deferred := [] } }
  s.forEach ids fun s id => match s.faultRecord id with
    | some r => s.escalateRecord r
    | none => s

/-- The service goes on after a flush: fetching, dispatch, ALIVE, POWER_RESTORED (R62). -/
def State.powerBack (s : State) : State :=
  let s := s.enterStage .normal
  let s := { s with start := { s.start with fetchStopped := false } }
  let s := (s.event .powerRestored []).portEventAll .powerRestored
  let s := s.runDeferred
  let s := s.forEach s.insts fun s i =>
    s.forEach (List.range i.2.qps.length) fun s q => s.fetch i.1 q
  s.dispatch

/-- A suspended backup is lost when the die powers down (R524). -/
def CardOp.lost (o : CardOp) : CardOp :=
  if o.state = 2 then { o with state := 3, status := BitVec.ofNat 16 Status.cardRemoved.code } else o

/-- Step 7: tier S and the vault memory encryption key are zeroed and the die powers down; the
warden's retained register and the non-volatile stores stay, and what waited in the log buffer is
lost (R61, R63, R84, R468, R470, R507). -/
def State.powerOff (s : State) : State :=
  let s := s.wipeKeys.stopAll
  let lost := s.log.buffer.length
  { s with
    pwr := { s.pwr with stage := .off, stageSince := s.now, dieOn := false, alive := false, alive1k := false }
    clk := { s.clk with devTime := none, timeState := 0 }
    warden := { s.warden with debugFlag := false, lostRecords := s.warden.lostRecords + lost }
    log := { s.log with
      buffer := [], loss := putNum s.log.epoch (num s.log.epoch s.log.loss + lost) s.log.loss }
    lc := { s.lc with debugOpen := false, allowance := false, challenge := none, dbgRefusals := 0
                      dbgLastRefused := false }
    start := { s.start with
      phase := .warden, began := false, ladder := .closed, mounted := false, draining := none
      powerFailed := true, seedDone := false, katDone := false, fwDone := false }
    ports := s.ports.map fun p => { p with linkUp := false, ptm := false }
    card := { s.card with op := s.card.op.lost } }

/-- FLUSH_DONE ends step 6: back to service where the rails have returned, else power-off; a start
abandoned for the flush powers off in any case (R62, R63, R90). -/
def State.flushDone (s : State) : State :=
  let s := s.commitAll.noteFlush
  if s.railsUp && (s.ready || s.halted) then s.powerBack else s.powerOff

/-- FLUSH_DONE. -/
def execFlushDone (s : State) : Result :=
  .next (if s.pwr.stage == .flushing then s.flushDone else s)

/-! ### MAIN_RAIL_RETURN -/

/-- A main rail is back: during steps 1 and 2 nothing else happens (R62); later the flush ends
first. -/
def State.railReturn (s : State) (r : Rail) : State :=
  let s := s.setRail r true
  if s.railsUp && s.pwr.stage == .rideThrough then s.enterStage .normal else s

/-- MAIN_RAIL_RETURN. -/
def execMainRailReturn (rail : Rail) (s : State) : Result := .next (s.railReturn rail)

/-! ### HOLDUP_MEASURE -/

/-- The warden measures the bank (R65, R72): below 2.4 J at full charge a WARNING, below 1.0 J the
fault HOLDUP_FAIL besides. -/
def State.measureHoldup (s : State) (fullMj storedMj : Nat) : State :=
  let s := { s with pwr := { s.pwr with holdupMj := storedMj } }
  let s := if fullMj < 2400 then s.event .holdupLow [] else s
  if fullMj < 1000 then s.openFault { src := 0x11 } else s

/-- HOLDUP_MEASURE. -/
def execHoldupMeasure (fullMj storedMj : Nat) (s : State) : Result :=
  .next (s.measureHoldup fullMj storedMj)

/-! ### Tamper -/

/-- The cause bits of a tamper. -/
inductive TamperCause where
  | mesh | loop | temperature
  deriving DecidableEq, Repr

/-- DETAIL of the tamper's fatal fault. -/
def TamperCause.code : TamperCause → Nat
  | .mesh => 2 | .loop => 4 | .temperature => 8

/-- A tamper sets the latch with its cause and the warden's time; while the die is powered it is the
fatal fault TAMPER (R49, R485). -/
def State.tamper (s : State) (c : TamperCause) : State :=
  let s := { s with warden := { s.warden with
    latch := true
    causeMesh := s.warden.causeMesh || c == .mesh
    causeLoop := s.warden.causeLoop || c == .loop
    causeTemp := s.warden.causeTemp || c == .temperature
    latchTime := if s.warden.latch then s.warden.latchTime else s.now } }
  if s.pwr.dieOn && s.start.began then s.fatal 0x23 c.code else s

/-- TAMPER_MESH_CHECK: a broken or shorted mesh is tamper (R36). -/
def execTamperMeshCheck (intact : Bool) (s : State) : Result :=
  .next (if intact then s else s.tamper .mesh)

/-- Whether a loop resistance is a mode's tamper condition (Table - Tamper loop modes). -/
def loopTamper (mode ohm : Nat) : Bool :=
  match mode with
  | 0 => false
  | 1 | 2 => decide (3000 ≤ ohm)
  | _ => decide (ohm < 3900) || decide (5600 < ohm)

/-- A pulse of the tamper loop: the third pulse in a row that finds the condition is acted on, and so is every later
one of the run while the latch stands cleared (R51); in mode 1 each change is an event (R46, R47). -/
def State.loopPulse (s : State) (ohm : Nat) : State :=
  let mode := s.warden.loopMode
  let bad := loopTamper mode ohm
  let run := if bad then s.warden.loopRun + 1 else 0
  let cond := if bad then decide (3 ≤ run) else false
  let changed := cond != s.warden.loopCondition
  let s := { s with warden := { s.warden with
    loopOhm := ohm, loopRun := min 3 run, loopCondition := cond } }
  if mode = 1 then (if changed then s.event .tamperLoopChange [] else s)
  else if cond && (changed || !s.warden.latch) then s.tamper .loop else s

/-- TAMPER_LOOP_PULSE. -/
def execTamperLoopPulse (ohm : Nat) (s : State) : Result := .next (s.loopPulse ohm)

/-- CAN_TEMPERATURE_LIMIT: below −40 °C or above 120 °C inside the can is tamper (R37). -/
def execCanTemperatureLimit (milliC : Int) (s : State) : Result :=
  .next (if milliC < -40000 || 120000 < milliC then s.tamper .temperature else s)

/-! ### Status outputs -/

/-- ALIVE and ALIVE_1K toggle (R43, R470): in DEVICE_READY, in TEST, FACTORY or DEPLOYED, without a
power-fail warning and without debug authorisation. -/
def State.aliveRuns (s : State) : Bool :=
  s.ready && decide (1 ≤ s.lcState) && decide (s.lcState ≤ 3) && !s.warning && !s.warden.debugFlag

/-- ALIVE_TOGGLE: the contact changes, or stays open. -/
def execAliveToggle (s : State) : Result :=
  .next { s with pwr := { s.pwr with alive := s.aliveRuns && !s.pwr.alive } }

/-- ALIVE_1K_TOGGLE: the output changes, or stays low (R52). -/
def execAlive1kToggle (s : State) : Result :=
  .next { s with pwr := { s.pwr with alive1k := s.aliveRuns && !s.pwr.alive1k } }

/-! ### The card supply, the junction and the auxiliary rail -/

/-- CARD_VDD_OVERCURRENT: VDD goes off with a WARNING; the operation with the card ends (R39, R521,
R522). -/
def State.vddOvercurrent (s : State) : State :=
  if s.card.vdd then
    let s := s.event .cardVddOvercurrent []
    let s := if s.card.op.state = 1 then s.endCardOp .cardRemoved else s
    s.cardPowerDown
  else s

/-- CARD_VDD_OVERCURRENT. -/
def execCardVddOvercurrent (s : State) : Result := .next s.vddOvercurrent

/-- THERMAL_PAUSE: 100 °C at a core supply of 0.65 V pauses dispatch (R71). -/
def State.thermalPause (s : State) (dieMc : Int) : State :=
  let s := { s with pwr := { s.pwr with dieMc := dieMc } }
  if 100000 ≤ dieMc && s.gov.vcore == 650 && !s.pwr.thermalPaused then
    ({ s with pwr := { s.pwr with thermalPaused := true } }).event .thermalPause []
  else s

/-- THERMAL_PAUSE. -/
def execThermalPause (dieMc : Int) (s : State) : Result := .next (s.thermalPause dieMc)

/-- THERMAL_RESUME: at 95 °C dispatch resumes (R71). -/
def State.thermalResume (s : State) (dieMc : Int) : State :=
  let s := { s with pwr := { s.pwr with dieMc := dieMc } }
  if dieMc ≤ 95000 && s.pwr.thermalPaused then
    ({ s with pwr := { s.pwr with thermalPaused := false } }).dispatch
  else s

/-- THERMAL_RESUME. -/
def execThermalResume (dieMc : Int) (s : State) : Result := .next (s.thermalResume dieMc)

/-- AUX_RAIL_CHANGE: 3.3Vaux comes or goes; alone it has no effect while the main rails are present
(R55, R60). -/
def execAuxRailChange (up : Bool) (s : State) : Result :=
  .next { s with pwr := { s.pwr with aux := up } }

end Sys2Proof.Machine
end

