-- ==== Sys2Proof/Machine/EventLog.lean ====
section
/-! DEFINITION. The check of the event log, its clearing, and the commit of the next waiting record
(R505 to R512). -/

namespace Sys2Proof.Machine

open Sys2Proof

/-- What the check of a log has found so far: the CRC and tag failures, the first failing SEQ, the
last record read, and the last tagged record with nothing but UNTAGGED records after it. -/
structure LogScan where
  crcFails : Nat := 0
  tagFails : Nat := 0
  firstFail : Option Nat := none
  lastSeq : Nat := 0
  linked : Option Event := none
  deriving DecidableEq, Repr

/-- A record carries FLAGS UNTAGGED. -/
def Event.untagged (e : Event) : Bool := bit e.flags.toNat 4

/-- One record is checked (R510): its CRC, and its tag where it follows the previous tagged record
of its epoch with nothing between them but UNTAGGED records. The tag of a record written under the
root that is not in use is not checked, since the ladder holds no key for it (log entry 23). -/
def State.scanEvent (s : State) (a : LogScan) (e : Event) : LogScan :=
  let crcOk := e.crc == crc32c (e.head ++ fit 8 e.tag)
  let near := if e.seq = a.lastSeq + 1 then a.linked.filter (·.epoch == e.epoch) else none
  let ours := (s.rootInUse.map (·.1)).getD false == bit e.flags.toNat 3
  let tagOk := e.untagged || !ours || (match near with
    | none => true
    | some p => e.tag == kmac128 s.logKey (p.tag ++ e.head) (ascii "KQ9-LOG") 8)
  { crcFails := a.crcFails + (if crcOk then 0 else 1)
    tagFails := a.tagFails + (if tagOk then 0 else 1)
    firstFail := if crcOk && tagOk then a.firstFail else some (a.firstFail.getD e.seq)
    lastSeq := e.seq
    linked := if e.untagged then near else some e }

/-- The SEQ values given in an epoch: from its first up to the next epoch's first, or up to the next
record to be committed (R510). -/
def State.epochGiven (s : State) (e : Nat × Nat) : Nat :=
  let later := (s.log.first.filter fun x => e.1 < x.1).map (·.2)
  let stop := (later.head?).getD (s.warden.nextSeq - s.log.buffer.length)
  stop - e.2

/-- The epochs whose missing SEQ values differ in number from their loss count (R510). -/
def State.lossDisagrees (s : State) : List (Nat × Nat) :=
  s.log.first.filter fun e =>
    let held := (s.log.log.filter (·.epoch == e.1)).length
    s.epochGiven e - held != num e.1 s.log.loss

/-- The check of the whole log: its figures, and LOG_CHECK_FAIL with the first failing SEQ (R510). -/
def State.checkLog (s : State) : State :=
  let a := s.log.log.foldl s.scanEvent {}
  let bad := s.lossDisagrees
  let s := { s with log := { s.log with
    check := [s.log.log.length, a.crcFails, a.tagFails, bad.length] } }
  let fail : Option Nat := match a.firstFail with
    | some n => some n
    | none => (bad.head?).map (·.2)
  match fail with
  | some n => s.event .logCheckFail (le 8 n)
  | none => s

/-- The clear of the log: what waits is committed, every record erased, a new epoch begun, and
LOG_CLEARED committed as its first record with the next SEQ (R512). `cred` is the clearing session's
CRED_ID. -/
def State.clearLog (s : State) (cred : BitVec 64) : State :=
  let s := s.commitAll
  let removed := s.log.log.length
  let e := s.log.epoch + 1
  let s := { s with log := { s.log with
    log := [], epoch := e, lastTag := none, loss := [], first := [(e, s.warden.nextSeq)] } }
  let s := s.event .logCleared (fields [(4, removed), (4, 0), (8, cred.toNat),
    (8, s.card.serial.toNat)])
  (s.bump 0x270008 0 1).commitOne

/-- EVENT_COMMIT: the oldest waiting record is written to the log, its subscribers receive it
(R505). -/
def execEventCommit (s : State) : Result := .next (if s.canCommit then s.commitOne else s)

end Sys2Proof.Machine
end

