-- ==== Sys2Proof/Machine/Startup.lean ====
section
/-! DEFINITION. Cold start, warm reset and their steps up to DEVICE_READY or HALTED (R16, R19, R49,
R50, R73 to R85, R145, R277, R294, R384 to R387, R419, R420, R427, R431, R454 to R459, R467, R470,
R472, R487, R490, R510, R529, R530). -/

namespace Sys2Proof.Machine

open Sys2Proof

/-! ### Units at a start -/

/-- The n-th active sequencer is paired with the n-th active ring arithmetic engine; the manual does
not say how the restored sets pair (log entry 24). -/
def State.pairUnits (s : State) : State :=
  let seqs := s.unitsIn 1 .active
  let engs := s.unitsIn 2 .active
  s.forEach (seqs.zip engs) fun s p => s.modUnit p.1 fun x => { x with partner := unitNumber p.2 }

/-- The ACTIVE and SPARE sets of each kind: of the units that are not RETIRED the lowest numbers are
ACTIVE, up to the active count (R490; log entry 24). -/
def State.restoreUnits (s : State) : State :=
  let s := s.forEach (List.range 6) fun s k =>
    let us := (List.range (kindBase.getD (k + 1) 387 - kindBase.getD k 0)).map fun n => unitIndex (k + 1) n
    let live := us.filter fun u => (s.units.getD u {}).state != .retired
    let n := ((activeCounts.getD k (0, 0)).2)
    let s := s.forEach (live.take n) fun s u => s.modUnit u fun x => { x with state := .active }
    s.forEach (live.drop n) fun s u => s.modUnit u fun x => { x with state := .spare }
  s.pairUnits

/-- The units at a start: those of the OTP map RETIRED, the others tested afresh (R490, R498). -/
def State.startUnits (s : State) : State :=
  let us := s.units.mapIdx fun u x =>
    { x with
      state := if s.otp.retired.contains u then UnitState.retired else .spare
      corrected := [], retried := false, lastVisit := s.now }
  ({ s with units := us }).restoreUnits

/-! ### Steps 2 and 3 -/

/-- An instance as its configuration in tier A leaves it: every register and count at its reset value
(R84, R145, R160, R537). -/
def Inst.atStart (n : Inst) : Inst :=
  { qpCount := n.qpCount, vecCount := n.vecCount, weight := n.weight, slotQuota := n.slotQuota
    recQuota := n.recQuota, tierSKib := n.tierSKib
    qps := List.replicate n.qpCount {}
    recipes := n.recipes.map fun r => (r.1, { r.2 with measured := false }) }

/-- The VF instances as their configurations in tier A leave them. -/
def instsAtStart (l : List (Nat × Inst)) : List (Nat × Inst) :=
  (l.filter (4 ≤ ·.1)).map fun n => (n.1, n.2.atStart)

/-- What tier A holds now (R470, R527). -/
def State.snapshot (s : State) : Snapshot :=
  { keys := s.keys, od := s.od, cnt := s.cnt, insts := s.insts }

/-- Tier A's content is put in force. -/
def State.load (s : State) (x : Snapshot) : State :=
  { s with keys := x.keys, od := x.od, cnt := x.cnt, insts := x.insts }

/-- Dictionary values and counters of volatile entries go at a start (R95, R98). -/
def State.dropVolatileOd (s : State) : State :=
  let keep (k : Nat) : Bool := ((entryDef (keyOf k)).map (·.persistent)).getD false
  { s with
    od := s.od.filter fun v => keep v.1
    cnt := s.cnt.filter fun v => keep (v.1 / 1024) }

/-- The noise sources start, the pool and every DRBG instance hold nothing (R423, R425, R431). -/
def State.startRng (s : State) : State :=
  let mode := s.odNum 0x240003
  { s with rng := { sources := (List.range 18).map fun i => { vonNeumann := bit mode i } } }

/-- The governor's counts begin again; the core supply and the voltage floor stay (R204, R452). -/
def Governor.atStart (g : Governor) : Governor :=
  { tempo := g.tempo, vcore := g.vcore, floor := g.floor, effCap := g.effCap }

/-- Fabric start: every on-die SRAM is cleared, sessions, transaction, jobs and windows are gone, the
functions of every port are reset, the noise sources start, the known-answer tests begin (R16, R75,
R83, R84, R85, R294). -/
def State.fabricStart (s : State) : State :=
  let s := ((s.closeAllSessions.rollback).squashAll).wipeKeys
  let s := s.dropVolatileOd
  let s := { s with
    ctxs := [], clove := List.replicate 72 [], saffron := List.replicate 18 {}
    sched := {}, trans := {}, gov := s.gov.atStart
    insts := instsAtStart s.insts }
  let s := { s with
    meas := {}
    faults := { lastFatal := s.faults.lastFatal, mappedOut := s.faults.mappedOut
                pendingFatal := s.faults.pendingFatal }
    card := { s.card with approvals := [] }
    lc := { s.lc with tokenFails := 0, challenge := none }
    log := { s.log with conflicts := [] } }
  let s := { s with ports := s.ports.map fun p : Port => { p with bootCount := 0, resets := 0 } }
  let s := s.forEach (List.range 4) fun s p => s.portRegs p
  let s := s.startRng.startUnits
  let debug : Bool := s.warden.debugFlag && (s.lcState == 2 || s.lcState == 3)
  let us := (s.now - s.start.t0) / 1000
  { s with start := { s.start with
      phase := .selfTest, fabricAt := s.now, readOnly := debug
      phaseTimes := (s.start.phaseTimes.set 0 us).set 1 us } }

/-! ### Step 1 -/

/-- Intent slots that step 1 closes: an interrupted one, and a written one whose target equals the
decoded state (R467). -/
def State.closeIntents (s : State) (v : Nat) : State :=
  s.forEach (List.range 8) fun s i =>
    let shut (s : State) : State :=
      { s with otp := { s.otp with intents := s.otp.intents.set i (List.replicate 3 0xFFFF) } }
    match slotContent (s.otp.intents.getD i []) with
    | .interrupted =>
      let s := shut s
      { s with start := { s.start with abandoned := s.start.abandoned + 1 } }
    | .written t => if t = v then shut s else s
    | _ => s

/-- A pending transition is carried out from step 3 of Table - Transition sequence (R464, R467). -/
def State.beginWipe (s : State) (from_ to_ slot : Nat) : State :=
  let s := s.wipeKeys
  { s with lc := { s.lc with
      transition := some { target := to_, source := from_, slot := slot, wiping := true } } }

/-- Step 1 of a start: the rails' and cell's measurements, the life-cycle words, a pending
transition; BLANK and SCRAP stay in the warden's responder state (R50, R68, R75, R83, R455, R458,
R467). -/
def State.wardenStep (s : State) (coinMv storedMj fullMj : Nat) : State :=
  let s := s.measureRails
  let s := { s with pwr := { s.pwr with coinMv := coinMv } }
  let s := if coinMv < 2600 then s.event .coinCellLow [] else s
  let s := s.measureHoldup fullMj storedMj
  match lcDecode s.otp with
  | none => (s.event .otpDecode []).fatal 0x24 0
  | some v =>
    let s := s.closeIntents v
    match pendingSlots s.otp v with
    | (slot, t) :: _ => s.beginWipe v t slot
    | [] => if v = 0 || v = 5 then s else s.fabricStart

/-- The start's own record at t0 (R73, R92). -/
def State.openStart (s : State) (warm : Bool) (cause : Nat) : State :=
  { s with
    start := {
      began := true, warm := warm, cause := cause, t0 := s.now
      phaseTimes := List.replicate 6 0 ++ s.start.phaseTimes.drop 6
      bifurcation := if warm then s.start.bifurcation else s.odNum 0x140001
      fwSlot := s.start.fwSlot, fwVersion := s.start.fwVersion, fwReleased := s.start.fwReleased }
    pwr := { s.pwr with stage := .normal, stageSince := s.now, dieOn := true, alive := false
                        alive1k := false } }

/-! ### START_COLD -/

/-- A cold start begins once both rails count as present and PERST# of HP0 is deasserted, with the die
off or never started (R73). -/
def State.mayStartCold (s : State) : Bool :=
  s.railsUp && !(s.port 0).perst && (s.pwr.stage == .off || !s.start.began) &&
  (s.pwr.stage == .off || s.pwr.stage == .normal)

/-- The warden's retained register has lost its contents because the coin cell was exhausted: the latch with its
causes and time, the loop's last pulses and the loop mode, which is a free value until the archive gives it again
(R48, R50; log entry 7). The next SEQ is in the NOR as well (R501). -/
def State.loseRegister (s : State) : State :=
  let x := s.take 1
  { x.2 with warden := { x.2.warden with
    latch := false, causeMesh := false, causeLoop := false, causeTemp := false, cellLost := true, latchTime := 0
    loopMode := ofLe x.1 % 4, loopRun := 0, loopCondition := false, lostRecords := 0 } }

/-- A cold start up to the end of step 2 (R75); what debug had kept from being loaded is in force
again (R470). -/
def State.startCold (s : State) (coinMv storedMj fullMj : Nat) (lost : Bool) : State :=
  let s := match s.shelf with
    | some x => ({ s with shelf := none }).load x
    | none => s
  let s := s.openStart false (if s.start.powerFailed then 1 else 0)
  let s := s.bump 0x130008 0 1
  let s := s.when lost State.loseRegister
  s.wardenStep coinMv storedMj fullMj

/-- START_COLD. -/
def execStartCold (coinMv storedMj fullMj : Nat) (registerLost : Bool) (s : State) : Result :=
  .next (if s.mayStartCold then s.startCold coinMv storedMj fullMj registerLost else s)

/-! ### START_WARM -/

/-- The entries a start under debug keeps: OD 0x1400 (R470). -/
def carriedOver (k : Nat) : Bool := k / 256 == 0x1400

/-- Tier A stands back while debug is authorised in FACTORY or DEPLOYED: its records fail
authentication under the other root, nothing else of it is loaded (R387, R470). -/
def State.shelve (s : State) : State :=
  match s.shelf with
  | some _ => s
  | none =>
    let x := s.snapshot
    { s with
      shelf := some x
      keys := {
        records := (s.keys.records.filter (·.2.persistent)).map fun r => (r.1, { r.2 with badSeal := true })
        gens := s.keys.gens, archiveGen := s.keys.archiveGen }
      od := s.od.filter fun v => carriedOver v.1
      cnt := []
      insts := s.insts.filter (·.1 < 4) }

/-- A warm reset's t0 has come: the drain has ended and no job is left (R74). -/
def State.mayStartWarm (s : State) : Bool := s.start.draining.isSome && s.jobs.isEmpty && !s.warning

/-- A warm reset up to the end of its step 2 (R83); the warm reset of a transition goes on with the
wipe (R464), that of debug with tier A standing back (R470). -/
def State.startWarm (s : State) (coinMv storedMj fullMj : Nat) : State :=
  let kind := s.start.draining.getD .restart
  let cause := if s.halted then 3 else 2
  let s := (s.closeAllSessions.rollback).endCard
  let s := if kind == .debugReset then
      ({ s with
        warden := { s.warden with debugFlag := true }
        lc := { s.lc with debugOpen := true } }).wipeKeys
    else s
  let s := s.openStart true cause
  let s := if s.warden.debugFlag && (s.lcState == 2 || s.lcState == 3) then s.shelve
    else s.bump 0x130009 0 1
  s.wardenStep coinMv storedMj fullMj

/-- START_WARM. -/
def execStartWarm (coinMv storedMj fullMj : Nat) (s : State) : Result :=
  .next (if s.mayStartWarm then s.startWarm coinMv storedMj fullMj else s)

/-! ### KAT_COMPLETE -/

/-- A unit fails its known-answer test: retired, with KAT_FAIL (R78). -/
def State.katFail (s : State) (u : Nat) : State :=
  if u < 387 && (s.units.getD u {}).state != .retired then
    let s := (s.modUnit u fun x => { x with state := .retired }).markRetired u
    let s := { s with start := { s.start with katRetired := s.start.katRetired + 1 } }
    s.event .katFail (le 2 u)
  else s

/-- A kind below its minimum (R78, R487). -/
def State.belowMinimum (s : State) : Option Nat :=
  ((List.range 6).map (· + 1)).find? fun k => (s.unitsIn k .active).length < s.minActive k

/-- A kind with fewer ACTIVE units than its minimum is fatal (R75 step 4, R78). -/
def State.fatalBelow (s : State) : State :=
  match s.belowMinimum with
  | some k => s.fatal 0x25 (kindBase.getD (k - 1) 0)
  | none => s

/-- The known-answer tests end: failed units are retired, spares take their place, and a kind below
its minimum is fatal (R75 step 4, R78, R487). -/
def State.katComplete (s : State) (failed : List Nat) : State :=
  let s := (s.forEach failed fun s u => s.katFail u).restoreUnits
  let us := (s.now - s.start.t0) / 1000
  let s := { s with start := { s.start with
    katDone := true, phase := .firmware, phaseTimes := s.start.phaseTimes.set 2 us } }
  s.fatalBelow

/-- KAT_COMPLETE. -/
def execKatComplete (failed : List Nat) (s : State) : Result :=
  .next (if s.start.phase == .selfTest && !s.start.katDone then s.katComplete failed else s)

/-! ### DRBG_FIRST_SEED -/

/-- An internal instance can be instantiated: it is the next in ID order and its two blocks have been
taken (R428, R431). -/
def State.maySeed (s : State) (j : Nat) : Bool :=
  !(s.rng.internal.getD j {}).instantiated &&
  (List.range j).all (fun i => (s.rng.internal.getD i {}).instantiated) &&
  decide (2 ≤ s.rng.internalBlocks)

/-- An internal DRBG instance receives its first full seed; the first of them starts the mask
generators and the time of OD 0x2400.08 (R428, R429, R431). -/
def State.firstSeed (s : State) (j : Nat) : State :=
  let s := { s with rng := { s.rng with
    internal := s.rng.internal.set j s.freshDrbg
    internalBlocks := s.rng.internalBlocks - 2, masksSeeded := true
    firstSeedUs := if s.start.seedDone then s.rng.firstSeedUs else (s.now - s.start.fabricAt) / 1000 } }
  let s := { s with start := { s.start with seedDone := true } }
  (s.countDrbg 0 1).serveBlocks

/-- DRBG_FIRST_SEED. -/
def execDrbgFirstSeed (which : Fin 16) (s : State) : Result :=
  .next (if s.maySeed which then s.firstSeed which else s)

/-! ### ENTROPY_START_FAIL -/

/-- 50 ms after step 2 without a seed: ENTROPY_START_FAIL and HALTED (R79). -/
def State.entropyStartFail (s : State) : State :=
  let s := s.until (s.start.fabricAt + 50000000)
  ((s.event .entropyStartFail []).commitAll).enterHalted 0x0205 false

/-- The start runs and waits for its first seed. -/
def State.awaitsSeed (s : State) : Bool :=
  !s.start.seedDone &&
  (s.start.phase == .selfTest || s.start.phase == .firmware || s.start.phase == .archive)

/-- ENTROPY_START_FAIL. -/
def execEntropyStartFail (s : State) : Result :=
  .next (if s.awaitsSeed then s.entropyStartFail else s)

/-! ### FIRMWARE_AUTHENTICATED -/

/-- An image is accepted: both signatures verify and its version is not below the minimum (R80). -/
def State.accepts (s : State) (f : FwImage) : Bool :=
  f.present && f.mldsaOk && f.ecdsaOk && decide (s.otp.fwMin ≤ f.version)

/-- The accepted image runs: measured into MR0 before any of its code (R80, R81). -/
def State.runFirmware (s : State) (slot : Nat) (f : FwImage) : State :=
  let s := s.extendMr 0 0 f.digest
  let us := (s.now - s.start.t0) / 1000
  { s with start := { s.start with
      fwDone := true, phase := .archive, fwSlot := slot, fwVersion := f.version
      fwReleased := f.released, phaseTimes := s.start.phaseTimes.set 3 us } }

/-- Step 6: the preferred slot, else the other with FIRMWARE_SLOT_FAIL, else the firmware area of a
seated custody card, else FIRMWARE_INVALID and HALTED (R80, chapter 21, Firmware recovery). -/
def State.authenticate (s : State) (slotA slotB cardImage : FwImage) : State :=
  let p := s.odNum 0x130007
  let first := if p = 0 then slotA else slotB
  let second := if p = 0 then slotB else slotA
  if s.accepts first then s.runFirmware p first
  else
    let s := s.event .firmwareSlotFail (le 1 p)
    if s.accepts second then s.runFirmware (1 - p) second
    else
      let s := s.event .firmwareSlotFail (le 1 (1 - p))
      if s.card.detect && s.accepts cardImage then
        (s.runFirmware p cardImage).event .firmwareRecovered (cardDetail s.card.serial 0)
      else ((s.event .firmwareInvalid []).commitAll).enterHalted 0x0204 false

/-- FIRMWARE_AUTHENTICATED. -/
def execFirmwareAuthenticated (slotA slotB cardImage : FwImage) (s : State) : Result :=
  .next (if s.start.phase == .firmware && s.start.katDone then s.authenticate slotA slotB cardImage
    else s)

/-! ### ARCHIVE_MOUNT -/

/-- The archive generation advances by one: the superblock first, then the next OTP bit (R419). -/
def State.advanceGeneration (s : State) : State :=
  if s.otp.genBits < 4096 then
    { s with
      keys := { s.keys with archiveGen := s.keys.archiveGen + 1 }
      otp := { s.otp with genBits := s.otp.genBits + 1 } }
  else s

/-- Leaves reserved and not assigned are skipped at a start, with LEAVES_SKIPPED (R85, R277). -/
def State.skipLeaves (s : State) (k : Nat) (r : KeyRecord) : State :=
  match r.stateful with
  | none => s
  | some f =>
    let n := f.reservedTo - f.nextLeaf
    let s := s.modRecord k fun r => { r with
      stateful := some { f with nextLeaf := max f.nextLeaf f.reservedTo, skipped := f.skipped + n } }
    if n = 0 then s
    else (s.bump 0x220029 0 n).event .leavesSkipped (le 8 (r.handle k).toNat ++ le 8 n)

/-- Reserved and unspent IV_GEN counts of persistent records are skipped at a start (R85, R339). -/
def State.skipIvs (s : State) : State :=
  { s with keys := { s.keys with records := s.keys.records.map fun r =>
    (r.1, { r.2 with ivUsed := max r.2.ivUsed r.2.ivJournal, ivReserved := 0 }) } }

/-- The factory credential area's records count: its OTP digest is unwritten, or matches (R454). -/
def State.factoryAreaOk (s : State) : Bool :=
  match s.otp.dFactoryCred with
  | none => true
  | some d => sha3_256 s.lc.factoryCreds.flatten == d

/-- What step 7 loads and advances from a mounted archive, the loop mode of the warden among it (R48, R75, R85, R277,
R339, R454). -/
def State.loadArchive (s : State) : State :=
  let s := s.forEach s.keys.records fun s r => s.skipLeaves r.1 r.2
  let s := s.skipIvs
  let s := { s with warden := { s.warden with loopMode := s.odNum 0x110009 } }
  if (s.lcState == 1 || s.lcState == 2) && !s.factoryAreaOk then s.event .factoryCredMismatch []
  else s

/-- The identity digest is programmed into OTP at the first DEVICE_READY in FACTORY (R456). -/
def State.writeIdentityRow (s : State) : State :=
  if s.lcState == 2 && s.otp.identityRow.isNone && s.start.ladder == .full then
    { s with otp := { s.otp with identityRow := some s.identityDigest } }
  else s

/-- V of the life-cycle measurement (R472). -/
def State.lcMeasure (s : State) : Bytes :=
  sha384 (ascii "KQ9-LC" ++ le 1 s.lcState ++ le 1 (if s.warden.debugFlag then 1 else 0))

/-- DEVICE_READY: START_COMPLETE, instances in CREATED, the port managers' own instances, the times of
the start (R75, R92, R145). -/
def State.deviceReady (s : State) : State :=
  let us := (s.now - s.start.t0) / 1000
  let s := { s with start := { s.start with
    phase := .ready, startTimeUs := us, phaseTimes := (s.start.phaseTimes.set 4 us).set 5 us } }
  let s := { s with insts := s.insts.map fun n : Nat × Inst =>
    if n.2.qpCount = 0 then n else (n.1, { n.2 with state := .created }) }
  let s := s.event .startComplete []
  s.forEach (List.range 4) fun s p =>
    if p < s.portsUsed && !(s.port p).perst then s.ownInstance p else s

/-- Step 7 once the archive may be used: keys drawn, values loaded, life cycle measured, log checked,
then step 8 (R19, R75, R124, R467, R472, R510). -/
def State.finishStart (s : State) : State :=
  let s := { s with start := { s.start with mounted := true } }
  let k := s.drawInternal 36
  let s := { k.2 with start := { k.2.start with
    vmek := some (k.1.take 32), restartNonce := BitVec.ofNat 32 (ofLe (k.1.drop 32)) } }
  let s := if s.start.readOnly then s else s.loadArchive
  let s := s.extendMr 2 0 s.lcMeasure
  let s := s.checkLog
  let s := s.forEach (List.range s.start.abandoned) fun s _ => s.event .lcIntentAbandoned []
  s.deviceReady.writeIdentityRow

/-- The archive generation against OTP, then the archive (R82, R420). -/
def State.checkGeneration (s : State) : State :=
  if s.start.readOnly then s.finishStart
  else if s.keys.archiveGen < s.otp.genBits then
    ((s.event .archiveRollback []).commitAll).enterHalted 0x0206 false
  else ({ s with otp := { s.otp with genBits := min 4096 s.keys.archiveGen } }).finishStart

/-- A restore marker stands: the marked image is written from the seated card and tier A takes its
content, else RESTORE_INCOMPLETE and HALTED (R529, R530). -/
def State.resumeRestore (s : State) : State :=
  let image := if s.card.detect then s.card.images.find? (·.1 == s.card.markerImage) else none
  match image with
  | none => ((s.event .restoreIncomplete (cardDetail s.card.serial 0)).commitAll).enterHalted 0x0C0C false
  | some x =>
    let gen := s.keys.archiveGen
    let s := s.load x.2
    let s := { s with
      keys := { s.keys with archiveGen := max gen s.keys.archiveGen }
      insts := instsAtStart s.insts }
    let s := s.loseVolatile.dropVolatileOd.advanceGeneration
    let s := { s with card := { s.card with markerSet := false, markerDone := 0, markerImage := zeros 16 } }
    ((s.event .restoreApplied (cardDetail s.card.serial 0)).commitAll).checkGeneration

/-- DETAIL of TAMPER_LATCHED: the cause bits of TAMPER_STATUS (R50, R72). -/
def Warden.cause (w : Warden) : Nat :=
  (if w.causeMesh then 2 else 0) + (if w.causeLoop then 4 else 0) + (if w.causeTemp then 8 else 0) +
  (if w.cellLost then 16 else 0)

/-- Step 7 of a start (R50, R75, R82, R384, R385, R420, R529). -/
def State.archiveMount (s : State) : State :=
  if s.warden.latch || s.warden.cellLost then
    let s := { s with start := { s.start with ladder := s.haltLadder false } }
    ((s.event .tamperLatched (le 4 s.warden.cause)).commitAll).enterHalted 0x0105 false
  else
    let own := (s.lcState == 2 || s.lcState == 3) && !s.warden.debugFlag
    if own && (deviceRoot s.otp).isNone then (s.event .ladderFault []).fatal 0x22 0
    else
      let s := { s with start := { s.start with
        ladder := if s.rootInUse.isSome then .full else .closed } }
      if s.card.markerSet && !s.start.readOnly then s.resumeRestore else s.checkGeneration

/-- ARCHIVE_MOUNT. -/
def execArchiveMount (s : State) : Result :=
  .next (if s.start.phase == .archive && s.start.fwDone && s.start.seedDone then s.archiveMount else s)

end Sys2Proof.Machine
end

