-- ==== Sys2Proof/Machine/Ports.lean ====
section
/-! DEFINITION. Events of the host ports, their functions, the translation cache, the management port
and device time (R76, R84, R100, R127 to R135, R141, R145 to R148, R152). -/

namespace Sys2Proof.Machine

open Sys2Proof

/-! ### Ports -/

/-- A port that the bifurcation mode in force uses and whose link the life-cycle state lets train
(R129, R455). -/
def State.portLives (s : State) (p : Nat) : Bool :=
  s.pwr.dieOn && decide (p < s.portsUsed) && (p == 0 || !(s.lcState == 0 || s.lcState == 5))

/-- PERST# of a port is deasserted: its boot count rises, the link trains to a speed and width the
manual leaves to the link, and in DEVICE_READY the port manager's own instance is ENABLED (R76, R130,
R145, R296; log entry 7). -/
def State.perstDeassert (s : State) (p : Nat) : State :=
  if (s.port p).perst then
    let up := s.portLives p
    let f := s.take 2
    let speed := 1 + ofLe (f.1.take 1) % 4
    let width := 1 + ofLe (f.1.drop 1) % 8
    let s := f.2.modPort p fun t => { t with
      perst := false, perstAt := s.now, linkUp := up
      linkSpeed := if up then speed else 0, linkWidth := if up then width else 0
      bootCount := (t.bootCount + 1) % 65536 }
    if up && s.ready then s.ownInstance p else s
  else s

/-- PERST_DEASSERT. -/
def execPerstDeassert (port : Fin 4) (s : State) : Result := .next (s.perstDeassert port)

/-- The link of a port goes down or its PTM stops: a time source on that port is lost (R135). -/
def State.ptmLost (s : State) (p : Nat) : State :=
  if s.odNum 0x290020 = p + 2 && s.clk.devTime.isSome then
    { s with clk := { s.clk with timeState := 3, holdoverSince := s.now } }
  else s

/-- A port reset by its cause (R84, R130, R133): PERST# and a link-down take the link. -/
def State.portResetBy (s : State) (p : Nat) (c : PortResetCause) : State :=
  let s := match c with
    | .perst => (s.modPort p fun t => { t with perst := true, linkUp := false, linkSpeed := 0, linkWidth := 0, ptm := false }).ptmLost p
    | .linkDown => (s.modPort p fun t => { t with linkUp := false, linkSpeed := 0, linkWidth := 0, ptm := false }).ptmLost p
    | _ => s
  s.portReset p

/-- PORT_RESET; the pins of a port that the mode does not use are ignored (R129). -/
def execPortReset (port : Fin 4) (cause : PortResetCause) (s : State) : Result :=
  .next (if s.portLives port then s.portResetBy port cause else s)

/-- A VF's function-level reset: a squash reset with every register of the function at its reset
value (R133, R147, R537). -/
def State.vfReset (s : State) (i : Nat) : State :=
  let plain (s : State) : State :=
    (s.resetRegs i).modInst i fun n => { n with msix := [], msixPending := [] }
  match (s.inst i).state with
  | .created | .enabled | .frozen => plain (s.startReset i true)
  | .resetting => plain (s.squashInst i)
  | _ => s

/-- VF_FLR; on the port manager's function it is a port reset (R133). -/
def execVfFlr (inst : Fin 1024) (s : State) : Result :=
  .next (if inst.val < 4 then (if s.portLives inst then s.portResetBy inst .pfFlr else s) else s.vfReset inst)

/-- VF_D3HOT_TO_D0 (R133). -/
def execVfD3hotToD0 (inst : Fin 1024) (s : State) : Result :=
  .next (if inst.val < 4 then (if s.portLives inst then s.portResetBy inst .wake else s) else s.vfReset inst)

/-- A configuration request: no answer while PERST# holds the port and for 100 ms after, Retry Status
until step 7 of the start has ended, a normal answer afterwards, in HALTED and in the warden's
responder state (R76, R83, R455; log entry 25). -/
def State.configRequest (s : State) (p : Nat) : State :=
  let t := s.port p
  if !s.portLives p || t.perst || s.now < t.perstAt + 100000000 then s
  else
    let responder := (s.lcState == 0 || s.lcState == 5) && !s.inTransition
    let normal := s.ready || s.halted || responder
    (s.modPort p fun t => { t with linkUp := true }).send (.configAnswer p (!normal))

/-- CONFIG_REQUEST. -/
def execConfigRequest (port : Fin 4) (s : State) : Result := .next (s.configRequest port)

/-! ### The end of an instance reset -/

/-- The last job of a resetting instance has left: step 5 of Table - Instance reset, whose reseed ends
the reset; it waits for a seed unless the instance goes back to CREATED or the pool has stopped (R148,
R427, R436). -/
def State.instanceResetDone (s : State) (i : Nat) : State :=
  if s.instState i != .resetting || !(s.jobsOf i).isEmpty then s
  else
    let s := if (s.inst i).reseeding then s
      else
        let s := s.wipeInst i
        let s := if (s.inst i).wasEnabled then s.askDrbg i else s.clearDrbg i
        s.modInst i fun n => { n with reseeding := true }
    if !(s.inst i).wasEnabled || (s.inst i).drbg.seeded || s.rng.stopped then s.endReset i else s

/-- INSTANCE_RESET_DONE. -/
def execInstanceResetDone (inst : Fin 1024) (s : State) : Result := .next (s.instanceResetDone inst)

/-! ### The translation cache -/

/-- A cached translation overlaps a range. -/
def AtcEntry.meets (e : AtcEntry) (iova len : Nat) : Bool :=
  decide (e.base < iova + len) && decide (iova < e.base + e.len)

/-- An Invalidate Request removes the matching entries and is completed (R152). -/
def State.atsInvalidate (s : State) (i iova len : Nat) : State :=
  ({ s with trans := { s.trans with
    atc := s.trans.atc.filter fun e => !(e.inst == i && e.meets iova len) } }).send (.invalidateDone i)

/-- ATS_INVALIDATE_REQUEST. -/
def execAtsInvalidateRequest (inst : Fin 1024) (iova len : BitVec 64) (s : State) : Result :=
  .next (s.atsInvalidate inst iova.toNat len.toNat)

/-- A translation that a job needs is denied: before its input is in the job ends with TRANSLATION_FAULT,
once it runs with ABORTED and cause TRANSLATION_LOST; DETAIL holds the address (R152, R179, R180). -/
def State.denyTranslation (s : State) (k iova : Nat) (j : Job) : State :=
  match j.phase with
  | .dispatched | .pinned => s.endJob k .translationFault (iova % 2 ^ 48)
  | .running | .computed | .ready => s.abortJob k (3 + 256 * (iova % 2 ^ 48))
  | .finished => s

/-- A Translation Completion for a job's range: cached with its permissions for the job's instance;
one that grants nothing denies access (R152, R180). -/
def State.atsCompletion (s : State) (k iova len : Nat) (r w : Bool) : State :=
  match s.job k with
  | none => s
  | some j =>
    if r || w then
      let e : AtcEntry := { inst := j.inst, base := iova, len := len, read := r, write := w, since := s.now }
      { s with trans := { s.trans with
        atc := (s.trans.atc.filter fun x => !(x.inst == j.inst && x.meets iova len)) ++ [e] } }
    else s.denyTranslation k iova j

/-- ATS_TRANSLATION_COMPLETION. -/
def execAtsTranslationCompletion (slot : Fin 16384) (iova len : BitVec 64) (canRead canWrite : Bool)
    (s : State) : Result :=
  .next (s.atsCompletion slot iova.toNat len.toNat canRead canWrite)

/-- A cached translation reaches 1 s and goes (R152). -/
def State.atsExpire (s : State) (i iova : Nat) : State :=
  let mine (e : AtcEntry) : Bool := e.inst == i && e.meets iova 1
  match s.trans.atc.find? mine with
  | none => s
  | some e =>
    let s := s.until (e.since + 1000000000)
    { s with trans := { s.trans with atc := s.trans.atc.filter fun e => !mine e } }

/-- ATS_TRANSLATION_EXPIRY. -/
def execAtsTranslationExpiry (inst : Fin 1024) (iova : BitVec 64) (s : State) : Result :=
  .next (s.atsExpire inst iova.toNat)

/-! ### Device time -/

/-- A measurement of the chosen time source: its offset, and in LOCKED its time (R128, R135). -/
def State.measureTime (s : State) (offset : Int) (time : Nat) (locked : Bool) : State :=
  { s with clk := { s.clk with
    offsetNs := offset
    timeState := if locked then 2 else if s.clk.timeState = 2 then 2 else 1
    devTime := if locked then some (time % 2 ^ 64) else s.clk.devTime } }

/-- PTM_DIALOGUE: on the port that TIME_SOURCE names (R135). -/
def execPtmDialogue (port : Fin 4) (offset : Int) (time : Nat) (locked : Bool) (s : State) : Result :=
  let s := s.modPort port fun t => { t with ptm := t.linkUp }
  .next (if s.odNum 0x290020 = port.val + 2 && (s.port port).linkUp then s.measureTime offset time locked
    else s)

/-- A frame of the management port carries the tag that VLAN_ID asks for (R127). -/
def State.vlanOk (s : State) (vlan : Nat) : Bool := vlan == s.odNum 0x290009

/-- A frame discarded and counted (R100). -/
def State.discardFrame (s : State) : State := s.bump 0x290010 0 1

/-- PTP_MESSAGE: of the domain PTP_DOMAIN, while TIME_SOURCE is PTP (R127, R128). -/
def execPtpMessage (gm : BitVec 64) (domain vlan time : Nat) (offset : Int) (locked : Bool) (s : State) :
    Result :=
  .next (if !s.vlanOk vlan then s.discardFrame
    else if s.odNum 0x290020 = 1 && domain = s.odNum 0x290023 then
      let s := s.measureTime offset time locked
      { s with clk := { s.clk with gmIdentity := gm } }
    else s)

/-- The source of time is lost: HOLDOVER (R128). -/
def State.sourceLost (s : State) : State :=
  if s.clk.devTime.isSome && s.clk.timeState = 2 then
    { s with clk := { s.clk with timeState := 3, holdoverSince := s.now } }
  else s

/-- PTP_SOURCE_LOST. -/
def execPtpSourceLost (s : State) : Result :=
  .next (if s.odNum 0x290020 = 1 then s.sourceLost else s)

/-- PTM_DISABLED (R135). -/
def execPtmDisabled (port : Fin 4) (s : State) : Result :=
  .next ((s.modPort port fun t => { t with ptm := false }).ptmLost port)

/-- HOLDOVER_LIMIT: after HOLDOVER_LIMIT_S of holdover, FREE_RUN with a WARNING (R128). -/
def State.holdoverLimit (s : State) : State :=
  if s.clk.devTime.isSome && s.clk.timeState = 3 then
    let s := s.until (s.clk.holdoverSince + 1000000000 * s.odNum 0x290024)
    let s := { s with clk := { s.clk with timeState := 0 } }
    s.event .timeFreeRun []
  else s

/-- HOLDOVER_LIMIT. -/
def execHoldoverLimit (s : State) : Result := .next s.holdoverLimit

/-! ### The management port -/

/-- LINK_STATE_CHANGE: OD 0x2900.0B (R128). -/
def execLinkStateChange (state : Nat) (s : State) : Result :=
  .next { s with mgmt := { s.mgmt with link := state % 4 } }

/-- The link-local address formed from the MAC address, by its modified EUI-64 (R127; log entry
26). -/
def State.linkLocal (s : State) : Bytes :=
  let m := s.odBytes 0x29000A
  [0xFE, 0x80, 0, 0, 0, 0, 0, 0] ++ (m.take 1).map (· ^^^ 2) ++ slice 1 2 m ++ [0xFF, 0xFE] ++
    slice 3 3 m

/-- An address of the management port itself (R127). -/
def State.ownAddress (s : State) (v6 : Bool) (a : Bytes) : Bool :=
  if v6 then a == s.linkLocal || (a == s.odBytes 0x290003 && a != zeros 16)
  else a == s.odBytes 0x290006 && a != zeros 4

/-- ADDRESS_RESOLUTION: ARP and neighbour discovery are answered for the port's own addresses
(R100, R127). -/
def execAddressResolution (v6 : Bool) (target : Bytes) (vlan : Nat) (s : State) : Result :=
  .next (if !s.vlanOk vlan then s.discardFrame
    else if s.ownAddress v6 target then s.send (.resolved v6 target)
    else s)

/-- FRAME_DISCARD (R100). -/
def execFrameDiscard (s : State) : Result := .next s.discardFrame

/-- MGMT_TX_SUBMIT: TX_LEN is written and the frame is taken; what it asks arrives as the request's
own command (R141). -/
def execMgmtTxSubmit (port : Fin 4) (len : BitVec 32) (s : State) : Result :=
  .next (s.modPort port fun t => { t with txLen := len, txBusy := false })

/-- RX_FRAME is freed and the next frame that waits takes it (R141). -/
def State.rxAck (s : State) (p : Nat) : State :=
  match (s.port p).rxQueue with
  | [] => s.modPort p fun t => { t with rxFrame := none }
  | f :: r => (s.modPort p fun t => { t with rxFrame := some f, rxQueue := r }).portEvent p .mgmtRx

/-- MGMT_RX_ACK. -/
def execMgmtRxAck (port : Fin 4) (value : BitVec 32) (s : State) : Result :=
  .next (if value = 1 then s.rxAck port else s)

end Sys2Proof.Machine
end

