-- ==== Sys2Proof/Machine/MgmtCore.lean ====
section
/-! DEFINITION. Zynbo sessions and what every request shares: credentials, openings, frame acceptance,
stored responses, and the checks of R113 up to the access (R97, R100 to R114). -/

namespace Sys2Proof.Machine

open Sys2Proof

/-! ### Results -/

/-- The answer to a request: RESULT, VALUE, and whether it is a refusal in the present state, which
R123 counts. -/
structure Reply where
  status : Status
  value : Bytes := []
  counted : Bool := false
  deriving DecidableEq, Repr

/-- OK with a value. -/
def Reply.ok (v : Bytes) : Reply := { status := .ok, value := v }
/-- A refusal that R123 does not count. -/
def Reply.refuse (st : Status) : Reply := { status := st }
/-- STATE_CONFLICT in the present state (R123). -/
def Reply.conflict : Reply := { status := .stateConflict, counted := true }

/-! ### Custody cards and credentials -/

/-- The tag of a mirror entry (R104, R515). -/
def State.mirrorTag (s : State) (entry : Bytes) (label : String) : Bytes :=
  kmac256 (s.ladderKey "KQ9-MIRROR" 32) entry (ascii label) 32

/-- Tier A is loaded: its entries, not the mirrors, decide (R50, R104, R515). -/
def State.tierALoaded (s : State) : Bool := s.start.mounted && !s.halted

/-- The 48-byte entries of CUSTODY_CARDS (R533). -/
def cardEntries : Nat → Bytes → List Bytes
  | 0, _ => []
  | n + 1, b => if b.isEmpty then [] else b.take 48 :: cardEntries n (b.drop 48)

/-- An entry of CUSTODY_CARDS names a card: its serial and the digest of its public key (R515). -/
def entryNames (e : Bytes) (serial : BitVec 64) (digest : Bytes) : Bool :=
  fieldLe 0 8 e == serial.toNat && slice 8 32 e == fit 32 digest

/-- A card is enrolled: by CUSTODY_CARDS, or by a mirror entry whose tag verifies while tier A is not
loaded (R515, R517). -/
def State.cardEnrolled (s : State) (serial : BitVec 64) (digest : Bytes) : Bool :=
  if s.tierALoaded then
    (cardEntries 32 (s.odBytes 0x280010)).any fun e => entryNames e serial digest
  else s.card.cardMirror.any fun m =>
    entryNames m.2 serial digest && slice 48 32 m.2 == s.mirrorTag (m.2.take 48) "KQ9-CARD-MIRROR"

/-- One enrolled custody card is seated and identified (R97, R517). -/
def State.cardPresent (s : State) : Bool :=
  (s.card.state == .ready || s.card.state == .rest || s.card.state == .busy) &&
  s.card.step == 8 && s.card.role == 2 && s.cardEnrolled s.card.serial s.card.keyDigest

/-- The credential records in force: the entries of OD 0x1010, the factory credential area in TEST and
FACTORY, or the mirror entries whose tag verifies while tier A is not loaded (R104, R454). -/
def State.credentials (s : State) : List Bytes :=
  if s.tierALoaded then
    ((List.range 64).map fun n => s.odBytes (0x101001 + n)).filter (!·.isEmpty) ++
    (if (s.lcState == 1 || s.lcState == 2) && s.factoryAreaOk then s.lc.factoryCreds else [])
  else (s.mgmt.credMirror.filter fun m =>
    (m.2.drop 1968) == s.mirrorTag (m.2.take 1968) "KQ9-CRED-MIRROR").map fun m => m.2.take 1968

/-- The credential of a CRED_ID; 0 names none (Table - Credential record). -/
def State.credential (s : State) (id : BitVec 64) : Option Bytes :=
  if id = 0 then none else s.credentials.find? fun c => fieldLe 0 8 c == id.toNat

/-- ROLE of a credential record. -/
def credRole (c : Bytes) : Nat := fieldLe 8 1 c
/-- FLAGS of a credential record. -/
def credFlags (c : Bytes) : Nat := fieldLe 9 1 c

/-! ### Channels -/

/-- The block sends Zynbo frames: from DEVICE_READY or the entry into HALTED, with a ladder key to sign
with, and under debug in FACTORY or DEPLOYED not at all (R77, R102, R470, R486). -/
def State.zynboServes (s : State) : Bool :=
  s.pwr.dieOn && (s.ready || s.halted) && s.start.ladder != .closed && !s.start.readOnly

/-- A datagram of the network channel is taken: MGMT_ENABLE is 1 and fewer than 10,000 have been taken
within the second; a window's frame always (R100, R128). -/
def State.takeDatagram (s : State) (chan : Option Nat) : Option State :=
  match chan with
  | some _ => some s
  | none =>
    let recent := s.mgmt.datagrams.filter fun t => decide (s.now < t + 1000000000)
    if s.odNum 0x290001 = 1 && recent.length < 10000 then
      some { s with mgmt := { s.mgmt with datagrams := recent ++ [s.now] } }
    else none

/-! ### Openings -/

/-- A CRED_ID is blocked (R105). -/
def State.credBlocked (s : State) (id : BitVec 64) : Bool :=
  s.mgmt.refusals.any fun r => r.credId == id && match r.blockedAt with
    | some t => decide (s.now < t + 60000000000)
    | none => false

/-- A refused opening: no reply, OPEN_FAILED, and the fifth within 60 s blocks the CRED_ID; during a
block nothing more is counted toward it (R105). -/
def State.refuseOpening (s : State) (id : BitVec 64) : State :=
  let s := (s.event .openFailed []).bump 0x290011 0 1
  if s.credBlocked id then s
  else
    let old := (s.mgmt.refusals.find? (·.credId == id)).getD { credId := id }
    let others := s.mgmt.refusals.filter (·.credId != id)
    let block (ts : List Nat) (b : Option Nat) : List CredRefusal :=
      others ++ [{ credId := id, times := ts, blockedAt := b }]
    let times := (old.times.filter fun t => decide (s.now < t + 60000000000)) ++ [s.now]
    if 5 ≤ times.length then
      let s := { s with mgmt := { s.mgmt with refusals := block [] (some s.now) } }
      s.event .credentialBlocked []
    else { s with mgmt := { s.mgmt with refusals := block times none } }

/-- Whether an opening is refused: its credential is blocked, unknown, disabled or shut out of the
channel, or the role asked for lies above the credential's, or FACTORY has no place (R96, R105). -/
def State.openingRefused (s : State) (chan : Option Nat) (id : BitVec 64) (role : Nat) : Bool :=
  match s.credential id with
  | none => true
  | some c =>
    let f := credFlags c
    let granted := if role = 0 then credRole c else role
    s.credBlocked id || !bit f 0 || (if chan.isSome then bit f 2 else bit f 1) ||
    decide (credRole c < role) || (granted == 5 && !(s.lcState == 1 || s.lcState == 2))

/-- The OPEN_1 payload (Table - OPEN_1 payload). -/
def open1Payload (id : BitVec 64) (role : Nat) (nonce x25519 ek : Bytes) : Bytes :=
  fields [(8, id.toNat), (1, role), (7, 0)] ++ fit 32 nonce ++ fit 32 x25519 ++ fit 1184 ek

/-- Identity signatures over a message: ML-DSA-87 with a context string, then ECDSA P-384 with SHA-384
(R105, R297, R386; log entry 8). `rnd` is the signing randomness. -/
def State.identitySign (s : State) (ctx : String) (m rnd : Bytes) : Bytes :=
  mldsaSig 3 s.identityMldsa.sk (pureMsg (ascii ctx) m) (rnd.take 32) ++
  ecdsaSig 2 s.identityP384.sk (sha384 m) (rnd.drop 32)

/-- The parts of an OPEN_2 payload, at most 1,380 bytes each. -/
def State.sendParts (s : State) (chan : Option Nat) (id : BitVec 32) (payload : Bytes) : State :=
  s.forEach (List.range 5) fun s i => s.sendOpen chan 0x02 id i 5 (slice (1380 * i) 1380 payload)

/-- Step 2 of Table - Session opening: the KQ9 encapsulates, computes X25519, signs and sends OPEN_2
(R105, R106). The randomness is an internal DRBG's. -/
def State.beginOpening (s : State) (chan : Option Nat) (id : BitVec 64) (role : Nat)
    (nonce x25519 ek : Bytes) : State :=
  let c := (s.credential id).getD []
  let d := s.drawInternal 176
  let s := d.2
  let dn := d.1.take 32
  let xs := slice 32 32 d.1
  let kem := mlkemEncapsulate 2 ek (slice 64 32 d.1)
  let own := ecPair 6 xs
  let xPub := own.pk
  let xShared := ecShared 6 own.sk x25519
  let p1 := open1Payload id role nonce x25519 ek
  let head := dn ++ s.identityDigest ++ xPub ++ kem.ct
  let sig := s.identitySign "ZYNBO-DEVICE" (sha3_256 (p1 ++ head)) (slice 96 80 d.1)
  let t := sha3_256 (p1 ++ head ++ sig)
  let keys := kmac256 (kem.ss ++ xShared) t (ascii "ZYNBO-SESSION") 72
  let sid := BitVec.ofNat 32 s.mgmt.nextSession
  let x : Session := {
    id := sid, credId := id, role := if role = 0 then credRole c else role, inBand := chan
    startedAt := s.now, transcript := t, pk := slice 16 1952 c, keys := keys }
  let s := { s with mgmt := { s.mgmt with
    sessions := s.mgmt.sessions ++ [x], nextSession := s.mgmt.nextSession + 1 } }
  s.sendParts chan sid (head ++ sig)

/-- OPEN_1: answered OPEN_BUSY beyond the limits of R102 or while no DRBG serves (R436), refused under
R105, or answered OPEN_2. -/
def State.open1 (s : State) (chan : Option Nat) (id : BitVec 64) (role : Nat) (nonce x25519 ek : Bytes) :
    State :=
  if !s.zynboServes then s
  else match s.takeDatagram chan with
    | none => s
    | some s =>
      let opening := (s.mgmt.sessions.filter (!·.opened)).length
      if 16 ≤ s.mgmt.sessions.length || 4 ≤ opening || !s.internalServes then
        s.sendOpen chan 0x0E 0 0 1 []
      else if s.openingRefused chan id role then s.refuseOpening id
      else s.beginOpening chan id role nonce x25519 ek

/-- OPEN_1. -/
def execOpen1 (chan : Option (Fin 4)) (credId : BitVec 64) (roleAsked : Nat) (nonce x25519 ek : Bytes)
    (s : State) : Result :=
  .next (s.open1 (chan.map (·.val)) credId roleAsked nonce x25519 ek)

/-- The OPEN_4 payload (Table - OPEN_4 payload). -/
def State.open4Payload (s : State) (role : Nat) : Bytes :=
  fields [(1, role), (1, 0), (2, s.odNum 0x29000E), (4, 0), (8, s.time64.toNat)]

/-- OPEN_3: its signature over T verifies and the session opens with OPEN_4, or the opening is refused
(R105, R108). -/
def State.open3 (s : State) (id : BitVec 32) (sig : Bytes) : State :=
  match s.session id with
  | none => s
  | some x =>
    if x.opened || !s.zynboServes || x.startedAt + 10000000000 ≤ s.now then s
    else if mldsaOk 2 x.pk (pureMsg (ascii "ZYNBO-OPEN") x.transcript) sig then
      let s := s.modSession id fun y => { y with
        opened := true, rxHigh := 3, rxSeen := [1, 2, 3], lastFrame := s.now, lastService := s.now }
      s.sendFrame id 0x04 (s.open4Payload x.role)
    else (s.closeSession id).refuseOpening x.credId

/-- OPEN_3. -/
def execOpen3 (session : BitVec 32) (sig : Bytes) (s : State) : Result := .next (s.open3 session sig)

/-- OPENING_TIMEOUT: an opening not ended within 10 s is abandoned (R105). -/
def State.openingTimeout (s : State) (id : BitVec 32) : State :=
  match s.session id with
  | none => s
  | some x => if x.opened then s else (s.until (x.startedAt + 10000000000)).closeSession id

/-- OPENING_TIMEOUT. -/
def execOpeningTimeout (session : BitVec 32) (s : State) : Result := .next (s.openingTimeout session)

/-- CREDENTIAL_BLOCK_END: 60 s after its start a block ends and its count begins anew (R105). -/
def State.credentialBlockEnd (s : State) (id : BitVec 64) : State :=
  match s.mgmt.refusals.find? (·.credId == id) with
  | none => s
  | some r => match r.blockedAt with
    | none => s
    | some t =>
      let s := s.until (t + 60000000000)
      { s with mgmt := { s.mgmt with refusals := s.mgmt.refusals.filter (·.credId != id) } }

/-- CREDENTIAL_BLOCK_END. -/
def execCredentialBlockEnd (credId : BitVec 64) (s : State) : Result := .next (s.credentialBlockEnd credId)

/-! ### Requests -/

/-- A SEQ is new: above the highest accepted, or within the 63 below it and not yet accepted (R109). -/
def Session.fresh (x : Session) (seq : Nat) : Bool :=
  decide (x.rxHigh < seq) || (decide (x.rxHigh < seq + 64) && decide (0 < seq) && !x.rxSeen.contains seq)

/-- A session notes an accepted SEQ (R109, R110). -/
def Session.accept (x : Session) (seq now : Nat) : Session :=
  let high := max x.rxHigh seq
  { x with
    rxHigh := high, lastFrame := now
    rxSeen := (x.rxSeen ++ [seq]).filter fun q => decide (high < q + 64) }

/-- A protected frame discarded under R109 and counted. -/
def State.discardProtected (s : State) : State := s.bump 0x290012 0 1

/-- A RESPONSE payload (Table - Service header). -/
def responsePayload (svc : Nat) (id : BitVec 16) (r : Reply) : Bytes :=
  fields [(1, svc % 128 + 128), (1, 0), (2, id.toNat), (2, r.status.code), (2, 0), (4, r.value.length)] ++
    r.value

/-- A session whose SEQ has reached its end in either direction closes (R109). -/
def State.closeSpent (s : State) (id : BitVec 32) : State :=
  match s.session id with
  | none => s
  | some x => if 0xFFFFFFFF ≤ x.rxHigh || 0xFFFFFFFF ≤ x.txSeq then s.closeSession id else s

/-- The response is kept among the session's last 16 and sent (R112). -/
def State.respond (s : State) (z : ZReq) (svc : Nat) (r : Reply) : State :=
  let p := responsePayload svc z.requestId r
  let s := s.modSession z.session fun x =>
    let all := x.responses ++ [(z.requestId, p)]
    { x with responses := all.drop (all.length - 16) }
  s.sendFrame z.session 0x11 p

/-- A refusal in the present state of a session is counted and told (R123). -/
def State.countReply (s : State) (x : Session) (r : Reply) : State :=
  if r.counted then s.conflict 0 x.credId.toNat 0xFFFF (le 8 x.credId.toNat) else s

/-- One request of a session (R109, R112, R113): its frame is accepted, a repeated REQUEST_ID is answered
with the stored response, any other request runs and is answered; `after` follows the response. -/
def State.serve (s : State) (z : ZReq) (svc : Nat) (run : Session → State → Reply × State)
    (after : Reply → State → State) : State :=
  match s.session z.session with
  | none => s.discardProtected
  | some x =>
    if !s.zynboServes then s
    else match s.takeDatagram x.inBand with
    | none => s
    | some s =>
      if !x.opened || !x.fresh z.seq || 0xFFFFFFFF < z.seq then s.discardProtected
      else
        let s := s.modSession z.session fun y => y.accept z.seq s.now
        match x.responses.find? (·.1 == z.requestId) with
        | some r => (s.sendFrame z.session 0x11 r.2).closeSpent z.session
        | none =>
          let a := run ((s.session z.session).getD x) s
          let s := (a.2.countReply x a.1).respond z svc a.1
          (after a.1 s).closeSpent z.session

/-- Nothing follows a response. -/
def nothingAfter (_ : Reply) (s : State) : State := s

/-- A request that only answers (R112). -/
def State.answer (s : State) (z : ZReq) (svc : Nat) (run : Session → State → Reply × State) : State :=
  s.serve z svc run nothingAfter

/-- A service of R122 keeps the owner's transaction from its timeout. -/
def State.noteService (s : State) (x : Session) : State :=
  s.modSession x.id fun y => { y with lastService := s.now }

/-! ### The checks on an entry -/

/-- The instance record of another port is hidden from an in-band session (R160). -/
def State.hidden (s : State) (x : Session) (k : OdKey) : Bool :=
  match x.inBand with
  | none => false
  | some p =>
    let i := k.index.toNat
    decide (0x1800 ≤ i) && decide (i ≤ 0x1BFF) && s.portOf (i - 0x1800) != some p

/-- An entry needs a card for its service: as its meaning says, and in DEPLOYED for LC_REQUEST and
CUSTOMER_SCRAP_TOKEN_DIGEST (R97, R473). -/
def State.needsCard (s : State) (k : OdKey) (d : EntryDef) : Bool :=
  d.card || (s.lcState == 3 && (OdKey.num k == 0x250001 || OdKey.num k == 0x250004))

/-- The checks NO_SUCH_ENTRY, ROLE_DENIED and CARD_ABSENT, in the order of Table - Zynbo results (R96,
R97, R113); DOMAIN_AUTHORITY is read by OBSERVER (R421). -/
def State.entryCheck (s : State) (x : Session) (k : OdKey) (reading : Bool) : Except Status EntryDef :=
  match entryDef k with
  | none => .error .noSuchEntry
  | some d =>
    if s.hidden x k then .error .noSuchEntry
    else if reading && OdKey.num k == 0x230005 then .ok d
    else if x.role < d.role || (d.role == 5 && !(s.lcState == 1 || s.lcState == 2)) then .error .roleDenied
    else if s.needsCard k d && !s.cardPresent then .error .cardAbsent
    else .ok d

/-- VALUE_LEN allowed by a type (R94). -/
def OdType.sizeOk (t : OdType) (n : Nat) : Bool :=
  match t with
  | .string m => decide (n ≤ m)
  | .domain m => decide (n ≤ m)
  | t => n == t.size

/-- A DOMAIN entry (R94). -/
def OdType.isDomain : OdType → Bool
  | .domain _ => true
  | _ => false

/-- The open transaction is a session's own (R118). -/
def State.ownsTxn (s : State) (x : Session) : Bool := s.mgmt.txn.open_ && s.mgmt.txn.session == x.id

/-- The value a session reads: the staged one of its own transaction, else the entry's (R119). -/
def State.sessionRead (s : State) (x : Session) (key : Nat) : Bytes :=
  if s.ownsTxn x then (look key s.mgmt.txn.staged).getD (s.odRead key) else s.odRead key

end Sys2Proof.Machine
end

