-- ==== Sys2Proof/Machine/LifeCycle.lean ====
section
/-! DEFINITION. Life-cycle transitions, the token digests, tamper acknowledgement, and debug
authorisation through the debug port (R51, R453 to R473). -/

namespace Sys2Proof.Machine

open Sys2Proof

/-! ### Requesting a transition -/

/-- Where a transition request comes from (R462). -/
inductive LcChannel where
  | session (role : Nat)
  | debug
  deriving DecidableEq, Repr

/-- Two approvals for ANALYSIS from distinct cards stand, the older at most 600 s old (R462, R531). -/
def State.approved (s : State) : Bool :=
  let ok := s.card.approvals.filter fun a => a.target == 4 && decide (s.now ≤ a.at_ + 600000000000)
  ok.any fun a => ok.any fun b => a.serial != b.serial

/-- The channel and conditions of Table - Transition requests for a transition (R462). -/
def State.lcChannelOk (s : State) (c : LcChannel) (v target : Nat) (token : Bytes) : Bool :=
  match v, target, c with
  | 0, 1, .debug => true
  | 1, 2, .session r => r == 5
  | 2, 3, .session r =>
    (r == 4 || r == 5) && s.card.token.isSome && s.card.role == 1 && s.domainState != 0 &&
      token.all (· == 0)
  | 3, 4, .session r => decide (4 ≤ r) && s.cardPresent && s.approved
  | 1, 5, .session r => r == 5
  | 2, 5, .session r => r == 5
  | 1, 5, .debug => true
  | 3, 5, .session r => decide (4 ≤ r) && s.cardPresent
  | 4, 5, .debug => s.lc.debugOpen
  | _, _, _ => false

/-- The digests that open a target (Table - Token digests). -/
def State.tokenDigests (s : State) (target : Nat) : List Bytes :=
  match target with
  | 1 => [Config.testTokenDigest]
  | 2 => s.otp.dFactory.toList
  | 3 => s.otp.dDeploy.toList
  | 4 => s.otp.dAnalysis.toList
  | 5 => s.otp.dScrapV.toList ++ s.otp.dScrapC.toList
  | _ => []

/-- The lowest unused intent slot (R459). -/
def State.freeIntent (s : State) : Option Nat :=
  (List.range 8).find? fun i => slotContent (s.otp.intents.getD i []) == .unused

/-- The number of the first check of R463 that a request fails. -/
def State.lcRefusal (s : State) (c : LcChannel) (target : Nat) (token : Bytes) : Option Nat :=
  let v := s.lcState
  let shown := if v = 2 && target = 3 then s.card.token.getD [] else token
  let serves := s.ready || (v == 0 && s.start.began && s.start.phase == .warden)
  if !successor v target then some 1
  else if !s.lcChannelOk c v target token then some 2
  else if s.warning || s.inTransition || !serves then some 3
  else if (s.tokenDigests target).isEmpty || s.freeIntent.isNone then some 4
  else if 5 ≤ s.lc.tokenFails then some 5
  else if !(s.tokenDigests target).contains (sha3_256 shown) then some 6
  else none

/-- The valid copy of an intent slot that names a target (R459). -/
def intentWord (target : Nat) : BitVec 16 := BitVec.ofNat 16 (256 * (255 - target) + target)

/-- Steps 1 and 2 of Table - Transition sequence: the intent slot, LC_TRANSITION, the windows, the
drain (R293, R464, R524, R531). -/
def State.beginTransition (s : State) (target slot : Nat) : State :=
  let v := s.lcState
  let s := { s with
    otp := { s.otp with intents := s.otp.intents.set slot (List.replicate 3 (intentWord target)) }
    lc := { s.lc with
      transition := some { target := target, source := v, slot := slot, wiping := false } }
    card := { s.card with approvals := if target = 4 then [] else s.card.approvals }
    start := { s.start with draining := some .transition, drainSince := s.now } }
  ((s.event .lcTransition (le 1 v ++ le 1 target)).commitAll.alarmWindows).endCard

/-- A transition request: accepted, or refused with LC_REFUSED and the check number (R463). The result
says whether it was accepted. -/
def State.lcRequest (s : State) (c : LcChannel) (target : Nat) (token : Bytes) : Bool × State :=
  match s.lcRefusal c target token, s.freeIntent with
  | none, some slot => (true, s.beginTransition target slot)
  | r, _ =>
    let n := r.getD 4
    let s := s.event .lcRefused (le 1 n)
    (false, if n = 6 then { s with lc := { s.lc with tokenFails := s.lc.tokenFails + 1 } } else s)

/-- LC_REQUEST of a session: TARGET, three reserved bytes, TOKEN (R462). -/
def State.lcRequestBy (s : State) (x : Session) (v : Bytes) : Reply × State :=
  let r := s.lcRequest (.session x.role) (fieldLe 0 1 v) (slice 4 32 v)
  (if r.1 then .ok [] else .conflict, r.2)

/-! ### Carrying a transition out -/

/-- What tier A loses when a transition wipes it: records of every tier and open slots with new
generations, the peer directory, counters, domain, instances, recipes, dictionary values, credentials
and both mirrors (Table - Transition wipes, R104, R390, R515). -/
def State.wipeTierA (s : State) : State :=
  let s := s.removeRecords (s.keys.records.map (·.1))
  let s := s.forEach (s.keys.peers.map (·.1)) fun s p => s.removePeer p
  let s := s.removeSlots (s.keys.slots.map (·.1))
  { s with
    keys := { gens := s.keys.gens, archiveGen := s.keys.archiveGen }
    insts := [], od := [], cnt := [], shelf := none
    mgmt := { s.mgmt with credMirror := [] }
    card := { s.card with cardMirror := [] } }

/-- The log is removed by the transition to SCRAP (R465, R500). -/
def Recorder.erased (r : Recorder) (next : Nat) : Recorder :=
  { r with log := [], loss := [], lastTag := none, first := [(r.epoch, next - r.buffer.length)] }

/-- The wipe of step 3 (Table - Transition wipes). -/
def State.transitionWipe (s : State) (target : Nat) : State :=
  let s := if target = 5 || target = 2 || target = 4 then s.wipeTierA else s
  let s := if target = 3 || target = 5 then { s with lc := { s.lc with factoryCreds := [] } } else s
  if target = 5 then
    { s with
      log := s.log.erased s.warden.nextSeq
      otp := { s.otp with rootCopies := List.replicate 3 (List.replicate 32 0xFF) } }
  else s

/-- The state copy of a state code (R457). -/
def stateWord (v : Nat) : BitVec 64 := BitVec.ofNat 64 (2 ^ (8 * v) - 1)

/-- Step 4: each copy that reads back holds the target; one that does not is left as it was (R464). -/
def State.programCopies (s : State) (target : Nat) (readback : List Bool) : State :=
  { s with otp := { s.otp with
    copies := s.otp.copies.mapIdx fun i w => if readback.getD i false then stateWord target else w } }

/-- What a transition leaves for the start to go on with: a fatal fault that waited, the responder
state, or step 2 (R455, R464, R466, R486). -/
def State.afterTransition (s : State) : State :=
  let waiting := s.faults.pendingFatal
  let s := { s with faults := { s.faults with pendingFatal := [] } }
  match waiting.find? (·.1 != 0x23) with
  | some f => if s.lcState = 5 then s else s.fatal f.1 f.2
  | none => if s.lcState = 0 || s.lcState = 5 then s else s.fabricStart

/-- Steps 3 to 6 of Table - Transition sequence, given which copies read back: the wipe, the copies,
the generation, the intent slot, LAST_TRANSITION; copies that leave the decoded state short of the
target are an OTP decode failure (R419, R458, R464, R473; log entry 27). -/
def State.lcWipeDone (s : State) (t : Transition) (readback : List Bool) : State :=
  let s := (s.transitionWipe t.target).programCopies t.target readback
  let s := { s with lc := { s.lc with transition := none } }
  if lcDecode s.otp != some t.target then (s.event .otpDecode []).fatal 0x24 0
  else
    let s := if (readback.take 3).all (· == true) && readback.length ≥ 3 then s
      else s.event .lcCopyFault []
    let s := s.advanceGeneration
    let s := { s with
      otp := { s.otp with intents := s.otp.intents.set t.slot (List.replicate 3 0xFFFF) }
      lc := { s.lc with lastTransition := fields [(1, t.source), (1, t.target), (1, t.slot), (5, 0),
        (8, s.time64.toNat)] } }
    s.afterTransition

/-- LC_WIPE_DONE. -/
def execLcWipeDone (readback : List Bool) (s : State) : Result :=
  .next (match s.lc.transition with
    | some t => if t.wiping && !s.warning then s.lcWipeDone t readback else s
    | none => s)

/-! ### Single writes -/

/-- The life-cycle states in which a token digest may be written (Table - Token digests, R454). -/
def digestStates (key : Nat) : List Nat :=
  match key with
  | 0x250003 => [3]
  | 0x250004 => [2, 3]
  | _ => [1]

/-- The OTP row of a digest entry. -/
def State.digestRow (s : State) (key : Nat) : Option Bytes :=
  match key with
  | 0x250003 => s.otp.dAnalysis
  | 0x250004 => s.otp.dScrapC
  | 0x250010 => s.otp.dFactory
  | 0x250011 => s.otp.dDeploy
  | 0x250012 => s.otp.dScrapV
  | _ => s.otp.dFactoryCred

/-- An OTP digest is programmed. -/
def Otp.setDigest (o : Otp) (key : Nat) (v : Bytes) : Otp :=
  match key with
  | 0x250003 => { o with dAnalysis := some v }
  | 0x250004 => { o with dScrapC := some v }
  | 0x250010 => { o with dFactory := some v }
  | 0x250011 => { o with dDeploy := some v }
  | 0x250012 => { o with dScrapV := some v }
  | _ => { o with dFactoryCred := some v }

/-- A digest write: once, in a state that names it, and not 32 zero bytes (R461). -/
def State.writeDigest (s : State) (key : Nat) (v : Bytes) : Reply × State :=
  if (s.digestRow key).isSome || !(digestStates key).contains s.lcState || v.all (· == 0) then
    (.conflict, s)
  else (.ok [], { s with otp := s.otp.setDigest key v })

/-- TAMPER_ACK: in HALTED, 1 clears the latch and its causes with TAMPER_ACKNOWLEDGED (R51, R72). -/
def State.tamperAck (s : State) (x : Session) (v : Bytes) : Reply × State :=
  if ofLe v != 1 then (.refuse .stateConflict, s)
  else if !s.halted then (.conflict, s)
  else
    let s := { s with warden := { s.warden with
      latch := false, causeMesh := false, causeLoop := false, causeTemp := false, cellLost := false } }
    (.ok [], s.event .tamperAcknowledged (le 8 x.credId.toNat))

/-- DEBUG_ALLOW: in DEPLOYED, 1 grants one allowance (R469, R473). -/
def State.debugAllow (s : State) (v : Bytes) : Reply × State :=
  if ofLe v != 1 then (.refuse .stateConflict, s)
  else if s.lcState != 3 || s.inTransition then (.conflict, s)
  else (.ok [], { s with lc := { s.lc with allowance := true } })

/-- ARCHIVE_RATCHET: 1 advances the generation while OTP bits are left (R419, R420, R421). -/
def State.archiveRatchet (s : State) (v : Bytes) : Reply × State :=
  if ofLe v != 1 then (.refuse .stateConflict, s)
  else if 4096 ≤ s.otp.genBits || s.start.readOnly || s.inTransition then (.conflict, s)
  else (.ok [], s.advanceGeneration)

/-! ### The debug port -/

/-- A data register of the debug port is captured and shifted out. -/
def State.shiftOut (s : State) (b : Bytes) : State :=
  if s.pwr.dieOn then ({ s with lc := { s.lc with tdo := b } }).send (.debugShift b) else s

/-- IDCODE: the 32-bit identification of the die, which the manual does not give (R468; log entry
28). -/
def execIdcode (s : State) : Result := .next (s.shiftOut (fit 4 (Config.moduleValue 0x1000000)))

/-- BYPASS: the one-bit register captures 0 (R54, R468). -/
def execBypass (s : State) : Result := .next (s.shiftOut [0])

/-- In SCRAP every instruction but IDCODE is taken as BYPASS (R54, R468). -/
def State.debugPort (s : State) (f : State → State) : State :=
  if !s.pwr.dieOn then s else if s.lcState = 5 then s.shiftOut [0] else f s

/-- DBG_STATUS (Table - Debug instructions). -/
def execDbgStatus (s : State) : Result :=
  .next (s.debugPort fun s => s.shiftOut (fields [(1, s.lcState), (1, s.debugState),
    (1, if s.lc.dbgLastRefused then 1 else 0), (1, min 255 s.lc.dbgRefusals)]))

/-- The 64 bytes of a debug challenge (Table - Debug challenge). -/
def State.challengeBytes (s : State) (nonce : Bytes) : Bytes :=
  ascii "KQ9DBGCH" ++ fit 16 s.otp.dieId ++ le 1 s.lcState ++ zeros 7 ++ fit 32 nonce

/-- DBG_CHALLENGE draws a nonce and voids the previous challenge; without a DRBG to draw from none is in
force and zeros are read (R469, R536; log entry 29). -/
def State.readChallenge (s : State) : State :=
  if s.internalServes then
    let d := s.drawInternal 32
    let c := d.2.challengeBytes d.1
    ({ d.2 with lc := { d.2.lc with challenge := some (c, d.2.now) } }).shiftOut c
  else ({ s with lc := { s.lc with challenge := none } }).shiftOut (zeros 64)

/-- DBG_CHALLENGE. -/
def execDbgChallenge (s : State) : Result := .next (s.debugPort State.readChallenge)

/-- The challenge in force, if its 60 s have not passed (R469). -/
def State.challengeNow (s : State) : Option Bytes :=
  match s.lc.challenge with
  | some (c, t) => if s.now < t + 60000000000 then some c else none
  | none => none

/-- Whether a response is refused (R469). -/
def State.responseRefused (s : State) (sig : Bytes) : Bool :=
  match s.challengeNow with
  | none => true
  | some c =>
    decide (5 ≤ s.lc.dbgRefusals) || !(s.lcState == 2 || s.lcState == 3 || s.lcState == 4) ||
    (s.lcState == 3 && !s.lc.allowance) || !(s.ready || s.halted) || s.inTransition || s.warning ||
    !mldsaOk 3 Config.debugKey (pureMsg (ascii "KQ9-DEBUG") c) sig

/-- What a successful response opens (R470): in HALTED and in ANALYSIS debug opens at once, in FACTORY
and DEPLOYED after a drain and a warm reset. -/
def State.openDebug (s : State) : State :=
  if s.halted || s.lcState = 4 then
    let s := { s with
      lc := { s.lc with debugOpen := true }
      warden := { s.warden with debugFlag := true } }
    if s.rootInUse.isNone then { s with start := { s.start with ladder := .closed } } else s
  else { s with start := { s.start with draining := some .debugReset, drainSince := s.now } }

/-- DBG_RESPONSE (R469, R470, R472). -/
def State.debugResponse (s : State) (sig : Bytes) : State :=
  if s.responseRefused sig then
    ({ s with lc := { s.lc with
      dbgRefusals := s.lc.dbgRefusals + 1, dbgLastRefused := true } }).event .debugRefused []
  else
    let c := s.challengeNow.getD []
    let s := { s with
      lc := { s.lc with challenge := none, dbgLastRefused := false, allowance := false }
      warden := { s.warden with debugAuths := s.warden.debugAuths + 1 } }
    let s := (s.event .debugAuthorised []).extendMr 2 0 (sha384 (ascii "KQ9-DEBUG" ++ c))
    s.commitAll.openDebug

/-- DBG_RESPONSE. -/
def execDbgResponse (sig : Bytes) (s : State) : Result := .next (s.debugPort fun s => s.debugResponse sig)

/-- DBG_LC_REQUEST: a transition request through the debug port (R462, R468). -/
def State.debugLcRequest (s : State) (target : Nat) (token : Bytes) : State :=
  let r := s.lcRequest .debug target token
  { r.2 with lc := { r.2.lc with dbgLastRefused := !r.1 } }

/-- DBG_LC_REQUEST. -/
def execDbgLcRequest (target : Nat) (token : Bytes) (s : State) : Result :=
  .next (s.debugPort fun s => s.debugLcRequest target token)

/-- DBG_CHALLENGE_EXPIRY: a challenge is void 60 s after its reading (R469). -/
def execDbgChallengeExpiry (s : State) : Result :=
  .next (match s.lc.challenge with
    | some (_, t) =>
      let s := s.until (t + 60000000000)
      { s with lc := { s.lc with challenge := none } }
    | none => s)

end Sys2Proof.Machine
end

