-- ==== Sys2Proof/Machine/Random.lean ====
section
/-! DEFINITION. The noise sources and their health tests, the pool's samples, stop and restart, the
mask generators, and the end of a wait for randomness (R423 to R436, R475). -/

namespace Sys2Proof.Machine

open Sys2Proof

/-! ### Table - Noise sources and cut-offs -/

/-- H in hundredths of a bit, C and A of a source by its kind and debias mode. -/
def cutOffs (kind : Nat) (vonNeumann : Bool) : Nat × Nat × Nat :=
  match kind, vonNeumann with
  | 0, false => (80, 26, 665)
  | 0, true => (95, 23, 608)
  | 1, false => (90, 24, 626)
  | 1, true => (98, 22, 597)
  | _, false => (95, 23, 608)
  | _, true => (99, 22, 593)

/-- A source after one more sample, and which test the sample fails: 1 the repetition count, 2 the
adaptive proportion, 0 none (R424). The window's first sample counts once, as in SP 800-90B. -/
def Source.sample (n : Source) (kind : Nat) (b : Bool) : Source × Nat :=
  let c := cutOffs kind n.vonNeumann
  let run := if n.run != 0 && n.last == b then n.run + 1 else 1
  let first : Bool := n.pos == 0
  let ref := if first then b else n.ref
  let count := if first then 1 else if b == n.ref then n.count + 1 else n.count
  let same : Bool := first || b == n.ref
  let fail := if run = c.2.1 then 1 else if same && count = c.2.2 then 2 else 0
  ({ n with last := b, run := run, ref := ref, count := count, pos := (n.pos + 1) % 1024 }, fail)

/-! ### The pool stops and restarts -/

/-- A job that waits at step 5 for randomness ends with ENTROPY_UNAVAILABLE (R432, R434). -/
def State.noEntropy (s : State) (k : Nat) (detail : Nat) : State :=
  (s.countDrbg 3 1).endJob k .entropyUnavailable detail

/-- Jobs that wait at step 5 for randomness. -/
def State.entropyWaiters (s : State) : List Nat :=
  (s.jobs.filter (·.2.waitSince.isSome)).map (·.1)

/-- A DRBG of a stopped pool: it serves nothing before its own reseed (R434, R435). -/
def Drbg.halt (d : Drbg) : Drbg := if d.instantiated then { d with due := true } else d

/-- The pool stops (R434). -/
def State.stopPool (s : State) : State :=
  let s := { s with
    rng := { s.rng with
      running := false, stopped := true, restarting := false
      pool := 0, poolPos := 0, credit := 0, ready := none, reseedQueue := []
      internal := s.rng.internal.map Drbg.halt }
    insts := s.insts.map fun n : Nat × Inst => (n.1, { n.2 with drbg := n.2.drbg.halt }) }
  let s := s.forEach s.entropyWaiters fun s k => s.noEntropy k 2
  let s := (s.event .poolStopped []).bump 0x240009 0 1
  (s.openFault { src := 0x10 }).dispatch

/-- Instances whose DRBG waits for the reseed of a restart, in ascending order (R435). -/
def State.haltedDrbgs (s : State) : List Nat :=
  (s.insts.filter fun n => n.2.drbg.instantiated && n.2.drbg.due).map (·.1)

/-- The pool restarts (R435). -/
def State.restartPool (s : State) : State :=
  ({ s with rng := { s.rng with
    running := true, stopped := false, restarting := true
    reseedQueue := s.haltedDrbgs } }).serveBlocks

/-- The pool follows its sources: it runs while two admitted ones are of different kinds (R426, R434,
R435). -/
def State.checkPool (s : State) : State :=
  if bothKinds s.admitted then
    if s.rng.stopped then s.restartPool
    else { s with rng := { s.rng with running := true } }
  else if s.rng.running then s.stopPool
  else s

/-! ### Samples -/

/-- The state with a noise source changed. -/
def State.modSource (s : State) (i : Nat) (f : Source → Source) : State :=
  { s with rng := { s.rng with sources := s.rng.sources.modify i f } }

/-- A test failure is a drop (R425, R433); the sixteenth within 1 s is a NOISE_SOURCE_RATE fault that
holds the source dropped (R475, R476). -/
def State.dropSource (s : State) (i : Nat) (test : Nat) : State :=
  let s := (s.event .sourceDropped (fields [(1, i), (1, test)])).bump 0x240005 i 1
  let s := s.countCorrected
  let w := s.slide (s.rng.sources.getD i {}).corrected
  let s := s.modSource i fun n => { n with admitted := false, failed := true, clean := 0, corrected := w }
  let s := if 16 ≤ w.length then
      (s.modSource i fun n => { n with corrected := [], heldDropped := true }).openFault
        { src := 0x0F, detail := i }
    else s
  s.checkPool

/-- The pool takes a sample of an admitted source: at its rotating position, with the source's credit,
while it runs and its credit is short of a block (R426). -/
def State.takeSample (s : State) (i : Nat) (b : Bool) : State :=
  if s.rng.running && s.rng.credit < blockCredit then
    let n := s.rng.sources.getD i {}
    let h := (cutOffs (sourceKind i) n.vonNeumann).1
    let m : BitVec 512 := BitVec.ofNat 512 ((if b then 1 else 0) * 2 ^ s.rng.poolPos)
    ({ s with rng := { s.rng with
      pool := s.rng.pool ^^^ m, poolPos := (s.rng.poolPos + 1) % 512
      credit := min blockCredit (s.rng.credit + h), taken := s.rng.taken + 1 } }).serveBlocks
  else s

/-- A passing sample: it counts toward the admission of a source (R425). -/
def State.passSample (s : State) (i : Nat) (b : Bool) : State :=
  let n := s.rng.sources.getD i {}
  if n.admitted then s.takeSample i b
  else
    let clean := n.clean + 1
    let enough : Bool := decide ((if n.failed then 4096 else 1024) ≤ clean) && !n.heldDropped
    let s := s.modSource i fun n => { n with clean := clean, admitted := enough }
    if enough then s.checkPool else s

/-- The sources run: from step 2 of a start (R431). -/
def State.sourcesRun (s : State) : Bool :=
  s.pwr.dieOn && s.start.phase != .warden && s.start.phase != .fabric

/-- One debiased sample of a source runs its tests (R424, R425). -/
def State.noiseSample (s : State) (i : Nat) (b : Bool) : State :=
  if s.sourcesRun && s.sourceEnabled i && !(s.rng.sources.getD i {}).retired then
    let r := (s.rng.sources.getD i {}).sample (sourceKind i) b
    let s := s.modSource i fun _ => r.1
    if r.2 = 0 then s.passSample i b else s.dropSource i r.2
  else s

/-- NOISE_SOURCE_SAMPLE. -/
def execNoiseSourceSample (src : Fin 18) (bit : Bool) (s : State) : Result :=
  .next (s.noiseSample src bit)

/-- A committed SOURCE_ENABLE: sources switched off leave the pool, sources switched on run R425 afresh
(R436, R439). `old` is the value before. -/
def State.sourcesChanged (s : State) (old : Nat) : State :=
  let srcs := s.rng.sources.mapIdx fun (i : Nat) (n : Source) =>
    let now := s.sourceEnabled i
    if now && bit old i then n
    else { n with admitted := false, clean := 0, run := 0, pos := 0, count := 0 }
  ({ s with rng := { s.rng with sources := srcs } }).checkPool

/-! ### Mask generators and the wait for randomness -/

/-- MASK_GENERATOR_RESEED: an internal instance reseeds every mask generator (R429). -/
def execMaskGeneratorReseed (s : State) : Result :=
  .next (if s.internalServes then
      let s := (s.drawInternal 32).2
      { s with rng := { s.rng with masksSeeded := true } }
    else s)

/-- ENTROPY_WAIT_TIMEOUT: 50 ms after it began to wait a job ends with ENTROPY_UNAVAILABLE, DETAIL 1
without a seed, 2 where it waited for a due reseed (R432). -/
def State.entropyTimeout (s : State) (k : Nat) : State :=
  match s.job k with
  | none => s
  | some j => match j.waitSince with
    | none => s
    | some t => ((s.until (t + 50000000)).noEntropy k (if j.waitDue then 2 else 1)).dispatch

/-- ENTROPY_WAIT_TIMEOUT. -/
def execEntropyWaitTimeout (slot : Fin 16384) (s : State) : Result := .next (s.entropyTimeout slot)

end Sys2Proof.Machine
end

