-- ==== Sys2Proof/Machine/Tempo.lean ====
section
/-! DEFINITION. The tempo windows, the voltage floor and the power governor (R57, R69, R441 to
R446, R452). -/

namespace Sys2Proof.Machine

open Sys2Proof

/-! ### The cap -/

/-- A row of Table - Cap limits by inlet temperature and airflow, in watts: 2.0, 1.5, 1.0 m/s. Beyond
the table's ends its first and last rows stand (log entry 30). -/
def capRow (inletMc : Int) : Nat × Nat × Nat :=
  if inletMc ≤ -15000 then (35, 35, 35)
  else if inletMc < 0 then (45, 45, 45)
  else if inletMc ≤ 40000 then (60, 60, 45)
  else if inletMc ≤ 45000 then (60, 60, 40)
  else if inletMc ≤ 55000 then (60, 50, 35)
  else if inletMc ≤ 60000 then (50, 40, 30)
  else (40, 35, 25)

/-- The thermal limit at an inlet temperature and a declared airflow in tenths of m/s (R69). -/
def capLimit (inletMc : Int) (airflow : Nat) : Nat :=
  let r := capRow inletMc
  if 20 ≤ airflow then r.1 else if 15 ≤ airflow then r.2.1 else r.2.2

/-- EFFECTIVE_CAP_W: the lower of the configured cap and the thermal limit (R57). -/
def State.capNow (s : State) : Nat :=
  min (s.odNum 0x120006) (capLimit s.pwr.inletMc (s.odNum 0x11000D))

/-- The effective cap takes a change at once (R445). -/
def State.setCap (s : State) : State := { s with gov := { s.gov with effCap := s.capNow } }

/-! ### Voltage steps -/

/-- GOVERNOR_COUNTS: 0 steps down, 1 steps up, 2 gating entries (R452). -/
def State.countGov (s : State) (pos : Nat) : State := s.bump 0x12000B pos 1

/-- One step of 10 mV down, not below the floor (R444). -/
def State.stepDown (s : State) : State :=
  if s.gov.floor + 10 ≤ s.gov.vcore then
    ({ s with gov := { s.gov with vcore := s.gov.vcore - 10 } }).countGov 0
  else s

/-- One step of 10 mV up (R444). -/
def State.stepUp (s : State) : State :=
  ({ s with gov := { s.gov with vcore := s.gov.vcore + 10 } }).countGov 1

/-- GOVERNOR_STATE: 2 GATED, 1 LOWERED, 0 AT_CEILING (R452). -/
def State.setGovState (s : State) : State :=
  let g := if s.gov.gated != 0 then 2 else if s.gov.vcore < s.odNum 0x120004 then 1 else 0
  { s with gov := { s.gov with state := g } }

/-- The floor after a window (R442): 10 mV more above 2,150 ps, 10 mV less after 1 s of windows at or
below 2,000 ps, within 650 to 900 mV. -/
def Governor.window (g : Governor) (ps : Nat) : Governor :=
  let calm := if ps ≤ 2000 then g.calmWindows + 1 else 0
  if 2150 < ps then { g with tempo := ps, calmWindows := 0, floor := min 900 (g.floor + 10) }
  else if 1000 ≤ calm then
    { g with tempo := ps, calmWindows := 0, floor := max 650 (g.floor - 10) }
  else { g with tempo := ps, calmWindows := calm }

/-- A completed window: TEMPO_PS, the floor, and a step where the tempo strays past a limit (R441,
R442). -/
def State.tempoWindow (s : State) (ps : Nat) : State :=
  let s := { s with gov := s.gov.window ps }
  let s := if s.gov.vcore < s.gov.floor then s.stepUp else s
  let s := if ps < 950 then s.stepDown else s
  s.setGovState

/-- TEMPO_WINDOW. -/
def execTempoWindow (ps : Nat) (s : State) : Result :=
  .next (if s.pwr.dieOn && ps != 0 then s.tempoWindow ps else s)

/-! ### The governor's period of 100 us -/

/-- Gating grows by a sixteenth, at most fifteen; on entering, CAP_GATED at most once in 10 s (R446). -/
def State.gateMore (s : State) : State :=
  let entering : Bool := s.gov.gated == 0
  let s := { s with gov := { s.gov with gated := min 15 (s.gov.gated + 1) } }
  if entering then
    let s := s.countGov 2
    let due : Bool := match s.gov.gatedEventAt with
      | none => true
      | some t => decide (t + 10000000000 ≤ s.now)
    if due then
      ({ s with gov := { s.gov with gatedEventAt := some s.now, rotTicks := 0 } }).event .capGated []
    else s
  else s

/-- The gated units rotate every 1 ms (R446). -/
def Governor.rotate (g : Governor) : Governor :=
  if g.gated = 0 then { g with rotTicks := 0 }
  else if 9 ≤ g.rotTicks then { g with rotTicks := 0, rotation := (g.rotation + 1) % 16 }
  else { g with rotTicks := g.rotTicks + 1 }

/-- DYNAMIC_POWER_MW, the mean over 100 ms of the input power less the fixed part of 26 W (R452, Table
- Nominal fixed consumption at 0.80 V and 70 C junction; log entry 31), and ENERGY_MJ. -/
def Governor.meter (g : Governor) (mw : Nat) : Governor :=
  let g := { g with energyNj := g.energyNj + 100 * mw, dynSum := g.dynSum + (mw - 26000)
                    dynTicks := g.dynTicks + 1 }
  if 1000 ≤ g.dynTicks then { g with dynamicMw := g.dynSum / 1000, dynSum := 0, dynTicks := 0 } else g

/-- Power above 98 % of the cap: a step down, or gating once the floor is reached (R444, R446). -/
def State.governDown (s : State) : State :=
  let s := { s with gov := { s.gov with below92 := 0 } }
  if s.gov.floor + 10 ≤ s.gov.vcore then s.stepDown else s.gateMore

/-- Power that has stayed below 92 % for 1 ms: one sixteenth less gated, or a step up while commands
wait, the ceiling is not reached and the last window did not measure below 1,000 ps (R442, R444,
R446). -/
def State.governUp (s : State) (waiting : Nat) : State :=
  if s.gov.below92 < 9 then { s with gov := { s.gov with below92 := s.gov.below92 + 1 } }
  else if s.gov.gated != 0 then
    { s with gov := { s.gov with below92 := 0, gated := s.gov.gated - 1 } }
  else if waiting != 0 && s.gov.vcore + 10 ≤ s.odNum 0x120004 && 1000 ≤ s.gov.tempo then
    ({ s with gov := { s.gov with below92 := 0 } }).stepUp
  else s

/-- The governor's comparison of the input power with the effective cap (R444 to R447). -/
def State.governorTick (s : State) (mw waiting : Nat) (inletMc : Int) : State :=
  let s := s.measureRails
  let s : State := { s with pwr := { s.pwr with inputMw := mw, inletMc := inletMc } }
  let s : State := { s.setCap with gov := (s.setCap.gov.meter mw).rotate }
  let cap := 1000 * s.gov.effCap
  let s : State :=
    if decide (98 * cap < 100 * mw) then s.governDown
    else if decide (s.odNum 0x120004 < s.gov.vcore) then s.stepDown
    else if decide (100 * mw < 92 * cap) then s.governUp waiting
    else { s with gov := { s.gov with below92 := 0 } }
  s.setGovState

/-- GOVERNOR_TICK. -/
def execGovernorTick (mw waiting : Nat) (inletMc : Int) (s : State) : Result :=
  .next (if s.pwr.dieOn then s.governorTick mw waiting inletMc else s)

end Sys2Proof.Machine
end

