-- ==== Sys2Proof/Machine/Care.lean ====
section
/-! DEFINITION. The background self-test, scrubs and watchdogs, the dispositions and expiry of fault
records, and the end of promotions and retirements (R474 to R494). -/

namespace Sys2Proof.Machine

open Sys2Proof

/-! ### Self-test visits -/

/-- A quarantined unit whose record is still open has no visit (R476, R491). -/
def State.underFault (s : State) (u : Nat) : Bool :=
  s.faults.open_.any fun r => r.kind != 0 && unitIndex r.kind r.number == u

/-- A unit is visited: ACTIVE, SPARE, or QUARANTINED with its fate decided (R476, R491). -/
def State.visited (s : State) (u : Nat) : Bool :=
  match (s.units.getD u {}).state with
  | .active | .spare => true
  | .quarantined => !s.underFault u
  | _ => false

/-- The bound of a visit in handshakes (R491). -/
def visitBound (u : Nat) : Nat := if unitKind u = 2 then 2048 else 512

/-- A visit is counted: SELF_TEST_VISITS, SELF_TEST_FAILS, LONGEST_VISIT_GAP_US (R497). -/
def State.countVisit (s : State) (u : Nat) (ok : Bool) : State :=
  let gap := (s.now - (s.units.getD u {}).lastVisit) / 1000
  let s := s.bump 0x130022 0 1
  let s := if ok then s else s.bump 0x130023 0 1
  let s := if s.counter 0x130024 0 < gap then s.setCounter 0x130024 0 gap else s
  s.modUnit u fun x => { x with lastVisit := s.now, lastPass := ok }

/-- The drift of a unit in units of 0.01 %: the mean of its last 16 ratios over its birth ratio, less 1
(R493). Ratios are parts per 10,000, rounded down (log entry 32). -/
def driftOf (ratios : List Nat) (birth : Nat) : Int :=
  if ratios.isEmpty || birth = 0 then 0
  else (10000 * ratios.sum / ratios.length / birth : Nat) - 10000

/-- A visit's ratio joins the unit's last 16 (R493). -/
def State.noteRatio (s : State) (u duration fixed : Nat) : State :=
  if fixed = 0 then s
  else s.modUnit u fun x =>
    let all := x.ratios ++ [10000 * duration / fixed]
    let last := all.drop (all.length - 16)
    { x with ratios := last, drift := driftOf last (s.otp.birthRatios.getD u 10000) }

/-- A drift that reaches a mark: WEAR_WARNING once, retirement without a record (R494). -/
def State.checkWear (s : State) (u : Nat) : State :=
  let x := s.units.getD u {}
  if (s.odNum 0x210007 : Int) ≤ x.drift then s.retireUnit u
  else if (s.odNum 0x210006 : Int) ≤ x.drift && !x.warned then
    (s.modUnit u fun x => { x with warned := true }).event .wearWarning (le 2 u)
  else s

/-- A visit of the background self-test: a wrong result or a visit beyond its bound is SELF_TEST_FAIL,
with no job affected (R33, R476, R491, R493). -/
def State.selfTestVisit (s : State) (u : Nat) (pass : Bool) (duration fixed : Nat) : State :=
  let ok : Bool := pass && decide (duration ≤ visitBound u)
  let s := s.countVisit u ok
  if ok then (s.noteRatio u duration fixed).checkWear u
  else (s.quarantine u).openFault (.unit 0x05 u 0)

/-- SELF_TEST_VISIT. -/
def execSelfTestVisit (unit : Fin 387) (pass : Bool) (duration fixed : Nat) (s : State) : Result :=
  .next (if s.ready && s.odNum 0x130020 == 1 && s.visited unit then
      s.selfTestVisit unit pass duration fixed
    else s)

/-! ### Scrubs -/

/-- A line or page leaves service (R476). -/
def State.mapOut (s : State) (n : Nat) : State :=
  if s.faults.mappedOut.contains n then s
  else { s with faults := { s.faults with mappedOut := s.faults.mappedOut ++ [n] } }

/-- A job whose data lay in a failed memory ends with ENGINE_FAULT (R476, R477). -/
def State.endOwner (s : State) (owner : Option Nat) (kind number : Nat) : State :=
  match owner with
  | some k => s.endJob k .engineFault (kind + 256 * number)
  | none => s

/-- A double-bit error in an on-die bank: SRAM_LINE (R476, R477). -/
def State.sramLine (s : State) (line : Nat) (owner : Option Nat) (kind number : Nat) : State :=
  ((s.endOwner owner kind number).mapOut line).openFault
    { src := 0x08, kind := kind, number := number, detail := line }

/-- A corrected error in a line (R475, R492). -/
def State.lineCorrected (s : State) (line kind number : Nat) : State :=
  s.correctedLine line { src := 0x03, kind := kind, number := number, detail := line }

/-- The job whose region covers a 64-byte line of an operand memory (R249). -/
def State.regionOwner (s : State) (e line : Nat) : Option Nat :=
  let l := line / 8
  (s.jobs.find? fun j => match j.2.region with
    | none => false
    | some r =>
      let within (b n : Nat) : Bool := decide (b ≤ l) && decide (l < b + n)
      r.engine == e && (within r.sealedBase r.sealedLines || within r.publicBase r.publicLines ||
        (!r.staged && within r.matrixBase r.matrixLines))).map (·.1)

/-- A double-bit error in tier S: the copy there is dropped, the line mapped out at its second error
(R476, source 0x09). -/
def State.keyCacheLine (s : State) (line : Nat) (record : Option Nat) : State :=
  let s := s.countCorrected
  let n := num line s.faults.keyCacheHits + 1
  let s := { s with faults := { s.faults with
    keyCacheHits := putNum line n s.faults.keyCacheHits } }
  let s := if n = 2 then s.mapOut (lineNumber 3 0 line) else s
  match record with
  | some k =>
    if k < peerBase then s.modRecord k fun r => { r with inS := false }
    else { s with keys := { s.keys with
      peers := upd (k - peerBase) (fun r => { r with inS := false }) s.keys.peers } }
  | none => s

/-- An uncorrectable error in a record of tier V (R22, R212, R476, source 0x0A): written again from tier
S where a copy stands there, restored from tier A where one does, else discarded. -/
def State.vaultRecord (s : State) (k : Nat) : State :=
  let owner := match s.record k with
    | some r => r.owner
    | none => 0xFFFF
  let s := match s.record k with
    | some r => if r.inS || r.inA then s else (s.removeRecord k).countTier 7 1
    | none => s
  s.openFault { src := 0x0A, inst := owner, detail := k }

/-- An uncorrectable error elsewhere in tier V: a cached matrix is discarded, the job whose data lay
there ends, the page is mapped out (R476). -/
def State.vaultOther (s : State) (page : Nat) (matrix owner : Option Nat) : State :=
  let s := match matrix with
    | some m => { s with sched := { s.sched with matrix := del m s.sched.matrix } }
    | none => s
  let inst := match owner with
    | some k => ((s.job k).map (·.inst)).getD 0xFFFF
    | none => 0xFFFF
  ((s.endOwner owner 0 0).mapOut (lineNumber 5 0 page)).openFault
    { src := 0x0A, inst := inst, detail := page }

/-- A scrub's finding at a place (R476, R492). -/
def State.scrub (s : State) (l : MemLoc) (e : EccError) : State :=
  match l, e with
  | _, .none => s
  | .sequencerBank u line _, .single => s.lineCorrected (lineNumber 1 u line) 1 u
  | .sequencerBank u line owner, .double => s.sramLine (lineNumber 1 u line) owner 1 u
  | .cloveLine u line, .single => s.lineCorrected (lineNumber 2 u line) 2 u
  | .cloveLine u line, .double => s.sramLine (lineNumber 2 u line) (s.regionOwner u line) 2 u
  | .keyCacheLine line _, .single => s.lineCorrected (lineNumber 3 0 line) 0 0
  | .keyCacheLine line record, .double => s.keyCacheLine line record
  | .contextTable k, .single => s.lineCorrected (lineNumber 4 0 k) 0 0
  | .contextTable k, .double => s.sramLine (lineNumber 4 0 k) (some k) 0 0
  | .vaultRecord _, .single => s.countCorrected
  | .vaultRecord k, .double => s.vaultRecord k
  | .vaultOther _ _ _, .single => s.countCorrected
  | .vaultOther page matrix owner, .double => s.vaultOther page matrix owner

/-- SCRUB. -/
def execScrub (loc : MemLoc) (err : EccError) (s : State) : Result :=
  .next (if s.ready then (s.scrub loc err).dispatch else s)

/-! ### Watchdogs -/

/-- The registers of a stage are zeroed (R479). -/
def State.clearStage (s : State) (l : StageLoc) : State :=
  match l with
  | .unit u =>
    if unitKind u = 5 then { s with saffron := s.saffron.set (unitNumber u) {} } else s
  | .window w => s.modWindow w fun x => x.clear
  | _ => s

/-- A handshake pending beyond WATCHDOG_US: a local reset that completes the stage is UNIT_WATCHDOG or
FABRIC_CLEARED, one that does not is FABRIC_DEADLOCK (R476, R477, R479). -/
def State.watchdog (s : State) (l : StageLoc) (cleared : Bool) : State :=
  if !cleared then s.fatal 0x20 0
  else match l with
    | .unit u =>
      (((s.endJobsOn u).clearStage l).quarantine u).openFault (.unit 0x04 u 0)
    | .control ks =>
      (s.forEach ks fun s k => s.endJob k .engineFault 0).openFault { src := 0x06 }
    | .window _ | .management => (s.clearStage l).openFault { src := 0x06 }

/-- WATCHDOG_EXPIRY. -/
def execWatchdogExpiry (stage : StageLoc) (cleared : Bool) (s : State) : Result :=
  .next (if s.pwr.dieOn && !s.halted then (s.watchdog stage cleared).dispatch else s)

/-! ### Dispositions -/

/-- The DISPOSITION codes (Table - Fault entries). -/
inductive Disposition where
  | retry | retire | resetInstance | accept
  deriving DecidableEq, Repr

/-- Code of a disposition. -/
def Disposition.code : Disposition → Nat
  | .retry => 1 | .retire => 2 | .resetInstance => 3 | .accept => 4

/-- Bit of ALLOWED of a disposition (Table - Fault record). -/
def Disposition.bit (d : Disposition) : Nat := d.code - 1

/-- The unit a record concerns has had its one RETRY (R482). -/
def State.retriedOf (s : State) (r : FaultRecord) : Bool :=
  r.kind != 0 && (s.units.getD (unitIndex r.kind r.number) {}).retried

/-- A passed RETRY: the unit or line returns to service (R482). -/
def State.backInService (s : State) (r : FaultRecord) : State :=
  let s := { s with faults := { s.faults with
    mappedOut := if r.source = 0x08 then s.faults.mappedOut.filter (· != r.detail.toNat)
      else s.faults.mappedOut } }
  if r.kind = 0 then s
  else s.modUnit (unitIndex r.kind r.number) fun x =>
    if x.state == .quarantined then { x with state := if x.wasSpare then .spare else .active } else x

/-- RETRY: a full self-test visit decides (R482). -/
def State.retryOf (s : State) (r : FaultRecord) (pass : Bool) : State :=
  let u := unitIndex r.kind r.number
  let s := if r.kind = 0 then s
    else (s.countVisit u pass).modUnit u fun x => { x with retried := true }
  if pass then s.backInService r else s.retireOf r.of

/-- A disposition takes effect (R482). -/
def State.applyDisposition (s : State) (r : FaultRecord) (d : Disposition) (pass : Bool) : State :=
  match d with
  | .retry => s.retryOf r pass
  | .retire => s.retireOf r.of
  | .resetInstance => s.resetOf r.of
  | .accept => s

/-- A DISPOSE write of a session (R481 to R483): refused for a record that is closed or unknown or of
another port, for a disposition not allowed, and during a transition or a power-fail warning. -/
def State.dispose (s : State) (x : Session) (id : Nat) (d : Disposition) (pass : Bool) : Reply × State :=
  match s.faultRecord id with
  | none => (.conflict, s)
  | some r =>
    let foreign : Bool := match x.inBand with
      | some p => s.portOf r.inst != some p
      | none => false
    if foreign || s.warning || s.inTransition || !bit r.allowed d.bit ||
      (d == .retry && s.retriedOf r) then (.conflict, s)
    else (.ok [], ((s.closeFault r .faultDisposed d.code).applyDisposition r d pass).dispatch)

/-! ### Expiry, promotions, retirements -/

/-- GRACE_TIMER_EXPIRY: the default escalation of a record at its DEADLINE; during a power-fail warning
it waits (R481, R483). -/
def State.graceExpiry (s : State) (id : Nat) : State :=
  match s.faultRecord id with
  | none => s
  | some r =>
    let s := s.until r.deadline
    if s.warning then
      if s.faults.deferred.contains id then s
      else { s with faults := { s.faults with deferred := s.faults.deferred ++ [id] } }
    else (s.escalateRecord r).dispatch

/-- GRACE_TIMER_EXPIRY. -/
def execGraceTimerExpiry (id : Nat) (s : State) : Result := .next (s.graceExpiry id)

/-- A unit that was retired. -/
def State.gone (s : State) (u : Nat) : Bool :=
  (s.units.getD u {}).state == .retired || (s.units.getD u {}).state == .retiring

/-- A promoted unit is paired: a sequencer takes the engine a retired one leaves, an engine becomes the
partner of the sequencer whose own was retired (R488). -/
def State.pairNew (s : State) (u : Nat) : State :=
  if unitKind u = 1 then
    let left := (List.range 72).find? fun q => s.gone q &&
      s.activeUnit (unitIndex 2 (s.pairOf q)) &&
      (List.range 72).all fun t => !s.activeUnit t || s.pairOf t != s.pairOf q
    match left with
    | some q => s.modUnit u fun x => { x with partner := s.pairOf q }
    | none => s
  else if unitKind u = 2 then
    let alone := (List.range 72).find? fun q => s.activeUnit q && s.gone (unitIndex 2 (s.pairOf q))
    match alone with
    | some q => s.modUnit q fun x => { x with partner := unitNumber u }
    | none => s
  else s

/-- The memories and registers of a spare are zeroed by its visit (R488). -/
def State.zeroUnit (s : State) (u : Nat) : State :=
  match unitKind u with
  | 2 => s.modOpMem (unitNumber u) fun _ => []
  | 5 => { s with saffron := s.saffron.set (unitNumber u) {} }
  | _ => s

/-- A spare's promotion visit ends (R488): it becomes ACTIVE, or is retired too and the next is taken. -/
def State.spareVisitDone (s : State) (u : Nat) (pass : Bool) : State :=
  let s := { s with faults := { s.faults with pendingVisits := s.faults.pendingVisits.filter (· != u) } }
  let s := s.countVisit u pass
  if pass then
    let s := (s.zeroUnit u).modUnit u fun x => { x with state := .active }
    let s := ((s.pairNew u).portEventAll .capacityChange).bump 0x210009 0 1
    (s.event .sparePromoted (le 2 u)).dispatch
  else ((s.modUnit u fun x => { x with state := .retired }).markRetired u).promote (unitKind u)

/-- SPARE_VISIT_DONE. -/
def execSpareVisitDone (unit : Fin 387) (pass : Bool) (s : State) : Result :=
  .next (if s.faults.pendingVisits.contains unit.val && (s.units.getD unit {}).state == .spare then
      s.spareVisitDone unit pass
    else s)

/-- RETIRING_UNIT_IDLE: a retiring unit without work is RETIRED (R489). -/
def execRetiringUnitIdle (unit : Fin 387) (s : State) : Result :=
  .next (if (s.units.getD unit {}).state == .retiring && !s.unitBusy unit then
      s.modUnit unit fun x => { x with state := .retired }
    else s)

end Sys2Proof.Machine
end

