-- ==== Sys2Proof/Machine/Staging.lean ====
section
/-! DEFINITION. Values written to the dictionary: what an entry admits, what a commit checks, what a
committed value changes, and the commit point (R48, R103, R104, R118 to R121, R128, R143, R144, R209,
R388, R437, R445, R454, R487, R494, R515, R535). -/

namespace Sys2Proof.Machine

open Sys2Proof

/-! ### Lengths and permitted sets -/

/-- A key of a credential entry, OD 0x1010. -/
def isCredential (key : Nat) : Bool := key / 256 == 0x1010

/-- Lengths an entry's table allows beyond its type (R115, R535, R209, R210, R533). -/
def lengthOk (key n : Nat) : Bool :=
  if isCredential key then n == 0 || n == 1968
  else match key with
    | 0x200001 => n == 128
    | 0x200002 => n == 4096
    | 0x280010 => n % 48 == 0 && decide (n ≤ 1536)
    | _ => true

/-- Number `i` of a value of U16 numbers. -/
def u16At (v : Bytes) (i : Nat) : Nat := fieldLe (2 * i) 2 v

/-- A credential record that may be staged (R535). -/
def credentialOk (v : Bytes) : Bool :=
  v.isEmpty || (fieldLe 0 8 v != 0 && decide (1 ≤ credRole v) && decide (credRole v ≤ 5) &&
    Config.check (.mldsaKeyValid 2) [slice 16 1952 v])

/-- The first subindex and the number of an entry of a port, OD 0x1400.p1 to 0x1400.p9 (R142). -/
def portEntry (key : Nat) : Option (Nat × Nat) :=
  let sub := key % 256
  if key / 256 = 0x1400 ∧ 0x11 ≤ sub ∧ sub ≤ 0x49 ∧ 1 ≤ sub % 16 ∧ sub % 16 ≤ 9 then
    some (sub / 16 - 1, sub % 16)
  else none

/-- A value lies in the entry's range or permitted set: the range part of STATE_CONFLICT (R113, R119). -/
def rangeOk (key : Nat) (d : EntryDef) (v : Bytes) : Bool :=
  let n : Int := ofLe v
  let numeric := match d.ty with
    | .bool | .u _ => decide (d.range.1 ≤ n) && decide (n ≤ d.range.2)
    | _ => true
  let special :=
    if isCredential key then credentialOk v
    else match portEntry key with
      | some (_, 1) => ofLe v == 0 || decide (4 ≤ ofLe v)
      | _ => match key with
        | 0x120004 => ofLe v % 10 == 0
        | 0x210004 => (List.range 6).all fun i =>
            decide (1 ≤ u16At v i) && decide (u16At v i ≤ (activeCounts.getD i (0, 0)).2)
        | 0x2A0001 | 0x2A0002 | 0x2A0003 | 0x2A0004 =>
            v.all (· == 0) || Config.check (.mldsaKeyValid 2) [v]
        | _ => true
  numeric && special

/-! ### Credential writes -/

/-- Whether a session may write a credential entry, with what it lacks (R96, R103, R454): the governing
role is the higher of the role held and the role written. -/
def State.credentialRight (s : State) (x : Session) (key : Nat) (v : Bytes) : Option Status :=
  let old := s.odBytes key
  let held := if old.isEmpty then 0 else credRole old
  let written := if v.isEmpty then 0 else credRole v
  let g := max held written
  if x.role = 5 then none
  else if g ≤ 2 then none
  else if g ≤ 4 then
    if x.role = 4 then (if s.cardPresent then none else some .cardAbsent) else some .roleDenied
  else some .roleDenied

/-! ### Checks of a commit -/

/-- The value an entry will have after a commit. -/
def State.afterCommit (s : State) (staged : List (Nat × Bytes)) (key : Nat) : Bytes :=
  (look key staged).getD (s.odBytes key)

/-- Numeric value after a commit. -/
def State.numAfter (s : State) (staged : List (Nat × Bytes)) (key : Nat) : Nat :=
  ofLe (s.afterCommit staged key)

/-- Entry `n` of port `p` after a commit. -/
def State.portAfter (s : State) (staged : List (Nat × Bytes)) (p n : Nat) : Nat :=
  s.numAfter staged (0x140000 + 16 * (p + 1) + n)

/-- Two instance ranges, each a base and a count, overlap; an empty range overlaps none (R143). -/
def overlap (a b : Nat × Nat) : Bool :=
  a.2 != 0 && b.2 != 0 && decide (a.1 < b.1 + b.2) && decide (b.1 < a.1 + a.2)

/-- The instance ranges of a port, in force and as a commit would leave them. -/
def State.rangesAfter (s : State) (staged : List (Nat × Bytes)) (p : Nat) : List (Nat × Nat) :=
  [((s.port p).base, (s.port p).count), (s.portAfter staged p 1, s.portAfter staged p 2)]

/-- A commit breaks the pool division (R143). -/
def State.portsConflict (s : State) (staged : List (Nat × Bytes)) : Bool :=
  let total (n : Nat) : Nat := ((List.range 4).map fun p => s.portAfter staged p n).sum
  decide (8192 < total 3) || decide (16384 < total 4) || decide (4194304 < total 5) ||
  decide (15360 < total 6) ||
  ((List.range 4).any fun p => (List.range 4).any fun q => p != q &&
    (s.rangesAfter staged p).any fun a => (s.rangesAfter staged q).any fun b => overlap a b) ||
  ((List.range 4).any fun p =>
    let b := s.portAfter staged p 1
    let n := s.portAfter staged p 2
    (b == 0 && n != 0) || decide (1024 < b + n) ||
    decide (s.portAfter staged p 3 < s.qpAllocated p))

/-- A new INSTANCE_BASE or INSTANCE_COUNT while an instance of the port's present range is not
UNALLOCATED (R144). -/
def State.rangeHeld (s : State) (staged : List (Nat × Bytes)) (p : Nat) : Bool :=
  (s.portAfter staged p 1 != s.portOd p 1 || s.portAfter staged p 2 != s.portOd p 2) &&
  !(s.instsOfPort p).isEmpty

/-- Quanta below their defaults, or other than 0 for class 0 and the unused classes (R209). -/
def quantaRefused (v : Bytes) : Bool :=
  (List.range 32).any fun c =>
    let q := fieldLe (4 * c) 4 v
    let d := defaultQuanta.getD c 0
    if d = 0 then q != 0 else decide (q < d)

/-- A CRED_ID that another entry holds after the commit (R535). -/
def State.credIdTaken (s : State) (staged : List (Nat × Bytes)) (key : Nat) (v : Bytes) : Bool :=
  !v.isEmpty && (List.range 64).any fun n =>
    let other := 0x101001 + n
    let w := s.afterCommit staged other
    other != key && !w.isEmpty && fieldLe 0 8 w == fieldLe 0 8 v

/-- One staged value is refused at commit, with STATE_CONFLICT. -/
def State.commitRefuses (s : State) (staged : List (Nat × Bytes)) (key : Nat) (v : Bytes) : Bool :=
  if isCredential key then s.credIdTaken staged key v
  else match portEntry key with
    | some (p, n) =>
      (decide (n ≤ 6) && s.portsConflict staged) || (decide (n ≤ 2) && s.rangeHeld staged p)
    | none => match key with
      | 0x110009 => decide (2 ≤ ofLe v) && loopTamper (ofLe v) s.warden.loopOhm
      | 0x200001 => quantaRefused v
      | 0x210004 => (List.range 6).any fun k =>
          decide ((s.unitsIn (k + 1) .active).length < u16At v k)
      | 0x210006 | 0x210007 =>
          decide (s.numAfter staged 0x210007 ≤ s.numAfter staged 0x210006)
      | 0x230005 => !(s.lcState == 1 || s.lcState == 2)
      | 0x240002 => !bothKinds ((List.range 18).filter fun i => bit (ofLe v) i)
      | _ => false

/-- The first staged value that a commit refuses (R121). -/
def State.firstRefused (s : State) (staged : List (Nat × Bytes)) : Option Nat :=
  (staged.find? fun p => s.commitRefuses staged p.1 p.2).map (·.1)

/-! ### What a committed value changes -/

/-- The NOR mirror of the credentials follows a write of OD 0x1010 (R104). -/
def State.mirrorCredential (s : State) (key : Nat) (v : Bytes) : State :=
  { s with mgmt := { s.mgmt with
    credMirror := if v.isEmpty then del key s.mgmt.credMirror
      else put key (v ++ s.mirrorTag v "KQ9-CRED-MIRROR") s.mgmt.credMirror } }

/-- A FACTORY credential written in TEST is held in the factory credential area too, up to eight, until
its digest is in OTP (R103, R454; log entry 33). -/
def State.holdFactoryCred (s : State) (v : Bytes) : State :=
  if s.lcState = 1 && !v.isEmpty && credRole v = 5 && s.otp.dFactoryCred.isNone &&
    s.lc.factoryCreds.length < 8 then
    { s with lc := { s.lc with factoryCreds := s.lc.factoryCreds ++ [v] } }
  else s

/-- The NOR mirror of CUSTODY_CARDS (R515). -/
def State.mirrorCards (s : State) (v : Bytes) : State :=
  { s with card := { s.card with
    cardMirror := (cardEntries 32 v).map fun e =>
      (BitVec.ofNat 64 (fieldLe 0 8 e), fit 48 e ++ s.mirrorTag (fit 48 e) "KQ9-CARD-MIRROR") } }

/-- DOMAIN_AUTHORITY, kept with the keys (R388). -/
def State.setAuthority (s : State) (v : Bytes) : State :=
  let erased : Bool := v.all (· == 0)
  { s with keys := { s.keys with
    domainId := slice 0 32 v
    authMldsa := if erased then [] else slice 32 2592 v
    authP384 := if erased then [] else slice 2624 97 v } }

/-- A new time source: FREE_RUN with source 0, else ACQUIRING until it locks (R128). -/
def State.setTimeSource (s : State) (old new : Nat) : State :=
  if old = new then s
  else { s with clk := { s.clk with timeState := if new = 0 then 0 else 1 } }

/-- A value takes effect at a commit point. -/
def State.applyEntry (s : State) (key : Nat) (v : Bytes) : State :=
  let old := s.odBytes key
  if key = 0x230005 then s.setAuthority v
  else
    let s := s.setOd key v
    if isCredential key then (s.mirrorCredential key v).holdFactoryCred v
    else match key with
      | 0x110009 => { s with warden := { s.warden with loopMode := ofLe v } }
      | 0x11000D | 0x120006 => s.setCap
      | 0x200004 => State.trimMatrix s.matrixLimit s.sched.matrix.length s
      | 0x240002 => s.sourcesChanged (ofLe old)
      | 0x280010 => s.mirrorCards v
      | 0x290020 => s.setTimeSource (ofLe old) (ofLe v)
      | _ => s

/-! ### The commit point -/

/-- A commit of values at one commit point: they take effect together, the commit is counted, dispatch
pauses for at most 50 us, a length the manual leaves open (R121, R126; log entry 7). -/
def State.commitValues (s : State) (staged : List (Nat × Bytes)) : State :=
  let s := s.forEach staged fun s p => s.applyEntry p.1 p.2
  let r := s.take 4
  let s := r.2
  let s := { s with mgmt := { s.mgmt with
    txn := { s.mgmt.txn with lastPauseNs := ofLe r.1 % 50001 } } }
  ((s.bump 0x1F0005 0 1).setOd 0x1F0007 (le 8 s.time64.toNat)).dispatch

/-- A value is staged: a later one of the same entry takes its place (R119). -/
def stage (key : Nat) (v : Bytes) (l : List (Nat × Bytes)) : List (Nat × Bytes) :=
  if (look key l).isSome then l.map fun p => if p.1 = key then (key, v) else p else l ++ [(key, v)]

/-- Bytes of DOMAIN content among staged values. -/
def stagedContent (l : List (Nat × Bytes)) : Nat :=
  (l.map fun p => match (entryDef (keyOf p.1)).map (·.ty) with
    | some (.domain _) => p.2.length
    | _ => 0).sum

/-- At most 256 staged entries and 16 MiB of DOMAIN content (R119). -/
def stageFits (l : List (Nat × Bytes)) : Bool :=
  decide (l.length ≤ 256) && decide (stagedContent l ≤ 16777216)

/-- A write into a session's own open transaction (R95, R119). -/
def State.stageValue (s : State) (x : Session) (key : Nat) (v : Bytes) : Reply × State :=
  if !s.ownsTxn x then (.conflict, s)
  else
    let l := stage key v s.mgmt.txn.staged
    if stageFits l then
      (.ok [], { s with mgmt := { s.mgmt with txn := { s.mgmt.txn with staged := l } } })
    else (.conflict, s)

/-- A write to an RW entry: staged in the session's own transaction, refused while another session has
it staged, else at once as a transaction of one entry (R95, R120). -/
def State.writeRw (s : State) (x : Session) (key : Nat) (v : Bytes) : Reply × State :=
  if s.ownsTxn x then s.stageValue x key v
  else if s.mgmt.txn.open_ && (look key s.mgmt.txn.staged).isSome then (.conflict, s)
  else if s.commitRefuses [(key, v)] key v || s.warning || s.inTransition then (.conflict, s)
  else (.ok [], s.commitValues [(key, v)])

/-- TXN_COMMIT of the open transaction (R121, R122). -/
def State.commitTxn (s : State) : Reply × State :=
  let staged := s.mgmt.txn.staged
  match s.firstRefused staged with
  | some key =>
    ({ status := .stateConflict, counted := true
       value := fields [(2, key / 256), (1, key % 256), (1, 0), (2, Status.stateConflict.code)] }, s)
  | none =>
    let s := { s with mgmt := { s.mgmt with
      txn := { s.mgmt.txn with open_ := false, session := 0, owner := 0, staged := [] } } }
    (.ok [], s.commitValues staged)

/-- The network entries OD 0x2900.01 to 0x2900.09. -/
def State.networkOf (s : State) : List Bytes := (List.range 9).map fun i => s.odBytes (0x290001 + i)

/-- A change of the network's addresses closes every network session (R110, R128). -/
def State.followNetwork (s old : State) : State :=
  if s.networkOf == old.networkOf then s
  else s.closeSessions ((s.mgmt.sessions.filter (·.inBand.isNone)).map (·.id))

end Sys2Proof.Machine
end

