-- ==== Sys2Proof/Machine/Cards.lean ====
section
/-! DEFINITION. The custody card port: identification, recovery mode, removal and rest, the card
operations and approvals (R462, R514 to R533). -/

namespace Sys2Proof.Machine

open Sys2Proof

/-! ### Identification -/

/-- The card port identifies a seated card: in DEVICE_READY and in HALTED (R516). -/
def State.cardServes (s : State) : Bool := s.pwr.dieOn && (s.ready || s.halted) && !s.warning

/-- CARD_COUNTS: 0 insertions, 1 refusals, 2 removals during an operation, 3 backups (R533). -/
def State.countCard (s : State) (pos : Nat) : State := s.bump 0x280011 pos 1

/-- A running backup or restore uses recovery mode (R518). -/
def State.recoveryWanted (s : State) : Bool :=
  s.card.op.state == 1 && (s.card.op.op == 4 || s.card.op.op == 5)

/-- VDD goes on and the ready loop begins (Table - Card identification, steps 2 to 4). -/
def State.powerCard (s : State) (fallback : Bool) : State :=
  { s with card := { s.card with
    state := if s.card.op.state == 1 then .busy else .identifying
    step := 4, vdd := true, vddAt := s.now, recovery := false, fallback := fallback, challenge := [] } }

/-- A card operation ends with a status; a seated, identified card is READY again (R525). -/
def State.finishOp (s : State) (st : Status) : State :=
  let s := s.endCardOp st
  if s.card.step = 8 then { s with card := { s.card with state := .ready, lastCmd := s.now } } else s

/-- A card is refused: CARD_REFUSED with the step, the ordered power-down, nothing more until DETECT
opens (R517, R521); an operation that ran on it ends. -/
def State.refuseCard (s : State) (step : Nat) : State :=
  let serial := s.card.serial
  let s := if s.card.op.state == 1 then s.endCardOp .cardRemoved else s
  let s := (s.event .cardRefused (cardDetail serial step)).countCard 1
  let s := s.cardPowerDown
  { s with card := { s.card with state := .refused } }

/-- CARD_DETECT_CLOSE. -/
def execCardDetectClose (s : State) : Result :=
  .next (if s.card.detect then s
    else { s with card := { s.card with detect := true, detectAt := s.now } })

/-- CARD_DETECT_DEBOUNCED: 10 ms after DETECT closed the card is powered (R516). -/
def State.debounced (s : State) : State :=
  let s := s.until (s.card.detectAt + 10000000)
  ((s.event .cardInserted (cardDetail 0 1)).countCard 0).powerCard false

/-- CARD_DETECT_DEBOUNCED. -/
def execCardDetectDebounced (s : State) : Result :=
  .next (if s.cardServes && s.card.detect && s.card.state == .empty then s.debounced else s)

/-- A recovery identification that fails goes on in normal mode, with CARD_VOLTAGE_FALLBACK (R518). -/
def State.fallBack (s : State) : State :=
  (s.event .cardVoltageFallback (cardDetail s.card.serial 4)).powerCard true

/-- The card reports ready: steps 5 and 6, then the challenge, from an internal DRBG (R516, R517). -/
def State.cardReady (s : State) (s18a : Bool) : State :=
  let tries : Bool := s.recoveryWanted && !s.card.fallback
  if tries && !s18a then s.fallBack
  else if !s.internalServes then s
  else
    let c := s.drawInternal 32
    let s := c.2
    { s with card := { s.card with step := 7, recovery := tries, challenge := c.1 } }

/-- One round of the ready loop, 10 ms: the card is ready, or not within 1 s of step 2 (R516). -/
def State.readyPoll (s : State) (ready s18a : Bool) : State :=
  if ready then s.cardReady s18a
  else
    let s := s.advance 10000000
    if s.now < s.card.vddAt + 1000000000 then s
    else if s.recoveryWanted && !s.card.fallback then s.fallBack
    else s.refuseCard 4

/-- CARD_READY_POLL. -/
def execCardReadyPoll (ready s18a : Bool) (s : State) : Result :=
  .next (if s.cardServes && s.card.step == 4 then s.readyPoll ready s18a else s)

/-- A suspended backup waits for the card now identified (R523). -/
def State.resumes (s : State) : Bool :=
  s.card.op.state == 2 && s.card.op.serial == s.card.serial &&
  decide (s.now ≤ s.card.op.suspendedAt + 1000000000 * s.odNum 0x280008)

/-- The card is identified: what its certificate and registers show stands in CARD_INFO and
CARD_AUTHORITY (R517, R519, R533); a suspended backup resumes in recovery mode (R523). -/
def State.identified (s : State) (c : CardCert) : State :=
  let deploy : Bool := c.role == 1
  let present : Bool := c.role == 2 && s.cardEnrolled c.serial c.keyDigest
  let s := { s with card := { s.card with
    state := if s.card.op.state == 1 then CardState.busy else .ready
    step := 8, serial := c.serial, role := c.role, keyDigest := fit 32 c.keyDigest
    protPerm := c.protPerm, protTemp := c.protTemp, enrolled := present
    authority := if deploy then fit 2721 c.authority else zeros 2721
    token := if deploy then c.token else none, lastCmd := s.now } }
  let s := s.event .cardIdentified (cardDetail c.serial 8)
  if s.resumes then
    let op := { s.card.op with state := 1 }
    ({ s with card := { s.card with op := op } }).powerCard false
  else s

/-- CARD_AUTHENTICATED: the certificate and the signed challenge decide (R517). -/
def execCardAuthenticated (cert : CardCert) (s : State) : Result :=
  .next (if s.cardServes && s.card.step == 7 then
      if cert.certOk && cert.sigOk && (cert.role == 1 || cert.role == 2) then s.identified cert
      else s.refuseCard 7
    else s)

/-! ### Removal and rest -/

/-- DETECT opens: the ordered power-down; a backup is suspended, another operation ends with
CARD_REMOVED (R521 to R523). -/
def State.detectOpen (s : State) : State :=
  let serial := s.card.serial
  let powered := s.card.vdd
  let s := { s with card := { s.card with detect := false } }
  let s :=
    if s.card.op.state != 1 then s
    else
      let s := s.countCard 2
      if s.card.op.op = 4 then
        let op := { s.card.op with state := 2, suspendedAt := s.now }
        let s : State := { s with card := { s.card with op := op } }
        s.event .backupSuspended (cardDetail serial 4)
      else s.endCardOp .cardRemoved
  let s := s.cardPowerDown
  if powered then s.event .cardRemoved (cardDetail serial 0) else s

/-- CARD_DETECT_OPEN. -/
def execCardDetectOpen (s : State) : Result := .next (if s.card.detect then s.detectOpen else s)

/-- CARD_REST: an identified card without a command for CARD_REST_S goes to rest (R520). -/
def execCardRest (s : State) : Result :=
  .next (if s.card.state == .ready && s.card.step == 8 then
      let s := s.until (s.card.lastCmd + 1000000000 * s.odNum 0x280007)
      { s with card := { s.card with state := .rest } }
    else s)

/-! ### Card operations -/

/-- The operations of Table - Card operations. -/
inductive CardOpCode where
  | approve | configSave | configLoad | backup | restore | protect | unprotect | cancel
  deriving DecidableEq, Repr

/-- Code of a card operation. -/
def CardOpCode.code : CardOpCode → Nat
  | .approve => 1 | .configSave => 2 | .configLoad => 3 | .backup => 4
  | .restore => 5 | .protect => 6 | .unprotect => 7 | .cancel => 8

/-- The operation a code names. -/
def cardOpOf : Nat → Option CardOpCode
  | 1 => some .approve | 2 => some .configSave | 3 => some .configLoad | 4 => some .backup
  | 5 => some .restore | 6 => some .protect | 7 => some .unprotect | 8 => some .cancel
  | _ => none

/-- Whether the test root is in use (R384). -/
def State.testRootInUse (s : State) : Bool :=
  match s.rootInUse with
  | some (t, _) => t
  | none => false

/-- An operation refused in the present state (R519, R525, R527). -/
def State.cardOpBarred (s : State) (c : CardOpCode) : Bool :=
  s.warning || s.inTransition || s.lc.debugOpen || s.warden.debugFlag ||
  (match c with
   | .cancel => s.card.op.state != 2
   | _ => s.cardOpActive) ||
  (match c with
   | .configSave => s.card.protPerm || s.card.protTemp
   | .backup => s.card.protPerm || s.card.protTemp || s.testRootInUse
   | .restore => s.testRootInUse
   | _ => false)

/-- The entries of a configuration set: persistent RW and RWT entries that differ from their default,
but credentials, DOMAIN_AUTHORITY, CUSTODY_CARDS (R526). -/
def State.configSet (s : State) : List (Nat × Bytes) :=
  s.od.filter fun p => !isCredential p.1 && p.1 != 0x280010 &&
    match entryDef (keyOf p.1) with
    | some d => d.persistent && (d.access == .rw || d.access == .rwt)
    | none => false

/-- The set stays within 256 entries and 1 MiB (R526). -/
def State.configFits (s : State) : Bool :=
  let l := s.configSet
  decide (l.length ≤ 256) && decide ((l.map fun p => 8 + p.2.length).sum ≤ 1048576)

/-- The entries of a configuration set as the card gives it, at most `n`; none where it is cut short
(R526). -/
def parseConfig : Nat → Bytes → Option (List (Nat × Bytes))
  | 0, b => if b.isEmpty then some [] else none
  | n + 1, b =>
    if b.isEmpty then some []
    else if b.length < 8 then none
    else
      let len := fieldLe 4 4 b
      if b.length < 8 + len then none
      else match parseConfig n (b.drop (8 + len)) with
        | none => none
        | some r => some ((256 * fieldLe 0 2 b + fieldLe 2 1 b, slice 8 len b) :: r)

/-- A set's entries staged one after another; none where staging would break R119. -/
def stageAll : List (Nat × Bytes) → List (Nat × Bytes) → Option (List (Nat × Bytes))
  | l, [] => if stageFits l then some l else none
  | l, (k, v) :: r =>
    match entryDef (keyOf k) with
    | none => none
    | some d =>
      if (d.access == .rw || d.access == .rwt) && d.ty.sizeOk v.length && lengthOk k v.length &&
        rangeOk k d v then stageAll (stage k v l) r
      else none

/-- CONFIG_LOAD's set goes into the open transaction of the session that wrote the operation (R526). -/
def State.loadConfig (s : State) (content : Bytes) : Status × State :=
  let own : Bool := s.mgmt.txn.open_ && s.mgmt.txn.session.toNat == s.card.op.session
  if !own then (.stateConflict, s)
  else match parseConfig 256 content with
    | none => (.stateConflict, s)
    | some l => match stageAll s.mgmt.txn.staged l with
      | none => (.stateConflict, s)
      | some staged =>
        (.ok, { s with mgmt := { s.mgmt with txn := { s.mgmt.txn with staged := staged } } })

/-- The operation is entered as running on the seated card. -/
def State.enterOp (s : State) (x : Session) (c : CardOpCode) (arg : Nat) : State :=
  let op : CardOp := {
    op := c.code, arg := arg, state := 1, status := 0
    serial := s.card.serial, session := x.id.toNat }
  ({ s with card := { s.card with op := op, state := .busy, lastCmd := s.now } }).send
    (.cardCommand c.code arg)

/-- BACKUP begins: the snapshot, an IMAGE_ID, the segments its image takes - a number the manual leaves
to the content (log entry 7) - and recovery mode (R518, R527). -/
def State.beginBackup (s : State) : State :=
  let i := s.drawInternal 16
  let n := i.2.take 2
  let s := n.2
  let op := { s.card.op with
    imageId := i.1, total := 1 + ofLe n.1 % 8192, generation := s.keys.archiveGen }
  ({ s with card := { s.card with image := some s.snapshot, op := op } }).powerCard false

/-- The newest manifest on the card is valid: its MAC and SOURCE_IDENTITY, and a generation of at least
OTP's (R528). -/
def State.imageValid (s : State) (m : CardImage) : Bool :=
  m.found && m.manifestOk && decide (s.otp.genBits ≤ m.generation)

/-- RESTORE begins with its read pass, or ends where no manifest is valid (R528, R529). -/
def State.beginRestore (s : State) (m : CardImage) : State :=
  if s.imageValid m then
    let op := { s.card.op with imageId := fit 16 m.imageId, total := m.segments, generation := m.generation }
    ({ s with card := { s.card with op := op } }).powerCard false
  else s.finishOp .inputRejected

/-- A CARD_OP write that passed the checks before STATE_CONFLICT (R525 to R531). `m` is what the card's
manifests show to a RESTORE. -/
def State.cardOp (s : State) (x : Session) (c : CardOpCode) (arg : Nat) (m : CardImage) : Reply × State :=
  if c == .approve && arg != 4 then (.refuse .stateConflict, s)
  else if s.cardOpBarred c then (.conflict, s)
  else
    match c with
    | .cancel => (.ok [], s.endCardOp .cardRemoved)
    | .configSave =>
      let s := s.enterOp x c arg
      (.ok [], if s.configFits then (s.drawInternal 12).2 else s.finishOp .stateConflict)
    | .backup => (.ok [], (s.enterOp x c arg).beginBackup)
    | .restore => (.ok [], (s.enterOp x c arg).beginRestore m)
    | _ => (.ok [], s.enterOp x c arg)

/-- CARD_SEGMENT_COMMITTED: the commit record of a segment stands (R523, R527). -/
def execCardSegmentCommitted (s : State) : Result :=
  .next (if s.recoveryWanted && s.card.op.op == 4 && s.card.step == 8 &&
      decide (s.card.op.done < s.card.op.total) then
      let op := { s.card.op with done := s.card.op.done + 1 }
      { s with card := { s.card with op := op, lastCmd := s.now } }
    else s)

/-- An approval is held: it replaces one of the same serial; at most eight (R531). -/
def State.addApproval (s : State) (target : Nat) : State :=
  let others := s.card.approvals.filter (·.serial != s.card.serial)
  let kept := others.drop (others.length - 7)
  let a : Approval := { serial := s.card.serial, target := target, at_ := s.now }
  ({ s with card := { s.card with approvals := kept ++ [a] } }).event .cardApproval
    (cardDetail s.card.serial 1)

/-- An operation the card did not carry out ends; the manual states no status for it, so any but OK
(log entry 34). -/
def State.failOp (s : State) : State :=
  let r := s.take 2
  let op := r.2.card.op
  let s : State := { r.2 with card := { r.2.card with
    image := none, op := { op with state := 3, status := BitVec.ofNat 16 (1 + ofLe r.1 % 65535) } } }
  let s := s.event .cardOpFailed (cardDetail op.serial op.op)
  if s.card.step = 8 then { s with card := { s.card with state := .ready, lastCmd := s.now } } else s

/-- A backup's manifest is committed: the image counts, the card returns to normal mode (R518, R527). -/
def State.endBackup (s : State) : State :=
  let images := match s.card.image with
    | some x => (s.card.images.filter (·.1 != s.card.op.imageId)) ++ [(s.card.op.imageId, x)]
    | none => s.card.images
  let fast := s.card.recovery
  let s := ({ s with card := { s.card with images := images } }).countCard 3
  let s := s.finishOp .ok
  if fast then s.powerCard false else s

/-- The card has answered the operation (R522, R525 to R531). -/
def State.cardOpDone (s : State) (r : CardReply) : State :=
  match cardOpOf s.card.op.op with
  | some .approve => if r.ok && r.valid then (s.addApproval s.card.op.arg).finishOp .ok else s.failOp
  | some .configSave => if r.ok then s.finishOp .ok else s.failOp
  | some .configLoad =>
    if !r.ok then s.failOp
    else if !r.valid then s.finishOp .inputRejected
    else
      let l := s.loadConfig r.content
      l.2.finishOp l.1
  | some .backup =>
    if !r.ok then s.failOp else if s.card.op.done < s.card.op.total then s else s.endBackup
  | some .protect =>
    if r.ok then
      let s := { s with card := { s.card with protTemp := true } }
      s.finishOp .ok
    else s.failOp
  | some .unprotect =>
    if r.ok then
      let s := { s with card := { s.card with protTemp := false } }
      s.finishOp .ok
    else s.failOp
  | _ => s

/-- CARD_OP_DONE. -/
def execCardOpDone (reply : CardReply) (s : State) : Result :=
  .next (if s.card.op.state == 1 && s.card.step == 8 then s.cardOpDone reply else s)

/-- The read pass of a RESTORE ends: the marker and a restart, or INPUT_REJECTED (R529). -/
def State.readPassDone (s : State) (ok : Bool) : State :=
  if ok then
    let id := s.card.op.imageId
    let s := { s with card := { s.card with markerSet := true, markerDone := 0, markerImage := fit 16 id } }
    let s := s.finishOp .ok
    { s with start := { s.start with draining := some .restart, drainSince := s.now } }
  else
    let fast := s.card.recovery
    let s := s.finishOp .inputRejected
    if fast then s.powerCard false else s

/-- RESTORE_READ_PASS_DONE. -/
def execRestoreReadPassDone (ok : Bool) (s : State) : Result :=
  .next (if s.card.op.state == 1 && s.card.op.op == 5 && s.card.step == 8 then s.readPassDone ok else s)

/-- BACKUP_RESUME_EXPIRY: a suspended backup ends with CARD_REMOVED after BACKUP_RESUME_S (R523). -/
def execBackupResumeExpiry (s : State) : Result :=
  .next (if s.card.op.state == 2 then
      (s.until (s.card.op.suspendedAt + 1000000000 * s.odNum 0x280008)).endCardOp .cardRemoved
    else s)

/-- APPROVAL_EXPIRY: an approval leaves the list 600 s after it was made (R531). -/
def execApprovalExpiry (which : Fin 8) (s : State) : Result :=
  .next (match s.card.approvals[which.val]? with
    | some a =>
      let s := s.until (a.at_ + 600000000000)
      { s with card := { s.card with approvals := s.card.approvals.eraseIdx which } }
    | none => s)

end Sys2Proof.Machine
end

