-- ==== Sys2Proof/Machine/Binary64.lean ====
section
/-! DEFINITION. IEEE 754 binary64 as the sequencers compute it: operands, rounding by FPCTL.RM, the exception
flags (R347, R348, R354; log entry 12). -/

namespace Sys2Proof.Machine

open Sys2Proof

/-- A binary64 datum: a NaN, an infinity, or the finite number m x 2^e with its sign. -/
inductive FVal where
  | nan (signaling : Bool)
  | inf (neg : Bool)
  | fin (neg : Bool) (m : Nat) (e : Int)
  deriving DecidableEq, Repr

/-- A result and the exceptions it raises, in the places of FPCTL.FLAGS: 1 invalid, 2 divide by zero, 4 overflow,
8 underflow, 16 inexact. -/
structure FRes where
  v : BitVec 64
  flags : Nat := 0
  deriving DecidableEq, Repr

/-- The datum of an encoding. -/
def fval (x : BitVec 64) : FVal :=
  let n := x.toNat
  let neg := bit n 63
  let e := bits n 62 52
  let f := bits n 51 0
  if e = 2047 then (if f = 0 then .inf neg else .nan (!bit f 51))
  else if e = 0 then .fin neg f (-1074)
  else .fin neg (f + 2 ^ 52) (Int.ofNat e - 1075)

/-- An encoding with its sign bit. -/
def fsigned (neg : Bool) (n : Nat) : BitVec 64 := BitVec.ofNat 64 (n + if neg then 2 ^ 63 else 0)

/-- An infinity. -/
def finf (neg : Bool) : BitVec 64 := fsigned neg (2047 * 2 ^ 52)

/-- A quiet NaN whose sign and payload the implementation chooses. -/
def fnan (a b : BitVec 64) : BitVec 64 := Config.floatChoice 0 a b ||| 0x7FF8000000000000#64

/-- The datum is a signaling NaN. -/
def FVal.signaling : FVal → Bool
  | .nan s => s
  | _ => false

/-- The datum is a NaN. -/
def FVal.isNan : FVal → Bool
  | .nan _ => true
  | _ => false

/-- The NaN result of operands, and its invalid flag. -/
def fpropagate (a b : BitVec 64) (invalid : Bool) : FRes :=
  ⟨fnan a b, if invalid || (fval a).signaling || (fval b).signaling then 1 else 0⟩

/-- Whether a remainder `r` of 2^sh rounds the quotient `q` up (Table - FPCTL). -/
def roundsUp (rm : Nat) (neg : Bool) (q r sh : Nat) : Bool :=
  if sh = 0 || r = 0 then false
  else match rm with
  | 1 => decide (2 ^ (sh - 1) ≤ r)
  | 2 => false
  | 3 => !neg
  | 4 => neg
  | _ => decide (2 ^ (sh - 1) < r) || (r == 2 ^ (sh - 1) && q % 2 == 1)

/-- A number n x 2^e cut at exponent `x`: quotient rounded, and whether it is inexact. -/
def cutAt (rm : Nat) (neg : Bool) (n : Nat) (e x : Int) : Nat × Bool :=
  if x ≤ e then (n * 2 ^ (e - x).toNat, false)
  else
    let sh := (x - e).toNat
    let q := n / 2 ^ sh
    let r := n % 2 ^ sh
    (if roundsUp rm neg q r sh then q + 1 else q, r != 0)

/-- What overflows becomes an infinity or the greatest finite number, by the rounding mode. -/
def foverflow (rm : Nat) (neg : Bool) : BitVec 64 :=
  let toInf : Bool := match rm with
    | 2 => false
    | 3 => !neg
    | 4 => neg
    | _ => true
  if toInf then finf neg else fsigned neg (2047 * 2 ^ 52 - 1)

/-- The number n x 2^e rounded to binary64. -/
def fround (rm : Nat) (neg : Bool) (n : Nat) (e : Int) : FRes :=
  if n = 0 then ⟨fsigned neg 0, 0⟩
  else
    let x0 := e + Int.ofNat (Nat.log2 n) - 52
    let x := max x0 (-1074)
    let q := cutAt rm neg n e x
    let v := (x + 1074).toNat * 2 ^ 52 + q.1
    let below : Bool := decide (x0 < -1074)
    let after : Bool := below && !(x0 == -1075 && (cutAt rm neg n e x0).1 == 2 ^ 53)
    let tiny := if Config.tinyBefore then below else after
    if 2047 * 2 ^ 52 ≤ v then ⟨foverflow rm neg, 4 + 16⟩
    else ⟨fsigned neg v, if q.2 then (if tiny then 8 else 0) + 16 else 0⟩

/-- The sign and magnitude of an integer. -/
def signMag (i : Int) : Bool × Nat := (decide (i < 0), i.natAbs)

/-- The signed integer m x 2^(e - low) of a finite number. -/
def scaled (neg : Bool) (m : Nat) (e low : Int) : Int :=
  let n := Int.ofNat (m * 2 ^ (e - low).toNat)
  if neg then -n else n

/-- A sum of two data. -/
def faddVal (rm : Nat) (a b : BitVec 64) (x y : FVal) : FRes :=
  match x, y with
  | .nan _, _ | _, .nan _ => fpropagate a b false
  | .inf s, .inf t => if s = t then ⟨finf s, 0⟩ else fpropagate a b true
  | .inf s, _ => ⟨finf s, 0⟩
  | _, .inf t => ⟨finf t, 0⟩
  | .fin s m e, .fin t n f =>
    let low := min e f
    let v := signMag (scaled s m e low + scaled t n f low)
    if v.2 = 0 then ⟨fsigned (if m = 0 ∧ n = 0 ∧ s = t then s else rm == 4) 0, 0⟩
    else fround rm v.1 v.2 low

/-- The datum with its sign changed. -/
def FVal.neg : FVal → FVal
  | .inf s => .inf !s
  | .fin s m e => .fin (!s) m e
  | x => x

/-- FADD. -/
def fadd (rm : Nat) (a b : BitVec 64) : FRes := faddVal rm a b (fval a) (fval b)
/-- FSUB. -/
def fsub (rm : Nat) (a b : BitVec 64) : FRes := faddVal rm a b (fval a) (fval b).neg

/-- FMUL. -/
def fmul (rm : Nat) (a b : BitVec 64) : FRes :=
  match fval a, fval b with
  | .nan _, _ | _, .nan _ => fpropagate a b false
  | .inf s, .inf t => ⟨finf (s != t), 0⟩
  | .inf s, .fin t n _ => if n = 0 then fpropagate a b true else ⟨finf (s != t), 0⟩
  | .fin s m _, .inf t => if m = 0 then fpropagate a b true else ⟨finf (s != t), 0⟩
  | .fin s m e, .fin t n f => fround rm (s != t) (m * n) (e + f)

/-- FDIV: the quotient with 120 bits more, its last bit standing for what remains. -/
def fdiv (rm : Nat) (a b : BitVec 64) : FRes :=
  match fval a, fval b with
  | .nan _, _ | _, .nan _ => fpropagate a b false
  | .inf _, .inf _ => fpropagate a b true
  | .inf s, .fin t _ _ => ⟨finf (s != t), 0⟩
  | .fin s _ _, .inf t => ⟨fsigned (s != t) 0, 0⟩
  | .fin s m e, .fin t n f =>
    if n = 0 then (if m = 0 then fpropagate a b true else ⟨finf (s != t), 2⟩)
    else
      let v := m * 2 ^ 120
      fround rm (s != t) (2 * (v / n) + if v % n = 0 then 0 else 1) (e - f - 121)

/-- The integer square root, from its bit `k - 1` down. -/
def isqrt (n : Nat) : Nat → Nat → Nat
  | 0, q => q
  | k + 1, q => isqrt n k (if (q + 2 ^ k) * (q + 2 ^ k) ≤ n then q + 2 ^ k else q)

/-- FSQRT: the root with its last bit standing for what remains. -/
def fsqrt (rm : Nat) (a : BitVec 64) : FRes :=
  match fval a with
  | .nan _ => fpropagate a a false
  | .inf s => if s then fpropagate a a true else ⟨finf false, 0⟩
  | .fin s m e =>
    if m = 0 then ⟨a, 0⟩
    else if s then fpropagate a a true
    else
      let odd : Bool := e % 2 != 0
      let n := m * 2 ^ (if odd then 121 else 120)
      let f := (if odd then e - 121 else e - 120) / 2
      let q := isqrt n 96 0
      fround rm false (2 * q + if q * q = n then 0 else 1) (f - 1)

/-- A finite number is below another. -/
def flessFin (s : Bool) (m : Nat) (e : Int) (t : Bool) (n : Nat) (f : Int) : Bool :=
  decide (scaled s m e (min e f) < scaled t n f (min e f))

/-- The order of two data that are no NaN. -/
def fless (x y : FVal) : Bool :=
  match x, y with
  | .inf s, .inf t => s && !t
  | .inf s, .fin _ _ _ => s
  | .fin _ _ _, .inf t => !t
  | .fin s m e, .fin t n f => flessFin s m e t n f
  | _, _ => false

/-- The datum is a zero. -/
def FVal.isZero : FVal → Bool
  | .fin _ m _ => m == 0
  | _ => false

/-- FMIN and FMAX: for a NaN, and for zeros of both signs, IEEE 754 leaves the choice open (log entry 12). -/
def fminmax (greater : Bool) (a b : BitVec 64) : FRes :=
  let x := fval a
  let y := fval b
  if x.isNan || y.isNan then
    ⟨Config.floatChoice (if greater then 2 else 1) a b, if x.signaling || y.signaling then 1 else 0⟩
  else if x.isZero && y.isZero && a != b then
    ⟨fsigned (bit (Config.floatChoice (if greater then 2 else 1) a b).toNat 63) 0, 0⟩
  else ⟨if fless x y != greater then a else b, 0⟩

/-- FCOPYSIGN. -/
def fcopysign (a b : BitVec 64) : FRes := ⟨fsigned (bit b.toNat 63) (bits a.toNat 62 0), 0⟩

/-- FTOI: a number rounded by RM to a signed 64-bit integer; outside that range, and for a NaN, the result is
open (log entry 12). -/
def ftoi (rm : Nat) (a : BitVec 64) : FRes :=
  match fval a with
  | .fin s m e =>
    let q := cutAt rm s m e 0
    let i : Int := if s then -Int.ofNat q.1 else Int.ofNat q.1
    if -(2 ^ 63 : Int) ≤ i ∧ i < 2 ^ 63 then ⟨BitVec.ofInt 64 i, if q.2 then 16 else 0⟩
    else ⟨Config.floatChoice 3 a a, 1⟩
  | _ => ⟨Config.floatChoice 3 a a, 1⟩

/-- ITOF. -/
def itof (rm : Nat) (a : BitVec 64) : FRes := fround rm (signMag a.toInt).1 (signMag a.toInt).2 0

/-- FCMP by its relation: 0 equal, 1 less, 2 less or equal; a NaN makes it false, with an invalid flag unless a
quiet NaN is compared for equality. -/
def fcmp (rel : Nat) (a b : BitVec 64) : FRes :=
  let x := fval a
  let y := fval b
  if x.isNan || y.isNan then ⟨0, if rel != 0 || x.signaling || y.signaling then 1 else 0⟩
  else
    let eq := !fless x y && !fless y x
    let r := match rel with
      | 0 => eq
      | 1 => fless x y
      | _ => fless x y || eq
    ⟨if r then 1 else 0, 0⟩

end Sys2Proof.Machine
end

