-- ==== Sys2Proof/Machine/Curves.lean ====
section
/-! DEFINITION. The primes and group orders of the curves that SP 800-186 and RFC 7748 name, which the Saffron
units reduce by and signatures are bounded by (R315, R318, R326). -/

namespace Sys2Proof.Machine

open Sys2Proof

/-- The P-256 field prime. -/
def p256Prime : Nat := 2 ^ 256 - 2 ^ 224 + 2 ^ 192 + 2 ^ 96 - 1
/-- The P-256 group order. -/
def p256Order : Nat := 0xffffffff00000000ffffffffffffffffbce6faada7179e84f3b9cac2fc632551
/-- The P-384 field prime. -/
def p384Prime : Nat := 2 ^ 384 - 2 ^ 128 - 2 ^ 96 + 2 ^ 32 - 1
/-- The P-384 group order. -/
def p384Order : Nat :=
  0xffffffffffffffffffffffffffffffffffffffffffffffffc7634d81f4372ddf581a0db248b0a77aecec196accc52973
/-- The P-521 field prime. -/
def p521Prime : Nat := 2 ^ 521 - 1
/-- The P-521 group order. -/
def p521Order : Nat := 2 ^ 521 - 0x5ae79787c40d069948033feb708f65a2fc44a36477663b851449048e16ec79bf7
/-- The Ed25519 and X25519 field prime. -/
def p25519 : Nat := 2 ^ 255 - 19
/-- The Ed25519 group order. -/
def ed25519Order : Nat := 2 ^ 252 + 27742317777372353535851937790883648493
/-- The Ed448 and X448 field prime. -/
def p448 : Nat := 2 ^ 448 - 2 ^ 224 - 1
/-- The Ed448 group order. -/
def ed448Order : Nat := 2 ^ 446 - 13818066809895115352007386748515426880336692474882178609894547503885

/-- The group order that bounds the signatures of a set (Table - Elliptic-curve sets). -/
def groupOrder : Nat → Nat
  | 1 => p256Order | 2 => p384Order | 3 => p521Order | 4 => ed25519Order | _ => ed448Order

end Sys2Proof.Machine
end

