-- ==== Sys2Proof/Machine/Checks.lean ====
section
/-! DEFINITION. Checks 4 and 5 of Table - Entry checks: the source lengths each opcode accepts and the
largest output it can produce (R172, R223, R227, R231 to R239, R268, R269, R280 to R285, R295, R297, R303,
R323 to R339, R343, R362, R396 to R406, R415, R437). -/

namespace Sys2Proof.Machine

open Sys2Proof

/-! ### PARAM fields -/

/-- PARAM as a number. -/
def entryParam (e : SqEntry) : Nat := e.param.toNat

/-- CTX_LEN of a signing or verifying entry. -/
def ctxLen (e : SqEntry) : Nat := bits (entryParam e) 7 0

/-- PH_ALG, or HASH of an ECDSA or RSA entry. -/
def phAlg (e : SqEntry) : Nat := bits (entryParam e) 15 12

/-- PREHASH (Table - PARAM for ML-DSA signing and verification). -/
def prehash (e : SqEntry) : Bool := bit (entryParam e) 8

/-- PH_INPUT, or HASH_INPUT of an ECDSA or RSA entry. -/
def phInput (e : SqEntry) : Bool := bit (entryParam e) 9

/-- A pre-hash function that an ML-DSA or SLH-DSA set accepts (R232, R269). -/
def phAllowed (o : Opc) (alg : Nat) : Bool :=
  within 1 alg 8 && (o.fam != 4 || decide ((sigSizes 4 o.set).pk ≤ phLen alg))

/-- TAG_LEN of an AES entry, where it lies within its range (R337). -/
def aesTag (e : SqEntry) : Option Nat :=
  let t := bits (entryParam e) 39 32
  if [4, 8, 12, 13, 14, 15, 16].contains t then some t else none

/-- AAD_LEN of a GCM entry. -/
def aadLen (e : SqEntry) : Nat := bits (entryParam e) 31 0

/-- Bytes of IV in the input of an AES entry (R337). -/
def ivIn (e : SqEntry) : Nat := if drawsIv (entryOpc e) && entryIvGen e then 0 else 12

/-- UNIT_LEN of an XTS entry, where it lies within its range (R337). -/
def xtsUnitLen (e : SqEntry) : Option Nat :=
  let u := bits (entryParam e) 23 0
  if 16 ≤ u then some u else none

/-- TAG_LEN of a MAC entry, where it lies within its range (R283). -/
def macTag (o : Opc) (e : SqEntry) : Option Nat :=
  let t := bits (entryParam e) 31 0
  if o.set ≤ 10 then
    if t = 0 then some (digestLen o.set) else if within 4 t (digestLen o.set) then some t else none
  else if within 4 t 1024 then some t else none

/-- S_LEN of a KMAC entry, read in a one-shot job and in FIRST (R283, R285). -/
def macS (o : Opc) (e : SqEntry) : Nat :=
  if 11 ≤ o.set && (entryStage e == 0 || entryStage e == 1) then bits (entryParam e) 47 40 else 0

/-- A stage in which a tag is read and an output written: one-shot and LAST (R285). -/
def lastStage (e : SqEntry) : Bool := entryStage e == 0 || entryStage e == 3

/-- OUT_LEN of a HASH entry, where it lies within its range (R283). -/
def hashOut (o : Opc) (e : SqEntry) : Option Nat :=
  if o.set ≤ 10 then some (digestLen o.set)
  else
    let n := bits (entryParam e) 31 0
    if within 1 n 16777216 then some n else none

/-- COUNT of a frame batch (R342). -/
def frameCount (e : SqEntry) : Nat := bits (entryParam e) 7 0

/-- BINDING of a key management entry's PARAM (R397). -/
def kmBinding (e : SqEntry) : BitVec 16 := BitVec.ofNat 16 (bits (entryParam e) 31 16)

/-- CLASS of a key management entry's PARAM (R397). -/
def kmClass (e : SqEntry) : Nat := bits (entryParam e) 15 8

/-- Bits set in a MR mask (R297). -/
def mrMask (e : SqEntry) : List Nat := (List.range 40).filter fun i => bit (entryParam e) i

/-! ### Check 4 -/

/-- The public key length of an input that carries one. -/
def inputPk (o : Opc) (e : SqEntry) : Nat :=
  if e.key0 != 0 then 0
  else if o.kem then (kemSizes o.fam o.baseSet).pk
  else (sigSizes o.fam o.set).pk

/-- A body that must have the digest length, when the digest is supplied and its function is known
(R233, R325, R330). -/
def bodyOk (digest : Bool) (known : Bool) (alg n : Nat) : Bool := !(digest && known) || n == phLen alg

/-- The source length of a signing or verifying entry: `fixed` bytes, the context, then the body. -/
def signLen (o : Opc) (e : SqEntry) (fixed : Nat) : Bool :=
  let n := e.srcLen.toNat
  match o.fam with
  | 2 | 4 =>
    let c := ctxLen e
    decide (fixed + c ≤ n) && bodyOk (prehash e && phInput e) (phAllowed o (phAlg e)) (phAlg e) (n - fixed - c)
  | 8 =>
    if o.ecdsa then
      decide (fixed ≤ n) && bodyOk (phInput e) (within 1 (phAlg e) 6) (phAlg e) (n - fixed)
    else
      let c := if o.set = 4 && !prehash e && ctxLen e != 0 then 0 else ctxLen e
      decide (fixed + c ≤ n)
  | 9 => decide (fixed ≤ n) && bodyOk (phInput e) (within 1 (phAlg e) 6) (phAlg e) (n - fixed)
  | _ => decide (fixed + ctxLen e ≤ n)

/-- The greatest OAEP message of a set, where HASH is known (R331). -/
def oaepMax (o : Opc) (e : SqEntry) : Option Nat :=
  if within 1 (phAlg e) 6 then some (rsaK o.set - 2 * phLen (phAlg e) - 2) else none

/-- The source lengths of an AES entry (Table - AES operations, R337). -/
def aesLenOk (o : Opc) (e : SqEntry) : Bool :=
  let n := e.srcLen.toNat
  let tag := (aesTag e).getD 0
  match o.op with
  | 1 => decide (ivIn e + aadLen e ≤ n)
  | 2 => decide (12 + aadLen e + tag ≤ n)
  | 3 => decide (ivIn e ≤ n)
  | 4 => decide (12 + tag ≤ n)
  | 5 => if bit (entryParam e) 0 then within 1 n 65536 else within 16 n 65536 && n % 8 == 0
  | 6 => decide (n ≤ 65544)
  | _ => decide (32 ≤ n) && (match xtsUnitLen e with
      | some u => (n - 16) % u == 0 || decide (16 ≤ (n - 16) % u)
      | none => true)

/-- The source lengths of a key management entry (Table - Key management opcodes, R398, R406, R415); the
payload length of an update message is judged once the message is read. -/
def kmLenOk (o : Opc) (e : SqEntry) : Bool :=
  let n := e.srcLen.toNat
  match o.op with
  | 1 => within 6435 n 268435456
  | 3 | 4 => within 1 n 4096
  | 6 => within 24 n 72
  | 8 => decide (192 ≤ n)
  | 9 => match publicLen (kmBinding e) with
    | some l => n == l
    | none => true
  | 0x0C => within 16 n 64
  | _ => n == 0

/-- The source lengths an entry's opcode accepts (check 4). -/
def srcLenOk (e : SqEntry) : Bool :=
  let o := entryOpc e
  let n := e.srcLen.toNat
  if o.km then kmLenOk o e
  else if o.kem then
    match o.op with
    | 1 => n == 0
    | 2 | 3 => n == inputPk o e
    | _ => n == (kemSizes o.fam o.baseSet).ct
  else match o.fam, o.op with
  | 5, 1 => n == 28
  | 5, 2 => true
  | 5, 4 =>
    let p := entryParam e
    decide (bits p 31 0 + (if e.key0 = 0 then bits p 39 32 else 0) ≤ n)
  | 5, _ => n == 0
  | 8, 6 | 8, 7 => n == (sigSizes 8 o.set).pk
  | 9, 6 =>
    let fixed := inputPk o e + bits (entryParam e) 7 0
    decide (fixed ≤ n) && (match oaepMax o e with
      | some m => decide (n - fixed ≤ m)
      | none => true)
  | 9, 7 => n == bits (entryParam e) 7 0 + rsaK o.set
  | 2, 1 | 3, 1 | 4, 1 | 8, 1 | 9, 1 | 0x0C, 1 => n == 0
  | 2, 4 | 3, 4 | 4, 4 | 8, 4 | 9, 4 | 9, 5 | 0x0C, 4 => signLen o e (inputPk o e + (sigSizes o.fam o.set).sig)
  | 2, _ | 3, _ | 4, _ | 8, _ | 9, _ | 0x0C, _ => signLen o e 0
  | 0x0A, _ => aesLenOk o e
  | 0x0B, 1 => true
  | 0x0B, 2 => decide (macS o e ≤ n)
  | 0x0B, 3 => decide (macS o e + (if lastStage e then (macTag o e).getD 0 else 0) ≤ n)
  | 0x0B, _ => n == 0
  | 0x0D, _ => decide (n ≤ 256)
  | 0x0E, 3 | 0x0E, 4 => n == 0
  | 0x0E, _ => true
  | 0x0F, _ => within 1 (frameCount e) 64 && decide (48 * frameCount e + 1 ≤ n)
  | 0x10, 2 => bit (entryParam e) 8 || n == 48
  | 0x10, 3 => n == 32
  | _, _ => true

/-- The opcode has an output side; of one that has none, DST and DST_LEN are unused (R163, R173). -/
def Opc.hasOutput (o : Opc) : Bool :=
  if o.km then !(o.op == 0x0A || o.op == 0x0D || o.op == 0x0E)
  else if o.kem then true
  else match o.fam with
  | 9 => o.op != 4 && o.op != 5
  | 0x0B => decide (o.op ≤ 2)
  | 0x0D => o.op == 1
  | 0x0E => o.op == 1 || o.op == 4
  | 0x0F => true
  | 0x10 => o.op == 3
  | _ => o.op != 4

/-- SRC_FRAGS or DST_FRAGS agrees with its IND flag; a side whose length is 0 is unchecked (R163, R172). -/
def fragsAgree (ind : Bool) (frags len : Nat) : Bool := len == 0 || ind == (frags != 0)

/-- Check 4: none where it passes, else the DETAIL of LENGTH_MISMATCH: the length found, bit 32 for the
destination side (R172, R179). -/
def lengthFails (e : SqEntry) : Option Nat :=
  let o := entryOpc e
  let n := e.srcLen.toNat
  let f := e.flags.toNat
  if o.isNop || o.isFence then none
  else if !fragsAgree (bit f 0) e.srcFrags.toNat n then some n
  else if o.hasOutput && !fragsAgree (bit f 1) e.dstFrags.toNat e.dstLen.toNat then some (2 ^ 32 + e.dstLen.toNat)
  else if 2 ^ 30 < n || !srcLenOk e then some n
  else none

/-! ### Check 5 -/

/-- The largest output of an AES entry (Table - AES operations). -/
def aesOut (o : Opc) (e : SqEntry) : Nat :=
  let n := e.srcLen.toNat
  let tag := (aesTag e).getD 0
  let iv := 12 - ivIn e
  match o.op with
  | 1 => iv + (n - ivIn e - aadLen e) + tag
  | 2 => n - 12 - aadLen e - tag
  | 3 => iv + tag
  | 4 => 0
  | 5 => if bit (entryParam e) 0 then roundUp n 8 + 8 else n + 8
  | 6 => n - 8
  | _ => n - 16

/-- The output of a key management entry (Table - Key management opcodes, R400, R402, R404). -/
def kmOut (o : Opc) (e : SqEntry) (v0 v1 : Option KeyView) : Nat :=
  let sec (v : Option KeyView) : Nat := ((v.map (·.secret.length)).getD 0)
  let pub (v : Option KeyView) : Nat := ((v.map fun w => (w.pubFor 0).length).getD 0)
  match o.op with
  | 2 | 3 | 6 | 8 | 9 => 8
  | 4 =>
    let n := bits (entryParam e) 7 0
    if within 16 n 64 then n else 0
  | 5 => roundUp (sec v1) 8 + 8
  | 7 => 192 + sec v0 + pub v0
  | 0x0B => 64 + pub v0
  | 0x0C => 32
  | 0x0F => 3584
  | _ => 0

/-- The signature length of a stateful key (R280). -/
def statefulSigLen (v : Option KeyView) : Nat :=
  match v with
  | some (.record _ r) => match r.stateful with
    | some t => statefulSig t.set ((statefulTrees t.set t.params).getD [])
    | none => 0
  | _ => 0

/-- The largest output the operation can produce for this input length (check 5). -/
def outputMax (e : SqEntry) (v0 v1 : Option KeyView) : Nat :=
  let o := entryOpc e
  if o.km then kmOut o e v0 v1
  else if o.kem then
    let z := kemSizes o.fam o.baseSet
    match o.op with
    | 1 => 8 + z.pk
    | 2 => z.ct + z.ss
    | 3 => 8 + z.ct
    | 4 => z.ss
    | _ => 8
  else match o.fam, o.op with
  | 5, 1 => 8
  | 5, 2 => statefulSigLen v0
  | 5, 5 => 128
  | 8, 6 => agreeLen o.set
  | 8, 7 => 8
  | 9, 6 => rsaK o.set
  | 9, 7 => (oaepMax o e).getD 0
  | 2, 1 | 3, 1 | 4, 1 | 8, 1 | 9, 1 | 0x0C, 1 => 8 + (sigSizes o.fam o.set).pk
  | 2, 2 | 2, 3 | 3, 2 | 4, 2 | 4, 3 | 8, 2 | 9, 2 | 9, 3 | 0x0C, 2 => (sigSizes o.fam o.set).sig
  | 0x0A, _ => aesOut o e
  | 0x0B, 1 => if lastStage e then (hashOut o e).getD 0 else 0
  | 0x0B, 2 => if lastStage e then (macTag o e).getD 0 else 0
  | 0x0D, 1 =>
    let n := bits (entryParam e) 31 0
    if within 1 n 16777216 then n else 0
  | 0x0E, 4 => 176
  | 0x0F, 1 => 16 * frameCount e
  | 0x0F, 2 => 8
  | 0x10, 3 => 4851 + 48 * (mrMask e).length
  | _, _ => 0

/-- Check 5: the length needed, where DST_LEN is smaller (R172). -/
def outputShort (e : SqEntry) (v0 v1 : Option KeyView) : Option Nat :=
  let o := entryOpc e
  if o.isNop || o.isFence || !o.hasOutput then none
  else if e.dstLen.toNat < outputMax e v0 v1 then some (outputMax e v0 v1)
  else none

end Sys2Proof.Machine
end

