-- ==== Sys2Proof/Machine/Pinning.lean ====
section
/-! DEFINITION. Step 5 of Table - Job path: checks 3 to 5, the records made resident and pinned, the leaf,
the space, the region and the randomness a job takes before it starts (R22, R23, R172, R202, R212 to R216,
R224, R238, R249, R250, R275 to R278, R286, R307, R313, R339, R364, R365, R432 to R436, R538). -/

namespace Sys2Proof.Machine

open Sys2Proof

/-! ### What a job has been told to wait for -/

/-- A job notes a mark of `told`: 0 to 3 positions of WAIT_COUNTS, 4 CLOVE_REGION_WAITS, 5 randomness drawn,
6 sequencer chosen, 7 reseed asked for, 8 records pinned. -/
def State.mark (s : State) (k m : Nat) : State := s.modJob k fun j => { j with told := j.told ++ [m] }

/-- A job begins to wait for a pin, for job data space or for a region: counted once (R219). -/
def State.tellWait (s : State) (k pos : Nat) : State :=
  match s.job k with
  | none => s
  | some j =>
    if j.told.contains pos then s
    else (s.mark k pos).bump (if pos = 4 then 0x510003 else 0x200015) (if pos = 4 then 0 else pos) 1

/-! ### Streaming contexts -/

/-- The key of a context: 4,096 x instance + CTX. -/
def ctxKey (i : Nat) (e : SqEntry) : Nat := 4096 * i + e.ctx.toNat

/-- The entry names a streaming context (R285, R287). -/
def namesCtx (e : SqEntry) : Bool :=
  let o := entryOpc e
  o.fam == 0x0B && (o.op == 4 || entryStage e != 0)

/-- An earlier job that names the same context has not finished (R286). -/
def State.ctxHeld (s : State) (j : Job) : Bool :=
  s.jobs.any fun x => x.2.inst == j.inst && namesCtx x.2.entry && x.2.entry.ctx == j.entry.ctx &&
    decide (x.2.seq < j.seq) && x.2.phase != .finished

/-- Contexts open, and those that jobs past step 5 are about to open (R286). -/
def State.ctxCount (s : State) : Nat :=
  s.ctxs.length + (s.jobs.filter fun x => x.2.phase != .dispatched && x.2.phase != .finished &&
    namesCtx x.2.entry && (entryOpc x.2.entry).op != 4 && entryStage x.2.entry == 1).length

/-- The context cases of check 2 that are judged when the job takes the context (R286, R287). -/
def State.ctxRefused (s : State) (i : Nat) (e : SqEntry) : Bool :=
  let c := look (ctxKey i e) s.ctxs
  if (entryOpc e).op = 4 then c.isNone || e.ctx == 0 || decide (4095 < e.ctx.toNat)
  else if entryStage e = 1 then c.isSome || decide (65536 ≤ s.ctxCount)
  else match c with
    | none => true
    | some c => c.opcode != e.opcode || c.key0 != e.key0

/-! ### Records -/

/-- A record is read from the tier it lies in and made resident; none where it is lost under R22 (Table -
Tier movement, R22, R213, R219). `sealOk` says whether its sealed copy authenticates. -/
def State.loadRecord (s : State) (k : Nat) (r : KeyRecord) (sealOk : Bool) : Bool × State :=
  let resident (s : State) (pos : Nat) : Bool × State :=
    (true, (s.modRecord k fun r => { r with
      lastUse := s.now, inS := r.cacheable, inV := true, inH := false }).countTier pos 1)
  let good : Bool := sealOk && !r.badSeal
  if r.inS then resident s 0
  else if r.inV then resident s 1
  else if r.inH then
    if good then resident s 3
    else
      let s := (s.errorBit r.owner .spillFault).openFault { src := 0x0C, inst := r.owner, detail := k }
      let s := s.countTier 7 1
      if r.persistent && r.inA then resident s 2 else (false, s.removeRecord k)
  else if good then resident s 2
  else
    let s := (s.openFault { src := 0x0B, inst := r.owner, detail := k }).countTier 7 1
    (false, if s.start.readOnly then s else s.removeRecord k)

/-- A record as a key field names it is made resident. -/
def State.loadView (s : State) (v : Option KeyView) (sealOk : Bool) : Bool × State :=
  match v with
  | some (.record k r) => s.loadRecord k r sealOk
  | some (.peer k r) =>
    (true, ({ s with keys := { s.keys with
      peers := upd k (fun r => { r with inS := true, lastUse := s.now }) s.keys.peers } }).countTier
        (if r.inS then 0 else 1) 1)
  | _ => (true, s)

/-- The record indices of a job's two views. -/
def viewPins (v0 v1 : Option KeyView) : List Nat :=
  ((v0.toList ++ v1.toList).map (·.index)).eraseDups

/-- The records alone exceed the instance's or the port's TIER_S_QUOTA_KIB (R214). -/
def State.pinsTooBig (s : State) (i : Nat) (pins : List Nat) : Bool :=
  let n := (pins.map s.pinSize).sum
  decide (1024 * s.tierSOf i < n) ||
  (match s.portOf i with
   | some p => decide (1024 * s.portOd p 6 < n)
   | none => false)

/-- The records fit beside what the instance's and the port's jobs hold pinned (R214). -/
def State.pinsFit (s : State) (i : Nat) (pins : List Nat) : Bool :=
  let total (js : List (Nat × Job)) : Nat := (((pinsOf js ++ pins).eraseDups).map s.pinSize).sum
  decide (total (s.jobs.filter (·.2.inst == i)) ≤ 1024 * s.tierSOf i) &&
  (match s.portOf i with
   | some p => decide (total (s.jobs.filter fun j => s.portOf j.2.inst == some p) ≤ 1024 * s.portOd p 6)
   | none => true)

/-- The 128 bytes of Table - Stateful status (R280). -/
def statusBytes (r : KeyRecord) (t : Stateful) : Bytes :=
  fields [(1, if r.state = 1 then 0 else if r.state = 2 then 2 else 1), (1, t.set), (2, 0),
    (4, t.buildDone), (4, t.buildTotal), (4, 0), (8, t.nextLeaf), (8, t.reservedTo), (8, t.total),
    (8, t.skipped), (2, if r.state = 1 then 0 else r.pub.length), (6, 0)] ++
  (if r.state = 1 then zeros 72 else fit 72 r.pub)

/-- What a job keeps of KEY0 beside its secret and public parts: its attributes, a peer record's bytes, a
stateful key's status (R23, R280, R394, R416). -/
def viewAttrs (o : Opc) : Option KeyView → Bytes
  | some (.record k r) =>
    if o.fam = 5 then (match r.stateful with
      | some t => statusBytes r t
      | none => [])
    else r.attributes k
  | some (.slot k r) => r.attributes k
  | some (.peer _ r) => r.bytesOut
  | none => []

/-- The parameter block of a stateful KEY0. -/
def viewParams : Option KeyView → Bytes
  | some (.record _ r) => match r.stateful with
    | some t => t.params
    | none => []
  | _ => []

/-- A job pins its records as they stand (R23). -/
def State.setPins (s : State) (k : Nat) (v0 v1 : Option KeyView) : State :=
  s.modJob k fun j =>
    let o := entryOpc j.entry
    { j with
      pins := viewPins v0 v1
      pinGens := (v0.toList ++ v1.toList).map fun v => (v.index, v.gen)
      key0 := (v0.map (·.secret)).getD [], key1 := (v1.map (·.secret)).getD []
      pub0 := (v0.map fun v => v.pubFor o.fam).getD []
      peer0 := (v0.map (·.isPeer)).getD false
      attrs0 := viewAttrs o v0, attrs1 := (v1.map (·.attributes)).getD []
      params0 := viewParams v0, told := j.told ++ [8] }

/-! ### Leaves -/

/-- The tree of a lower level that a leaf falls in, and where in it: `below` is the height of the levels
under it. -/
def treeOf (leaf h below : Nat) : Nat × Nat := (leaf / 2 ^ (h + below), leaf / 2 ^ below % 2 ^ h)

/-- The lower levels of a key, each with its height and the height below it. -/
def lowerLevels : List Tree → List (Nat × Nat)
  | [] => []
  | t :: r => match r with
    | [] => [(t.h, 0)]
    | _ => (t.h, (r.map (·.h)).sum) :: lowerLevels r

/-- The trees a leaf falls in are built (R274). -/
def Stateful.leafBuilt (t : Stateful) (leaf : Nat) : Bool :=
  let ls := lowerLevels (((statefulTrees t.set t.params).getD []).drop 1)
  (List.zip ls t.subBuilt).all fun p => decide ((treeOf leaf p.1.1 p.1.2).1 ≤ p.2)

/-- A key after a leaf has been assigned: the next block is asked for once half of the present one is, up
to the last leaf (R276). -/
def Stateful.assign (t : Stateful) : Stateful :=
  let next := t.nextLeaf + 1
  { t with nextLeaf := next, journalDue := t.journalDue || (decide (t.reservedTo ≤ next + 512) && decide (t.reservedTo < t.total)) }

/-- What a key answers to a signature that asks for its next unused leaf (R274 to R278). -/
inductive LeafTurn where
  | gone | exhausted | wait
  | take (leaf : Nat)
  deriving DecidableEq, Repr

/-- A key gives its next unused leaf, waits for a journal write or a tree, or has none left (R274 to R278). -/
def State.leafTurn (s : State) (x : Nat) : LeafTurn × State :=
  match (s.record x).bind (·.stateful) with
  | none => (.gone, s)
  | some t =>
    let setT (t : Stateful) (st : Nat) : State :=
      s.modRecord x fun r => { r with stateful := some t, state := st }
    if t.total ≤ t.nextLeaf then (.exhausted, setT t 2)
    else if t.reservedTo ≤ t.nextLeaf then (.wait, setT { t with journalDue := true } 0)
    else if !t.leafBuilt t.nextLeaf then (.wait, s)
    else (.take t.nextLeaf, setT t.assign (if t.assign.total ≤ t.assign.nextLeaf then 2 else 0))

/-- STATEFUL_SIGN takes its leaf at step 5. Answers whether the job goes on. -/
def State.takeLeaf (s : State) (k : Nat) (j : Job) : Bool × State :=
  if entryOpc j.entry != ⟨5, (entryOpc j.entry).set, 2⟩ || j.leaf.isSome then (true, s)
  else
    let a := s.leafTurn (handleIndex j.entry.key0)
    match a.1 with
    | .gone => (false, a.2.endJob k .keyRefused 0)
    | .exhausted => (false, a.2.endJob k .stateExhausted 0)
    | .wait => (false, a.2)
    | .take n => (true, a.2.modJob k fun j => { j with leaf := some n })

/-! ### Job data space and regions -/

/-- Bytes of the job data area that a job takes at step 5 (R307, R312, R313, R351). -/
def dataNeed (e : SqEntry) (package : Bytes) : Nat :=
  let o := entryOpc e
  if o.fam = 7 then
    match o.op with
    | 1 => (match mceBase o.set with | 1 => 1 | 2 => 2 | _ => 4) * 2 ^ 20
    | 2 | 3 => if e.key0 = 0 then (kemSizes 7 o.set).pk else 0
    | _ => 0
  else if o == ⟨0x0E, 0, 1⟩ then fieldLe 88 2 package * 2 ^ 20
  else 0

/-- A job takes its job data space, or waits (R307). -/
def State.takeData (s : State) (k : Nat) (j : Job) (package : Bytes) : Bool × State :=
  let n := dataNeed j.entry package
  if n = 0 || j.jobData != 0 then (true, s)
  else if (s.jobs.map (·.2.jobData)).sum + n ≤ 2 ^ 30 then
    (true, s.modJob k fun j => { j with jobData := n })
  else (false, s.tellWait k 2)

/-- The Clove allocations of a job in KiB: sealed, public, matrix (Table - Lattice region sizes, Table -
Code-based region sizes, R364); none where it takes no region. -/
def regionNeed (e : SqEntry) (package : Bytes) : Option (Nat × Nat × Nat) :=
  let o := entryOpc e
  let pick (a b c : Nat) (n : Nat) : Nat := match n with | 1 => a | 2 => b | _ => c
  let kem (n op : Nat) : Nat × Nat × Nat :=
    let pub := pick 4 8 8 n
    let m := pick 2 5 8 n
    if op = 1 then (pick 12 16 20 n, pub, m)
    else if op ≤ 3 then (pick 8 12 16 n, pub, m)
    else (pick 16 24 32 n, pub, m)
  let dsa (n op : Nat) : Nat × Nat × Nat :=
    let m := pick 16 30 56 n
    if op = 1 then (pick 48 64 80 n, pick 16 24 32 n, m)
    else if op = 4 then (0, pick 24 28 36 n, m)
    else (pick 64 80 112 n, pick 16 24 32 n, m)
  if o.hybKem then some (kem (o.set - 6) o.op)
  else if o.hybSig then some (dsa (o.set - 8) o.op)
  else match o.fam with
  | 1 => some (kem o.set o.op)
  | 2 => some (dsa o.set o.op)
  | 3 => if o.op = 4 then some (0, if o.set = 1 then 8 else 16, 0) else none
  | 6 =>
    if o.op = 1 then some (pick 24 44 68 o.set, pick 8 12 16 o.set, 0)
    else if o.op ≤ 3 then some (0, pick 16 28 48 o.set, 0)
    else some (pick 40 72 116 o.set, pick 8 12 16 o.set, 0)
  | 7 =>
    let n := mceBase o.set
    if o.op = 1 then some (match n with | 1 => 48 | 2 => 64 | _ => 112, 8, 0)
    else if o.op ≤ 3 then some (0, 4, 0)
    else some (match n with | 1 => 48 | 2 => 64 | 3 => 88 | 4 => 88 | _ => 104, 4, 0)
  | 0x0E =>
    let a := fieldLe 90 2 package
    let b := fieldLe 92 2 package
    let c := fieldLe 94 2 package
    if o.op = 1 && (a != 0 || b != 0 || c != 0) then some (a, b, c) else none
  | _ => none

/-- The expanded matrix that serves a job: of a key in a record or a peer record, never of a key that
arrives in the input (R216, R242). -/
def jobMatrix (e : SqEntry) : Option Nat :=
  let o := entryOpc e
  if e.key0 = 0 || o.op = 1 then none
  else if o.fam = 1 then some (matrixKey (handleIndex e.key0) true)
  else if o.fam = 2 then some (matrixKey (handleIndex e.key0) false)
  else none

/-- The job signs in sealed float mode (R238). -/
def floats (e : SqEntry) : Bool := entryOpc e == ⟨3, (entryOpc e).set, 2⟩

/-- The sequencer of a job (R202, R238): for sealed float mode an idle one, while fewer than
FNDSA_SIGN_SEQUENCERS are reserved. -/
def State.pickSequencer (s : State) (j : Job) : Option Nat :=
  if floats j.entry then
    if (s.jobs.filter (·.2.floatMode)).length < s.odNum 0x220007 then
      s.openSequencers.find? fun q => s.queuedOn q == 0
    else none
  else
    let hint := if bit j.entry.flags.toNat 3 then (s.qp j.inst j.qp).bind (·.lastHinted) else none
    s.chooseSequencer hint (jobMatrix j.entry)

/-- A sequencer is chosen once for a job (R166, R202). -/
def State.takeSequencer (s : State) (k : Nat) (j : Job) : Bool × State :=
  if j.told.contains 6 then (true, s)
  else match s.pickSequencer j with
  | none => (false, s)
  | some q =>
    let s := s.modJob k fun j => { j with sequencer := q, floatMode := floats j.entry, told := j.told ++ [6] }
    (true, if bit j.entry.flags.toNat 3 then
      s.modQp j.inst j.qp fun x => { x with lastHinted := some q } else s)

/-- A region is allocated, or the job waits for one (R249, R250). -/
def State.takeRegion (s : State) (k : Nat) (j : Job) (package : Bytes) : Bool × State :=
  match regionNeed j.entry package with
  | none => (true, s)
  | some (a, b, c) =>
    if j.region.isSome then (true, s)
    else
      let q := ((s.job k).getD j).sequencer
      match s.findRegion q a b c (jobMatrix j.entry) with
      | some (r, s) => (true, s.modJob k fun j => { j with region := some r })
      | none => (false, s.tellWait k 4)

/-! ### Randomness -/

/-- What a job draws: bytes of its instance's DRBG, bytes of an internal instance, and whether it needs the
mask generators (R224, R270, R273, R297, R302, R325, R329, R330, R339, R398, R404, R437). -/
structure Draws where
  inst : Nat := 0
  internal : Nat := 0
  masks : Bool := false
  reseed : Bool := false

/-- The randomness an entry's operation needs; how many bytes an algorithm outside FIPS 203 to 205 takes is
its standard's (log entry 17). -/
def drawsOf (e : SqEntry) : Draws :=
  let o := entryOpc e
  if o.km then
    match o.op with
    | 2 => { internal := symLen (kmBinding e) }
    | 7 => { internal := 28 }
    | _ => {}
  else if o.kem then
    let hyb : Nat := if o.hybKem then 64 else 0
    match o.op with
    | 1 => { internal := 64 + hyb, masks := true }
    | 2 | 3 => { inst := if o.fam = 6 then 64 else 32, internal := hyb, masks := true }
    | _ => { masks := true }
  else match o.fam, o.op with
  | 2, 1 | 3, 1 | 8, 1 => { internal := 80, masks := true }
  | 4, 1 => { internal := 3 * (sigSizes 4 o.set).pk / 2, masks := true }
  | 5, 1 => { internal := 96, masks := true }
  | 9, 1 => { internal := 512, masks := true }
  | 0x0C, 1 => { internal := 112, masks := true }
  | 2, 2 => { inst := 32, masks := true }
  | 3, 2 => { inst := 96, masks := true }
  | 4, 2 => { inst := (sigSizes 4 o.set).pk / 2, masks := true }
  | 8, 2 => { internal := if o.ecdsa then 80 else 0, masks := true }
  | 9, 2 => { inst := bits e.param.toNat 7 0, masks := true }
  | 9, 6 => { inst := phLen (phAlg e) }
  | 0x0C, 2 => { inst := 32, internal := 80, masks := true }
  | 2, 3 | 4, 3 | 5, 2 | 9, 3 | 9, 7 | 8, 6 | 8, 7 => { masks := true }
  | 0x0A, 1 | 0x0A, 3 => { inst := if entryIvGen e then 12 else 0 }
  | 0x0D, 1 => { inst := 1, reseed := bit e.param.toNat 32 }
  | 0x0D, 2 => { inst := 1, reseed := true }
  | 0x10, 3 => { internal := 80, masks := true }
  | _, _ => {}

/-- A reseed that is due before the job's request, or that it asks for, is asked for once (R428, R538). -/
def State.askJobReseed (s : State) (k : Nat) (j : Job) (d : Draws) : State :=
  let g := (s.inst j.inst).drbg
  if s.rng.stopped || !g.seeded || j.told.contains 7 then s
  else if d.reseed || s.reseedDue g then (s.mark k 7).askReseed j.inst
  else s

/-- Whether the generators a job needs serve it now (R427, R429, R432, R435). -/
def State.drawsServed (s : State) (i : Nat) (d : Draws) : Bool :=
  (d.inst == 0 || s.drbgServes i) && (d.internal == 0 || s.internalServes) &&
  (!d.masks || (s.rng.masksSeeded && !s.rng.stopped))

/-- A job draws its randomness at step 5, waits for it, or ends without it (R224, R432, R434). The bytes of
RANDOM_GENERATE are drawn when it runs, after its additional input has been read (R437). -/
def State.takeRandom (s : State) (k : Nat) (j : Job) : Bool × State :=
  let d := drawsOf j.entry
  if j.told.contains 5 || (d.inst == 0 && d.internal == 0 && !d.masks) then (true, s)
  else if s.rng.stopped then (false, s.noEntropy k 2)
  else
    let s := if d.inst = 0 then s else s.askJobReseed k j d
    if s.drawsServed j.inst d then
      let own := (entryOpc j.entry).fam == 0x0D
      let a := if own || d.inst = 0 then ([], s) else s.drawInst j.inst d.inst
      let b := if d.internal = 0 then ([], a.2) else a.2.drawInternal d.internal
      (true, (b.2.modJob k fun j => { j with random := a.1 ++ b.1, waitSince := none }).mark k 5)
    else
      let due := (s.inst j.inst).drbg.seeded
      (false, s.modJob k fun j => { j with
        waitSince := some (j.waitSince.getD s.now), waitDue := due })

/-- The reserved IV_GEN count is spent when the IV is drawn; a PERSISTENT record journals the count in
blocks of 65,536 (R339). -/
def State.spendIv (s : State) (k : Nat) (j : Job) : State :=
  if j.ivReserved then
    let x := handleIndex j.entry.key0
    let c := s.ivCounts x
    let s := (s.setIv x (c.1 + 1) (c.2 - 1)).modJob k fun j => { j with ivReserved := false }
    s.modRecord x fun r =>
      { r with ivJournal := if r.persistent && r.ivJournal < r.ivUsed then r.ivJournal + 65536 else r.ivJournal }
  else s

/-! ### Recipes -/

/-- The budget in force for a run: the least of BUDGET, a non-zero BUDGET_LIMIT and RECIPE_BUDGET_MAX
(R364). -/
def State.runBudget (s : State) (e : SqEntry) (package : Bytes) : Nat :=
  let limit := bits e.param.toNat 63 32
  let b := min (fieldLe 76 4 package) (s.odNum 0x2A0005)
  if limit = 0 then b else min b limit

/-- A run pins its recipe, whose first run since the start measures it into MR1; RECIPE_INFO keeps what it
will report (R362, R364, R365). -/
def State.pinRecipe (s : State) (k : Nat) (j : Job) : State :=
  let n := recipeSlot j.entry
  match s.recipe j.inst n with
  | none => s
  | some r =>
    let o := entryOpc j.entry
    if o == ⟨0x0E, 0, 4⟩ then
      s.modJob k fun j => { j with attrs0 := r.package.take 128 ++ recipeV r.package }
    else if o == ⟨0x0E, 0, 1⟩ then
      let s := if r.measured then s else s.extendMr 1 0 (recipeV r.package)
      let s := s.modInst j.inst fun x => { x with
        recipes := upd n (fun r => { r with measured := true }) x.recipes }
      s.modJob k fun j => { j with run := some {
        recipeSlot := n, package := r.package, pc := BitVec.ofNat 64 (fieldLe 72 4 r.package)
        budget := s.runBudget j.entry r.package } }
    else s

/-! ### Step 5 as a whole -/

/-- The job reads or writes host memory for itself (R163, R168). -/
def needsBus (e : SqEntry) : Bool :=
  let o := entryOpc e
  !(o.isNop || o.isFence) && (e.srcLen != 0 || (o.hasOutput && e.dstLen != 0))

/-- The shield origin of a job: from it the quantum in force counts (R204, R209, R364). -/
def State.setOrigin (s : State) (k : Nat) : State :=
  let now := s.gov.refCount
  match s.job k with
  | none => s
  | some j =>
    let own := match j.run with
      | some r => fieldLe 80 4 r.package
      | none => 0
    s.modJob k fun j => { j with origin := some now, quantum := max own (s.quantumOf j.cls) }

/-- Step 5 ends: a job without input has its shield origin here, and one that touches no host memory runs
(R204). -/
def State.endStepFive (s : State) (k : Nat) (j : Job) : State :=
  let s := s.spendIv k j
  let s := if j.entry.srcLen = 0 || (entryOpc j.entry).isNop || (entryOpc j.entry).isFence then s.setOrigin k else s
  s.modJob k fun j => { j with phase := if needsBus j.entry then .pinned else .running }

/-- The records are pinned: the leaf, the space, the sequencer, the region and the randomness follow, each
waited for where it must be (R202, R224, R250, R275, R307). -/
def State.afterPins (s : State) (k : Nat) (j : Job) : State :=
  let package := match j.run with
    | some r => r.package
    | none => []
  let a := s.takeLeaf k j
  if !a.1 then a.2 else
  let b := a.2.takeData k j package
  if !b.1 then b.2 else
  let c := b.2.takeSequencer k j
  if !c.1 then c.2 else
  let d := c.2.takeRegion k j package
  if !d.1 then d.2 else
  let e := d.2.takeRandom k j
  if !e.1 then e.2 else e.2.endStepFive k j

/-- The records that a job's key fields name are made resident and pinned, or one of them is lost (R22,
R23, R213). -/
def State.pinAll (s : State) (k : Nat) (j : Job) (sealOk : Bool) : State :=
  let v := s.entryViews [] j.inst j.entry
  let a := s.loadView v.1 sealOk
  if !a.1 then a.2.endJob k .keyRefused 0
  else
    let same : Bool := v.1.map (·.index) == v.2.map (·.index)
    let b := if same then a else a.2.loadView v.2 sealOk
    if !b.1 then b.2.endJob k .keyRefused 1
    else
      let s := ((b.2.setPins k v.1 v.2).trimS j.inst).trimV
      let s := match jobMatrix j.entry with
        | some m => s.useMatrix m
        | none => s
      let s := s.pinRecipe k j
      match s.job k with
      | some j => s.afterPins k j
      | none => s

/-- A context is named: its idle time starts again (R287). -/
def State.touchCtx (s : State) (i : Nat) (e : SqEntry) : State :=
  if namesCtx e then { s with ctxs := upd (ctxKey i e) (fun c => { c with lastUse := s.now }) s.ctxs } else s

/-- Checks 3 to 5 in order, with the parts of check 2 that step 5 judges, then the pins (R172, R214,
R286). -/
def State.judge (s : State) (k : Nat) (j : Job) (sealOk : Bool) : State :=
  if namesCtx j.entry && s.ctxHeld j then s
  else if namesCtx j.entry && s.ctxRefused j.inst j.entry then s.refuseState k
  else match s.keyFails [] j.inst j.entry with
  | some n => s.endJob k .keyRefused n
  | none =>
    let v := s.entryViews [] j.inst j.entry
    let pins := viewPins v.1 v.2
    if s.pinsTooBig j.inst pins then s.refuseState k
    else match lengthFails j.entry with
    | some d => s.endJob k .lengthMismatch d
    | none => match outputShort j.entry v.1 v.2 with
      | some n => s.endWith k { status := .outputTooSmall, outLen := n }
      | none => if s.pinsFit j.inst pins then s.pinAll k j sealOk else s.tellWait k 1

/-- RECORDS_PINNED: step 5 of Table - Job path; a job that waits there is tried again. -/
def State.recordsPinned (s : State) (k : Nat) (sealOk : Bool) : State :=
  match s.job k with
  | none => s
  | some j =>
    if j.phase != .dispatched || !(entryOpc j.entry).defined then s
    else if j.told.contains 8 then s.afterPins k j
    else (s.touchCtx j.inst j.entry).judge k j sealOk

/-- RECORDS_PINNED. -/
def execRecordsPinned (slot : Fin 16384) (sealOk : Bool) (s : State) : Result :=
  .next (s.recordsPinned slot sealOk)

end Sys2Proof.Machine
end

