-- ==== Sys2Proof/Machine/JobInput.lean ====
section
/-! DEFINITION. Step 7 of Table - Job path: translation, fragment tables and the input of a job, checks 6 to
8 (R24, R151 to R154, R163, R169 to R172, R204, R274, R408). -/

namespace Sys2Proof.Machine

open Sys2Proof

/-! ### Translation -/

/-- A table entry permits an access: VALID, READ or WRITE, no reserved bit (Table - Translation table
entry). -/
def pteAllows (e : BitVec 64) (write : Bool) : Bool :=
  let v := e.toNat
  bit v 0 && (if write then bit v 2 else bit v 1) && bits v 63 52 == 0 && bits v 11 4 == 0

/-- The walk of the last `n` levels from a table: whether the address translates, and the entries read on
the way (R153). Each level must allow the access (DEDUCED, log entry 37). -/
def walk (pte : Nat → BitVec 64) (iova : Nat) (write : Bool) : Nat → Nat → Bool × List (Nat × BitVec 64)
  | 0, _ => (true, [])
  | n + 1, table =>
    let a := table + 8 * bits iova (20 + 9 * n) (12 + 9 * n)
    let e := pte a
    if !pteAllows e write then (false, [])
    else if n = 0 then (true, [(a, e)])
    else if bit e.toNat 3 then (n == 1 && bits e.toNat 20 12 == 0, [(a, e)])
    else
      let r := walk pte iova write n (4096 * bits e.toNat 51 12)
      (r.1, (a, e) :: r.2)

/-- A table entry as the block reads it: the cached one, else what host memory answers (R154). -/
def State.pte (s : State) (i : Nat) (ptes : List (Nat × BitVec 64)) (a : Nat) : BitVec 64 :=
  match s.trans.table.find? fun t => t.1 == i && t.2.1 == a with
  | some t => t.2.2
  | none => (look a ptes).getD 0

/-- Table entries read for an instance join the cache (R154). -/
def State.cacheTable (s : State) (i : Nat) (es : List (Nat × BitVec 64)) : State :=
  s.forEach es fun s e =>
    if s.trans.table.any fun t => t.1 == i && t.2.1 == e.1 then s
    else { s with trans := { s.trans with table := s.trans.table ++ [(i, e.1, e.2)] } }

/-- The port of an instance is in device-table mode (R142, R153). -/
def State.usesTable (s : State) (i : Nat) : Bool :=
  match s.portOf i with
  | some p => (s.port p).deviceTable
  | none => false

/-- Whether an address translates for an instance. In ATS mode a cached translation decides while it is
younger than 1 s; an address without one was translated by the host, whose denial is a command of its own
(R151 to R153). -/
def State.translates (s : State) (i : Nat) (ptes : List (Nat × BitVec 64)) (write : Bool) (a : Nat) :
    Bool × State :=
  if s.usesTable i then
    match (s.inst i).root with
    | none => (false, s)
    | some root =>
      if 2 ^ 48 ≤ a then (false, s)
      else
        let w := walk (s.pte i ptes) a write 4 root.toNat
        (w.1, s.cacheTable i w.2)
  else match s.trans.atc.find? fun e => e.inst == i && decide (e.base ≤ a) && decide (a < e.base + e.len) &&
      decide (s.now < e.since + 1000000000) with
    | some e => (if write then e.write else e.read, s)
    | none => (true, s)

/-- The first address of a range that does not translate, page after page from page `p` on, `n` pages. -/
def State.pagesFail (i : Nat) (ptes : List (Nat × BitVec 64)) (write : Bool) (start : Nat) :
    Nat → Nat → State → Option Nat × State
  | 0, _, s => (none, s)
  | n + 1, p, s =>
    let a := max start (4096 * p)
    let t := s.translates i ptes write a
    if t.1 then State.pagesFail i ptes write start n (p + 1) t.2 else (some a, t.2)

/-- The first address of `n` bytes that does not translate. -/
def State.rangeFails (s : State) (i : Nat) (ptes : List (Nat × BitVec 64)) (write : Bool) (a n : Nat) :
    Option Nat × State :=
  if n = 0 then (none, s)
  else State.pagesFail i ptes write a ((a + n - 1) / 4096 - a / 4096 + 1) (a / 4096) s

/-- The first address of a list of pieces that does not translate. -/
def State.piecesFail (i : Nat) (ptes : List (Nat × BitVec 64)) (write : Bool) :
    List (Nat × Nat) → State → Option Nat × State
  | [], s => (none, s)
  | p :: r, s =>
    let t := s.rangeFails i ptes write p.1 p.2
    match t.1 with
    | some a => (some a, t.2)
    | none => State.piecesFail i ptes write r t.2

/-! ### Fragment tables -/

/-- The fragment table as it was read: exactly the number of entries declared (R169). -/
def tableOf (n : Nat) (t : List FragEntry) : List FragEntry := (List.range n).map fun i => t.getD i {}

/-- The lengths of a fragment table's pieces, summed. -/
def fragSum (t : List FragEntry) : Nat := (t.map (·.length.toNat)).sum

/-- A fragment table is valid for a declared length (R170). -/
def fragsValid (t : List FragEntry) (len : Nat) : Bool :=
  within 1 t.length 4096 && fragSum t == len &&
  (t.getLast?.map fun e => bit e.flags.toNat 0) == some true &&
  t.dropLast.all fun e => !bit e.flags.toNat 0

/-- The pieces of one side: the fragments, or the one contiguous range (R163, R169). -/
def sidePieces (ind : Bool) (base len : Nat) (t : List FragEntry) : List (Nat × Nat) :=
  if len = 0 then []
  else if ind then (t.filter (·.length != 0)).map fun e => (e.iova.toNat, e.length.toNat)
  else [(base, len)]

/-! ### The input of a job -/

/-- The source side of an entry is used. -/
def usesSrc (e : SqEntry) : Bool := e.srcLen != 0 && !(entryOpc e).isNop && !(entryOpc e).isFence
/-- The destination side of an entry is used (R163). -/
def usesDst (e : SqEntry) : Bool := e.dstLen != 0 && (entryOpc e).hasOutput

/-- SRC_IND, where the source side is used. -/
def srcInd (e : SqEntry) : Bool := usesSrc e && bit e.flags.toNat 0
/-- DST_IND, where the destination side is used. -/
def dstInd (e : SqEntry) : Bool := usesDst e && bit e.flags.toNat 1

/-- Bytes of output space an entry has. -/
def dstBytes (e : SqEntry) : Nat := if usesDst e then e.dstLen.toNat else 0

/-- Check 6: the first address of a fragment table that does not translate for reading. -/
def State.tablesFail (s : State) (i : Nat) (e : SqEntry) (ptes : List (Nat × BitVec 64)) :
    Option Nat × State :=
  let src := if srcInd e then [(e.src.toNat, 16 * e.srcFrags.toNat)] else []
  let dst := if dstInd e then [(e.dst.toNat, 16 * e.dstFrags.toNat)] else []
  State.piecesFail i ptes false (src ++ dst) s

/-- Check 7: the DETAIL of a fragment table that is not valid. -/
def badTable (e : SqEntry) (input : JobInput) : Option Nat :=
  let src := tableOf e.srcFrags.toNat input.srcTable
  let dst := tableOf e.dstFrags.toNat input.dstTable
  if srcInd e && !fragsValid src e.srcLen.toNat then some (fragSum src % 2 ^ 32)
  else if dstInd e && !fragsValid dst e.dstLen.toNat then some (2 ^ 32 + fragSum dst % 2 ^ 32)
  else none

/-- The pieces of an entry's source and of its output space. -/
def srcPieces (e : SqEntry) (input : JobInput) : List (Nat × Nat) :=
  if usesSrc e then sidePieces (srcInd e) e.src.toNat e.srcLen.toNat (tableOf e.srcFrags.toNat input.srcTable)
  else []
/-- The pieces of the output space. -/
def dstPieces (e : SqEntry) (input : JobInput) : List (Nat × Nat) :=
  if usesDst e then sidePieces (dstInd e) e.dst.toNat e.dstLen.toNat (tableOf e.dstFrags.toNat input.dstTable)
  else []

/-- Check 8: the DETAIL of the first source or destination address that does not translate. -/
def State.sidesFail (s : State) (i : Nat) (e : SqEntry) (input : JobInput) : Option Nat × State :=
  let a := State.piecesFail i input.ptes false (srcPieces e input) s
  match a.1 with
  | some x => (some (x % 2 ^ 48), a.2)
  | none =>
    let b := State.piecesFail i input.ptes true (dstPieces e input) a.2
    (b.1.map fun x => 2 ^ 48 + x % 2 ^ 48, b.2)

/-! ### Lengths the input itself gives -/

/-- A key update's message has the lengths its header gives: SRC_LEN 6,435 + P and DST_LEN 8 bytes for each
new record (R406, R408); the DETAIL or the OUT_LEN of a failure. -/
def updateLengths (e : SqEntry) (data : Bytes) : Option JobResult :=
  if entryOpc e != ⟨0x0C, 0, 1⟩ then none
  else if e.srcLen.toNat != 6435 + fieldLe 12 4 data then
    some { status := .lengthMismatch, detail := BitVec.ofNat 64 e.srcLen.toNat }
  else if e.dstLen.toNat < 8 * fieldLe 24 4 data then
    some { status := .outputTooSmall, outLen := 8 * fieldLe 24 4 data }
  else none

/-- The trees of a stateful key to be generated find no room in the key record area (R274). -/
def State.treesRefused (s : State) (e : SqEntry) (data : Bytes) : Bool × State :=
  let o := entryOpc e
  if o.fam = 5 && o.op = 1 then
    match statefulTrees o.set data with
    | none => (false, s)
    | some ts =>
      let s := s.makeRoomV (128 + treeBytes ts)
      (!s.roomV (128 + treeBytes ts), s)
  else (false, s)

/-! ### The arrival -/

/-! ### What QUOTE takes at the origin -/

/-- The body of a quote: the selected measurement registers, the log count and the boot counts in one
snapshot at the shield origin (Table - Quote body, R297). -/
def State.quoteBody (s : State) (i : Nat) (e : SqEntry) (nonce : Bytes) : Bytes :=
  let mask := bits e.param.toNat 39 0
  ascii "KQ9QUOTE" ++ fields [(2, 1), (2, i), (4, 0)] ++ s.identityDigest ++ fit 32 nonce ++
  fields [(8, s.time64.toNat), (4, s.meas.mlog.length), (4, s.start.fwVersion), (1, s.lcState),
    (1, if s.warden.debugFlag then 1 else 0), (6, 0), (8, mask)] ++
  fields ((List.range 4).map fun p => (2, (s.port p).bootCount)) ++ zeros 8 ++
  ((mrMask e).flatMap fun k => fit 48 (s.meas.mr.getD k []))

/-- The opcode is QUOTE. -/
def Opc.isQuote (o : Opc) : Bool := o == ⟨0x10, 0, 3⟩

/-! ### The start -/

/-- The input of a job is in its sequencer's local bank: the shield origin, from which it runs (R24 steps 6
and 7, R204). -/
def State.startRun (s : State) (k : Nat) (e : SqEntry) (input : JobInput) : State :=
  let s := if usesSrc e then s.setOrigin k else s
  s.modJob k fun j => { j with
    phase := .running, dst := dstPieces e input
    attrs1 := if (entryOpc e).isQuote then s.quoteBody j.inst e input.data else j.attrs1
    input := if usesSrc e then fit e.srcLen.toNat input.data else [] }

/-- What follows check 8: the lengths and the room that only the input shows, then the start. -/
def State.acceptInput (s : State) (k : Nat) (e : SqEntry) (input : JobInput) : State :=
  match updateLengths e (fit e.srcLen.toNat input.data) with
  | some r => s.endWith k r
  | none =>
    let t := s.treesRefused e input.data
    if t.1 then t.2.tierVFull.refuseState k else t.2.startRun k e input

/-- JOB_INPUT_ARRIVED: checks 6 to 8, then the start of the operation (R24 step 7, R172). -/
def State.jobInputArrived (s : State) (k : Nat) (input : JobInput) : State :=
  match s.job k with
  | none => s
  | some j =>
    if j.phase != .pinned then s
    else
      let e := j.entry
      let a := s.tablesFail j.inst e input.ptes
      match a.1 with
      | some x => a.2.endJob k .translationFault (x % 2 ^ 48)
      | none => match badTable e input with
        | some d => a.2.endJob k .lengthMismatch d
        | none =>
          let b := a.2.sidesFail j.inst e input
          match b.1 with
          | some d => b.2.endJob k .translationFault d
          | none => b.2.acceptInput k e input

/-- JOB_INPUT_ARRIVED. -/
def execJobInputArrived (slot : Fin 16384) (input : JobInput) (s : State) : Result :=
  .next (s.jobInputArrived slot input)

end Sys2Proof.Machine
end

