-- ==== Sys2Proof/Machine/KeyChecks.lean ====
section
/-! DEFINITION. The checks of public keys that reach the block from outside: those KM_IMPORT_PUBLIC, update
messages and operations with a key in the input apply (R228, R281, R304, R326, R331, R398, R408, R416). -/

namespace Sys2Proof.Machine

open Sys2Proof

/-- The 12-bit coefficients of an ML-KEM key's bytes, three bytes holding two (FIPS 203 ByteEncode). -/
def coeffs12 : Bytes → List Nat
  | a :: b :: c :: r =>
    let v := a.toNat + 256 * b.toNat + 65536 * c.toNat
    v % 4096 :: v / 4096 :: coeffs12 r
  | _ => []

/-- The modulus check of FIPS 203 on an encapsulation key (R228). -/
def mlkemKeyOk (set : Nat) (ek : Bytes) : Bool :=
  ek.length == (kemSizes 1 set).pk && (coeffs12 (ek.take (384 * (set + 1)))).all fun c => decide (c < 3329)

/-- The HQC length n of a set (R299). -/
def hqcN : Nat → Nat
  | 1 => 17669 | 2 => 35851 | _ => 57637

/-- No bit of s above bit n - 1 is set (R304). -/
def hqcKeyOk (set : Nat) (pk : Bytes) : Bool :=
  pk.length == (kemSizes 6 set).pk &&
  (match pk.getLast? with
   | some b => decide (b.toNat < 2 ^ (hqcN set % 8))
   | none => false)

/-- The last bytes of the rows of a byte string, `w` bytes a row. -/
def rowEnds (w : Nat) (b : Bytes) : List Byte := (List.range (b.length / w)).map fun i => b.getD (w * i + w - 1) 0

/-- No padding bit of a row of T is set: mceliece6960119 alone has any, three in each of its rows of 5,413
bits (R304). -/
def mceKeyOk (set : Nat) (pk : Bytes) : Bool :=
  pk.length == (kemSizes 7 set).pk && (set != 4 || (rowEnds 677 pk).all fun b => decide (b.toNat < 32))

/-- An elliptic-curve public key that decodes to a point of its curve other than the identity; every
u-coordinate of X25519 and X448 is taken as RFC 7748 decodes it (R326). -/
def ecKeyOk (set : Nat) (pk : Bytes) : Bool :=
  pk.length == (sigSizes 8 set).pk && (decide (6 ≤ set) || Config.check (.ecPointValid set) [pk])

/-- An RSA public key: n with its top bit set, e odd and at least 65,537 (R331). -/
def rsaKeyOk (set : Nat) (pk : Bytes) : Bool :=
  let e := ofBe (pk.drop (rsaK set))
  pk.length == rsaK set + 4 && (match pk with
    | b :: _ => decide (128 ≤ b.toNat)
    | [] => false) && e % 2 == 1 && decide (65537 ≤ e)

/-- The top tree of a stateful public key by its typecodes, which its standard writes big-endian first
(R271, R281, RFC 8554, RFC 8391): the length of n. -/
def statefulPkN (set : Nat) (pk : Bytes) : Option Nat :=
  let word (i : Nat) : Nat := ofBe (slice (4 * i) 4 pk)
  match set with
  | 1 => (lmsTree (word 0) (word 1)).bind fun t => if t.h = 5 then none else some t.n
  | 2 => if within 2 (word 0) 8 then (lmsTree (word 1) (word 2)).map (·.n) else none
  | 3 => (xmssType (word 0)).map (·.1)
  | _ => (xmssmtType (word 0)).map fun _ => 32

/-- A stateful public key decodes under Table - Stateful parameters (R281). -/
def statefulKeyOk (set : Nat) (pk : Bytes) : Bool :=
  match statefulPkN set pk with
  | none => false
  | some n => pk.length == (match set with
    | 1 => 24 + n
    | 2 => 28 + n
    | _ => 4 + 2 * n)

/-- A public key of a family and set passes the checks of its chapter (R398). -/
def publicOk (fam set : Nat) (pk : Bytes) : Bool :=
  match fam with
  | 1 => mlkemKeyOk set pk
  | 2 => pk.length == (sigSizes 2 set).pk
  | 3 => pk.length == (sigSizes 3 set).pk && Config.check (.fndsaKeyValid set) [pk]
  | 4 => pk.length == (sigSizes 4 set).pk
  | 5 => statefulKeyOk set pk
  | 6 => hqcKeyOk set pk
  | 7 => mceKeyOk set pk
  | 8 => ecKeyOk set pk
  | 9 => rsaKeyOk set pk
  | _ => match set with
    | 8 => mlkemKeyOk 2 (pk.take 1184) && ecKeyOk 6 (pk.drop 1184)
    | 9 => mlkemKeyOk 3 (pk.take 1568) && ecKeyOk 2 (pk.drop 1568)
    | 10 => (pk.take 1952).length == 1952 && ecKeyOk 1 (pk.drop 1952)
    | _ => (pk.take 2592).length == 2592 && ecKeyOk 2 (pk.drop 2592)

/-- A public key of an asymmetric binding passes the checks of its chapter. -/
def bindingPublicOk (b : BitVec 16) (pk : Bytes) : Bool :=
  asymBinding b && publicOk (bindOpc b).fam (bindOpc b).set pk

end Sys2Proof.Machine
end

