-- ==== Sys2Proof/Machine/Updates.lean ====
section
/-! DEFINITION. Authenticated update messages: their layout, the checks 3 to 11 of R408, and what the items
of an accepted one change (R388, R390, R406 to R411, R416, R419). -/

namespace Sys2Proof.Machine

open Sys2Proof

/-! ### Items -/

/-- One item of a payload: TYPE and content. -/
structure Item where
  type : Nat
  body : Bytes
  deriving DecidableEq, Repr

/-- The items of a decrypted payload, at most `n` of them (R407). -/
def parseItems : Nat → Bytes → Option (List Item)
  | 0, b => if b.isEmpty then some [] else none
  | n + 1, b =>
    if b.isEmpty then some []
    else
      let len := fieldLe 4 4 b
      if b.length < 8 + len then none
      else (parseItems n (b.drop (8 + len))).map fun r => ⟨fieldLe 0 2 b, slice 8 len b⟩ :: r

/-- The fields of a KEY_WRITE item. -/
structure KeyWrite where
  owner : Nat
  cls : Nat
  binding : BitVec 16
  flags : Nat
  target : BitVec 64
  keyLen : Nat
  publicLen : Nat
  secret : Bytes
  pub : Bytes

/-- A KEY_WRITE item's content (Table - Update items). -/
def keyWriteOf (b : Bytes) : KeyWrite :=
  let k := fieldLe 16 4 b
  let p := fieldLe 20 4 b
  { owner := fieldLe 0 2 b, cls := fieldLe 2 1 b, binding := BitVec.ofNat 16 (fieldLe 4 2 b)
    flags := fieldLe 6 2 b, target := BitVec.ofNat 64 (fieldLe 8 8 b), keyLen := k, publicLen := p
    secret := slice 32 k b, pub := slice (32 + k) p b }

/-- Length of the signature key of a peer record (R416). -/
def peerSigLen : Nat → Nat
  | 0 => 0 | 1 => 1312 | 2 => 1952 | 3 => 897 | _ => 1793

/-- Length of the ML-KEM key of a peer record. -/
def peerKemLen (n : Nat) : Nat := if n = 0 then 0 else (kemSizes 1 n).pk

/-- The record a PEER_WRITE item writes, and its index (Table - Update items). -/
def peerWriteOf (b : Bytes) : Nat × Peer :=
  let sig := fieldLe 6 1 b
  (fieldLe 0 4 b,
    { owner := fieldLe 4 2 b, sigSet := sig, mlkemSet := fieldLe 7 1 b
      peerId := BitVec.ofNat 64 (fieldLe 8 8 b), secretPresent := fieldLe 16 1 b != 0
      secret := slice 24 32 b, sigPk := slice 56 (peerSigLen sig) b
      mlkemPk := b.drop (56 + peerSigLen sig) })

/-- The entry and value of a DICT_WRITE item. -/
def dictWriteOf (b : Bytes) : Nat × Bytes := (256 * fieldLe 0 2 b + fieldLe 2 1 b, b.drop 8)

/-! ### Check 10: items well formed -/

/-- A class that holds a public key alone: VERIFY_ONLY, ENCAPSULATE_ONLY, and ENCRYPT_ONLY of RSA. -/
def publicClass (cls : Nat) : Bool := cls == 8 || cls == 10 || cls == 1

/-- The parts of an asymmetric KEY_WRITE have the sizes of its binding: a record kept from a KEM holds its
shared secret, a STATEFUL key's private part is never carried (R279, R392, R408). -/
def asymPartsOk (w : KeyWrite) : Bool :=
  let o := bindOpc w.binding
  let known : Bool := bindingPublicOk w.binding w.pub
  if publicClass w.cls then w.keyLen == 0 && known
  else if w.cls = 4 && o.kem then w.keyLen == (kemSizes o.fam o.set).ss && w.publicLen == 0
  else o.fam != 5 && w.keyLen == privateLen w.binding && known

/-- A KEY_WRITE item is well formed (R393, R408). -/
def keyWriteOk (b : Bytes) : Bool :=
  let w := keyWriteOf b
  decide (32 ≤ b.length) && b.length == 32 + w.keyLen + w.publicLen && classPairs w.cls w.binding &&
  decide (w.flags < 16) && (!bit w.flags 3 || (w.cls == 7 && (bindOpc w.binding).fam == 3)) &&
  (if (symLens w.binding).isSome then symLenOk w.binding w.keyLen && w.publicLen == 0 else asymPartsOk w)

/-- The signature key of a peer record passes its standard's checks (R416). -/
def peerSigOk (set : Nat) (pk : Bytes) : Bool :=
  match set with
  | 0 => pk.isEmpty
  | 1 | 2 => publicOk 2 set pk
  | _ => publicOk 3 (set - 2) pk

/-- A PEER_WRITE item is well formed. -/
def peerWriteOk (b : Bytes) : Bool :=
  let sig := fieldLe 6 1 b
  let kem := fieldLe 7 1 b
  let r := peerWriteOf b
  decide (fieldLe 0 4 b < 1048576) && decide (sig ≤ 4) && decide (kem ≤ 3) && decide (fieldLe 16 1 b ≤ 1) &&
  b.length == 56 + peerSigLen sig + peerKemLen kem && peerSigOk sig r.2.sigPk &&
  (kem == 0 || mlkemKeyOk kem r.2.mlkemPk)

/-- An item is well formed (check 10). -/
def Item.ok (x : Item) : Bool :=
  let n := x.body.length
  match x.type with
  | 1 => keyWriteOk x.body
  | 2 => n == 8
  | 3 => peerWriteOk x.body
  | 4 => n == 8 && decide (fieldLe 0 4 x.body < 1048576)
  | 5 => decide (8 ≤ n) && fieldLe 4 4 x.body == n - 8
  | 6 => n == 32
  | 7 => n == 2689
  | 8 => n == 0
  | _ => false

/-- A KEY_WRITE with TARGET 0. -/
def Item.isNew (x : Item) : Bool := x.type == 1 && (keyWriteOf x.body).target == 0

/-! ### Check 11: items applicable -/

/-- What an item names: the handle it replaces or deletes, or a peer index above every handle. -/
def Item.names (x : Item) : Option Nat :=
  match x.type with
  | 1 => if x.isNew then none else some (keyWriteOf x.body).target.toNat
  | 2 => some (fieldLe 0 8 x.body)
  | 3 | 4 => some (2 ^ 64 + fieldLe 0 4 x.body)
  | _ => none

/-- No value stands twice in a list. -/
def noTwice : List Nat → Bool
  | [] => true
  | a :: r => !r.contains a && noTwice r

/-- The key record that a handle names, whoever owns it. -/
def State.keyNamed (s : State) (h : BitVec 64) : Option (Nat × KeyRecord) :=
  match s.viewOf (handleOwner h) h with
  | some (.record k r) => some (k, r)
  | _ => none

/-- Records that KEY_WRITE items add to an owner: new ones, and replacements that come from another owner. -/
def State.addedTo (s : State) (xs : List Item) (mine : Nat → Bool) : Nat :=
  (xs.filter fun x => x.type == 1 && mine (keyWriteOf x.body).owner &&
    (x.isNew || (match s.keyNamed (keyWriteOf x.body).target with
      | some r => !mine r.2.owner
      | none => false))).length

/-- The quotas of the owners and of their ports suffice for the records the items add; deletions of the same
message make no room, for the present state decides (R407, R408). -/
def State.ownersFit (s : State) (xs : List Item) : Bool :=
  let owners := ((xs.filter (·.type == 1)).map fun x => (keyWriteOf x.body).owner).eraseDups
  owners.all fun i =>
    decide (s.recordsOf i + (s.inst i).reserved + s.addedTo xs (· == i) ≤ s.recQuotaOf i) &&
    (match s.portOf i with
     | none => false
     | some p =>
       let held := ((s.insts.filter fun n => s.portOf n.1 == some p).map fun n => n.2.reserved).sum
       decide (s.recordsOfPort p + held + s.addedTo xs (fun j => s.portOf j == some p) ≤ s.portOd p 5))

/-- Key record bytes that the items add to tier V. -/
def itemBytes (xs : List Item) : Nat :=
  ((xs.filter (·.type == 1)).map fun x =>
    roundUp (64 + (keyWriteOf x.body).keyLen + (keyWriteOf x.body).publicLen) 64).sum

/-- Values that DICT_WRITE items write, in item order. -/
def dictWrites (xs : List Item) : List (Nat × Bytes) :=
  (xs.filter (·.type == 5)).map fun x => dictWriteOf x.body

/-- A DICT_WRITE value passes R113: a writable entry that holds a value, its length, range and present
state; no open transaction has it staged (R407, R408). -/
def State.dictOk (s : State) (all : List (Nat × Bytes)) (w : Nat × Bytes) : Bool :=
  match entryDef (keyOf w.1) with
  | none => false
  | some d =>
    (d.access == .rw || d.access == .rwt) && d.ty.sizeOk w.2.length && lengthOk w.1 w.2.length &&
    rangeOk w.1 d w.2 && !s.commitRefuses all w.1 w.2 &&
    !(s.mgmt.txn.open_ && (look w.1 s.mgmt.txn.staged).isSome)

/-- An owner exists and is not UNALLOCATED. -/
def State.ownerOk (s : State) (i : Nat) : Bool := decide (i < 1024) && s.instState i != .unallocated

/-- One item can be applied in the present state. -/
def State.itemFits (s : State) (all : List (Nat × Bytes)) (x : Item) : Bool :=
  match x.type with
  | 1 =>
    let w := keyWriteOf x.body
    s.ownerOk w.owner && (w.target == 0 || (s.keyNamed w.target).isSome)
  | 2 => (s.keyNamed (BitVec.ofNat 64 (fieldLe 0 8 x.body))).isSome
  | 3 => s.ownerOk (fieldLe 4 2 x.body)
  | 4 => (look (fieldLe 0 4 x.body) s.keys.peers).isSome
  | 5 => s.dictOk all (dictWriteOf x.body)
  | _ => true

/-- Every item can be applied in the present state (check 11). -/
def State.itemsFit (s : State) (xs : List Item) : Bool :=
  (xs.all fun x => s.itemFits (dictWrites xs) x) && noTwice (xs.filterMap Item.names) && s.ownersFit xs &&
  decide (s.keys.records.length + (xs.filter Item.isNew).length ≤ 0x400000) && s.roomV (itemBytes xs) &&
  decide (s.otp.genBits + (xs.filter (·.type == 8)).length ≤ 4096)

/-! ### The message -/

/-- P, the length of a message's payload. -/
def payloadLen (m : Bytes) : Nat := fieldLe 12 4 m

/-- Check 3: MAGIC, VERSION, COUNTER_ID and reserved fields (R406, R408). -/
def updateHeader (m : Bytes) : Bool :=
  m.take 8 == ascii "KQ9UPDAT" && fieldLe 8 2 m == 1 && decide (fieldLe 10 1 m ≤ 15) &&
  fieldLe 11 1 m == 0 && fieldLe 28 4 m == 0 && fieldLe 104 8 m == 0 && fieldLe 1692 4 m == 0

/-- The signed part of a message: bytes 0 to 1,711 + P. -/
def signedPart (m : Bytes) : Bytes := m.take (1712 + payloadLen m)

/-- Check 8: both signatures verify under the authority keys (R406). -/
def State.updateSigned (s : State) (m : Bytes) : Bool :=
  let p := payloadLen m
  mldsaOk 3 s.keys.authMldsa (pureMsg (ascii "KQ9-UPDATE") (signedPart m)) (slice (1712 + p) 4627 m) &&
  ecdsaOk 2 s.keys.authP384 (sha384 (signedPart m)) (slice (6339 + p) 96 m)

/-- Check 9: the payload, where its tag verifies under the payload key (R406). -/
def State.updatePayload (s : State) (m : Bytes) : Option Bytes :=
  let p := payloadLen m
  let ss := mlkemShared 3 s.transportPair.sk (slice 112 1568 m)
  let key := kmac256 ss (m.take 112) (ascii "KQ9-UPDATE") 32
  gcmOpen key (slice 1680 12 m) (m.take 1696) (slice 1696 p m) (slice (1696 + p) 16 m)

/-- The items of a message that passes check 9, where they are well formed (check 10). -/
def updateItems (m payload : Bytes) : Option (List Item) :=
  match parseItems 65536 payload with
  | none => none
  | some xs =>
    if xs.all Item.ok && (xs.filter Item.isNew).length == fieldLe 24 4 m then some xs else none

/-- Check 7: the status of a NOT_AFTER that is not met (R408). -/
def State.notAfter (s : State) (m : Bytes) : Option Status :=
  let t := fieldLe 96 8 m
  if t = 0 then none
  else if s.clk.devTime.isNone || s.timeState == 0 then some .stateConflict
  else if t < s.time64.toNat then some .inputRejected
  else none

/-- Checks 3 to 11 of R408: the items, or the check that fails and its status. -/
def State.judgeUpdate (s : State) (m : Bytes) : Except (Nat × Status) (List Item) :=
  if !updateHeader m then .error (3, .inputRejected)
  else if slice 32 32 m != s.identityDigest then .error (4, .inputRejected)
  else if slice 64 32 m != s.keys.domainId then .error (5, .inputRejected)
  else if fieldLe 16 8 m ≤ s.keys.counters.getD (fieldLe 10 1 m) 0 then .error (6, .inputRejected)
  else match s.notAfter m with
  | some st => .error (7, st)
  | none =>
    if !s.updateSigned m then .error (8, .inputRejected)
    else match s.updatePayload m with
    | none => .error (9, .inputRejected)
    | some payload => match updateItems m payload with
      | none => .error (10, .inputRejected)
      | some xs => if s.itemsFit xs then .ok xs else .error (11, .stateConflict)

/-- A message is refused: counted, and for checks 3 to 11 with its event (R408, R421). -/
def State.updateRefused (s : State) (check : Nat) : State :=
  let s := s.bump 0x230010 0 1
  if check ≤ 2 then s else s.event .updateRefused (le 1 check)

/-! ### Applying a message -/

/-- A KEY_WRITE creates a record, or replaces one: the replacement takes the named owner, a new generation
and the next VERSION (R390, R394, R407). Answers the new record's handle. -/
def State.writeKey (s : State) (w : KeyWrite) : Bytes × State :=
  let r : KeyRecord := {
    owner := w.owner, cls := w.cls, binding := w.binding, flags := BitVec.ofNat 32 (w.flags + 128)
    secret := w.secret, pub := w.pub, origin := 4 }
  if w.target = 0 then
    match s.freeIndex with
    | none => ([], s)
    | some k => (le 8 (handle r.owner k (s.genOf k)).toNat, s.createAt k r)
  else match s.keyNamed w.target with
  | none => ([], s)
  | some (k, old) =>
    ([], ((s.removeRecord k).createAt k r).modRecord k fun x => { x with
      version := old.version + 1, createTime := old.createTime, parent := old.parent })

/-- A PEER_WRITE creates or replaces a peer record, with a new generation where it replaces (R390, R416). -/
def State.writePeer (s : State) (k : Nat) (p : Peer) : State :=
  let s := s.removePeer k
  let p := { p with gen := s.genOf (peerBase + k), enrolTime := s.time64 }
  { s with keys := { s.keys with peers := put k p s.keys.peers } }

/-- One item is applied; a new record's handle is answered (R407). -/
def State.applyItem (s : State) (x : Item) : Bytes × State :=
  match x.type with
  | 1 => s.writeKey (keyWriteOf x.body)
  | 2 => match s.keyNamed (BitVec.ofNat 64 (fieldLe 0 8 x.body)) with
    | some r => ([], s.removeRecord r.1)
    | none => ([], s)
  | 3 => ([], s.writePeer (peerWriteOf x.body).1 (peerWriteOf x.body).2)
  | 4 => ([], s.removePeer (fieldLe 0 4 x.body))
  | 5 => ([], s.applyEntry (dictWriteOf x.body).1 (dictWriteOf x.body).2)
  | 6 => ([], { s with keys := { s.keys with domainSecret := some x.body } })
  | 7 => ([], { s with keys := { s.keys with
      authMldsa := x.body.take 2592, authP384 := x.body.drop 2592 } })
  | _ => ([], s.advanceGeneration)

/-- The items in order, and the handles of the new records. -/
def State.applyItems : List Item → State → Bytes × State
  | [], s => ([], s)
  | x :: r, s =>
    let a := s.applyItem x
    let b := State.applyItems r a.2
    (a.1 ++ b.1, b.2)

/-- A message that passes is applied at one commit point, with the counter's new value (R409, R410); the
pause of dispatch is left open within its bound (log entry 7). -/
def State.applyUpdate (s : State) (m : Bytes) (xs : List Item) : Bytes × State :=
  let a := State.applyItems xs s
  let s := { a.2 with keys := { a.2.keys with
    counters := a.2.keys.counters.set (fieldLe 10 1 m) (fieldLe 16 8 m) } }
  let r := s.take 4
  (a.1, { r.2 with mgmt := { r.2.mgmt with
    txn := { r.2.mgmt.txn with lastPauseNs := ofLe r.1 % 50001 } } })

end Sys2Proof.Machine
end

