-- ==== Sys2Proof/Machine/LastActs.lean ====
section
/-! DEFINITION. The end of a job's computation: its last acts, its output, the hold of the timing shield, and
how an operation's outcome is taken (R20, R23, R24 steps 8 to 12, R30, R34, R174, R175, R199, R204 to R207,
R225, R287, R340, R417). -/

namespace Sys2Proof.Machine

open Sys2Proof

/-! ### Last acts -/

/-- The generation of a record that a last act changes has changed since the job pinned it: the key field it
names (R23). -/
def State.actRefused (s : State) : LastAct → Option Nat
  | .deleteRecord k gen field => match s.record k with
    | some r => if r.gen = gen then none else some field
    | none => some field
  | .peerSecret p pg k gen _ =>
    let peer : Bool := match look p s.keys.peers with
      | some r => r.gen == pg
      | none => false
    let key : Bool := match s.record k with
      | some r => r.gen == gen
      | none => false
    if !peer then some 0 else if !key then some 1 else none
  | .revokePeer p gen => match look p s.keys.peers with
    | some r => if r.gen = gen then none else some 0
    | none => some 0
  | _ => none

/-- A new record takes the place its job reserved; its handle begins the output (R225). -/
def State.actCreate (s : State) (k : Nat) (j : Job) (r : KeyRecord) : Bytes × State :=
  match s.freeIndex with
  | none => ([], s)
  | some x =>
    let s := (s.returnPlaces j).modJob k fun j => { j with reservedPlaces := 0 }
    (le 8 (handle r.owner x (s.genOf x)).toNat, s.createAt x r)

/-- A peer record takes its pairwise secret, and the record it came from is deleted (R417). -/
def State.actPeerSecret (s : State) (p k : Nat) (secret : Bytes) : State :=
  let s := { s with keys := { s.keys with
    peers := upd p (fun r => { r with secret := secret, secretPresent := true }) s.keys.peers } }
  s.removeRecord k

/-- A job-scoped record that its run retained becomes an ordinary record, in tier A first where it is PERSISTENT
(R358). -/
def State.actRetain (s : State) (h : BitVec 64) : State :=
  s.modRecord (handleIndex h) fun r =>
    if r.gen = handleGen h && r.flag 6 then { r with flags := r.flags - 64, inA := r.persistent } else r

/-- A last act, and the bytes it puts before the output. -/
def State.applyAct (s : State) (k : Nat) (j : Job) : LastAct → Bytes × State
  | .createRecord r => s.actCreate k j r
  | .deleteRecord x _ _ => ([], s.removeRecord x)
  | .peerSecret p _ x _ secret => ([], s.actPeerSecret p x secret)
  | .revokePeer p _ => ([], { s with keys := { s.keys with
      peers := upd p (fun r => { r with revoked := true }) s.keys.peers } })
  | .loadRecipe i n r => ([], s.modInst i fun x => { x with recipes := put n r x.recipes })
  | .unloadRecipe i n => ([], s.modInst i fun x => { x with recipes := del n x.recipes })
  | .storeCtx c v => ([], { s with ctxs := put c { v with lastUse := s.now } s.ctxs })
  | .closeCtx c => ([], { s with ctxs := del c s.ctxs })
  | .extendMeasure mr source _ v => ([], s.extendMr mr source v)
  | .retainKeys hs => ([], s.forEach hs State.actRetain)
  | .update m => match s.judgeUpdate m with
    | .ok xs =>
      let a := s.applyUpdate m xs
      (a.1, a.2.followNetwork s)
    | .error _ => ([], s)

/-- Last acts in order, and the bytes they put before the output. -/
def State.applyActs (k : Nat) (j : Job) : List LastAct → State → Bytes × State
  | [], s => ([], s)
  | a :: r, s =>
    let x := s.applyAct k j a
    let y := State.applyActs k j r x.2
    (x.1 ++ y.1, y.2)

/-! ### Output -/

/-- The result is written: the acts, then the output at the pieces of DST, then the collector (R24 steps 10 to
12, R175). A KM_DELETE or PEER job whose record has changed since it was pinned changes nothing (R23). -/
def State.deliver (s : State) (k : Nat) : State :=
  match s.job k with
  | none => s
  | some j =>
    let r := j.result
    let done (s : State) (r : JobResult) (b : Bytes) : State :=
      ((s.writeDst j b).modJob k fun j => { j with result := { r with outLen := b.length, acts := [] } }).collect k
    if r.status == .ok then
      match r.acts.findSome? s.actRefused with
      | some field => done s { status := .keyRefused, detail := BitVec.ofNat 64 field } []
      | none =>
        let a := State.applyActs k j r.acts s
        if r.streamed = 0 then done a.2 r (a.1 ++ r.output)
        else (a.2.modJob k fun j => { j with result := { r with outLen := r.streamed, acts := [] } }).collect k
    else
      let s := (s.writeDst j (zeros r.zeroDst)).closeLast j
      (s.modJob k fun j => { j with result := { r with acts := [] } }).collect k

/-- A job's result stands, at the end of step 9: its engine side is released, the shield takes the job or its
output is written at once (R24 step 9, R205, R206, R261). -/
def State.conclude (s : State) (k : Nat) (res : JobResult) : State :=
  match s.job k with
  | none => s
  | some j =>
    let s := (s.releaseUnits k).settle k res
    if s.shields j then s else s.deliver k

/-- SHIELD_BOUNDARY: time passes until the count reaches B, where the output of a held job is written (R205,
R206). -/
def State.shieldBoundary (s : State) (k : Nat) : State :=
  match s.job k with
  | none => s
  | some j =>
    if j.phase == .ready && j.shielded then
      (s.untilCount (j.origin.getD 0 + boundary j.quantum j.ready)).deliver k
    else s

/-- SHIELD_BOUNDARY. -/
def execShieldBoundary (slot : Fin 16384) (s : State) : Result := .next (s.shieldBoundary slot)

/-! ### The outcome of an operation -/

/-- What an operation computed: its result and the kind of engine its commands run on, 0 for none. -/
structure Done where
  res : JobResult := {}
  engine : Nat := 0

/-- An output without a further effect. -/
def Done.out (engine : Nat) (b : Bytes) : Done := { res := { output := b }, engine := engine }

/-- Check 9 rejects the input (R172, R174). -/
def Done.rejected : Done := { res := { status := .inputRejected } }

/-- A verification's outcome (R234). -/
def Done.verified (engine : Nat) (ok : Bool) : Done :=
  { res := { status := if ok then .ok else .verifyFail }, engine := engine }

/-- A new record as the last act, and what follows its handle (R225). -/
def Done.record (engine : Nat) (r : KeyRecord) (rest : Bytes) : Done :=
  { res := { output := rest, acts := [.createRecord r] }, engine := engine }

/-- A test the unit itself must pass has failed: release verification writes zeros over the declared output, the
pairwise test and the iteration limit write nothing (R30, R226, R236). -/
def Done.unitFault (engine zeroDst : Nat) : Done :=
  { res := { status := .engineFault, zeroDst := zeroDst }, engine := engine }

/-- The port of an instance; an instance outside every range counts under none of them. -/
def State.portNo (s : State) (i : Nat) : Nat := (s.portOf i).getD 4

/-- Ports that wait for a kind of engine. -/
def State.portsWaiting (s : State) (kind : Nat) : List Nat :=
  ((s.sched.waiting.filter (·.kind == kind)).map (·.port)).eraseDups

/-- Instances of a port that wait for a kind of engine. -/
def State.instsWaiting (s : State) (kind p : Nat) : List Nat :=
  ((s.sched.waiting.filter fun w => w.kind == kind && w.port == p).map (·.inst)).eraseDups

/-- A virtual time raised to the least among those that wait. -/
def raiseVt (key : Nat → Nat) (who : Nat) (others : List Nat) (vt : List (Nat × Nat)) : List (Nat × Nat) :=
  match leastOf (others.map fun o => num (key o) vt) with
  | some m => putNum (key who) (max (num (key who) vt) m) vt
  | none => vt

/-- A command joins the queue of its engine kind; a port or instance that starts to wait has its virtual time
raised to the least of those waiting (R199). -/
def State.enqueue (s : State) (kind k cost : Nat) (j : Job) : State :=
  let p := s.portNo j.inst
  let ps := s.portsWaiting kind
  let is := s.instsWaiting kind p
  let vp := if ps.contains p then s.sched.vtPort else raiseVt (8 * kind + ·) p ps s.sched.vtPort
  let vi := if is.contains j.inst then s.sched.vtInst else raiseVt (1024 * kind + ·) j.inst is s.sched.vtInst
  { s with sched := { s.sched with
    vtPort := vp, vtInst := vi
    waiting := s.sched.waiting ++ [{ kind := kind, port := p, inst := j.inst, qp := j.qp, slot := k, cost := cost }] } }

/-- A wide multiply-accumulate unit serves a job: the job holds it, or it is free and the job holds none (R320). -/
def State.mayHold (s : State) (n k : Nat) : Bool :=
  match (s.saffron.getD n {}).holder with
  | some h => h == k
  | none => s.saffron.all fun x => x.holder != some k

/-- A waiting command can run on a unit: of its kind; for a ring arithmetic engine one that holds the job's region,
where the job has any; for a wide multiply-accumulate unit one that the job holds or may take (R249, R320, R355). -/
def State.runsOn (s : State) (u : Nat) (w : Waiting) : Bool :=
  w.kind == unitKind u && match w.kind with
    | 2 => (match (s.job w.slot).bind (·.region) with
      | some r => r.engine == unitNumber u
      | none => true)
    | 5 => s.mayHold (unitNumber u) w.slot
    | _ => true

/-- The member of a list with the least virtual time, equal values going to the lowest number. -/
def leastVt (vt : Nat → Nat) : List Nat → Option Nat
  | [] => none
  | a :: r => match leastVt vt r with
    | none => some a
    | some b => if vt a < vt b ∨ (vt a = vt b ∧ a < b) then some a else some b

/-- The command that an engine becoming free takes: of the port and instance with the least virtual times, of
the next queue pair in turn, the oldest (R199). -/
def State.nextCommand (s : State) (u : Nat) : Option Waiting :=
  let kind := unitKind u
  let ws := s.sched.waiting.filter (s.runsOn u)
  match leastVt (fun p => num (8 * kind + p) s.sched.vtPort) (ws.map (·.port)) with
  | none => none
  | some p =>
    let ofPort := ws.filter (·.port == p)
    match leastVt (fun i => num (1024 * kind + i) s.sched.vtInst) (ofPort.map (·.inst)) with
    | none => none
    | some i =>
      let ofInst := ofPort.filter (·.inst == i)
      match nextTurn (num (1024 * kind + i) s.sched.qpTurn) (ofInst.map (·.qp)) with
      | none => none
      | some q => ofInst.find? (·.qp == q)

/-- A job takes a free wide multiply-accumulate unit: the key store loads its bank, and its modulus register where it
holds a secret prime, with values that only the unit reads; the firmware loads the public operand file and a public
modulus (R317, R320; log entry 7). -/
def State.takeHold (s : State) (u : Nat) : State :=
  match s.nextCommand u with
  | none => s
  | some w =>
    let x := s.take 5632
    { x.2 with saffron := x.2.saffron.set (unitNumber u) {
      bank := (List.range 32).map fun i => BitVec.ofNat 256 (fieldLe (32 * i) 32 x.1)
      modulus := BitVec.ofNat 4096 (fieldLe 1024 512 x.1)
      file := (List.range 128).map fun i => BitVec.ofNat 256 (fieldLe (1536 + 32 * i) 32 x.1), holder := some w.slot } }

/-- The scheduler grants the free wide multiply-accumulate units to the jobs that wait (R199, R320). -/
def State.grantHolds (s : State) : State :=
  s.forEach (s.unitsIn 5 .active) fun s u =>
    s.when ((s.saffron.getD (unitNumber u) {}).holder.isNone) fun s => s.takeHold u

/-- A unit has failed during a job (R34, R476 UNIT_FAULT): the job's result stands with the unit as DETAIL,
the unit is quarantined and a fault record opens. -/
def State.unitFails (s : State) (k u : Nat) (j : Job) (res : JobResult) : State :=
  let s := s.conclude k { res with detail := BitVec.ofNat 64 (unitKind u + 256 * unitNumber u) }
  (s.quarantine u).openFault { FaultOf.unit 0x02 u 0 with inst := j.inst, qp := j.qp }

/-- An operation's outcome is taken: one that needs no engine, or that check 9 rejects, stands at once; another
waits for its engine commands, which the model folds into one (R24 step 8, R199; log entry 14). -/
def State.finish (s : State) (k : Nat) (d : Done) : State :=
  match s.job k with
  | none => s
  | some j =>
    if d.res.status == .inputRejected then s.conclude k d.res
    else if d.engine = 0 then
      if d.res.status == .engineFault then s.unitFails k (unitIndex 1 j.sequencer) j d.res
      else s.conclude k d.res
    else
      let s := (s.modJob k fun j => { j with result := d.res, phase := .computed, issued := true }).enqueue d.engine k 0 j
      s.when (d.engine == 5) State.grantHolds

/-- An operation runs where its job is in a slot, has its input and carries one of the operation's opcodes. -/
def State.runOp (s : State) (k : Nat) (test : Opc → Bool) (f : State → Job → State) : State :=
  match s.job k with
  | none => s
  | some j => if j.phase == .running && test (entryOpc j.entry) then f s j else s

/-- The opcodes of one operation: family and OP, whatever the set. -/
def opIs (fam op : Nat) (o : Opc) : Bool := o.defined && o.fam == fam && o.op == op

/-- An operation that only computes a result. -/
def State.compute (s : State) (k fam op : Nat) (f : State → Job → Done) : State :=
  s.runOp k (opIs fam op) fun s j => s.finish k (f s j)

end Sys2Proof.Machine
end

