-- ==== Sys2Proof/Machine/Engines.lean ====
section
/-! DEFINITION. The engines' side of step 8: what the issue of a command costs, and what its end does to the job
(R34, R199 to R201, R226, R236, R254, R258, R259, R355, R474 to R476). -/

namespace Sys2Proof.Machine

open Sys2Proof

/-- ENGINE_WEIGHT of a port (R199). -/
def State.portWeight (s : State) (p : Nat) : Nat := s.portOd p 7

/-- A command is issued: it leaves the queue and its cost is added to the virtual times in their weights
(R199, R201). -/
def State.issueCommand (s : State) (w : Waiting) (cost : Nat) : State :=
  let kp := 8 * w.kind + w.port
  let ki := 1024 * w.kind + w.inst
  { s with sched := { s.sched with
    waiting := s.sched.waiting.erase w
    vtPort := putNum kp (num kp s.sched.vtPort + cost * 4096 / s.portWeight w.port) s.sched.vtPort
    vtInst := putNum ki (num ki s.sched.vtInst + cost * 4096 / s.weightOf w.inst) s.sched.vtInst
    qpTurn := putNum ki w.qp s.sched.qpTurn } }

/-- The first outstanding command of a kind that has not completed completes (R254, R355). -/
def readyFirst (kind : Nat) : List EngineResult → List EngineResult
  | [] => []
  | r :: rs => if r.kind = kind && !r.ready then { r with ready := true } :: rs else r :: readyFirst kind rs

/-- A command of a job has completed: a recipe's result can be returned; an operation's result stands once none
of its commands waits, with a fault of the unit where a test of its outcome failed (R226, R236, R254). -/
def State.commandEnds (s : State) (k u : Nat) (j : Job) : State :=
  match j.run with
  | some r => s.modJob k fun j => { j with run := some { r with results := readyFirst (unitKind u) r.results } }
  | none =>
    if j.phase != .computed || s.sched.waiting.any (·.slot == k) then s
    else if j.result.status == .engineFault then s.unitFails k u j j.result
    else s.conclude k j.result

/-- The hold of a wide multiply-accumulate unit ends: its stores are zeroed before another job takes it (R320). -/
def State.holdEnds (s : State) (u : Nat) : State :=
  if unitKind u = 5 then { s with saffron := s.saffron.set (unitNumber u) {} } else s

/-- A free wide multiply-accumulate unit is granted once a hold has ended (R320). -/
def State.nextHold (s : State) (kind : Nat) : State := s.when (kind == 5) State.grantHolds

/-- A fault that one retry removed: the job will post OK_CORRECTED, and the unit's window counts it, as do the
retries of a ring arithmetic engine (R34, R258, R263, R475). -/
def State.commandCorrected (s : State) (k u : Nat) : State :=
  ((s.when (unitKind u == 2) fun s => s.bump 0x510004 0 1).modJob k fun j => { j with corrected := some (unitKind u, unitNumber u) }).correctedUnit u

/-- A fault that a retry did not remove: RESULT 4 ends the job with ENGINE_FAULT, the unit is quarantined and a
fault record opens (R34, R258, R476). -/
def State.commandFails (s : State) (k u : Nat) (j : Job) : State :=
  let s := s.endJob k .engineFault (unitKind u + 256 * unitNumber u)
  (s.quarantine u).openFault { FaultOf.unit 0x02 u 0 with inst := j.inst, qp := j.qp }

/-- A unit takes commands: ACTIVE, or RETIRING with work still on it (R476, R489). -/
def State.unitServes (s : State) (u : Nat) : Bool :=
  let st := (s.units.getD u {}).state
  st == .active || st == .retiring

/-- ENGINE_COMMAND_DONE: a free engine of a kind takes the next command and it ends, after `count` handshakes
where the command's cost is not already fixed (R199, R258). -/
def State.engineDone (s : State) (kind u : Nat) (o : EngineOutcome) (count : Nat) : State :=
  if unitKind u != kind || kind < 2 || !s.unitServes u then s
  else match s.nextCommand u with
  | none => s
  | some w => match s.job w.slot with
    | none => s
    | some j =>
      let s := (s.issueCommand w (if w.cost = 0 then count else w.cost)).holdEnds u
      let s := match o with
        | .done => s.commandEnds w.slot u j
        | .corrected =>
          let s := s.commandCorrected w.slot u
          match s.job w.slot with
          | some j => s.commandEnds w.slot u j
          | none => s
        | .failed => s.commandFails w.slot u j
      s.nextHold kind

/-- ENGINE_COMMAND_DONE. -/
def execEngineCommandDone (kind : Nat) (unit : Fin 387) (outcome : EngineOutcome) (count : Nat) (s : State) :
    Result :=
  .next (s.engineDone kind unit outcome count)

end Sys2Proof.Machine
end

