-- ==== Sys2Proof/Machine/KemOps.lean ====
section
/-! DEFINITION. Key generation, encapsulation and decapsulation of every KEM family: ML-KEM, HQC, Classic
McEliece and the hybrids (R224 to R230, R302 to R308, R333, R334, R393, R401). -/

namespace Sys2Proof.Machine

open Sys2Proof

/-! ### New records -/

/-- PERSISTENT, EXPORTABLE and MIGRATABLE as PARAM asks for them (Table - PARAM for a new record, Table - PARAM
for a key management record); the other bits are reserved. -/
def askedFlags (e : SqEntry) : Nat := bits e.param.toNat 2 0

/-- FLAGS of the record in KEY0; a peer record has none. -/
def Job.parentFlags (j : Job) : Nat := if j.peer0 then 0 else fieldLe 12 4 j.attrs0

/-- A record kept or derived from KEY0 has EXPORTABLE or MIGRATABLE only if KEY0 has it (R393). -/
def Job.carries (j : Job) (flags : Nat) : Bool :=
  j.entry.key0 == 0 || ((!bit flags 1 || bit j.parentFlags 1) && (!bit flags 2 || bit j.parentFlags 2))

/-- KEY0 is a peer record or a DOMAIN_BOUND record (R401). -/
def Job.domainParent (j : Job) : Bool := j.entry.key0 != 0 && (j.peer0 || bit j.parentFlags 7)

/-- A record that the job's instance will own (R225). -/
def Job.newRecord (j : Job) (cls : Nat) (binding : BitVec 16) (flags origin : Nat) (secret pub : Bytes) :
    KeyRecord :=
  { owner := j.inst, cls := cls, binding := binding, flags := BitVec.ofNat 32 flags
    secret := secret, pub := pub, origin := origin }

/-! ### The algorithms of each family -/

/-- The ML-KEM and elliptic-curve sets of a hybrid KEM set (Table - Hybrid sets). -/
def hybKemSets (set : Nat) : Nat × Nat := if set = 8 then (2, 6) else (3, 2)

/-- A KEM key pair of the randomness drawn for it. -/
def kemPair (o : Opc) (seed : Bytes) : KeyPair :=
  let z := kemSizes o.fam o.baseSet
  match o.fam with
  | 1 => mlkemPair o.set seed
  | 6 => pairOf z.pk z.sk (Config.algorithm (.hqcKeyGen o.set) [seed])
  | 7 => pairOf z.pk z.sk (Config.algorithm (.mceKeyGen o.set) [seed])
  | _ =>
    let m := mlkemPair (hybKemSets o.set).1 (seed.take 64)
    let c := ecPair (hybKemSets o.set).2 (seed.drop 64)
    ⟨m.pk ++ c.pk, m.sk ++ c.sk⟩

/-- LABEL of a hybrid combiner (R334). -/
def hybLabel (set : Nat) : Bytes :=
  if set = 8 then ascii "KQ9-HYB-X25519-MLKEM768" else ascii "KQ9-HYB-P384-MLKEM1024"

/-- The hybrid combiner (R334). -/
def hybSecret (set : Nat) (ssM ssC ctC pkC : Bytes) : Bytes :=
  sha3_256 (ssM ++ ssC ++ ctC ++ pkC ++ hybLabel set)

/-- An encapsulation to a public key with the randomness drawn for it; none where the classical part of a hybrid
yields a secret R326 rejects. -/
def kemEncapsulate (o : Opc) (pk rnd : Bytes) : Option Encaps :=
  let z := kemSizes o.fam o.baseSet
  match o.fam with
  | 1 => some (mlkemEncapsulate o.set pk rnd)
  | 6 =>
    let b := Config.algorithm (.hqcEncaps o.set) [pk, rnd]
    some ⟨fit z.ct b, fit z.ss (b.drop z.ct)⟩
  | 7 =>
    let b := Config.algorithm (.mceEncaps o.set) [pk, rnd]
    some ⟨fit z.ct b, fit z.ss (b.drop z.ct)⟩
  | _ =>
    let k := hybKemSets o.set
    let n := (kemSizes 1 k.1).pk
    let m := mlkemEncapsulate k.1 (pk.take n) (rnd.take 32)
    let own := ecPair k.2 (rnd.drop 32)
    let ss := ecShared k.2 own.sk (pk.drop n)
    if k.2 = 6 && ss.all (· == 0) then none
    else some ⟨m.ct ++ own.pk, hybSecret o.set m.ss ss own.pk (pk.drop n)⟩

/-- The shared secret of a ciphertext, the rejection secret where the comparison fails (R229, R305); none where
R326 rejects the classical part of a hybrid ciphertext (R334). -/
def kemShared (o : Opc) (sk pk ct : Bytes) : Option Bytes :=
  let z := kemSizes o.fam o.baseSet
  match o.fam with
  | 1 => some (mlkemShared o.set sk ct)
  | 6 => some (fit z.ss (Config.algorithm (.hqcDecaps o.set) [sk, ct]))
  | 7 => some (fit z.ss (Config.algorithm (.mceDecaps o.set) [sk, ct]))
  | _ =>
    let k := hybKemSets o.set
    let n := kemSizes 1 k.1
    let ctC := ct.drop n.ct
    let ss := ecShared k.2 (sk.drop n.sk) ctC
    if !ecKeyOk k.2 ctC || (k.2 = 6 && ss.all (· == 0)) then none
    else some (hybSecret o.set (mlkemShared k.1 (sk.take n.sk) (ct.take n.ct)) ss ctC (pk.drop n.pk))

/-! ### The operations -/

/-- Key generation: the pair passes its pairwise test, or no record is made (R225, R226, R302). -/
def kemKeygen (_ : State) (j : Job) : Done :=
  let o := entryOpc j.entry
  let p := kemPair o j.random
  if Config.check (.pairwise o.fam o.set) [p.pk, p.sk] then
    .record 2 (j.newRecord 9 o.binding (askedFlags j.entry) 1 p.sk p.pk) p.pk
  else .unitFault 2 0

/-- An encapsulation: the key of KEY0, or one in the input that passes its checks (R227, R228, R303, R304). -/
def Job.encapsulate (j : Job) : Option Encaps :=
  let o := entryOpc j.entry
  if j.entry.key0 != 0 then kemEncapsulate o j.pub0 j.random
  else if publicOk o.fam o.baseSet j.input then kemEncapsulate o j.input j.random
  else none

/-- Encapsulation that writes ciphertext and secret. -/
def kemEncaps (_ : State) (j : Job) : Done :=
  match j.encapsulate with
  | some c => .out 2 (c.ct ++ c.ss)
  | none => .rejected

/-- A DERIVE_ONLY record that keeps a shared secret (R225, R230, R401). -/
def Job.kept (j : Job) (bound : Bool) (ss : Bytes) : KeyRecord :=
  let o := entryOpc j.entry
  { j.newRecord 4 o.binding (askedFlags j.entry + if bound then 128 else 0) 3 ss [] with
    parent := j.entry.key0 }

/-- Encapsulation that keeps the secret in a new record. -/
def kemEncapsKeep (_ : State) (j : Job) : Done :=
  match j.encapsulate with
  | some c => if j.carries (askedFlags j.entry) then .record 2 (j.kept j.domainParent c.ss) c.ct else .rejected
  | none => .rejected

/-- Decapsulation that writes the secret (R229, R305). -/
def kemDecaps (_ : State) (j : Job) : Done :=
  match kemShared (entryOpc j.entry) j.key0 j.pub0 j.input with
  | some ss => .out 2 ss
  | none => .rejected

/-- Decapsulation that keeps the secret in a new record. -/
def kemDecapsKeep (_ : State) (j : Job) : Done :=
  if !j.carries (askedFlags j.entry) then .rejected
  else match kemShared (entryOpc j.entry) j.key0 j.pub0 j.input with
  | some ss => .record 2 (j.kept false ss) []
  | none => .rejected

/-! ### ML-KEM -/

/-- MLKEM_KEYGEN. -/
def execMlkemKeygen (slot : Fin 16384) (s : State) : Result := .next (s.compute slot 1 1 kemKeygen)
/-- MLKEM_ENCAPS. -/
def execMlkemEncaps (slot : Fin 16384) (s : State) : Result := .next (s.compute slot 1 2 kemEncaps)
/-- MLKEM_ENCAPS_KEEP. -/
def execMlkemEncapsKeep (slot : Fin 16384) (s : State) : Result := .next (s.compute slot 1 3 kemEncapsKeep)
/-- MLKEM_DECAPS. -/
def execMlkemDecaps (slot : Fin 16384) (s : State) : Result := .next (s.compute slot 1 4 kemDecaps)
/-- MLKEM_DECAPS_KEEP. -/
def execMlkemDecapsKeep (slot : Fin 16384) (s : State) : Result := .next (s.compute slot 1 5 kemDecapsKeep)

/-! ### HQC -/

/-- An HQC decapsulation takes its sequencer into sealed decode mode, or waits while HQC_DECODE_SEQUENCERS are
in it (R310). -/
def State.decodeThen (s : State) (k op : Nat) (f : State → Job → Done) : State :=
  s.runOp k (opIs 6 op) fun s j =>
    if s.odNum 0x220032 ≤ (s.jobs.filter (·.2.decodeMode)).length then s
    else (s.modJob k fun j => { j with decodeMode := true }).finish k (f s j)

/-- HQC_KEYGEN. -/
def execHqcKeygen (slot : Fin 16384) (s : State) : Result := .next (s.compute slot 6 1 kemKeygen)
/-- HQC_ENCAPS. -/
def execHqcEncaps (slot : Fin 16384) (s : State) : Result := .next (s.compute slot 6 2 kemEncaps)
/-- HQC_ENCAPS_KEEP. -/
def execHqcEncapsKeep (slot : Fin 16384) (s : State) : Result := .next (s.compute slot 6 3 kemEncapsKeep)
/-- HQC_DECAPS. -/
def execHqcDecaps (slot : Fin 16384) (s : State) : Result := .next (s.decodeThen slot 4 kemDecaps)
/-- HQC_DECAPS_KEEP. -/
def execHqcDecapsKeep (slot : Fin 16384) (s : State) : Result := .next (s.decodeThen slot 5 kemDecapsKeep)

/-! ### Classic McEliece -/

/-- The rows of T are streamed from tier V, and MCE_STREAM_BYTES counts them (R308, R314). -/
def State.streamThen (s : State) (k op : Nat) (f : State → Job → Done) : State :=
  s.runOp k (opIs 7 op) fun s j =>
    let d := f s j
    let n := if d.res.status == .inputRejected then 0 else (kemSizes 7 (entryOpc j.entry).set).pk
    (s.bump 0x220035 0 n).finish k d

/-- MCE_KEYGEN. -/
def execMceKeygen (slot : Fin 16384) (s : State) : Result := .next (s.compute slot 7 1 kemKeygen)
/-- MCE_ENCAPS. -/
def execMceEncaps (slot : Fin 16384) (s : State) : Result := .next (s.streamThen slot 2 kemEncaps)
/-- MCE_ENCAPS_KEEP. -/
def execMceEncapsKeep (slot : Fin 16384) (s : State) : Result := .next (s.streamThen slot 3 kemEncapsKeep)
/-- MCE_DECAPS. -/
def execMceDecaps (slot : Fin 16384) (s : State) : Result := .next (s.compute slot 7 4 kemDecaps)
/-- MCE_DECAPS_KEEP. -/
def execMceDecapsKeep (slot : Fin 16384) (s : State) : Result := .next (s.compute slot 7 5 kemDecapsKeep)

/-! ### Hybrid KEMs -/

/-- The opcodes of one operation of the hybrid KEM sets. -/
def hybKemIs (op : Nat) (o : Opc) : Bool := o.defined && o.hybKem && o.op == op

/-- A hybrid KEM operation. -/
def State.hybKemOp (s : State) (k op : Nat) (f : State → Job → Done) : State :=
  s.runOp k (hybKemIs op) fun s j => s.finish k (f s j)

/-- HYB_ENCAPS. -/
def execHybEncaps (slot : Fin 16384) (s : State) : Result := .next (s.hybKemOp slot 2 kemEncaps)
/-- HYB_ENCAPS_KEEP. -/
def execHybEncapsKeep (slot : Fin 16384) (s : State) : Result := .next (s.hybKemOp slot 3 kemEncapsKeep)
/-- HYB_DECAPS. -/
def execHybDecaps (slot : Fin 16384) (s : State) : Result := .next (s.hybKemOp slot 4 kemDecaps)
/-- HYB_DECAPS_KEEP. -/
def execHybDecapsKeep (slot : Fin 16384) (s : State) : Result := .next (s.hybKemOp slot 5 kemDecapsKeep)

end Sys2Proof.Machine
end

