-- ==== Sys2Proof/Machine/SigOps.lean ====
section
/-! DEFINITION. Key generation, signing and verification of ML-DSA, FN-DSA, SLH-DSA, the elliptic curves, RSA and
the hybrid signatures, with RSA-OAEP and elliptic-curve agreement (R30, R225, R226, R231 to R239, R267 to R270,
R322 to R335). -/

namespace Sys2Proof.Machine

open Sys2Proof

/-! ### What a signing or verifying job has -/

/-- The parts of a signing or verifying job's input: public key, context, signature, body (R233). -/
structure SigInput where
  pk : Bytes
  ctx : Bytes
  sig : Bytes
  body : Bytes

/-- A signing job: the context first, then the body; the public part is the record's. -/
def Job.signing (j : Job) (ctx : Nat) : SigInput :=
  ⟨j.pub0, j.input.take ctx, [], j.input.drop ctx⟩

/-- A verifying job: the public key where KEY0 is 0, the context, the signature, the body. -/
def Job.verifying (j : Job) (ctx : Nat) : SigInput :=
  let z := sigSizes (entryOpc j.entry).fam (entryOpc j.entry).set
  let n := if j.entry.key0 = 0 then z.pk else 0
  let r := j.input.drop n
  ⟨if j.entry.key0 = 0 then j.input.take n else j.pub0, r.take ctx, slice ctx z.sig r, r.drop (ctx + z.sig)⟩

/-- A signing job's outcome: the signature after release verification, which writes zeros over the declared
output where it fails (R30). -/
def Job.released (j : Job) (engine : Nat) (sig : Bytes) (ok : Bool) : Done :=
  if ok then .out engine sig else .unitFault engine (dstBytes j.entry)

/-- A key generation's outcome: the record after its pairwise test (R225, R226). -/
def Job.newPair (j : Job) (engine cls flags : Nat) (p : KeyPair) : Done :=
  let o := entryOpc j.entry
  if Config.check (.pairwise o.fam o.set) [p.pk, p.sk] then
    .record engine (j.newRecord cls o.binding flags 1 p.sk p.pk) p.pk
  else .unitFault engine 0

/-- The message representative of an ML-DSA or SLH-DSA job; none where its pre-hash function is not accepted
(R231 to R233, R269). -/
def dsaMsg (e : SqEntry) (ctx body : Bytes) : Option Bytes :=
  if !prehash e then some (pureMsg ctx body)
  else if phAllowed (entryOpc e) (phAlg e) then
    some (hashMsg ctx (phAlg e) (if phInput e then body else phHash (phAlg e) body))
  else none

/-! ### ML-DSA -/

/-- MLDSA_KEYGEN's computation. -/
def mldsaKeygen (_ : State) (j : Job) : Done :=
  j.newPair 2 7 (askedFlags j.entry) (mldsaPair (entryOpc j.entry).set (j.random.take 32))

/-- ML-DSA signing with an rnd: at most 1,024 iterations, then release verification (R30, R235, R236). -/
def mldsaSignWith (rnd : Bytes) (j : Job) : Done :=
  let set := (entryOpc j.entry).set
  let x := j.signing (ctxLen j.entry)
  match dsaMsg j.entry x.ctx x.body with
  | none => .rejected
  | some m =>
    let sig := mldsaSig set j.key0 m rnd
    if Config.check (.withinIterations 2 set) [j.key0, m, rnd] then j.released 2 sig (mldsaOk set x.pk m sig)
    else .unitFault 2 0

/-- MLDSA_VERIFY's computation (R234). -/
def mldsaVerify (_ : State) (j : Job) : Done :=
  let x := j.verifying (ctxLen j.entry)
  match dsaMsg j.entry x.ctx x.body with
  | none => .rejected
  | some m => .verified 2 (mldsaOk (entryOpc j.entry).set x.pk m x.sig)

/-- MLDSA_KEYGEN. -/
def execMldsaKeygen (slot : Fin 16384) (s : State) : Result := .next (s.compute slot 2 1 mldsaKeygen)
/-- MLDSA_SIGN: with the rnd drawn at step 5. -/
def execMldsaSign (slot : Fin 16384) (s : State) : Result :=
  .next (s.compute slot 2 2 fun _ j => mldsaSignWith j.random j)
/-- MLDSA_SIGN_DETERMINISTIC: with an rnd of 32 zero bytes. -/
def execMldsaSignDeterministic (slot : Fin 16384) (s : State) : Result :=
  .next (s.compute slot 2 3 fun _ j => mldsaSignWith (zeros 32) j)
/-- MLDSA_VERIFY. -/
def execMldsaVerify (slot : Fin 16384) (s : State) : Result := .next (s.compute slot 2 4 mldsaVerify)

/-! ### FN-DSA -/

/-- FNDSA_KEYGEN's computation: FLOAT_SIGN_ENABLE must be asked for (R237). -/
def fndsaKeygen (_ : State) (j : Job) : Done :=
  let set := (entryOpc j.entry).set
  if bit j.entry.param.toNat 3 then
    j.newPair 0 7 (askedFlags j.entry + 8)
      (pairOf (sigSizes 3 set).pk (sigSizes 3 set).sk (Config.algorithm (.fndsaKeyGen set) [j.random]))
  else .rejected

/-- FNDSA_SIGN's computation: pure mode on its sequencer, then release verification (R238, R239). -/
def fndsaSign (_ : State) (j : Job) : Done :=
  let set := (entryOpc j.entry).set
  let x := j.signing (ctxLen j.entry)
  let m := pureMsg x.ctx x.body
  let sig := fit (sigSizes 3 set).sig (Config.algorithm (.fndsaSign set) [j.key0, m, j.random])
  j.released 0 sig (Config.check (.fndsaVerify set) [x.pk, m, sig])

/-- FNDSA_VERIFY's computation (R239). -/
def fndsaVerify (_ : State) (j : Job) : Done :=
  let x := j.verifying (ctxLen j.entry)
  .verified 2 (Config.check (.fndsaVerify (entryOpc j.entry).set) [x.pk, pureMsg x.ctx x.body, x.sig])

/-- FNDSA_KEYGEN. -/
def execFndsaKeygen (slot : Fin 16384) (s : State) : Result := .next (s.compute slot 3 1 fndsaKeygen)
/-- FNDSA_SIGN. -/
def execFndsaSign (slot : Fin 16384) (s : State) : Result := .next (s.compute slot 3 2 fndsaSign)
/-- FNDSA_VERIFY. -/
def execFndsaVerify (slot : Fin 16384) (s : State) : Result := .next (s.compute slot 3 4 fndsaVerify)

/-! ### SLH-DSA -/

/-- The engines of an SLH-DSA set: SHA-2 cores for SETs 1 to 6, Keccak cores for SETs 7 to 12 (R266). -/
def slhEngine (set : Nat) : Nat := if set ≤ 6 then 4 else 3

/-- SLHDSA_KEYGEN's computation (R268). -/
def slhdsaKeygen (_ : State) (j : Job) : Done :=
  let set := (entryOpc j.entry).set
  j.newPair (slhEngine set) 7 (askedFlags j.entry)
    (pairOf (sigSizes 4 set).pk (sigSizes 4 set).sk (Config.algorithm (.slhdsaKeyGen set) [j.random]))

/-- SLH-DSA signing with an opt_rand, then release verification (R269, R270). -/
def slhdsaSignWith (rnd : Job → Bytes) (j : Job) : Done :=
  let set := (entryOpc j.entry).set
  let x := j.signing (ctxLen j.entry)
  match dsaMsg j.entry x.ctx x.body with
  | none => .rejected
  | some m =>
    let sig := fit (sigSizes 4 set).sig (Config.algorithm (.slhdsaSign set) [j.key0, m, rnd j])
    j.released (slhEngine set) sig (Config.check (.slhdsaVerify set) [x.pk, m, sig])

/-- SLHDSA_VERIFY's computation (R270). -/
def slhdsaVerify (_ : State) (j : Job) : Done :=
  let set := (entryOpc j.entry).set
  let x := j.verifying (ctxLen j.entry)
  match dsaMsg j.entry x.ctx x.body with
  | none => .rejected
  | some m => .verified (slhEngine set) (Config.check (.slhdsaVerify set) [x.pk, m, x.sig])

/-- SLHDSA_KEYGEN. -/
def execSlhdsaKeygen (slot : Fin 16384) (s : State) : Result := .next (s.compute slot 4 1 slhdsaKeygen)
/-- SLHDSA_SIGN: with the opt_rand drawn at step 5. -/
def execSlhdsaSign (slot : Fin 16384) (s : State) : Result :=
  .next (s.compute slot 4 2 fun _ j => slhdsaSignWith (·.random) j)
/-- SLHDSA_SIGN_DETERMINISTIC: PK.seed, the first n bytes of the public key, is opt_rand. -/
def execSlhdsaSignDeterministic (slot : Fin 16384) (s : State) : Result :=
  .next (s.compute slot 4 3 fun _ j =>
    slhdsaSignWith (fun j => j.pub0.take ((sigSizes 4 (entryOpc j.entry).set).pk / 2)) j)
/-- SLHDSA_VERIFY. -/
def execSlhdsaVerify (slot : Fin 16384) (s : State) : Result := .next (s.compute slot 4 4 slhdsaVerify)

/-! ### Elliptic curves -/

/-- The class of a record EC_KEYGEN creates (R323). -/
def ecClass (e : SqEntry) : Nat :=
  match (entryOpc e).set with
  | 1 | 2 | 3 => if bit e.param.toNat 4 then 4 else 7
  | 4 | 5 => 7
  | _ => 4

/-- A field combination that Table - PARAM for elliptic-curve signing allows (R324). -/
def ecParamOk (e : SqEntry) : Bool :=
  let o := entryOpc e
  if o.ecdsa then within 1 (phAlg e) 6 && ctxLen e == 0
  else o.set != 4 || prehash e || ctxLen e == 0

/-- The digest that ECDSA signs: the body where it is one, else its hash (R325). -/
def bodyDigest (e : SqEntry) (body : Bytes) : Bytes := if phInput e then body else phHash (phAlg e) body

/-- r and s of an ECDSA signature lie in 1 to n - 1; S of an EdDSA signature lies below the order (R326). -/
def ecSigInRange (set : Nat) (sig : Bytes) : Bool :=
  let n := sig.length / 2
  if set ≤ 3 then
    let r := ofBe (sig.take n)
    let t := ofBe (sig.drop n)
    decide (0 < r) && decide (r < groupOrder set) && decide (0 < t) && decide (t < groupOrder set)
  else decide (ofLe (sig.drop n) < groupOrder set)

/-- An elliptic-curve signature verifies. -/
def ecSigOk (e : SqEntry) (x : SigInput) : Bool :=
  let o := entryOpc e
  ecSigInRange o.set x.sig &&
  (if o.ecdsa then ecdsaOk o.set x.pk (bodyDigest e x.body) x.sig
   else Config.check (.ecVerify o.set) [x.pk, [if prehash e then 1 else 0], x.ctx, x.body, x.sig])

/-- The context length of an elliptic-curve job: none for ECDSA. -/
def ecCtxLen (e : SqEntry) : Nat := if (entryOpc e).ecdsa then 0 else ctxLen e

/-- EC_KEYGEN's computation (R323). -/
def ecKeygen (_ : State) (j : Job) : Done :=
  j.newPair 5 (ecClass j.entry) (askedFlags j.entry) (ecPair (entryOpc j.entry).set j.random)

/-- EC_SIGN's computation (R324, R325). -/
def ecSign (_ : State) (j : Job) : Done :=
  let e := j.entry
  let o := entryOpc e
  let x := j.signing (ecCtxLen e)
  if !ecParamOk e then .rejected
  else
    let sig := if o.ecdsa then ecdsaSig o.set j.key0 (bodyDigest e x.body) j.random
      else fit (sigSizes 8 o.set).sig
        (Config.algorithm (.ecSign o.set) [j.key0, [if prehash e then 1 else 0], x.ctx, x.body])
    j.released 5 sig (ecSigOk e { x with sig := sig })

/-- EC_VERIFY's computation (R324, R326). -/
def ecVerify (_ : State) (j : Job) : Done :=
  let e := j.entry
  let x := j.verifying (ecCtxLen e)
  if !ecParamOk e || (e.key0 == 0 && !ecKeyOk (entryOpc e).set x.pk) then .rejected
  else .verified 5 (ecSigOk e x)

/-- The shared secret of EC_AGREE, where R326 accepts the peer's key. -/
def Job.agreed (j : Job) : Option Bytes :=
  let set := (entryOpc j.entry).set
  let ss := ecShared set j.key0 j.input
  if !ecKeyOk set j.input || (6 ≤ set && ss.all (· == 0)) then none else some ss

/-- EC_AGREE's computation. -/
def ecAgree (_ : State) (j : Job) : Done :=
  match j.agreed with
  | some ss => .out 5 ss
  | none => .rejected

/-- EC_AGREE_KEEP's computation: DOMAIN_BOUND stays clear (R325, R393, R401). -/
def ecAgreeKeep (_ : State) (j : Job) : Done :=
  match j.agreed with
  | some ss => if j.carries (askedFlags j.entry) then .record 5 (j.kept false ss) [] else .rejected
  | none => .rejected

/-- EC_KEYGEN. -/
def execEcKeygen (slot : Fin 16384) (s : State) : Result := .next (s.compute slot 8 1 ecKeygen)
/-- EC_SIGN. -/
def execEcSign (slot : Fin 16384) (s : State) : Result := .next (s.compute slot 8 2 ecSign)
/-- EC_VERIFY. -/
def execEcVerify (slot : Fin 16384) (s : State) : Result := .next (s.compute slot 8 4 ecVerify)
/-- EC_AGREE. -/
def execEcAgree (slot : Fin 16384) (s : State) : Result := .next (s.compute slot 8 6 ecAgree)
/-- EC_AGREE_KEEP. -/
def execEcAgreeKeep (slot : Fin 16384) (s : State) : Result := .next (s.compute slot 8 7 ecAgreeKeep)

/-! ### RSA -/

/-- HASH of an RSA entry lies in 1 to 6 (R330). -/
def rsaHashOk (e : SqEntry) : Bool := within 1 (phAlg e) 6

/-- SALT_LEN lies in 0 to the digest length (Table - RSA operations). -/
def saltOk (e : SqEntry) : Bool := decide (ctxLen e ≤ phLen (phAlg e))

/-- The modulus n of a public key. -/
def rsaModulus (set : Nat) (pk : Bytes) : Nat := ofBe (pk.take (rsaK set))

/-- An RSA signature verifies: below n, and under its scheme (R331). -/
def rsaSigOk (c : Check) (pss : Bool) (e : SqEntry) (x : SigInput) : Bool :=
  decide (ofBe x.sig < rsaModulus (entryOpc e).set x.pk) &&
  Config.check c [x.pk, [BitVec.ofNat 8 (phAlg e)], le 1 (if pss then ctxLen e else 0), bodyDigest e x.body, x.sig]

/-- RSA_KEYGEN's computation (R329). -/
def rsaKeygen (_ : State) (j : Job) : Done :=
  let set := (entryOpc j.entry).set
  j.newPair 5 (if bit j.entry.param.toNat 4 then 2 else 7) (askedFlags j.entry)
    (pairOf (sigSizes 9 set).pk (sigSizes 9 set).sk (Config.algorithm (.rsaKeyGen set) [j.random]))

/-- An RSA signature by its scheme, after release verification (R30, R330). -/
def rsaSignWith (a : Algorithm) (c : Check) (pss : Bool) (j : Job) : Done :=
  let e := j.entry
  let x := j.signing 0
  if !rsaHashOk e || (pss && !saltOk e) then .rejected
  else
    let sig := fit (sigSizes 9 (entryOpc e).set).sig (Config.algorithm a
      [j.key0, [BitVec.ofNat 8 (phAlg e)], bodyDigest e x.body, j.random])
    j.released 5 sig (rsaSigOk c pss e { x with sig := sig })

/-- An RSA verification by its scheme (R330, R331). -/
def rsaVerifyWith (c : Check) (pss : Bool) (j : Job) : Done :=
  let e := j.entry
  let x := j.verifying 0
  if !rsaHashOk e || (pss && !saltOk e) || (e.key0 == 0 && !rsaKeyOk (entryOpc e).set x.pk) then .rejected
  else .verified 5 (rsaSigOk c pss e x)

/-- RSA_OAEP_ENCRYPT's computation (R330, R331). -/
def rsaOaepEncrypt (_ : State) (j : Job) : Done :=
  let e := j.entry
  let set := (entryOpc e).set
  let n := if e.key0 = 0 then (sigSizes 9 set).pk else 0
  let pk := if e.key0 = 0 then j.input.take n else j.pub0
  let r := j.input.drop n
  if !rsaHashOk e || (e.key0 == 0 && !rsaKeyOk set pk) then .rejected
  else .out 5 (fit (rsaK set) (Config.algorithm (.rsaOaepEncrypt set)
    [pk, [BitVec.ofNat 8 (phAlg e)], r.take (ctxLen e), r.drop (ctxLen e), j.random]))

/-- RSA_OAEP_DECRYPT's computation: a ciphertext not below n and every decoding error are rejected (R332). -/
def rsaOaepDecrypt (_ : State) (j : Job) : Done :=
  let e := j.entry
  let set := (entryOpc e).set
  let label := j.input.take (ctxLen e)
  let ct := j.input.drop (ctxLen e)
  let args := [j.key0, [BitVec.ofNat 8 (phAlg e)], label, ct]
  if !rsaHashOk e || !decide (ofBe ct < rsaModulus set j.pub0) || !Config.check (.rsaOaepValid set) args then
    .rejected
  else .out 5 ((Config.algorithm (.rsaOaepDecrypt set) args).take ((oaepMax (entryOpc e) e).getD 0))

/-- RSA_KEYGEN. -/
def execRsaKeygen (slot : Fin 16384) (s : State) : Result := .next (s.compute slot 9 1 rsaKeygen)
/-- RSA_SIGN_PSS. -/
def execRsaSignPss (slot : Fin 16384) (s : State) : Result :=
  .next (s.compute slot 9 2 fun _ j =>
    let n := (entryOpc j.entry).set
    rsaSignWith (.rsaSignPss n) (.rsaVerifyPss n) true j)
/-- RSA_SIGN_PKCS1. -/
def execRsaSignPkcs1 (slot : Fin 16384) (s : State) : Result :=
  .next (s.compute slot 9 3 fun _ j =>
    let n := (entryOpc j.entry).set
    rsaSignWith (.rsaSignPkcs1 n) (.rsaVerifyPkcs1 n) false j)
/-- RSA_VERIFY_PSS. -/
def execRsaVerifyPss (slot : Fin 16384) (s : State) : Result :=
  .next (s.compute slot 9 4 fun _ j => rsaVerifyWith (.rsaVerifyPss (entryOpc j.entry).set) true j)
/-- RSA_VERIFY_PKCS1. -/
def execRsaVerifyPkcs1 (slot : Fin 16384) (s : State) : Result :=
  .next (s.compute slot 9 5 fun _ j => rsaVerifyWith (.rsaVerifyPkcs1 (entryOpc j.entry).set) false j)
/-- RSA_OAEP_ENCRYPT. -/
def execRsaOaepEncrypt (slot : Fin 16384) (s : State) : Result := .next (s.compute slot 9 6 rsaOaepEncrypt)
/-- RSA_OAEP_DECRYPT. -/
def execRsaOaepDecrypt (slot : Fin 16384) (s : State) : Result := .next (s.compute slot 9 7 rsaOaepDecrypt)

/-! ### Hybrid signatures -/

/-- The ML-DSA and ECDSA sets of a hybrid signature set (Table - Hybrid sets). -/
def hybSigSets (set : Nat) : Nat × Nat := if set = 10 then (2, 1) else (3, 2)

/-- The digest the ECDSA part signs: of 0x00, CTX_LEN, ctx and message (R335). -/
def hybDigest (set : Nat) (m : Bytes) : Bytes := if set = 10 then sha256 m else sha384 m

/-- Both parts of a hybrid signature verify (R335). -/
def hybSigOk (set : Nat) (pk m sig : Bytes) : Bool :=
  let k := hybSigSets set
  let z := sigSizes 2 k.1
  mldsaOk k.1 (pk.take z.pk) m (sig.take z.sig) &&
  ecSigInRange k.2 (sig.drop z.sig) && ecdsaOk k.2 (pk.drop z.pk) (hybDigest set m) (sig.drop z.sig)

/-- HYB_KEYGEN's computation: a KEM pair for SETs 8 and 9, a signing pair for SETs 10 and 11 (R333). -/
def hybKeygen (s : State) (j : Job) : Done :=
  let o := entryOpc j.entry
  if o.hybKem then kemKeygen s j
  else
    let k := hybSigSets o.set
    let m := mldsaPair k.1 (j.random.take 32)
    let c := ecPair k.2 (j.random.drop 32)
    j.newPair 2 7 (askedFlags j.entry) ⟨m.pk ++ c.pk, m.sk ++ c.sk⟩

/-- HYB_SIGN's computation (R335). -/
def hybSign (_ : State) (j : Job) : Done :=
  let set := (entryOpc j.entry).set
  let k := hybSigSets set
  let z := sigSizes 2 k.1
  let x := j.signing (ctxLen j.entry)
  let m := pureMsg x.ctx x.body
  let rnd := j.random.take 32
  let sig := mldsaSig k.1 (j.key0.take z.sk) m rnd ++
    ecdsaSig k.2 (j.key0.drop z.sk) (hybDigest set m) (j.random.drop 32)
  if Config.check (.withinIterations 2 k.1) [j.key0.take z.sk, m, rnd] then
    j.released 2 sig (hybSigOk set x.pk m sig)
  else .unitFault 2 0

/-- HYB_VERIFY's computation (R335). -/
def hybVerify (_ : State) (j : Job) : Done :=
  let set := (entryOpc j.entry).set
  let x := j.verifying (ctxLen j.entry)
  if j.entry.key0 == 0 && !publicOk 0x0C set x.pk then .rejected
  else .verified 2 (hybSigOk set x.pk (pureMsg x.ctx x.body) x.sig)

/-- The opcodes of one operation of the hybrid sets. -/
def hybIs (op : Nat) (o : Opc) : Bool := o.defined && (o.hybKem || o.hybSig) && o.op == op

/-- HYB_KEYGEN. -/
def execHybKeygen (slot : Fin 16384) (s : State) : Result :=
  .next (s.runOp slot (hybIs 1) fun s j => s.finish slot (hybKeygen s j))
/-- HYB_SIGN. -/
def execHybSign (slot : Fin 16384) (s : State) : Result :=
  .next (s.runOp slot (fun o => o.hybSig && o.op == 2) fun s j => s.finish slot (hybSign s j))
/-- HYB_VERIFY. -/
def execHybVerify (slot : Fin 16384) (s : State) : Result :=
  .next (s.runOp slot (fun o => o.hybSig && o.op == 4) fun s j => s.finish slot (hybVerify s j))

end Sys2Proof.Machine
end

