-- ==== Sys2Proof/Machine/HashOps.lean ====
section
/-! DEFINITION. Stateful signatures, digests, MACs, streaming contexts, measurement and quotes (R271 to R288, R294
to R297). -/

namespace Sys2Proof.Machine

open Sys2Proof

/-! ### Stateful keys -/

/-- STATEFUL_KEYGEN's computation: a PERSISTENT record in BUILDING, neither EXPORTABLE nor MIGRATABLE (R272 to
R274). -/
def statefulKeygen (_ : State) (j : Job) : Done :=
  let o := entryOpc j.entry
  match statefulTrees o.set j.input with
  | none => .rejected
  | some ts =>
    if askedFlags j.entry != 1 then .rejected
    else
      let t : Stateful := {
        set := o.set, params := j.input, buildTotal := buildBlocks ts
        subBuilt := (ts.drop 1).map fun _ => 0, total := treeLeaves ts, trees := treeBytes ts }
      .record 4 { j.newRecord 7 o.binding 17 1 j.random [] with state := 1, stateful := some t } []

/-- STATEFUL_SIGN's computation: the message signed with the leaf assigned at step 5, then release verification
(R30, R275, R280). -/
def statefulSign (_ : State) (j : Job) : Done :=
  let set := (entryOpc j.entry).set
  let ts := (statefulTrees set j.params0).getD []
  let sig := fit (statefulSig set ts)
    (Config.algorithm (.statefulSign set) [j.key0, j.params0, le 8 (j.leaf.getD 0), j.input])
  j.released 4 sig (Config.check (.statefulVerify set) [j.pub0, j.input, sig])

/-- STATEFUL_VERIFY's computation (R281). -/
def statefulVerify (_ : State) (j : Job) : Done :=
  let e := j.entry
  let set := (entryOpc e).set
  let n := if e.key0 = 0 then bits (entryParam e) 39 32 else 0
  let pk := if e.key0 = 0 then j.input.take n else j.pub0
  let sigLen := bits (entryParam e) 31 0
  if e.key0 == 0 && !statefulKeyOk set pk then .rejected
  else .verified 4 (Config.check (.statefulVerify set) [pk, j.input.drop (n + sigLen), slice n sigLen j.input])

/-- STATEFUL_KEYGEN. -/
def execStatefulKeygen (slot : Fin 16384) (s : State) : Result := .next (s.compute slot 5 1 statefulKeygen)
/-- STATEFUL_SIGN. -/
def execStatefulSign (slot : Fin 16384) (s : State) : Result := .next (s.compute slot 5 2 statefulSign)
/-- STATEFUL_VERIFY. -/
def execStatefulVerify (slot : Fin 16384) (s : State) : Result := .next (s.compute slot 5 4 statefulVerify)
/-- STATEFUL_STATUS: the 128 bytes as the record stood when it was pinned. -/
def execStatefulStatus (slot : Fin 16384) (s : State) : Result :=
  .next (s.compute slot 5 5 fun _ j => .out 0 j.attrs0)

/-! ### Background builds and reservations -/

/-- The lower level whose next tree is due: the leaves have passed half of its newest tree. Answers its place
among the lower levels and the blocks of one of its trees (R274). -/
def Stateful.dueLevel (t : Stateful) : Option (Nat × Nat) :=
  let ls := lowerLevels (((statefulTrees t.set t.params).getD []).drop 1)
  let due (i : Nat) : Bool := match ls[i]? with
    | none => false
    | some p =>
      let at_ := treeOf t.nextLeaf p.1 p.2
      let newest := t.subBuilt.getD i 0
      decide (newest < at_.1) ||
      (at_.1 == newest && decide (2 ^ p.1 ≤ 2 * at_.2) && decide ((newest + 1) * 2 ^ (p.1 + p.2) < t.total))
  ((List.range ls.length).find? due).map fun i => (i, ceilDiv (2 ^ (ls.getD i (0, 0)).1) 1024)

/-- One block of 1,024 leaves of a next tree is built. -/
def Stateful.buildSub (t : Stateful) : Stateful :=
  match t.dueLevel with
  | none => t
  | some (i, n) =>
    if n ≤ t.subDone + 1 then { t with subDone := 0, subBuilt := t.subBuilt.modify i (· + 1) }
    else { t with subDone := t.subDone + 1 }

/-- STATEFUL_BUILD_BLOCK: a block of 1,024 leaves of a key is built and journalled, while the owning instance is
ENABLED; at the last block of the initial build the record becomes READY with its public key (R273, R274). -/
def State.buildBlock (s : State) (k : Nat) : State :=
  match s.record k with
  | none => s
  | some r => match r.stateful with
    | none => s
    | some t =>
      if s.instState r.owner != .enabled || !s.ready then s
      else if r.state = 1 then
        let t := { t with buildDone := t.buildDone + 1 }
        if t.buildDone < t.buildTotal then s.modRecord k fun r => { r with stateful := some t }
        else
          let ts := (statefulTrees t.set t.params).getD []
          let pk := fit (statefulPk t.set ts) (Config.algorithm (.statefulKeyGen t.set) [t.params, r.secret])
          let s := s.modRecord k fun r => { r with stateful := some t, state := 0, pub := pk }
          s.eventOf .statefulReady r.owner (le 8 (r.handle k).toNat)
      else s.modRecord k fun r => { r with stateful := some t.buildSub }

/-- STATEFUL_BUILD_BLOCK. -/
def execStatefulBuildBlock (index : Nat) (s : State) : Result := .next (s.buildBlock index)

/-- LEAF_BLOCK_JOURNALED: a reservation that was asked for stands in tier A: RESERVED_TO moves on by 1,024
leaves, at most to the key's total (R276). -/
def State.leafBlockJournaled (s : State) (k : Nat) : State :=
  match (s.record k).bind (·.stateful) with
  | none => s
  | some t =>
    if t.journalDue && !s.start.readOnly then
      s.modRecord k fun r => { r with
        stateful := some { t with reservedTo := min (t.reservedTo + 1024) t.total, journalDue := false } }
    else s

/-- LEAF_BLOCK_JOURNALED. -/
def execLeafBlockJournaled (index : Nat) (s : State) : Result := .next (s.leafBlockJournaled index)

/-! ### Hashes and MACs -/

/-- The engine of a function of family 0x0B (R282). -/
def hashEngine (set : Nat) : Nat := if set ≤ 6 then 4 else 3

/-- The context a streaming job continues. -/
def State.openCtx (s : State) (j : Job) : Ctx := (look (ctxKey j.inst j.entry) s.ctxs).getD {}

/-- FIRST opens a context with what it fixes; MORE adds to it (R285, R287). -/
def State.stream (s : State) (j : Job) (sBytes data : Bytes) : Done :=
  let e := j.entry
  let c := s.openCtx j
  let v : Ctx := if entryStage e = 1 then
      { opcode := e.opcode, key0 := e.key0, param := e.param, message := data, sBytes := sBytes }
    else { c with message := c.message ++ data }
  { res := { acts := [.storeCtx (ctxKey j.inst e) v] }, engine := hashEngine (entryOpc e).set }

/-- What a digest or tag is formed over: S, the message and the PARAM whose XOF bit holds; from the context where
the job is its LAST (R283, R285). -/
structure HashInput where
  sBytes : Bytes
  message : Bytes
  param : Nat

/-- The input of a one-shot job or of LAST, `data` being the job's own message bytes. -/
def State.hashInput (s : State) (j : Job) (sBytes data : Bytes) : HashInput :=
  let c := s.openCtx j
  if entryStage j.entry = 0 then ⟨sBytes, data, entryParam j.entry⟩
  else ⟨c.sBytes, c.message ++ data, c.param.toNat⟩

/-- LAST closes its context (R285). -/
def closeActs (j : Job) : List LastAct :=
  if entryStage j.entry = 3 then [.closeCtx (ctxKey j.inst j.entry)] else []

/-- HASH's computation (R283, R285). -/
def hashOp (s : State) (j : Job) : Done :=
  let o := entryOpc j.entry
  if !lastStage j.entry then s.stream j [] j.input
  else match hashOut o j.entry with
  | none => .rejected
  | some n =>
    let x := s.hashInput j [] j.input
    { res := { output := hashOf o.set x.message n, acts := closeActs j }, engine := hashEngine o.set }

/-- The tag of a MAC (R283). -/
def macOf (set : Nat) (key : Bytes) (x : HashInput) (n : Nat) : Bytes :=
  if set ≤ 10 then (hmacOf set key x.message).take n
  else kmac (if set = 11 then 168 else 136) key x.message x.sBytes n (bit x.param 48)

/-- MAC's computation. -/
def macOp (s : State) (j : Job) : Done :=
  let o := entryOpc j.entry
  let n := macS o j.entry
  if !lastStage j.entry then s.stream j (j.input.take n) (j.input.drop n)
  else match macTag o j.entry with
  | none => .rejected
  | some t =>
    let x := s.hashInput j (j.input.take n) (j.input.drop n)
    { res := { output := macOf o.set j.key0 x t, acts := closeActs j }, engine := hashEngine o.set }

/-- MAC_VERIFY's computation: the tag stands before the message of a one-shot job and of LAST (R283 to R285). -/
def macVerifyOp (s : State) (j : Job) : Done :=
  let o := entryOpc j.entry
  let n := macS o j.entry
  let rest := j.input.drop n
  if !lastStage j.entry then s.stream j (j.input.take n) rest
  else match macTag o j.entry with
  | none => .rejected
  | some t =>
    let x := s.hashInput j (j.input.take n) (rest.drop t)
    let ok := macOf o.set j.key0 x t == rest.take t
    { res := { status := if ok then .ok else .verifyFail, acts := if ok then closeActs j else [] }
      engine := hashEngine o.set }

/-- HASH. -/
def execHash (slot : Fin 16384) (s : State) : Result := .next (s.compute slot 0x0B 1 hashOp)
/-- MAC. -/
def execMac (slot : Fin 16384) (s : State) : Result := .next (s.compute slot 0x0B 2 macOp)
/-- MAC_VERIFY. -/
def execMacVerify (slot : Fin 16384) (s : State) : Result := .next (s.compute slot 0x0B 3 macVerifyOp)
/-- CTX_CLOSE: the context is discarded (R287). -/
def execCtxClose (slot : Fin 16384) (s : State) : Result :=
  .next (s.compute slot 0x0B 4 fun _ j => { res := { acts := [.closeCtx (ctxKey j.inst j.entry)] } })

/-- CTX_EXPIRED: a context that no job has named for HASH_CTX_IDLE_S is closed; time passes to that moment (R287;
log entry 4). -/
def State.ctxExpired (s : State) (i c : Nat) : State :=
  match look (4096 * i + c) s.ctxs with
  | none => s
  | some x =>
    if s.jobs.any fun j => j.2.inst == i && namesCtx j.2.entry && j.2.entry.ctx.toNat == c && j.2.phase != .finished
    then s
    else
      let s := s.until (x.lastUse + 1000000000 * s.odNum 0x220023)
      ({ s with ctxs := del (4096 * i + c) s.ctxs }).eventOf .ctxExpired i (le 2 c)

/-- CTX_EXPIRED. -/
def execCtxExpired (inst : Fin 1024) (ctx : Fin 4096) (s : State) : Result := .next (s.ctxExpired inst ctx)

/-! ### Measurement and quotes -/

/-- MEASURE's computation: an extension of one of the port's registers, refused while the measurement log has no
room (R295, R296). -/
def State.measureOp (s : State) (k : Nat) (j : Job) : State :=
  let p := entryParam j.entry
  let mr := 8 + 8 * j.inst + bits p 2 0
  if !s.mayExtend mr then
    (s.conflict 2 (1024 * j.qp + j.inst) j.inst (le 2 j.qp)).conclude k { status := .stateConflict }
  else
    let v := if bit p 8 then sha384 j.input else j.input
    s.finish k { res := { acts := [.extendMeasure mr 2 j.inst v] }, engine := 4 }

/-- MEASURE. -/
def execMeasure (slot : Fin 16384) (s : State) : Result :=
  .next (s.runOp slot (opIs 0x10 2) fun s j => s.measureOp slot j)

/-- QUOTE's computation: the body taken at the shield origin, then both identity signatures, released where they
verify (R30, R297). -/
def quoteOp (s : State) (j : Job) : Done :=
  let body := j.attrs1
  let sig := s.identitySign "KQ9-QUOTE" body j.random
  j.released 5 (body ++ sig)
    (mldsaOk 3 s.identityMldsa.pk (pureMsg (ascii "KQ9-QUOTE") body) (sig.take 4627) &&
     ecdsaOk 2 s.identityP384.pk (sha384 body) (sig.drop 4627))

/-- QUOTE. -/
def execQuote (slot : Fin 16384) (s : State) : Result := .next (s.compute slot 0x10 3 quoteOp)

end Sys2Proof.Machine
end

