-- ==== Sys2Proof/Machine/Symmetric.lean ====
section
/-! DEFINITION. The AES operations and the frame batches (R336 to R344). -/

namespace Sys2Proof.Machine

open Sys2Proof

/-! ### GCM and GMAC -/

/-- The IV of an AES entry: drawn for it, or the first bytes of its input (R337, R339). -/
def Job.iv (j : Job) : Bytes := if ivIn j.entry = 0 then fit 12 j.random else j.input.take 12

/-- An IV that was drawn goes before the output. -/
def Job.ivOut (j : Job) : Bytes := if ivIn j.entry = 0 then j.iv else []

/-- GCM_ENCRYPT's computation. -/
def gcmEncrypt (_ : State) (j : Job) : Done :=
  match aesTag j.entry with
  | none => .rejected
  | some t =>
    let r := j.input.drop (ivIn j.entry)
    let c := gcmSeal j.key0 j.iv (r.take (aadLen j.entry)) (r.drop (aadLen j.entry))
    .out 6 (j.ivOut ++ c.1 ++ c.2.take t)

/-- GMAC_GENERATE's computation. -/
def gmacGenerate (_ : State) (j : Job) : Done :=
  match aesTag j.entry with
  | none => .rejected
  | some t => .out 6 (j.ivOut ++ (gcmTag j.key0 j.iv (j.input.drop (ivIn j.entry)) []).take t)

/-- GMAC_VERIFY's computation. -/
def gmacVerify (_ : State) (j : Job) : Done :=
  match aesTag j.entry with
  | none => .rejected
  | some t =>
    let n := j.input.length - t
    .verified 6 ((gcmTag j.key0 j.iv ((j.input.take n).drop 12) []).take t == j.input.drop n)

/-- The IV, the additional data, the ciphertext and the tag in a GCM_DECRYPT's input. -/
structure Sealed where
  aad : Bytes
  ct : Bytes
  tag : Bytes

/-- The parts of a GCM_DECRYPT's input with tags of `t` bytes (Table - AES operations). -/
def Job.sealedInput (j : Job) (t : Nat) : Sealed :=
  let n := j.input.length - t
  let a := 12 + aadLen j.entry
  ⟨slice 12 (aadLen j.entry) j.input, slice a (n - a) j.input, j.input.drop n⟩

/-- GCM_DECRYPT's computation: at most 65,536 bytes stay on the sealed side until the tag agrees; a longer plaintext streams
to DST first, and zeros replace it where the tag fails (R340). -/
def gcmDecrypt (_ : State) (j : Job) : Done :=
  match aesTag j.entry with
  | none => .rejected
  | some t =>
    let x := j.sealedInput t
    let ok := (gcmTag j.key0 j.iv x.aad x.ct).take t == x.tag
    let pt := gctr j.key0 (gcmJ0 j.key0 j.iv) x.ct
    if pt.length ≤ 65536 then (if ok then .out 6 pt else .verified 6 false)
    else { engine := 6
           res := { status := if ok then .ok else .verifyFail, output := pt, streamed := pt.length
                    zeroDst := if ok then 0 else pt.length } }

/-- An outcome whose output has been streamed is written as it stands (R340). -/
def State.finishStream (s : State) (k : Nat) (j : Job) (d : Done) : State :=
  (s.when (d.res.streamed != 0) fun s => s.writeDst j d.res.output).finish k d

/-! ### Key wrap -/

/-- KW_WRAP's computation: AES-KW, or AES-KWP with PAD. -/
def kwWrapOp (_ : State) (j : Job) : Done :=
  .out 6 (if bit (entryParam j.entry) 0 then aesKwp j.key0 j.input else aesKw j.key0 j.input)

/-- A wrapped string that AES-KW (of 24 bytes or more) or AES-KWP (of 16 or more) can have written. -/
def kwOpen (pad : Bool) (key ct : Bytes) : Option Bytes :=
  if ct.length % 8 != 0 || decide (ct.length < if pad then 16 else 24) then none
  else if pad then aesKwpInv key ct else aesKwInv key ct

/-- KW_UNWRAP's computation: nothing is written where the integrity check fails (R340). -/
def kwUnwrapOp (_ : State) (j : Job) : Done :=
  match kwOpen (bit (entryParam j.entry) 0) j.key0 j.input with
  | some b => .out 6 b
  | none => .verified 6 false

/-! ### XTS -/

/-- The data of an XTS entry in units of `u` bytes, unit i under the tweak T + i (R338). -/
def xtsData (dec : Bool) (key : Bytes) (u tweak : Nat) (m : Bytes) : Bytes :=
  (List.range (ceilDiv m.length u)).flatMap fun i =>
    xtsUnit dec key ((tweak + i) % 2 ^ 128) (slice (u * i) u m)

/-- XTS_ENCRYPT's and XTS_DECRYPT's computation. -/
def xtsOp (dec : Bool) (_ : State) (j : Job) : Done :=
  match xtsUnitLen j.entry with
  | none => .rejected
  | some u => .out 6 (xtsData dec j.key0 u (ofLe (j.input.take 16)) (j.input.drop 16))

/-- GCM_ENCRYPT. -/
def execGcmEncrypt (slot : Fin 16384) (s : State) : Result := .next (s.compute slot 0x0A 1 gcmEncrypt)
/-- GCM_DECRYPT. -/
def execGcmDecrypt (slot : Fin 16384) (s : State) : Result :=
  .next (s.runOp slot (opIs 0x0A 2) fun s j => s.finishStream slot j (gcmDecrypt s j))
/-- GMAC_GENERATE. -/
def execGmacGenerate (slot : Fin 16384) (s : State) : Result := .next (s.compute slot 0x0A 3 gmacGenerate)
/-- GMAC_VERIFY. -/
def execGmacVerify (slot : Fin 16384) (s : State) : Result := .next (s.compute slot 0x0A 4 gmacVerify)
/-- KW_WRAP. -/
def execKwWrap (slot : Fin 16384) (s : State) : Result := .next (s.compute slot 0x0A 5 kwWrapOp)
/-- KW_UNWRAP. -/
def execKwUnwrap (slot : Fin 16384) (s : State) : Result := .next (s.compute slot 0x0A 6 kwUnwrapOp)
/-- XTS_ENCRYPT. -/
def execXtsEncrypt (slot : Fin 16384) (s : State) : Result := .next (s.compute slot 0x0A 7 (xtsOp false))
/-- XTS_DECRYPT. -/
def execXtsDecrypt (slot : Fin 16384) (s : State) : Result := .next (s.compute slot 0x0A 8 (xtsOp true))

/-! ### Frame batches -/

/-- A frame of a batch: its key, IV, authenticated bytes and expected tag (Table - Frame descriptor). -/
structure Frame where
  key : Bytes
  iv : Bytes
  bytes : Bytes
  tag : Bytes

/-- The frame of a descriptor; none where R344 does not allow it. -/
def Job.frame (j : Job) (area d : Bytes) : Option Frame :=
  let off := fieldLe 0 4 d
  let n := fieldLe 4 4 d
  let sel := fieldLe 8 1 d
  if within 1 n 2048 && decide (off + n ≤ area.length) &&
      (sel == 0 || (sel == 1 && bit (entryParam j.entry) 8)) then
    some ⟨if sel = 0 then j.key0 else j.key1, slice 12 12 d, slice off n area, slice 32 16 d⟩
  else none

/-- Every frame of a batch, or none where one descriptor is not allowed (R343, R344). -/
def Job.frames (j : Job) : Option (List Frame) :=
  let n := frameCount j.entry
  let area := j.input.drop (48 * n)
  (List.range n).foldr (fun i r => match j.frame area (slice (48 * i) 48 j.input), r with
    | some f, some fs => some (f :: fs)
    | _, _ => none) (some [])

/-- Length of a frame's tag (R342). -/
def frameTagLen (set : Nat) : Nat :=
  match set with
  | 1 => 10
  | 3 => 8
  | _ => 16

/-- The tag of a frame: truncated HMAC-SHA256, or truncated GMAC (R342). -/
def frameTag (set : Nat) (f : Frame) : Bytes :=
  (if set ≤ 2 then hmacOf 2 f.key f.bytes else gcmTag f.key f.iv f.bytes []).take (frameTagLen set)

/-- The engine of a frame batch: the hash group, or the AES cores. -/
def frameEngine (set : Nat) : Nat := if set ≤ 2 then 4 else 6

/-- FRAME_TAG's computation: a slot of 16 bytes for each frame (R344). -/
def frameTagOp (_ : State) (j : Job) : Done :=
  let set := (entryOpc j.entry).set
  match j.frames with
  | none => .rejected
  | some fs => .out (frameEngine set) (fs.flatMap fun f => fit 16 (frameTag set f))

/-- The frames whose tags do not agree (R344). -/
def mismatches (set : Nat) (fs : List Frame) : List Nat :=
  (List.range fs.length).filter fun i => match fs[i]? with
    | some f => frameTag set f != f.tag.take (frameTagLen set)
    | none => false

/-- FRAME_CHECK's computation: the MISMATCH bitmap, its bits counted in FRAME_MISMATCHES (R344). -/
def State.frameCheck (s : State) (j : Job) : Done × State :=
  let set := (entryOpc j.entry).set
  match j.frames with
  | none => (.rejected, s)
  | some fs =>
    let bad := mismatches set fs
    (.out (frameEngine set) (le 8 ((bad.map (2 ^ ·)).sum)), s.bump 0x220048 0 bad.length)

/-- FRAME_TAG. -/
def execFrameTag (slot : Fin 16384) (s : State) : Result := .next (s.compute slot 0x0F 1 frameTagOp)
/-- FRAME_CHECK. -/
def execFrameCheck (slot : Fin 16384) (s : State) : Result :=
  .next (s.runOp slot (opIs 0x0F 2) fun s j => (s.frameCheck j).2.finish slot (s.frameCheck j).1)

end Sys2Proof.Machine
end

