-- ==== Sys2Proof/Machine/KeyOps.lean ====
section
/-! DEFINITION. The key management opcodes (R393, R396 to R409, R415 to R418). -/

namespace Sys2Proof.Machine

open Sys2Proof

/-- CLASS and BINDING of PARAM are ones that the opcode creates: symmetric bindings, or a known asymmetric one
for KM_IMPORT_PUBLIC, in the pairs of Table - Class and binding pairs (R397). -/
def kmPair (e : SqEntry) : Bool :=
  let classes : List Nat := match (entryOpc e).op with
    | 2 => [1, 2, 4, 5, 6]
    | 9 => [8, 10]
    | _ => [1, 2, 3, 4, 5, 6, 11]
  let kind : Bool := if (entryOpc e).op = 9 then asymBinding (kmBinding e) else (symLens (kmBinding e)).isSome
  classes.contains (kmClass e) && kind && classPairs (kmClass e) (kmBinding e)

/-- A record as PARAM describes it, with the secret that the operation found. -/
def Job.kmRecord (j : Job) (origin : Nat) (bound : Bool) (secret pub : Bytes) : KeyRecord :=
  { j.newRecord (kmClass j.entry) (kmBinding j.entry) (askedFlags j.entry + if bound then 128 else 0) origin
      secret pub with
    parent := if origin = 2 || origin = 6 then j.entry.key0 else 0 }

/-- KM_GENERATE's computation (R397, R398). -/
def kmGenerate (_ : State) (j : Job) : Done :=
  if kmPair j.entry then .record 0 (j.kmRecord 1 false (fit (symLen (kmBinding j.entry)) j.random) []) []
  else .rejected

/-- The derivation function of KM_DERIVE and KM_DERIVE_RELEASE (R400). -/
def kmChild (key : Bytes) (binding : Nat) (input : Bytes) (n : Nat) : Bytes :=
  kmac256 key (le 2 binding ++ input) (ascii "KQ9-DERIVE") n

/-- KM_DERIVE's computation (R393, R397, R400, R401). -/
def kmDerive (_ : State) (j : Job) : Done :=
  let b := kmBinding j.entry
  if kmPair j.entry && j.carries (askedFlags j.entry) then
    .record 3 (j.kmRecord 2 j.domainParent (kmChild j.key0 b.toNat j.input (symLen b)) []) []
  else .rejected

/-- KM_DERIVE_RELEASE's computation (R400). -/
def kmDeriveRelease (_ : State) (j : Job) : Done :=
  let n := bits (entryParam j.entry) 7 0
  if within 16 n 64 then .out 3 (kmChild j.key0 0xFFFF j.input n) else .rejected

/-- KM_WRAP's computation (R402). -/
def kmWrap (_ : State) (j : Job) : Done := .out 6 (aesKwp j.key0 j.key1)

/-- KM_UNWRAP's computation: one status for a failed integrity check and for a wrong length (R403). -/
def kmUnwrap (_ : State) (j : Job) : Done :=
  if !kmPair j.entry then .rejected
  else match kwOpen true j.key0 j.input with
  | some b =>
    if symLenOk (kmBinding j.entry) b.length then .record 6 (j.kmRecord 6 false b []) [] else .verified 6 false
  | none => .verified 6 false

/-- The body key of an export blob (R404). -/
def State.exportKey (s : State) (blobId : Bytes) : Bytes :=
  kmac256 ((s.domainKey "KQ9-DOMAIN-EXPORT").getD []) blobId (ascii "KQ9-EXPORT") 32

/-- KM_EXPORT's computation (Table - Export blob). -/
def kmExport (s : State) (j : Job) : Done :=
  let body := j.key0 ++ j.pub0
  let id := j.random.take 16
  let nonce := slice 16 12 j.random
  let head := ascii "KQ9KEXPT" ++ fields [(2, 1), (2, 0), (4, body.length)] ++ s.identityDigest ++
    fit 32 s.keys.domainId ++ id ++ fit 64 j.attrs0 ++ nonce ++ zeros 4
  let c := gcmSeal (s.exportKey id) nonce head body
  .out 6 (head ++ c.1 ++ c.2)

/-- The body of an export blob of this domain whose tag verifies (R405). -/
def State.blobBody (s : State) (m : Bytes) : Option Bytes :=
  let n := fieldLe 12 4 m
  if m.take 8 == ascii "KQ9KEXPT" && fieldLe 8 2 m == 1 && m.length == 192 + n && slice 48 32 m == s.keys.domainId &&
      fieldLe 112 4 m + fieldLe 116 4 m == n then
    gcmOpen (s.exportKey (slice 80 16 m)) (slice 160 12 m) (m.take 176) (slice 176 n m) (m.drop (176 + n))
  else none

/-- FLOAT_SIGN_ENABLE stands on FN-DSA signing records alone (R393). -/
def floatFlagOk (cls : Nat) (b : BitVec 16) (flags : Nat) : Bool :=
  !bit flags 3 || (cls == 7 && (bindOpc b).fam == 3)

/-- KM_IMPORT's computation (R405). -/
def kmImport (s : State) (j : Job) : Done :=
  match s.blobBody j.input with
  | none => .rejected
  | some b =>
    let a := slice 96 64 j.input
    let n := fieldLe 16 4 a
    let cls := fieldLe 8 1 a
    let binding := BitVec.ofNat 16 (fieldLe 10 2 a)
    let flags := fieldLe 12 4 a &&& 0x8F
    if floatFlagOk cls binding flags then
      .record 6 (j.newRecord cls binding flags 7 (b.take n) (b.drop n)) []
    else .rejected

/-- KM_IMPORT_PUBLIC's computation (R397, R398). -/
def kmImportPublic (_ : State) (j : Job) : Done :=
  if kmPair j.entry && bindingPublicOk (kmBinding j.entry) j.input then
    .record 0 (j.kmRecord 8 false [] j.input) []
  else .rejected

/-- KM_DELETE's computation: the deletion is the job's last act (R23, R399). -/
def kmDelete (_ : State) (j : Job) : Done :=
  { res := { acts := [.deleteRecord (handleIndex j.entry.key0) (handleGen j.entry.key0) 0] } }

/-- KM_INFO's computation (R394). -/
def kmInfo (_ : State) (j : Job) : Done := .out 0 (j.attrs0 ++ j.pub0)

/-- KM_PROVE's computation (R415). -/
def kmProve (s : State) (j : Job) : Done :=
  let about := if j.entry.key1 = 0 then j.attrs0 else j.attrs1
  .out 3 (kmac256 j.key0 (s.identityDigest ++ about ++ j.input) (ascii "KQ9-PROVE") 32)

/-- PEER_SET_SECRET's computation (R417). -/
def peerSetSecret (_ : State) (j : Job) : Done :=
  let e := j.entry
  { res := { acts := [.peerSecret (handleIndex e.key0 - peerBase) (handleGen e.key0) (handleIndex e.key1)
      (handleGen e.key1) j.key1] } }

/-- PEER_REVOKE's computation (R418). -/
def peerRevoke (_ : State) (j : Job) : Done :=
  { res := { acts := [.revokePeer (handleIndex j.entry.key0 - peerBase) (handleGen j.entry.key0)] } }

/-- KM_UPDATE: the message passes the checks of R408 and is applied at one commit point, or is refused and
counted (R408, R409). -/
def State.kmUpdate (s : State) (k : Nat) (j : Job) : State :=
  match s.judgeUpdate j.input with
  | .ok _ => s.finish k { res := { acts := [.update j.input] } }
  | .error (check, st) =>
    let s := s.updateRefused check
    let s := if st == .stateConflict then s.conflict 2 (1024 * j.qp + j.inst) j.inst (le 2 j.qp) else s
    s.conclude k { status := st }

/-- KM_UPDATE. -/
def execKmUpdate (slot : Fin 16384) (s : State) : Result :=
  .next (s.runOp slot (· == ⟨0x0C, 0, 1⟩) fun s j => s.kmUpdate slot j)

/-- A key management operation that only computes a result. -/
def State.kmOp (s : State) (k op : Nat) (f : State → Job → Done) : State :=
  s.runOp k (· == ⟨0x0C, 0, op⟩) fun s j => s.finish k (f s j)

/-- KM_GENERATE. -/
def execKmGenerate (slot : Fin 16384) (s : State) : Result := .next (s.kmOp slot 2 kmGenerate)
/-- KM_DERIVE. -/
def execKmDerive (slot : Fin 16384) (s : State) : Result := .next (s.kmOp slot 3 kmDerive)
/-- KM_DERIVE_RELEASE. -/
def execKmDeriveRelease (slot : Fin 16384) (s : State) : Result := .next (s.kmOp slot 4 kmDeriveRelease)
/-- KM_WRAP. -/
def execKmWrap (slot : Fin 16384) (s : State) : Result := .next (s.kmOp slot 5 kmWrap)
/-- KM_UNWRAP. -/
def execKmUnwrap (slot : Fin 16384) (s : State) : Result := .next (s.kmOp slot 6 kmUnwrap)
/-- KM_EXPORT. -/
def execKmExport (slot : Fin 16384) (s : State) : Result := .next (s.kmOp slot 7 kmExport)
/-- KM_IMPORT. -/
def execKmImport (slot : Fin 16384) (s : State) : Result := .next (s.kmOp slot 8 kmImport)
/-- KM_IMPORT_PUBLIC. -/
def execKmImportPublic (slot : Fin 16384) (s : State) : Result := .next (s.kmOp slot 9 kmImportPublic)
/-- KM_DELETE. -/
def execKmDelete (slot : Fin 16384) (s : State) : Result := .next (s.kmOp slot 10 kmDelete)
/-- KM_INFO. -/
def execKmInfo (slot : Fin 16384) (s : State) : Result := .next (s.kmOp slot 11 kmInfo)
/-- KM_PROVE. -/
def execKmProve (slot : Fin 16384) (s : State) : Result := .next (s.kmOp slot 12 kmProve)
/-- PEER_SET_SECRET. -/
def execPeerSetSecret (slot : Fin 16384) (s : State) : Result := .next (s.kmOp slot 13 peerSetSecret)
/-- PEER_REVOKE. -/
def execPeerRevoke (slot : Fin 16384) (s : State) : Result := .next (s.kmOp slot 14 peerRevoke)
/-- PEER_INFO: the bytes of the record as it was pinned, the secret zero (R396, R416). -/
def execPeerInfo (slot : Fin 16384) (s : State) : Result := .next (s.kmOp slot 15 fun _ j => .out 0 j.attrs0)

end Sys2Proof.Machine
end

