-- ==== Sys2Proof/Machine/Operands.lean ====
section
/-! DEFINITION. What a recipe's instructions operate on: the instruction word and its formats, the registers of a
context, the memory windows and the page cache (R346 to R354, R368 to R373, R377, R378). -/

namespace Sys2Proof.Machine

open Sys2Proof

/-! ### The recipe header -/

/-- CODE_LEN. -/
def Run.codeLen (r : Run) : Nat := fieldLe 64 4 r.package
/-- DATA_LEN. -/
def Run.dataLen (r : Run) : Nat := fieldLe 68 4 r.package
/-- The data section. -/
def Run.dataSection (r : Run) : Bytes := slice (128 + r.codeLen) r.dataLen r.package
/-- INVOKE_FAMILIES. -/
def Run.families (r : Run) : Nat := fieldLe 96 8 r.package

/-! ### Instruction words -/

/-- The word that the core fetches; none outside CODE (R350, R353). -/
def Run.word (r : Run) : Option Nat :=
  let a := r.pc.toNat
  if a % 4 = 0 ∧ a + 4 ≤ r.codeLen then some (fieldLe (128 + a) 4 r.package) else none

/-- Format A, and format V with VM, SUB and VFUNCT as its low bits (Table - Instruction formats, Table - Format
V). -/
def wordA (major rd rs1 rs2 : Nat) (funct : Nat) : Nat :=
  major * 2 ^ 26 + rd * 2 ^ 21 + rs1 * 2 ^ 16 + rs2 * 2 ^ 11 + funct

/-- Format I, and format B with the first source in the place of rd. -/
def wordI (major rd rs1 : Nat) (imm : BitVec 16) : Nat :=
  major * 2 ^ 26 + rd * 2 ^ 21 + rs1 * 2 ^ 16 + imm.toNat

/-- MAJOR. -/
def majorOf (w : Nat) : Nat := bits w 31 26
/-- The field [25:21]. -/
def rdOf (w : Nat) : Nat := bits w 25 21
/-- The field [20:16]. -/
def rs1Of (w : Nat) : Nat := bits w 20 16
/-- The field [15:11]. -/
def rs2Of (w : Nat) : Nat := bits w 15 11
/-- FUNCT. -/
def functOf (w : Nat) : Nat := bits w 10 0

/-! ### Registers -/

/-- A g register; g0 reads as zero (R347). -/
def Run.reg (r : Run) (n : Nat) : BitVec 64 := if n = 0 then 0 else r.g.getD n 0

/-- A g register written; g0 ignores writes (R347). -/
def Run.setReg (r : Run) (n : Nat) (v : BitVec 64) : Run := if n = 0 then r else { r with g := r.g.set n v }

/-- A vector register. -/
def Run.vreg (r : Run) (n : Nat) : BitVec 1024 := r.v.getD n 0

/-- A vector register written. -/
def Run.setVreg (r : Run) (n : Nat) (v : BitVec 1024) : Run := { r with v := r.v.set n v }

/-- An f register: the low 64 bits of its vector register (R368). -/
def Run.freg (r : Run) (n : Nat) : BitVec 64 := (r.vreg n).setWidth 64

/-- An f register written: the upper bits of its vector register stay (R368). -/
def Run.setFreg (r : Run) (n : Nat) (v : BitVec 64) : Run :=
  r.setVreg n ((r.vreg n) >>> 64 <<< 64 ||| v.setWidth 1024)

/-- The instruction completes: the program counter moves on; of the pages it used, the page cache keeps the four
that came last (R349, R353; log entry 38). -/
def Run.next (r : Run) : Run :=
  { r with pc := r.pc + 4, baseCharged := false, resident := r.resident.drop (r.resident.length - 4) }

/-! ### Windows -/

/-- The windows of Table - Recipe windows. -/
inductive Win where
  | code | data | scratch | pub | mat | job | out | vscratch | directory | input
  deriving DecidableEq, Repr

/-- Base and size of every window of a run (Table - Recipe windows). -/
def windows (j : Job) (r : Run) : List (Win × Nat × Nat) :=
  let h (o n : Nat) : Nat := fieldLe o n r.package
  [(.code, 0, r.codeLen), (.data, 0x100000, r.dataLen), (.scratch, 0x200000, 1024 * h 84 2),
   (.pub, 0x300000, 1024 * h 92 2), (.mat, 0x340000, 1024 * h 94 2), (.job, 0x380000, 256),
   (.out, 0x400000, min (1024 * h 86 2) j.entry.dstLen.toNat),
   (.vscratch, 0x100000000, 2 ^ 20 * h 88 2), (.directory, 0x10000000000, 2 ^ 32),
   (.input, 0x100000000000, j.entry.srcLen.toNat)]

/-- The window a range lies in, with its offset there (R350). -/
def windowOf (j : Job) (r : Run) (a n : Nat) : Option (Win × Nat) :=
  ((windows j r).find? fun w => decide (w.2.1 ≤ a) && decide (a + n ≤ w.2.1 + w.2.2)).map fun w => (w.1, a - w.2.1)

/-- Size of the OUT window. -/
def outSize (j : Job) (r : Run) : Nat := min (1024 * fieldLe 86 2 r.package) j.entry.dstLen.toNat

/-- A window that may be written (Table - Recipe windows). -/
def Win.writable : Win → Bool
  | .data | .scratch | .pub | .mat | .out | .vscratch => true
  | _ => false

/-- A window whose pages pass through the run's page cache (R352). -/
def Win.paged : Win → Bool
  | .vscratch | .directory => true
  | _ => false

/-- The peer record of a DIRECTORY entry, where it exists and belongs to the instance (R351). -/
def State.dirPeer (s : State) (i n : Nat) : Option Peer :=
  match look n s.keys.peers with
  | some p => if p.owner = i then some p else none
  | none => none

/-- Every DIRECTORY entry of a range exists for the instance (R351). -/
def State.dirOk (s : State) (i off n : Nat) : Bool :=
  (List.range ((off + n - 1) / 4096 - off / 4096 + 1)).all fun k => (s.dirPeer i (off / 4096 + k)).isSome

/-- The window of a range that meets R350 and R351. -/
def State.reaches (s : State) (j : Job) (r : Run) (a n : Nat) : Option (Win × Nat) :=
  match windowOf j r a n with
  | some (.directory, o) => if s.dirOk j.inst o n then some (.directory, o) else none
  | w => w

/-- The pages of a range that the page cache does not hold, where its window is paged (R352). -/
def missing (r : Run) (w : Win) (a n : Nat) : List Nat :=
  if w.paged && n != 0 then
    ((List.range ((a + n - 1) / 4096 - a / 4096 + 1)).map (a / 4096 + ·)).filter fun p => !r.resident.contains p
  else []

/-- The JOB window (Table - JOB window). -/
def jobWindow (j : Job) (r : Run) : Bytes :=
  let e := j.entry
  fit 256 (fields [(2, e.opcode.toNat), (2, j.inst), (4, e.tag.toNat), (8, e.key0.toNat), (8, e.key1.toNat),
    (4, e.srcLen.toNat), (4, e.dstLen.toNat), (8, e.param.toNat), (4, e.ctx.toNat), (4, r.budget),
    (4, outSize j r)])

/-- The bytes of DIRECTORY entries, one after another. -/
def State.dirBytes (s : State) (i : Nat) (off n : Nat) : Bytes :=
  let k := (off + n - 1) / 4096 - off / 4096 + 1
  slice (off % 4096) n ((List.range k).flatMap fun x =>
    fit 4096 (((s.dirPeer i (off / 4096 + x)).map (·.bytesOut)).getD []))

/-- Where a Clove window begins in the operand memory: the engine and the byte. -/
def regionAt (j : Job) (matrix : Bool) : Nat × Nat :=
  match j.region with
  | some g => (g.engine, 512 * if matrix then g.matrixBase else g.publicBase)
  | none => (0, 0)

/-- The bytes at an offset of a window (R349 to R352). -/
def State.winRead (s : State) (j : Job) (r : Run) (w : Win) (o a n : Nat) : Bytes :=
  match w with
  | .code => slice (128 + o) n r.package
  | .job => slice o n (jobWindow j r)
  | .input => slice o n j.input
  | .directory => s.dirBytes j.inst o n
  | .pub => (s.opMem (regionAt j false).1).readN ((regionAt j false).2 + o) n
  | .mat => (s.opMem (regionAt j true).1).readN ((regionAt j true).2 + o) n
  | _ => r.mem.readN a n

/-- Bytes written at an offset of a window. -/
def State.winWrite (s : State) (k : Nat) (j : Job) (w : Win) (o a : Nat) (b : Bytes) : State :=
  match w with
  | .pub => s.modOpMem (regionAt j false).1 fun m => m.writeN ((regionAt j false).2 + o) b
  | .mat => s.modOpMem (regionAt j true).1 fun m => m.writeN ((regionAt j true).2 + o) b
  | _ => s.modJob k fun j => { j with run := j.run.map fun r => { r with mem := r.mem.writeN a b } }

/-- What the checks of an access answer: it may go on, or it traps (R350, R354, Table - Element checks). -/
inductive Access where
  | ok (w : Win) (off : Nat)
  | trap (cause : Nat)
  deriving DecidableEq, Repr

/-- The checks of an access of `n` bytes in the order of Table - Element checks, but for the budget and the page
cache. -/
def State.access (s : State) (j : Job) (r : Run) (write : Bool) (a n : Nat) : Access :=
  match s.reaches j r a n with
  | none => .trap 3
  | some (w, o) =>
    if write && !w.writable then .trap 5
    else if a % n != 0 then .trap 4
    else .ok w o

end Sys2Proof.Machine
end

