-- ==== Sys2Proof/Machine/Flags.lean ====
section
/-! DEFINITION. The control registers of a context and the floating-point flags (Table - Control registers, Table -
FPCTL, R347, R348, R369, R370). -/

namespace Sys2Proof.Machine

open Sys2Proof

/-- VLEN in bits (R369). -/
def vlen : Nat := 1024

/-- Bits of an element at EW. -/
def ewBits (ew : Nat) : Nat := 8 * 2 ^ ew

/-- VCAP: elements that one vector register holds (R369). -/
def vcap (ew : Nat) : Nat := vlen / ewBits ew

/-- FPCTL (Table - FPCTL). -/
def Run.fpctl (r : Run) : Nat := 256 * r.rm + r.fflags.toNat

/-- Exceptions are sticky in FPCTL.FLAGS (R348). -/
def Run.raiseF (r : Run) (flags : Nat) : Run := { r with fflags := r.fflags ||| BitVec.ofNat 5 flags }

/-- Commands of a kind that are outstanding (R355). -/
def Run.outstanding (r : Run) (kind : Nat) : Nat := (r.results.filter (·.kind == kind)).length

/-- A control register (Table - Control registers); none where the table has no such number. -/
def Run.control (r : Run) (n : Nat) : Option Nat :=
  match n with
  | 0x001 => some r.vl
  | 0x002 => some r.ew
  | 0x003 => some r.vresume
  | 0x004 => some vlen
  | 0x010 => some r.fpctl
  | 0x020 => some (r.budget - r.used)
  | 0x021 => some r.used
  | 0x022 => some r.outlen.toNat
  | 0x030 => some (r.outstanding 2 + 16 * r.outstanding 3 + 256 * r.outstanding 4 + 4096 * r.outstanding 8 +
      65536 * r.outstanding 9)
  | _ => none

/-- A control register that a recipe may not write (Table - Control registers). -/
def controlReadOnly (n : Nat) : Bool := n == 0x004 || n == 0x020 || n == 0x021 || n == 0x030

/-- A control register written (R348, R370). -/
def Run.setControl (r : Run) (n : Nat) (v : Nat) : Run :=
  match n with
  | 0x001 => { r with vl := min v (vcap r.ew) }
  | 0x002 => { r with ew := v % 4, vl := min r.vl (vcap (v % 4)) }
  | 0x003 => { r with vresume := v % 65536 }
  | 0x010 => { r with rm := bits v 10 8, fflags := BitVec.ofNat 5 v }
  | 0x022 => { r with outlen := BitVec.ofNat 64 v }
  | _ => r

end Sys2Proof.Machine
end

