-- ==== Sys2Proof/Machine/Sequencer.lean ====
section
/-! DEFINITION. How a recipe runs: its start, the charge and the fetch of every instruction, its traps and its end,
the placement trap (R346 to R354, R358, R360, R364, R380 to R382). -/

namespace Sys2Proof.Machine

open Sys2Proof

/-! ### The run -/

/-- The run of a job whose recipe has begun and has not ended. -/
def State.running (s : State) (k : Nat) : Option (Job × Run) :=
  match s.job k with
  | none => none
  | some j => if j.phase == .running && j.told.contains 9 then j.run.map fun r => (j, r) else none

/-- The state with the run of a job changed. -/
def State.modRun (s : State) (k : Nat) (f : Run → Run) : State :=
  s.modJob k fun j => { j with run := j.run.map f }

/-- The state with the run of a job set. -/
def State.setRun (s : State) (k : Nat) (r : Run) : State := s.modJob k fun j => { j with run := some r }

/-- RECIPE_RUN's start: the run's copy of the data section is made; scratch and output staging begin as zeros
(Table - Recipe windows, R364). -/
def State.beginRun (s : State) (k : Nat) (j : Job) : State :=
  if j.told.contains 9 then s
  else (s.mark k 9).modRun k fun r => { r with mem := Mem.writeN r.mem 0x100000 r.dataSection }

/-- A trap: the job ends with RECIPE_FAULT; DETAIL carries the cause, the element index and the byte offset of the
instruction (R360, R382). -/
def State.trapAt (s : State) (k cause elem : Nat) : State :=
  match s.running k with
  | none => s
  | some (_, r) =>
    let s := s.when (cause == 1) fun s => s.bump 0x2A0009 3 1
    s.conclude k { status := .recipeFault,
                   detail := BitVec.ofNat 64 (cause + 65536 * elem + 2 ^ 32 * r.pc.toNat) }

/-- A trap of an instruction that is no vector instruction. -/
def State.trap (s : State) (k cause : Nat) : State := s.trapAt k cause 0xFFFF

/-- A placement trap: the access waits until the page is resident; the base charge is not taken again (R352,
R380, R381). -/
def State.needPage (s : State) (k page : Nat) : State :=
  (s.modRun k fun r => { r with trapPage := some page, baseCharged := true }).bump 0x2A0009 4 1

/-! ### Instructions -/

/-- One instruction: the words that are it, when it stalls, its charge, the element index of a trap before it
executes, and what it does once charged. -/
structure Op where
  isIt : Run → Nat → Bool
  stalls : Run → Bool := fun _ => false
  charge : Job → Run → Nat
  elem : Run → Nat := fun _ => 0xFFFF
  act : State → Job → Run → State

/-- An instruction of a run: the core fetches the word, which traps outside CODE; the instruction is charged,
which traps above the budget; then it acts. A context that stalls, that waits for a page, or whose next word is
another instruction executes nothing (R346, R350, R354, R360). -/
def State.instr (s : State) (k : Nat) (o : Op) : State :=
  match s.running k with
  | none => s
  | some (j, r) =>
    if r.trapPage.isSome then s
    else match r.word with
    | none => s.trap k 5
    | some w =>
      if !o.isIt r w || o.stalls r then s
      else
        let c := if r.baseCharged then 0 else o.charge j r
        if r.budget < r.used + c then s.trapAt k 1 (o.elem r)
        else
          let r := { r with used := r.used + c }
          let s := s.setRun k r
          o.act s j r

/-- An instruction on registers alone. -/
def State.simple (s : State) (k : Nat) (isIt : Nat → Bool) (charge : Nat) (f : Run → Run) : State :=
  s.instr k { isIt := fun _ => isIt, charge := fun _ _ => charge, act := fun s _ r => s.setRun k (f r).next }

/-- A word that Table - Major opcodes or Table - Vector major opcodes defines. -/
def knownWord (w : Nat) : Bool :=
  let f := functOf w
  let v := bits w 7 0
  let sub := bits w 9 8
  let vs (fs : List Nat) : Bool := fs.contains v && sub == 0
  match majorOf w with
  | 0x00 => [0, 1, 2, 3, 4, 5, 6, 7, 8, 9, 10, 11, 12, 13, 16, 17, 18, 24, 25, 26, 27].contains f
  | 0x18 => [0, 1, 2, 3, 4, 5, 8, 9, 16, 17, 18, 19].contains f
  | 0x1B => decide (f ≤ 2)
  | 0x30 => v == 0 || (v == 1 && sub == 0)
  | 0x31 | 0x32 => v == 0 && decide (sub ≤ 2)
  | 0x33 | 0x34 => vs [0, 1, 2, 3, 4, 5, 6, 7, 8, 9, 10, 11, 16, 17, 18, 24]
  | 0x35 => decide (v ≤ 5) && decide (sub ≤ 2)
  | 0x36 => vs [0, 1, 2, 3, 4, 8, 9, 16, 17]
  | 0x37 => vs [0, 1, 2, 3, 4, 5, 8, 9, 10]
  | m => decide (m ≤ 0x06) || within 0x08 m 0x17 || m == 0x19 || m == 0x1A || within 0x20 m 0x23 || m == 0x25

/-- An undefined word traps with ILLEGAL (R354, R374). -/
def State.undefinedInstruction (s : State) (k w : Nat) : State :=
  s.instr k { isIt := fun _ x => x == w && !knownWord w, charge := fun _ _ => 0
              elem := fun r => if 0x30 ≤ majorOf w then r.vresume else 0xFFFF
              act := fun s _ r => s.trapAt k 2 (if 0x30 ≤ majorOf w then r.vresume else 0xFFFF) }

/-- UNDEFINED_INSTRUCTION. -/
def execUndefinedInstruction (slot : Fin 16384) (word : BitVec 32) (s : State) : Result :=
  .next (s.undefinedInstruction slot word.toNat)

/-! ### The end of a run -/

/-- HALT's result: the first min(OUTLEN, OUT size) bytes of the OUT window for exit value 0, else RECIPE_FAULT
with cause EXIT (R358, R360). -/
def haltResult (j : Job) (r : Run) (v : Nat) : JobResult :=
  if v = 0 then
    { output := r.mem.readN 0x400000 (min r.outlen.toNat (outSize j r)), acts := [.retainKeys j.keepKeys] }
  else
    { status := .recipeFault
      detail := BitVec.ofNat 64 (0x8000 + v % 0x8000 + 65536 * 0xFFFF + 2 ^ 32 * r.pc.toNat) }

/-- HALT. -/
def execHalt (slot : Fin 16384) (rs1 : Fin 32) (s : State) : Result :=
  .next (s.instr slot {
    isIt := fun _ w => majorOf w == 0x25 && rs1Of w == rs1.val
    charge := fun _ _ => 1
    act := fun s j r => s.conclude slot (haltResult j r (r.reg rs1).toNat) })

/-! ### The placement trap -/

/-- PLACEMENT_TRAP_RESOLVED: the page is resident and the access restarts (R352, R381; log entry 38). -/
def State.placed (s : State) (k : Nat) : State :=
  match s.running k with
  | none => s
  | some (_, r) => match r.trapPage with
    | none => s
    | some p => s.modRun k fun r => { r with
        trapPage := none, resident := r.resident ++ [p] }

/-- PLACEMENT_TRAP_RESOLVED. -/
def execPlacementTrapResolved (slot : Fin 16384) (s : State) : Result := .next (s.placed slot)

end Sys2Proof.Machine
end

