-- ==== Sys2Proof/Machine/Utility.lean ====
section
/-! DEFINITION. The utility, random and recipe opcodes, and an opcode that no chapter defines (R168, R172, R361 to
R365, R436 to R438, R538). -/

namespace Sys2Proof.Machine

open Sys2Proof

/-- NOP: completes with OK, touching nothing (R168). -/
def execNop (slot : Fin 16384) (s : State) : Result :=
  .next (s.runOp slot Opc.isNop fun s _ => s.finish slot {})

/-- FENCE: as NOP; its wait is the dispatcher's (R168, R188). -/
def execFence (slot : Fin 16384) (s : State) : Result :=
  .next (s.runOp slot Opc.isFence fun s _ => s.finish slot {})

/-- An opcode that no chapter defines fails check 1 (R172). -/
def State.undefinedOpcode (s : State) (k : Nat) : State :=
  match s.job k with
  | none => s
  | some j =>
    if j.phase == .dispatched && !(entryOpc j.entry).defined then s.endJob k .badOpcode j.entry.opcode.toNat else s

/-- UNDEFINED_OPCODE. -/
def execUndefinedOpcode (slot : Fin 16384) (s : State) : Result := .next (s.undefinedOpcode slot)

/-! ### Random output -/

/-- OUT_BYTES of RANDOM_GENERATE (R437). -/
def outBytes (e : SqEntry) : Nat := bits (entryParam e) 31 0

/-- RANDOM_GENERATE's computation: the bytes are drawn from the instance's DRBG (R437, R438). -/
def State.randomGenerate (s : State) (j : Job) : Done × State :=
  if within 1 (outBytes j.entry) 16777216 then
    let r := s.drawInst j.inst (outBytes j.entry)
    (.out 6 r.1, r.2)
  else (.rejected, s)

/-- RANDOM_GENERATE. -/
def execRandomGenerate (slot : Fin 16384) (s : State) : Result :=
  .next (s.runOp slot (opIs 0x0D 1) fun s j => (s.randomGenerate j).2.finish slot (s.randomGenerate j).1)

/-- RANDOM_RESEED: the reseed was waited for at step 5 (R538). -/
def execRandomReseed (slot : Fin 16384) (s : State) : Result := .next (s.compute slot 0x0D 2 fun _ _ => {})

/-! ### Recipes -/

/-- The header fields of a package lie in their ranges (Table - Recipe header, R363). -/
def headerOk (p : Bytes) : Bool :=
  let f (o n : Nat) : Nat := fieldLe o n p
  let code := f 64 4
  p.take 8 == ascii "KQ9RECIP" && f 8 2 == 1 && f 10 2 == 0 &&
  code % 4 == 0 && decide (4 ≤ code) && decide (code + f 68 4 ≤ 262144) &&
  f 72 4 % 4 == 0 && decide (f 72 4 < code) && decide (1 ≤ f 76 4) && decide (6400 ≤ f 80 4) &&
  within 4 (f 84 2) 128 && decide (f 86 2 ≤ 64) && decide (f 88 2 ≤ 64) &&
  f 90 2 % 4 == 0 && decide (f 90 2 ≤ 128) && f 92 2 % 4 == 0 && decide (f 92 2 ≤ 64) && decide (f 94 2 ≤ 56) &&
  f 96 8 &&& 0xBFFE == f 96 8 && (slice 104 24 p).all (· == 0)

/-- Bytes of a core's job area that a run of the recipe takes (R363). -/
def partitionBytes (p : Bytes) : Nat :=
  fieldLe 64 4 p + fieldLe 68 4 p + 1024 * fieldLe 84 2 p + 1024 * fieldLe 86 2 p +
    if fieldLe 88 2 p = 0 then 0 else 16384

/-- A package that RECIPE_LOAD accepts (R363). -/
def State.packageOk (s : State) (p : Bytes) : Bool :=
  headerOk p && p.length == 128 + fieldLe 64 4 p + fieldLe 68 4 p + 3309 &&
  decide (partitionBytes p ≤ 384 * 1024) &&
  (match s.signerKey p with
   | some pk => mldsaOk 2 pk (pureMsg (ascii "KQ9-RECIPE") (recipeBody p)) (p.drop (p.length - 3309))
   | none => false)

/-- RECIPE_LOAD's computation. -/
def recipeLoad (s : State) (j : Job) : Done :=
  if s.packageOk j.input then
    { res := { acts := [.loadRecipe j.inst (recipeSlot j.entry) { package := j.input }] } }
  else .rejected

/-- RECIPE_RUN: the run begins (R364). -/
def execRecipeRun (slot : Fin 16384) (s : State) : Result :=
  .next (s.runOp slot (opIs 0x0E 1) fun s j => s.beginRun slot j)
/-- RECIPE_LOAD. -/
def execRecipeLoad (slot : Fin 16384) (s : State) : Result := .next (s.compute slot 0x0E 2 recipeLoad)
/-- RECIPE_UNLOAD: the recipe leaves the instance and tier A (R365). -/
def execRecipeUnload (slot : Fin 16384) (s : State) : Result :=
  .next (s.compute slot 0x0E 3 fun _ j => { res := { acts := [.unloadRecipe j.inst (recipeSlot j.entry)] } })
/-- RECIPE_INFO: the header, then V, as they were pinned (R362). -/
def execRecipeInfo (slot : Fin 16384) (s : State) : Result :=
  .next (s.compute slot 0x0E 4 fun _ j => .out 0 j.attrs0)

end Sys2Proof.Machine
end

