-- ==== Sys2Proof/Machine/EngineCommands.lean ====
section
/-! DEFINITION. The engine commands of a recipe: ECMD and EWAIT, the Keccak, SHA-2 and DMA commands, RETAIN (R346,
R355, R356, R358; log entry 11). -/

namespace Sys2Proof.Machine

open Sys2Proof

/-! ### ECMD -/

/-- The word is an ECMD of a kind whose registers hold a command word and a parameter word. -/
def isEcmd (kind : Nat) (cmd prm : BitVec 64) (r : Run) (w : Nat) : Bool :=
  majorOf w == 0x20 && functOf w % 16 == kind && r.reg (rs1Of w) == cmd && r.reg (rs2Of w) == prm

/-- OP of a command word. -/
def cmdOp (c : BitVec 64) : Nat := bits c.toNat 63 56

/-- A result word (Table - Clove result word). -/
def resultWord (result value : Nat) : BitVec 64 := BitVec.ofNat 64 (result + 2 ^ 32 * value)

/-- A command is outstanding with the result it will return; one of an engine waits in that kind's queue for its
engine (R199, R355; log entry 11). -/
def State.issue (s : State) (k : Nat) (j : Job) (kind cost : Nat) (word : BitVec 64) : State :=
  let engine : Bool := within 2 kind 4
  let s := s.modRun k fun r => { r.next with results := r.results ++ [{ kind := kind, word := word, ready := !engine }] }
  let s := s.when (kind == 2) fun s => s.modJob k fun j => { j with issued := true }
  s.when engine fun s => s.enqueue kind k cost j

/-- An ECMD: a fifth outstanding command of its kind stalls the context; the command is charged with it (R355). -/
def State.ecmd (s : State) (k kind : Nat) (isIt : Run → Nat → Bool) (cost : Job → Run → Nat)
    (act : State → Job → Run → State) : State :=
  s.instr k {
    isIt := isIt
    stalls := fun r => decide (4 ≤ r.outstanding kind)
    charge := fun j r => 1 + cost j r
    act := act }

/-- EWAIT: the next result of a kind in issue order; the context stalls until it is there. RESULT 1, 2 and 3 trap
(R355, R356). -/
def State.ewait (s : State) (k : Nat) (rd : Fin 32) (funct : BitVec 11) : State :=
  let kind := funct.toNat % 16
  let first (r : Run) : Option EngineResult := r.results.find? (·.kind == kind)
  s.instr k {
    isIt := fun _ w => majorOf w == 0x21 && rdOf w == rd.val && functOf w == funct.toNat
    stalls := fun r => match first r with
      | some x => !x.ready
      | none => false
    charge := fun _ _ => 1
    act := fun s _ r => match first r with
      | none => s.trap k 0x0009
      | some x => match bits x.word.toNat 3 0 with
        | 1 => s.trap k 0x0007
        | 2 => s.trap k 0x0008
        | 3 => s.trap k 0x0006
        | _ => s.setRun k ({ r with results := r.results.erase x }.setReg rd x.word).next }

/-- EWAIT. -/
def execEwait (slot : Fin 16384) (rd : Fin 32) (funct : BitVec 11) (s : State) : Result :=
  .next (s.ewait slot rd funct)

/-! ### Keccak and SHA-2 -/

/-- A of a command word. -/
def cmdA (c : BitVec 64) : Nat := bits c.toNat 47 0
/-- COUNT of a Keccak or SHA-2 command word. -/
def cmdCount (c : BitVec 64) : Nat := bits c.toNat 55 48
/-- RATE of a parameter word, LEN of a DMA's. -/
def prmHigh (p : BitVec 64) : Nat := bits p.toNat 63 48

/-- A range in DATA, SCRATCH or CLOVE_PUB, with its window (R355). -/
def State.engineWin (s : State) (j : Job) (r : Run) (a n : Nat) : Option (Win × Nat) :=
  match s.reaches j r a n with
  | some (.data, o) => some (.data, o)
  | some (.scratch, o) => some (.scratch, o)
  | some (.pub, o) => some (.pub, o)
  | _ => none

/-- A Keccak or SHA-2 command: the state of `n` bytes at A, a message of `m` bytes at B, the fields that must be in
range and the function of both (R355, R356). A range that leaves the windows traps at the ECMD. -/
def State.hashCmd (s : State) (k kind op : Nat) (cmd prm : BitVec 64) (n m perCount : Nat) (ok : Bool)
    (f : Bytes → Bytes → Bytes) : State :=
  let a := cmdA cmd
  let b := cmdA prm
  let cost := 2 + perCount * cmdCount cmd
  s.ecmd k kind (fun r w => isEcmd kind cmd prm r w && cmdOp cmd == op) (fun _ _ => cost) fun s j r =>
    match s.engineWin j r a n, (if m = 0 then some (.data, 0) else s.engineWin j r b m) with
    | some x, some y =>
      if ok && cmdCount cmd != 0 && a % 8 == 0 && (m == 0 || b % 8 == 0) then
        let msg := if m = 0 then [] else s.winRead j r y.1 y.2 b m
        (s.winWrite k j x.1 x.2 a (f (s.winRead j r x.1 x.2 a n) msg)).issue k j kind cost (resultWord 0 0)
      else s.issue k j kind cost (resultWord 1 0)
    | _, _ => s.trap k 0x0003

/-- `n` permutations of a Keccak state. -/
def permutes : Nat → Bytes → Bytes
  | 0, b => b
  | n + 1, b => permutes n (keccakBytes b)

/-- Blocks of RATE bytes absorbed into a Keccak state, `n` of them. -/
def absorbs (rate : Nat) : Nat → Bytes → Bytes → Bytes
  | 0, b, _ => b
  | n + 1, b, m => absorbs rate n (keccakBytes (xorBytes (b.take rate) (m.take rate) ++ b.drop rate)) (m.drop rate)

/-- SHA-2 compressions of `n` blocks into a state whose words of `w` bits stand big-endian, as FIPS 180-4 writes a
digest (DEDUCED, log entry 41). -/
def compresses (w n : Nat) (st m : Bytes) : Bytes :=
  let z := w / 8
  (shaBlocks w n ((List.range 8).map fun i => ofBe (slice (z * i) z st)) m).flatMap (be z)

/-- RATE lies in its range (R355). -/
def rateOk (rate : Nat) : Bool := within 8 rate 168 && rate % 8 == 0

/-- PERMUTE. -/
def execPermute (slot : Fin 16384) (cmd prm : BitVec 64) (s : State) : Result :=
  .next (s.hashCmd slot 3 0x01 cmd prm 200 0 24 true fun st _ => permutes (cmdCount cmd) st)
/-- ABSORB. -/
def execAbsorb (slot : Fin 16384) (cmd prm : BitVec 64) (s : State) : Result :=
  .next (s.hashCmd slot 3 0x02 cmd prm 200 (cmdCount cmd * prmHigh prm) 26 (rateOk (prmHigh prm))
    fun st m => absorbs (prmHigh prm) (cmdCount cmd) st m)
/-- SHA256. -/
def execSha256 (slot : Fin 16384) (cmd prm : BitVec 64) (s : State) : Result :=
  .next (s.hashCmd slot 4 0x01 cmd prm 32 (64 * cmdCount cmd) 66 true fun st m => compresses 32 (cmdCount cmd) st m)
/-- SHA512. -/
def execSha512 (slot : Fin 16384) (cmd prm : BitVec 64) (s : State) : Result :=
  .next (s.hashCmd slot 4 0x02 cmd prm 64 (128 * cmdCount cmd) 82 true fun st m => compresses 64 (cmdCount cmd) st m)

/-! ### DMA -/

/-- A window that DMA may read (R356). -/
def Win.dmaReads : Win → Bool
  | .code | .job => false
  | _ => true

/-- A range that DMA may read or write, with its window (R356). -/
def State.dmaWin (s : State) (j : Job) (r : Run) (write : Bool) (a n : Nat) : Option (Win × Nat) :=
  match s.reaches j r a n with
  | some (w, o) => if (if write then w.writable else w.dmaReads) then some (w, o) else none
  | none => none

/-- A DMA command: a copy between windows; a page that is not resident takes the placement trap (R355, R356). -/
def State.dma (s : State) (k : Nat) (cmd prm : BitVec 64) : State :=
  let n := prmHigh prm
  let cost := 2 + ceilDiv n 64
  s.ecmd k 8 (isEcmd 8 cmd prm) (fun _ _ => cost) fun s j r =>
    match s.dmaWin j r false (cmdA cmd) n, s.dmaWin j r true (cmdA prm) n with
    | some x, some y =>
      if n = 0 then s.issue k j 8 cost (resultWord 1 0)
      else match missing r x.1 (cmdA cmd) n ++ missing r y.1 (cmdA prm) n with
      | p :: _ => s.needPage k p
      | [] => (s.winWrite k j y.1 y.2 (cmdA prm) (s.winRead j r x.1 x.2 (cmdA cmd) n)).issue k j 8 cost (resultWord 0 0)
    | _, _ => s.trap k 0x0003

/-- DMA. -/
def execDma (slot : Fin 16384) (cmd prm : BitVec 64) (s : State) : Result := .next (s.dma slot cmd prm)

/-! ### RETAIN -/

/-- The word is an ECMD of a kind with a command register. -/
def isEcmdOf (kind : Nat) (rs1 : Fin 32) (w : Nat) : Bool :=
  majorOf w == 0x20 && functOf w % 16 == kind && rs1Of w == rs1.val

/-- RETAIN marks a job-scoped record of this run for keeping; any other handle traps (R358). -/
def State.retain (s : State) (k : Nat) (rs1 : Fin 32) : State :=
  s.ecmd k 10 (fun _ => isEcmdOf 10 rs1) (fun _ _ => 4) fun s j r =>
    let h := r.reg rs1
    if j.runKeys.contains h && (s.viewIn j.runKeys j.inst h).isSome then
      (s.modJob k fun j => { j with keepKeys := j.keepKeys ++ [h] }).issue k j 10 4 (resultWord 0 0)
    else s.trap k 0x0006

/-- RETAIN. -/
def execRetain (slot : Fin 16384) (rs1 : Fin 32) (s : State) : Result := .next (s.retain slot rs1)

/-! ### Every other ECMD -/

/-- A command of an open kind whose OP the tables do not define (R355, R356; Table - Clove commands). -/
def undefinedCmd (kind : Nat) (cmd : BitVec 64) : Bool :=
  match kind with
  | 2 => !(within 0x01 (cmdOp cmd) 0x14 || within 0x20 (cmdOp cmd) 0x26 || within 0x30 (cmdOp cmd) 0x33 ||
      cmdOp cmd == 0x3E)
  | 3 | 4 => !(within 1 (cmdOp cmd) 2)
  | _ => false

/-- An ECMD of kind 5, 6 or an undefined kind traps with PRIVILEGE at issue; one with an undefined OP gives the
result BAD_COMMAND, a Clove one in a run without a region REGION_FAULT (R356, R364). -/
def State.ecmdOther (s : State) (k : Nat) (rs1 rs2 : Fin 32) (funct : BitVec 11) : State :=
  let kind := funct.toNat % 16
  let open_ : Bool := within 2 kind 4 || within 8 kind 10
  s.ecmd k kind (fun r w => w == wordA 0x20 (rdOf w) rs1 rs2 funct.toNat &&
      (!open_ || undefinedCmd kind (r.reg rs1))) (fun _ _ => if open_ then 2 else 0) fun s j _ =>
    if !open_ then s.trap k 0x0006
    else if kind = 2 && j.region.isNone then s.trap k 0x0008
    else s.issue k j kind 2 (resultWord 1 0)

/-- ECMD. -/
def execEcmd (slot : Fin 16384) (rs1 rs2 : Fin 32) (funct : BitVec 11) (s : State) : Result :=
  .next (s.ecmdOther slot rs1 rs2 funct)

end Sys2Proof.Machine
end

