-- ==== Sys2Proof/Machine/Invoke.lean ====
section
/-! DEFINITION. INVOKE: a built-in operation that a recipe runs, with the checks of the same opcode on a ring (R356 to
R359, R436). -/

namespace Sys2Proof.Machine

open Sys2Proof

/-! ### The built-in operations by opcode -/

/-- The computation of a KEM opcode. -/
def kemCompute (s : State) (j : Job) : Done :=
  match (entryOpc j.entry).op with
  | 1 => kemKeygen s j
  | 3 => kemEncapsKeep s j
  | 5 => kemDecapsKeep s j
  | 2 => kemEncaps s j
  | _ => kemDecaps s j

/-- The computation of a key management opcode; KM_UPDATE and the changes to records that existed before the run
are refused before (R359). -/
def kmCompute (s : State) (j : Job) : Done :=
  match (entryOpc j.entry).op with
  | 2 => kmGenerate s j
  | 3 => kmDerive s j
  | 4 => kmDeriveRelease s j
  | 5 => kmWrap s j
  | 6 => kmUnwrap s j
  | 7 => kmExport s j
  | 8 => kmImport s j
  | 9 => kmImportPublic s j
  | 10 => kmDelete s j
  | 11 => kmInfo s j
  | 12 => kmProve s j
  | _ => .out 0 j.attrs0

/-- The computation of a signature opcode of families 0x02 to 0x05. -/
def sigCompute (s : State) (j : Job) : Done :=
  let o := entryOpc j.entry
  match o.fam, o.op with
  | 2, 1 => mldsaKeygen s j
  | 2, 2 => mldsaSignWith j.random j
  | 2, 3 => mldsaSignWith (zeros 32) j
  | 2, _ => mldsaVerify s j
  | 3, 1 => fndsaKeygen s j
  | 3, 2 => fndsaSign s j
  | 3, _ => fndsaVerify s j
  | 4, 1 => slhdsaKeygen s j
  | 4, 2 => slhdsaSignWith (·.random) j
  | 4, 3 => slhdsaSignWith (fun j => j.pub0.take (j.pub0.length / 2)) j
  | 4, _ => slhdsaVerify s j
  | _, 1 => statefulKeygen s j
  | _, 2 => statefulSign s j
  | _, 4 => statefulVerify s j
  | _, _ => .out 0 j.attrs0

/-- The computation of a classical opcode. -/
def classicCompute (s : State) (j : Job) : Done :=
  let o := entryOpc j.entry
  match o.fam, o.op with
  | 8, 1 => ecKeygen s j
  | 8, 2 => ecSign s j
  | 8, 4 => ecVerify s j
  | 8, 6 => ecAgree s j
  | 8, _ => ecAgreeKeep s j
  | _, 1 => rsaKeygen s j
  | _, 2 => rsaSignWith (.rsaSignPss o.set) (.rsaVerifyPss o.set) true j
  | _, 3 => rsaSignWith (.rsaSignPkcs1 o.set) (.rsaVerifyPkcs1 o.set) false j
  | _, 4 => rsaVerifyWith (.rsaVerifyPss o.set) true j
  | _, 5 => rsaVerifyWith (.rsaVerifyPkcs1 o.set) false j
  | _, 6 => rsaOaepEncrypt s j
  | _, _ => rsaOaepDecrypt s j

/-- The computation of an AES opcode. -/
def aesCompute (s : State) (j : Job) : Done :=
  match (entryOpc j.entry).op with
  | 1 => gcmEncrypt s j
  | 2 => gcmDecrypt s j
  | 3 => gmacGenerate s j
  | 4 => gmacVerify s j
  | 5 => kwWrapOp s j
  | 6 => kwUnwrapOp s j
  | 7 => xtsOp false s j
  | _ => xtsOp true s j

/-- The computation of a hash opcode. -/
def hashCompute (s : State) (j : Job) : Done :=
  match (entryOpc j.entry).op with
  | 1 => hashOp s j
  | 2 => macOp s j
  | 3 => macVerifyOp s j
  | _ => { res := { acts := [.closeCtx (ctxKey j.inst j.entry)] } }

/-- The computation of a built-in operation, with what it counts and draws as it runs. -/
def State.builtin (s : State) (j : Job) : Done × State :=
  let o := entryOpc j.entry
  if o.km then (kmCompute s j, s)
  else if o.kem then
    let d := kemCompute s j
    (d, if o.fam = 7 && (o.op = 2 || o.op = 3) && d.res.status != .inputRejected then
      s.bump 0x220035 0 (kemSizes 7 o.set).pk else s)
  else match o.fam with
  | 2 | 3 | 4 | 5 => (sigCompute s j, s)
  | 8 | 9 => (classicCompute s j, s)
  | 0x0A => (aesCompute s j, s)
  | 0x0B => (hashCompute s j, s)
  | 0x0C => (if o.op = 1 then hybKeygen s j else if o.op = 2 then hybSign s j else hybVerify s j, s)
  | 0x0D => if o.op = 1 then s.randomGenerate j else ({}, s)
  | _ => if o.op = 1 then (frameTagOp s j, s) else s.frameCheck j

/-! ### The invoke block -/

/-- The entry that an invoke block stands for: CTX 0, no flags (Table - Invoke block, R357). -/
def blockEntry (b : Bytes) : SqEntry :=
  let f (o n : Nat) : Nat := fieldLe o n b
  { opcode := BitVec.ofNat 16 (f 0 2), key0 := BitVec.ofNat 64 (f 8 8), key1 := BitVec.ofNat 64 (f 16 8)
    src := BitVec.ofNat 64 (f 24 8), srcLen := BitVec.ofNat 32 (f 32 4), dstLen := BitVec.ofNat 32 (f 36 4)
    dst := BitVec.ofNat 64 (f 40 8), param := BitVec.ofNat 64 (f 48 8) }

/-- The invoke block at an address: 8-byte aligned in DATA or SCRATCH (R357). -/
def State.invokeBlock (s : State) (j : Job) (r : Run) (a : Nat) : Option Bytes :=
  match s.reaches j r a 64 with
  | some (.data, o) => if a % 8 = 0 then some (s.winRead j r .data o a 64) else none
  | some (.scratch, o) => if a % 8 = 0 then some (s.winRead j r .scratch o a 64) else none
  | _ => none

/-- An INVOKE of the opcode traps with PRIVILEGE: its family is not allowed, or it releases a shared secret or key
(R357). -/
def invokeForbidden (r : Run) (o : Opc) : Bool :=
  !bit r.families o.fam || decide (63 < o.fam) || o.fam == 0x0E || o.fam == 0x10 ||
  (o.kem && (o.op == 2 || o.op == 4)) || (o.fam == 8 && o.op == 6) || (o.km && o.op == 4)

/-- The charge of an INVOKE (Table - Invoke charges). -/
def State.invokeCharge (s : State) (e : SqEntry) : Nat :=
  let c := (entryOpc e).shieldClass
  if c = 0 then 2048 + ceilDiv e.srcLen.toNat 8 else s.quantumOf c

/-- An INVOKE that would delete, update, wrap for export or migrate a record that existed before the run (R359). -/
def touchesOld (own : List (BitVec 64)) (e : SqEntry) : Bool :=
  let o := entryOpc e
  o.km && (o.op == 1 || o.op == 0x0D || o.op == 0x0E ||
    ((o.op == 7 || o.op == 0x0A) && !own.contains e.key0))

/-! ### The checks -/

/-- Checks 1 to 5 on an invoke block: the status and OUT_LEN of the first that fails (R172, R357, R359). -/
def State.invokeFails (s : State) (j : Job) (e : SqEntry) : Option (Status × Nat) :=
  let o := entryOpc e
  let own := j.runKeys
  let v := s.entryViews own j.inst e
  if !o.defined || s.policyOff j.inst o then some (.badOpcode, 0)
  else if s.stageRefuses own j.inst e || s.entryConflict own j.inst e || touchesOld own e ||
      (namesCtx e && s.ctxRefused j.inst e) || decide (s.placesLeft j.inst < o.creates) then
    some (.stateConflict, 0)
  else if (s.keyFails own j.inst e).isSome then some (.keyRefused, 0)
  else if s.pinsTooBig j.inst (viewPins v.1 v.2) then some (.stateConflict, 0)
  else if (lengthFails e).isSome then some (.lengthMismatch, 0)
  else (outputShort e v.1 v.2).map fun n => (.outputTooSmall, n)

/-- What an INVOKE takes before it runs: randomness and, for STATEFUL_SIGN, a leaf. -/
inductive Taken where
  | fails (st : Status)
  | waits
  | has (random : Bytes) (leaf : Option Nat)
  deriving DecidableEq, Repr

/-- The randomness of an invoked operation: without a seed, the wait of 50 ms that ends the INVOKE has passed when
it is carried out (R436; log entry 42). -/
def State.invokeRandom (s : State) (i : Nat) (e : SqEntry) : Option Bytes × State :=
  let d := drawsOf e
  if d.inst == 0 && d.internal == 0 && !d.masks then (some [], s)
  else if s.rng.stopped then (none, s.countDrbg 3 1)
  else
    let g := (s.inst i).drbg
    let s := if d.inst != 0 && g.seeded && (d.reseed || s.reseedDue g) then s.askReseed i else s
    if s.drawsServed i d then
      let a := if (entryOpc e).fam = 0x0D || d.inst = 0 then ([], s) else s.drawInst i d.inst
      let b := if d.internal = 0 then ([], a.2) else a.2.drawInternal d.internal
      (some (a.1 ++ b.1), b.2)
    else (none, (s.advance 50000000).countDrbg 3 1)

/-- The leaf, then the randomness. -/
def State.invokeTakes (s : State) (i : Nat) (e : SqEntry) : Taken × State :=
  let o := entryOpc e
  let l : LeafTurn × State :=
    if o.fam = 5 && o.op = 2 then s.leafTurn (handleIndex e.key0) else (.gone, s)
  match l.1 with
  | .exhausted => (.fails .stateExhausted, l.2)
  | .wait => (.waits, l.2)
  | t =>
    let leaf := match t with
      | .take n => some n
      | _ => none
    let r := l.2.invokeRandom i e
    match r.1 with
    | none => (.fails .entropyUnavailable, r.2)
    | some b => (.has b leaf, r.2)

/-! ### The operation -/

/-- The job that an invoked operation runs as: its records as they stand, its input from a window. -/
def State.invokedJob (s : State) (j : Job) (e : SqEntry) (input random : Bytes) (leaf : Option Nat) : Job :=
  let v := s.entryViews j.runKeys j.inst e
  let o := entryOpc e
  { inst := j.inst, qp := j.qp, order := j.order, entry := e, phase := .running, sequencer := j.sequencer
    key0 := (v.1.map (·.secret)).getD [], key1 := (v.2.map (·.secret)).getD []
    pub0 := (v.1.map fun v => v.pubFor o.fam).getD [], peer0 := (v.1.map (·.isPeer)).getD false
    attrs0 := viewAttrs o v.1, attrs1 := (v.2.map (·.attributes)).getD [], params0 := viewParams v.1
    input := input, random := random, leaf := leaf }

/-- STATUS and OUT_LEN are written into the block, and the result word follows (R357). -/
def State.invokeEnds (s : State) (k : Nat) (j : Job) (a : Nat) (cost : Nat) (st : Status) (n : Nat) : State :=
  let s := (s.bump 0x2A0009 5 1).modRun k fun r => { r with mem := r.mem.writeN (a + 56) (fields [(2, st.code), (2, 0), (4, n)]) }
  s.issue k j 9 cost (resultWord 0 st.code)

/-- An IV_GEN count is spent by an invoked operation (R339, R358). -/
def State.invokeIv (s : State) (e : SqEntry) : State :=
  if drawsIv (entryOpc e) && entryIvGen e then
    let x := handleIndex e.key0
    let c := s.ivCounts x
    (s.setIv x (c.1 + 1) c.2).modRecord x fun r =>
      { r with ivJournal := if r.persistent && r.ivJournal < r.ivUsed then r.ivJournal + 65536 else r.ivJournal }
  else s

/-- A record that an invoked operation creates is JOB_SCOPED, and may be neither EXPORTABLE nor MIGRATABLE (R358,
R393). -/
def LastAct.mayScope : LastAct → Bool
  | .createRecord r => !r.flag 1 && !r.flag 2
  | _ => true

/-- A last act of an invoked operation, and the bytes it puts before the output. -/
def State.invokeAct (s : State) (k : Nat) (j : Job) (a : LastAct) : Bytes × State :=
  match a with
  | .createRecord r => match s.freeIndex with
    | none => ([], s)
    | some x =>
      let h := handle r.owner x (s.genOf x)
      (le 8 h.toNat, (s.createAt x { r with flags := r.flags ||| 64 }).modJob k
        fun j => { j with runKeys := j.runKeys ++ [h] })
  | a => s.applyAct k j a

/-- The last acts of an invoked operation in order. -/
def State.invokeActs (k : Nat) (j : Job) : List LastAct → State → Bytes × State
  | [], s => ([], s)
  | a :: r, s =>
    let x := s.invokeAct k j a
    let y := State.invokeActs k j r x.2
    (x.1 ++ y.1, y.2)

/-- An invoked operation's outcome: its output in the window, its acts, its status (R357, R358). A test of the
unit that failed ends the job (R34). -/
def State.invokeOutcome (s : State) (k : Nat) (j q : Job) (a cost : Nat) (d : Done) : State :=
  let e := q.entry
  let w := (s.running k).bind fun x => s.dmaWin x.1 x.2 true e.dst.toNat (min e.dstLen.toNat (dstBytes e))
  let put (s : State) (b : Bytes) : State := match w with
    | some y => s.winWrite k j y.1 y.2 e.dst.toNat b
    | none => s
  match d.res.status with
  | .engineFault => s.unitFails k (unitIndex 1 j.sequencer) j d.res
  | .ok =>
    if d.res.acts.all LastAct.mayScope then
      let x := State.invokeActs k q d.res.acts (s.invokeIv e)
      (put x.2 (x.1 ++ d.res.output)).invokeEnds k j a cost .ok (x.1 ++ d.res.output).length
    else (s.invokeIv e).invokeEnds k j a cost .inputRejected 0
  | st => (put (s.invokeIv e) (zeros d.res.zeroDst)).invokeEnds k j a cost st 0

/-- The checks passed, the operation runs at once (log entry 11). -/
def State.invokeRuns (s : State) (k : Nat) (j : Job) (r : Run) (a cost : Nat) (e : SqEntry) : State :=
  match s.invokeFails j e with
  | some (st, n) =>
    let s := s.when (st == .stateConflict) fun s => s.conflict 2 (1024 * j.qp + j.inst) j.inst (le 2 j.qp)
    s.invokeEnds k j a cost st n
  | none =>
    let v := s.entryViews j.runKeys j.inst e
    let l0 := s.loadView v.1 true
    let l1 := l0.2.loadView v.2 true
    if !l0.1 || !l1.1 then l1.2.invokeEnds k j a cost .keyRefused 0
    else
      let input := if usesSrc e then (match l1.2.dmaWin j r false e.src.toNat e.srcLen.toNat with
        | some x => l1.2.winRead j r x.1 x.2 e.src.toNat e.srcLen.toNat
        | none => []) else []
      let room := l1.2.treesRefused e input
      if room.1 then room.2.tierVFull.invokeEnds k j a cost .stateConflict 0
      else
        let t := room.2.invokeTakes j.inst e
        match t.1 with
        | .waits => t.2.modRun k fun r => { r with baseCharged := true }
        | .fails st => t.2.invokeEnds k j a cost st 0
        | .has random leaf =>
          let q := t.2.invokedJob j e input random leaf
          let d := t.2.builtin q
          d.2.invokeOutcome k j q a cost d.1

/-- The pages that an INVOKE's SRC and DST need. -/
def State.invokePages (s : State) (j : Job) (r : Run) (e : SqEntry) : Option (List Nat) :=
  let src := if usesSrc e then (s.dmaWin j r false e.src.toNat e.srcLen.toNat).map
    fun x => missing r x.1 e.src.toNat e.srcLen.toNat else some []
  let dst := if usesDst e then (s.dmaWin j r true e.dst.toNat e.dstLen.toNat).map
    fun x => missing r x.1 e.dst.toNat e.dstLen.toNat else some []
  match src, dst with
  | some a, some b => some (a ++ b)
  | _, _ => none

/-- INVOKE (R355 to R359). -/
def State.invoke (s : State) (k : Nat) (rs1 : Fin 32) : State :=
  let entryAt (j : Job) (r : Run) : Option SqEntry :=
    (s.invokeBlock j r (bits (r.reg rs1).toNat 47 0)).map blockEntry
  s.ecmd k 9 (fun _ => isEcmdOf 9 rs1)
    (fun j r => ((entryAt j r).map s.invokeCharge).getD 0) fun s j r =>
    let a := bits (r.reg rs1).toNat 47 0
    match entryAt j r with
    | none => s.trap k (if (s.reaches j r a 64).isSome && a % 8 != 0 then 0x0004 else 0x0003)
    | some e =>
      if invokeForbidden r (entryOpc e) then s.trap k 0x0006
      else match s.invokePages j r e with
      | none => s.trap k 0x0003
      | some (p :: _) => s.needPage k p
      | some [] => s.invokeRuns k j r a (s.invokeCharge e) e

/-- INVOKE. -/
def execInvoke (slot : Fin 16384) (rs1 : Fin 32) (s : State) : Result := .next (s.invoke slot rs1)

end Sys2Proof.Machine
end

