-- ==== Sys2Proof/Machine/RingMath.lean ====
section
/-! DEFINITION. The arithmetic of the ring arithmetic engine on values: transforms, products, compression, rounding,
sampling, packing, carry-less products and binary fields (R245, R247, R257; log entries 9 and 43). -/

namespace Sys2Proof.Machine

open Sys2Proof

/-! ### Modes -/

/-- The modulus of modes 1 to 4 (Table - Clove modes). -/
def modeQ (mode : Nat) : Nat :=
  match mode with
  | 1 => 3329
  | 2 => 8380417
  | _ => 12289

/-- Elements of an object in modes 1 to 4. -/
def modeN (mode : Nat) : Nat :=
  match mode with
  | 3 => 512
  | 4 => 1024
  | _ => 256

/-- Bytes of an element's container. -/
def container : Nat → Nat
  | 1 | 6 | 7 => 2
  | 5 => 1
  | _ => 4

/-- Bits of a container that the engine reads (R247). -/
def readBits (mode : Nat) : Nat :=
  match mode with
  | 1 => 12
  | 5 => 8
  | 6 => 12
  | 7 => 13
  | _ => 24

/-- A difference modulo q. -/
def subMod (q a b : Nat) : Nat := (a + q - b % q) % q

/-- A power modulo q, by the bits of the exponent. -/
def powMod (q b : Nat) : Nat → Nat → Nat
  | 0, _ => 1 % q
  | k + 1, e => if e % 2 = 1 then b * powMod q (b * b % q) k (e / 2) % q else powMod q (b * b % q) k (e / 2)

/-- The inverse modulo a prime q. -/
def invMod (q a : Nat) : Nat := powMod q a 24 (q - 2)

/-- The low `k` bits of a number in reverse order. -/
def bitRev : Nat → Nat → Nat
  | 0, _ => 0
  | k + 1, n => n % 2 * 2 ^ k + bitRev k (n / 2)

/-! ### Transforms -/

/-- The root of unity and its index width, and the layers of a mode's transform: FIPS 203, FIPS 204, and the
2,048th root 7 for modes 3 and 4 (PRESUMED, log entry 43). -/
def modeRoot (mode : Nat) : Nat × Nat × Nat :=
  match mode with
  | 1 => (17, 7, 7)
  | 2 => (1753, 8, 8)
  | 3 => (49, 9, 9)
  | _ => (7, 10, 10)

/-- The factor of node `m` of a transform. -/
def twiddle (mode m : Nat) : Nat :=
  powMod (modeQ mode) (modeRoot mode).1 12 (bitRev (modeRoot mode).2.1 m)

/-- The forward transform from node `m`, `k` layers. -/
def nttFrom (mode : Nat) : Nat → Nat → List Nat → List Nat
  | 0, _, w => w
  | k + 1, m, w =>
    let q := modeQ mode
    let h := w.length / 2
    let z := twiddle mode m
    let t := (w.drop h).map fun x => z * x % q
    nttFrom mode k (2 * m) (List.zipWith (fun a b => (a + b) % q) (w.take h) t) ++
      nttFrom mode k (2 * m + 1) (List.zipWith (subMod q) (w.take h) t)

/-- The inverse transform from node `m`, scaling included. -/
def inttFrom (mode : Nat) : Nat → Nat → List Nat → List Nat
  | 0, _, w => w
  | k + 1, m, w =>
    let q := modeQ mode
    let h := w.length / 2
    let a := inttFrom mode k (2 * m) (w.take h)
    let b := inttFrom mode k (2 * m + 1) (w.drop h)
    let half := (q + 1) / 2
    let z := half * invMod q (twiddle mode m) % q
    List.zipWith (fun x y => (x + y) * half % q) a b ++ List.zipWith (fun x y => subMod q x y * z % q) a b

/-- The forward transform of one object. -/
@[irreducible] def ntt (mode : Nat) (w : List Nat) : List Nat := nttFrom mode (modeRoot mode).2.2 1 w
/-- The inverse transform of one object. -/
@[irreducible] def intt (mode : Nat) (w : List Nat) : List Nat := inttFrom mode (modeRoot mode).2.2 1 w

/-- The base-case products of FIPS 203: pair `i` modulo X^2 - 17^(2 brv(i) + 1). -/
def baseMul (a b : List Nat) : List Nat :=
  (List.range 128).flatMap fun i =>
    let a0 := a.getD (2 * i) 0
    let a1 := a.getD (2 * i + 1) 0
    let b0 := b.getD (2 * i) 0
    let b1 := b.getD (2 * i + 1) 0
    let g := powMod 3329 17 12 (2 * bitRev 7 i + 1)
    [(a0 * b0 + a1 * b1 % 3329 * g) % 3329, (a0 * b1 + a1 * b0) % 3329]

/-- The product of two transformed objects. -/
@[irreducible] def pmul (mode : Nat) (a b : List Nat) : List Nat :=
  if mode = 1 then baseMul a b else List.zipWith (fun x y => x * y % modeQ mode) a b

/-! ### Rounding -/

/-- FIPS 203 compression to d bits. -/
def compress (d x : Nat) : Nat := (2 * 2 ^ d * x + 3329) / (2 * 3329) % 2 ^ d
/-- FIPS 203 decompression from d bits. -/
def decompress (d y : Nat) : Nat := (2 * 3329 * (y % 2 ^ d) + 2 ^ d) / (2 * 2 ^ d)

/-- The modulus of mode 2. -/
def dsaQ : Nat := 8380417

/-- The representative of r modulo alpha in (-alpha/2, alpha/2]. -/
def centred (alpha r : Nat) : Int :=
  let m := r % alpha
  if alpha / 2 < m then (m : Int) - alpha else m

/-- An integer as an element modulo q. -/
def ofInt (q : Nat) (i : Int) : Nat := (i % (q : Int)).toNat

/-- FIPS 204 Power2Round: high and low part. -/
def power2round (r : Nat) : Nat × Nat :=
  let r0 := centred 8192 (r % dsaQ)
  ((((r % dsaQ : Nat) : Int) - r0).toNat / 8192, ofInt dsaQ r0)

/-- gamma2 as VALUE names it. -/
def gamma2 (v : Nat) : Nat := if v = 0 then (dsaQ - 1) / 88 else (dsaQ - 1) / 32

/-- FIPS 204 Decompose: high part and signed low part. -/
def decomposeI (v r : Nat) : Nat × Int :=
  let a := 2 * gamma2 v
  let r0 := centred a (r % dsaQ)
  let d := ((r % dsaQ : Nat) : Int) - r0
  if d = dsaQ - 1 then (0, r0 - 1) else (d.toNat / a, r0)

/-- FIPS 204 Decompose: high and low part as elements. -/
def decompose (v r : Nat) : Nat × Nat := ((decomposeI v r).1, ofInt dsaQ (decomposeI v r).2)

/-- FIPS 204 MakeHint. -/
def makeHint (v z r : Nat) : Nat := if (decomposeI v r).1 = (decomposeI v ((r + z) % dsaQ)).1 then 0 else 1

/-- FIPS 204 UseHint. -/
def useHint (v r h : Nat) : Nat :=
  let m := (dsaQ - 1) / (2 * gamma2 v)
  let d := decomposeI v r
  if h = 0 then d.1 else if 0 < d.2 then (d.1 + 1) % m else (d.1 + m - 1) % m

/-- The absolute value of the centred representative. -/
def centredAbs (q x : Nat) : Nat := min (x % q) (q - x % q)

/-! ### Sampling -/

/-- Bits of a byte string, the lowest of each byte first. -/
def bitsOf (b : List Nat) : List Nat := b.flatMap fun x => (List.range 8).map fun i => x / 2 ^ i % 2

/-- The number of a bit string, its first bit the lowest. -/
def ofBits : List Nat → Nat
  | [] => 0
  | b :: r => b + 2 * ofBits r

/-- The centred binomial distribution of FIPS 203: coefficient i of the bits of the source; `free` stands for those
that the source has no bits for. -/
def cbd (eta : Nat) (b : List Nat) (free : Nat → Nat) : List Nat :=
  let bs := bitsOf b
  (List.range 256).map fun i =>
    let c := (bs.drop (2 * i * eta)).take (2 * eta)
    if c.length = 2 * eta then subMod 3329 ((c.take eta).sum) ((c.drop eta).sum) else free i % 3329

/-- The coefficients of FIPS 204's bounded sampling that a byte string yields. -/
def boundedOf (eta : Nat) (b : List Nat) : List Nat :=
  (b.flatMap fun x => [x % 16, x / 16]).filterMap fun z =>
    if eta = 2 then (if z < 15 then some (ofInt dsaQ (2 - (z % 5 : Nat))) else none)
    else if z < 9 then some (ofInt dsaQ (4 - (z : Int))) else none

/-- The first 256 coefficients, with `free` for those that are wanting. -/
def filled (q : Nat) (l : List Nat) (free : Nat → Nat) : List Nat :=
  (List.range 256).map fun i => match l[i]? with
    | some x => x
    | none => free i % q

/-- Rejection sampling of FIPS 203 and FIPS 204 from groups of three bytes, until 256 coefficients: the
coefficients, and the bytes consumed. -/
def rejection (mode : Nat) : Nat → List Nat → List Nat → Nat → List Nat × Nat
  | 0, _, acc, used => (acc, used)
  | k + 1, b0 :: b1 :: b2 :: r, acc, used =>
    if 256 ≤ acc.length then (acc, used)
    else
      let c := if mode = 1 then [b0 + 256 * (b1 % 16), b1 / 16 + 16 * b2].filter (· < 3329)
        else [b0 + 256 * b1 + 65536 * (b2 % 128)].filter (· < dsaQ)
      rejection mode k r (acc ++ c) (used + 3)
  | _ + 1, _, acc, used => (acc, used)

/-! ### Packing -/

/-- Coefficients as bytes of `v` bits each. -/
def packBits (v : Nat) (l : List Nat) : List Nat :=
  let bs := l.flatMap fun x => (List.range v).map fun i => x / 2 ^ i % 2
  (List.range ((bs.length + 7) / 8)).map fun i => ofBits ((bs.drop (8 * i)).take 8)

/-- `n` coefficients of `v` bits each. -/
def unpackBits (v n : Nat) (b : List Nat) : List Nat :=
  let bs := bitsOf b
  (List.range n).map fun i => ofBits ((bs.drop (v * i)).take v)

/-! ### Binary arithmetic -/

/-- A carry-less product: the bits of `b` from the lowest. -/
def clmul (a b : Nat) : Nat → Nat
  | 0 => 0
  | k + 1 => (if b.testBit k then a * 2 ^ k else 0) ^^^ clmul a b k

/-- A product in GF(2)[x] modulo x^n - 1. -/
@[irreducible] def clmulmod (n a b : Nat) : Nat :=
  let p := clmul (a % 2 ^ n) (b % 2 ^ n) n
  (p % 2 ^ n) ^^^ (p / 2 ^ n)

/-- Width and polynomial of the field of modes 6 and 7: z^12 + z^3 + 1, z^13 + z^4 + z^3 + z + 1. -/
def gfField (mode : Nat) : Nat × Nat := if mode = 6 then (12, 0x1009) else (13, 0x201B)

/-- A polynomial reduced modulo the field polynomial, from bit `k - 1` above the width down. -/
def gfReduce (m p : Nat) : Nat → Nat → Nat
  | 0, x => x
  | k + 1, x => gfReduce m p k (if x.testBit (m + k) then x ^^^ (p * 2 ^ k) else x)

/-- A product in the field of a mode. -/
def gfMul (mode a b : Nat) : Nat :=
  let f := gfField mode
  gfReduce f.1 f.2 f.1 (clmul (a % 2 ^ f.1) (b % 2 ^ f.1) f.1)

/-- An inverse in the field of a mode, 0 to 0: the power 2^m - 2. -/
def gfInv (mode a : Nat) : Nat :=
  let sq := gfMul mode a a
  ((List.range ((gfField mode).1 - 2)).foldl
    (fun (p : Nat × Nat) _ =>
      let s := gfMul mode p.2 p.2
      (gfMul mode p.1 s, s)) (sq, sq)).1

/-- A polynomial evaluated at a point, its lowest coefficient first. -/
def gfEval (mode : Nat) (cs : List Nat) (x : Nat) : Nat :=
  cs.foldr (fun c acc => gfMul mode acc x ^^^ c) 0

/-- The parity of a number's low `n` bits. -/
def parity (x : Nat) : Nat → Nat
  | 0 => 0
  | k + 1 => (x / 2 ^ k % 2 + parity x k) % 2

end Sys2Proof.Machine
end

