-- ==== Sys2Proof/Machine/Clove.lean ====
section
/-! DEFINITION. The commands of the ring arithmetic engine: their words, their checks, their operands in the operand
memory and their effects (R245 to R257; log entries 11 and 43). -/

namespace Sys2Proof.Machine

open Sys2Proof

/-! ### Command and parameter words -/

/-- The fields of a command word and a parameter word (Table - Clove command word, Table - Clove parameter word). -/
structure CloveCmd where
  mode : Nat
  shares : Nat
  dst : Nat
  a : Nat
  b : Nat
  count : Nat
  value : Nat
  flag : Nat
  bcast : Bool
  deriving DecidableEq, Repr

/-- The fields of two words. -/
def cloveCmd (cmd prm : BitVec 64) : CloveCmd :=
  let c := cmd.toNat
  let p := prm.toNat
  { mode := bits c 55 52, shares := bits c 51 50, dst := bits c 49 40, a := bits c 39 30, b := bits c 29 20
    count := bits c 19 12, value := bits p 63 32, flag := bits p 31 22, bcast := bit p 0 }

/-- An operand address names the sealed area (R253). -/
def sealedAt (x : Nat) : Bool := x / 256 == 1

/-- L, the lines of one object (Table - Clove modes); in mode 5 of the n bits that VALUE gives. -/
def CloveCmd.lines (c : CloveCmd) : Nat :=
  match c.mode with
  | 2 => 2
  | 3 => 4
  | 4 => 8
  | 5 => ceilDiv c.value 4096
  | _ => 1

/-- Lines of all the objects of a command. -/
def CloveCmd.span (c : CloveCmd) : Nat := c.lines * c.count

/-- Lines of the objects at SRC_B. -/
def CloveCmd.spanB (c : CloveCmd) : Nat := if c.bcast then c.lines else c.span

/-- Lines of the packed bytes of a command: its coefficients in a row, VALUE bits each (DEDUCED from the example of
R262, log entry 43). -/
def CloveCmd.packed (c : CloveCmd) : Nat := ceilDiv (ceilDiv (c.count * modeN c.mode * c.value) 8) 512

/-- Lines of the bytes that one object is sampled from. -/
def CloveCmd.source (c : CloveCmd) : Nat := ceilDiv c.value 512

/-! ### Operands in the operand memory -/

/-- How an operand stands in its lines and its shares: ring or field elements, whose shares add up (in modes 5 to 7
combine by exclusive-or); containers or bytes whose shares combine by exclusive-or. -/
inductive Form where
  | ring | bool | bytes
  deriving DecidableEq, Repr

/-- First line and lines of a job's allocation in an area (R249, R253). -/
def Region.area (g : Region) (n : Nat) : Nat × Nat :=
  match n with
  | 0 => (g.publicBase, g.publicLines)
  | 1 => (g.sealedBase, g.sealedLines)
  | 2 => (g.matrixBase, g.matrixLines)
  | _ => (496, 16)

/-- `n` lines from an operand address lie in the allocation (R255). -/
def Region.holds (g : Region) (x n : Nat) : Bool := decide (x % 256 + n ≤ (g.area (x / 256)).2)

/-- The first byte of an operand address in the operand memory. -/
def Region.byteOf (g : Region) (x : Nat) : Nat := 512 * ((g.area (x / 256)).1 + x % 256)

/-- Shares of an operand: S in the sealed area, one elsewhere (R252, R253). -/
def CloveCmd.sharesAt (c : CloveCmd) (x : Nat) : Nat := if sealedAt x then max 1 c.shares else 1

/-- Width of a container in bytes, by form. -/
def formWidth (mode : Nat) : Form → Nat
  | .bytes => 1
  | _ => container mode

/-- Containers of a byte string, as the engine reads them (R247). -/
def readElems (mode : Nat) (f : Form) (b : Bytes) : List Nat :=
  let w := formWidth mode f
  (List.range (b.length / w)).map fun i =>
    let x := fieldLe (w * i) w b
    match f with
    | .bytes => x
    | .bool => x % 2 ^ readBits mode
    | .ring => if within 1 mode 4 then x % 2 ^ readBits mode % modeQ mode else x % 2 ^ readBits mode

/-- Two shares combined (R252). -/
def combine (mode : Nat) (f : Form) (a b : List Nat) : List Nat :=
  match f with
  | .ring => if within 1 mode 4 then List.zipWith (fun x y => (x + y) % modeQ mode) a b
      else List.zipWith (· ^^^ ·) a b
  | _ => List.zipWith (· ^^^ ·) a b

/-- The value of an operand of `n` lines (R252). -/
def State.operand (s : State) (g : Region) (c : CloveCmd) (f : Form) (x n : Nat) : List Nat :=
  let share (j : Nat) : List Nat :=
    readElems c.mode f ((s.opMem g.engine).readN (g.byteOf x + 512 * n * j) (512 * n))
  (List.range (c.sharesAt x - 1)).foldl (fun v j => combine c.mode f v (share (j + 1))) (share 0)

/-- The containers of values in canonical form (R247). -/
def writeElems (mode : Nat) (f : Form) (l : List Nat) : Bytes :=
  let w := formWidth mode f
  l.flatMap fun x => le w (match f with
    | .ring => if within 1 mode 4 then x % modeQ mode else x % 2 ^ readBits mode
    | _ => x % 2 ^ (8 * w))

/-- A free element of a share (R256). -/
def freeElem (mode : Nat) (f : Form) (c i : Nat) : Nat :=
  let x := ofLe (freeBytes (c + 4 * i) 4)
  match f with
  | .ring => if within 1 mode 4 then x % modeQ mode else x % 2 ^ readBits mode
  | .bool => x % 2 ^ readBits mode
  | .bytes => x % 256

/-- The last share: what the others leave of a value. -/
def lastShare (mode : Nat) (f : Form) (v : List Nat) (others : List (List Nat)) : List Nat :=
  others.foldl (fun v o =>
    if f == .ring && within 1 mode 4 then List.zipWith (subMod (modeQ mode)) v o
    else List.zipWith (· ^^^ ·) v o) v

/-- Values written at an operand address over `n` lines: plain, or as fresh shares drawn from the mask generator
(R252, R256). Lines that the values do not fill are written as zeros. -/
def State.setOperand (s : State) (g : Region) (c : CloveCmd) (f : Form) (x n : Nat) (v : List Nat) : State :=
  let k := c.sharesAt x
  let len := v.length
  let others := (List.range (k - 1)).map fun j => (List.range len).map fun i => freeElem c.mode f (s.free + 4 * len * j) i
  let shares := lastShare c.mode f v others :: others
  let s := { s with free := s.free + 4 * len * (k - 1) }
  s.modOpMem g.engine fun m =>
    ((List.range k).foldl (fun (m : Mem) j =>
      Mem.writeN m (g.byteOf x + 512 * n * j) (fit (512 * n) (writeElems c.mode f (shares.getD j [])))) m)

/-! ### What a command is -/

/-- A command of Table - Clove commands: its modes, the lines its operands take (0 where it does not use one), their
forms, the range of VALUE, its cost per whole command without the issue handshakes, and its effect: the values at
DST and VALUE of the result. -/
structure CloveOp where
  modes : List Nat
  aSpan : CloveCmd → Nat := fun _ => 0
  bSpan : CloveCmd → Nat := fun _ => 0
  dSpan : CloveCmd → Nat := fun _ => 0
  flagSpan : Nat := 0
  aForm : Form := .ring
  bForm : Form := .ring
  dForm : Form := .ring
  valueOk : CloveCmd → Bool := fun _ => true
  /-- A sealed operand is BAD_COMMAND. -/
  plainOnly : Bool := false
  /-- Two sealed sources are BAD_COMMAND. -/
  oneSealed : Bool := false
  /-- The command may write what it derives from a sealed operand in the clear: UNMASK (R255). -/
  unmasks : Bool := false
  /-- VALUE of the result depends on SRC_A. -/
  answers : Bool := false
  /-- Cost of S shares, with SRC_A sealed, SRC_B sealed, some operand sealed. -/
  cost : CloveCmd → Nat → Bool → Bool → Bool → Nat
  /-- The values at DST and VALUE, of SRC_A, SRC_B, the flag object and free numbers. -/
  effect : CloveCmd → List Nat → List Nat → List Nat → (Nat → Nat) → List Nat × Nat

/-- The operands that a command uses and that lie in the sealed area. -/
def CloveOp.sealedOperands (o : CloveOp) (c : CloveCmd) : List Nat :=
  (if o.aSpan c != 0 then [c.a] else []) ++ (if o.bSpan c != 0 then [c.b] else []) ++
  (if o.dSpan c != 0 then [c.dst] else []) ++ (if o.flagSpan != 0 then [c.flag] else []) |>.filter sealedAt

/-- S: the share count, 1 when no operand is sealed (R257). -/
def CloveOp.shareCount (o : CloveOp) (c : CloveCmd) : Nat :=
  if (o.sealedOperands c).isEmpty then 1 else max 1 c.shares

/-- The cost of a command, its two issue handshakes included (R257). -/
def CloveOp.total (o : CloveOp) (c : CloveCmd) : Nat :=
  2 + o.cost c (o.shareCount c) (sealedAt c.a) (sealedAt c.b) (!(o.sealedOperands c).isEmpty)

/-- A sealed source. -/
def CloveOp.sealedSource (o : CloveOp) (c : CloveCmd) : Bool :=
  (o.aSpan c != 0 && sealedAt c.a) || (o.bSpan c != 0 && sealedAt c.b) || (o.flagSpan != 0 && sealedAt c.flag)

/-- BAD_COMMAND (R255). -/
def CloveOp.bad (o : CloveOp) (c : CloveCmd) : Bool :=
  !o.modes.contains c.mode || c.shares == 1 || c.count == 0 || !o.valueOk c ||
  (o.plainOnly && !(o.sealedOperands c).isEmpty) ||
  (o.oneSealed && sealedAt c.a && sealedAt c.b)

/-- REGION_FAULT (R255). -/
def CloveOp.leaves (o : CloveOp) (c : CloveCmd) (g : Region) : Bool :=
  !g.holds c.a (o.aSpan c * c.sharesAt c.a) && o.aSpan c != 0 ||
  !g.holds c.b (o.bSpan c * c.sharesAt c.b) && o.bSpan c != 0 ||
  !g.holds c.flag (o.flagSpan * c.sharesAt c.flag) && o.flagSpan != 0 ||
  (o.dSpan c != 0 && (!g.holds c.dst (o.dSpan c * c.sharesAt c.dst) || c.dst / 256 == 3 ||
    (c.dst / 256 == 2 && g.staged)))

/-- PRIVILEGE (R255). -/
def CloveOp.forbidden (o : CloveOp) (c : CloveCmd) (recipe : Bool) : Bool :=
  if o.unmasks then recipe
  else if o.answers && o.dSpan c = 0 then recipe && sealedAt c.a
  else o.sealedSource c && !sealedAt c.dst

/-- RESULT of a command before any handshake is spent on data: the first check that fails (R255). -/
def CloveOp.result (o : CloveOp) (c : CloveCmd) (g : Region) (recipe : Bool) : Nat :=
  if o.bad c then 1 else if o.leaves c g then 2 else if o.forbidden c recipe then 3 else 0

/-- The effect of a command that passes its checks, and VALUE of its result. -/
def State.cloveEffect (s : State) (g : Region) (o : CloveOp) (c : CloveCmd) : Nat × State :=
  let read (f : Form) (x n : Nat) : List Nat := if n = 0 then [] else s.operand g c f x n
  let base := s.free
  let r := o.effect c (read o.aForm c.a (o.aSpan c)) (read o.bForm c.b (o.bSpan c))
    (read .bytes c.flag o.flagSpan) fun i => ofLe (freeBytes (base + 4 * i) 4)
  let s := { s with free := s.free + 4 * 256 * c.count }
  (r.2, if o.dSpan c = 0 then s else s.setOperand g c o.dForm c.dst (o.dSpan c) r.1)

/-- A command is carried out on a region: its result word and the state after it, with the counts of Table - Clove
diagnostic entries (R255 to R257, R263). -/
def State.cloveRun (s : State) (g : Region) (o : CloveOp) (c : CloveCmd) (recipe : Bool) : BitVec 64 × State :=
  match o.result c g recipe with
  | 0 =>
    let r := s.cloveEffect g o c
    (resultWord 0 r.1, (r.2.bump 0x510001 g.engine 1).bump 0x510002 g.engine (o.total c))
  | n => (resultWord n 0, s.bump 0x510007 (n - 1) 1)

/-- A command of a recipe: an ECMD of kind 2 (R355, R364). -/
def State.cloveRecipe (s : State) (k op : Nat) (cmd prm : BitVec 64) (o : CloveOp) : State :=
  let c := cloveCmd cmd prm
  s.ecmd k 2 (fun r w => isEcmd 2 cmd prm r w && cmdOp cmd == op) (fun _ _ => o.total c) fun s j _ =>
    match j.region with
    | none => s.trap k 0x0008
    | some g =>
      let r := s.cloveRun g o c true
      r.2.issue k j 2 (o.total c) r.1

/-- A command of a built-in operation's firmware: a result of 1, 2 or 3 ends the job with ENGINE_FAULT (R254,
R255). -/
def State.cloveFirmware (s : State) (k op : Nat) (cmd prm : BitVec 64) (o : CloveOp) : State :=
  let c := cloveCmd cmd prm
  match s.job k with
  | none => s
  | some j => match j.region with
    | none => s
    | some g =>
      if j.phase != .running || j.run.isSome || cmdOp cmd != op ||
          4 ≤ (s.sched.waiting.filter fun w => w.slot == k && w.kind == 2).length then s
      else
        let r := s.cloveRun g o c false
        if bits r.1.toNat 3 0 = 0 then
          (r.2.modJob k fun j => { j with issued := true }).enqueue 2 k (o.total c) j
        else r.2.endJob k .engineFault (2 + 256 * g.engine)

/-- A Clove command. -/
def State.cloveDo (s : State) (k op : Nat) (who : Issuer) (cmd prm : BitVec 64) (o : CloveOp) : State :=
  match who with
  | .recipe => s.cloveRecipe k op cmd prm o
  | .firmware => s.cloveFirmware k op cmd prm o

/-! ### Objects -/

/-- A list cut into objects of `n` elements. -/
def objects (n count : Nat) (l : List Nat) : List (List Nat) :=
  (List.range count).map fun i => (l.drop (n * i)).take n

/-- Elements of one object. -/
def CloveCmd.size (c : CloveCmd) : Nat := 512 * c.lines / container c.mode

/-- SRC_B for every count: repeated where BCAST_B names one object. -/
def CloveCmd.spread (c : CloveCmd) (b : List Nat) : List Nat :=
  if c.bcast then (List.replicate c.count b).flatten else b

/-- An effect on each object of SRC_A. -/
def eachA (f : CloveCmd → List Nat → List Nat) (c : CloveCmd) (a _ _ : List Nat) (_ : Nat → Nat) :
    List Nat × Nat :=
  ((objects c.size c.count a).flatMap (f c), 0)

/-- An effect on each object of SRC_A and SRC_B. -/
def eachAB (f : CloveCmd → List Nat → List Nat → List Nat) (c : CloveCmd) (a b _ : List Nat) (_ : Nat → Nat) :
    List Nat × Nat :=
  ((List.zipWith (f c) (objects c.size c.count a) (objects c.size c.count (c.spread b))).flatten, 0)

/-- An effect on each element. -/
def eachElem (f : CloveCmd → Nat → Nat) : CloveCmd → List Nat → List Nat → List Nat → (Nat → Nat) → List Nat × Nat :=
  fun c a _ _ _ => (a.map (f c), 0)

/-- An effect on each pair of elements. -/
def eachPair (f : CloveCmd → Nat → Nat → Nat) (c : CloveCmd) (a b _ : List Nat) (_ : Nat → Nat) : List Nat × Nat :=
  (List.zipWith (f c) a (c.spread b), 0)

/-- The modulus of a command's mode. -/
def CloveCmd.q (c : CloveCmd) : Nat := modeQ c.mode

/-! ### Lattice commands -/

/-- The cost of a transform by mode. -/
def nttCost : Nat → Nat
  | 1 => 9
  | 2 => 12
  | 3 => 26
  | _ => 56

/-- NTT and INTT. -/
def opTransform (f : Nat → List Nat → List Nat) : CloveOp where
  modes := [1, 2, 3, 4]
  aSpan := CloveCmd.span
  dSpan := CloveCmd.span
  cost := fun c n _ _ _ => c.count * nttCost c.mode * n
  effect := eachA fun c a => f c.mode a

/-- CLOVE_NTT. -/
def execCloveNtt (slot : Fin 16384) (by_ : Issuer) (cmd prm : BitVec 64) (s : State) : Result :=
  .next (s.cloveDo slot 0x01 by_ cmd prm (opTransform ntt))
/-- CLOVE_INTT. -/
def execCloveIntt (slot : Fin 16384) (by_ : Issuer) (cmd prm : BitVec 64) (s : State) : Result :=
  .next (s.cloveDo slot 0x02 by_ cmd prm (opTransform intt))

/-- The cost of a product: 3L, 3SL with one sealed source, (S^2 + 2S)L with two. -/
def productCost (n : Nat) (a b any : Bool) : Nat := if a && b then n * n + 2 * n else if any then 3 * n else 3

/-- PMUL. -/
def opPmul : CloveOp where
  modes := [1, 2, 3, 4]
  aSpan := CloveCmd.span
  bSpan := CloveCmd.spanB
  dSpan := CloveCmd.span
  cost := fun c n a b any => c.span * productCost n a b any
  effect := eachAB fun c x y => pmul c.mode x y

/-- CLOVE_PMUL. -/
def execClovePmul (slot : Fin 16384) (by_ : Issuer) (cmd prm : BitVec 64) (s : State) : Result :=
  .next (s.cloveDo slot 0x03 by_ cmd prm opPmul)

/-- DOT: one output object, the sum of the products. -/
def opDot : CloveOp where
  modes := [1, 2, 3, 4]
  aSpan := CloveCmd.span
  bSpan := CloveCmd.spanB
  dSpan := CloveCmd.lines
  cost := fun c n _ _ any => (if any then n else 1) * (2 * c.count + 1) * c.lines
  effect := fun c a b _ _ =>
    let ps := List.zipWith (pmul c.mode) (objects c.size c.count a) (objects c.size c.count (c.spread b))
    (ps.foldl (fun x y => List.zipWith (fun u v => (u + v) % c.q) x y) (List.replicate c.size 0), 0)

/-- CLOVE_DOT. -/
def execCloveDot (slot : Fin 16384) (by_ : Issuer) (cmd prm : BitVec 64) (s : State) : Result :=
  .next (s.cloveDo slot 0x04 by_ cmd prm opDot)

/-- ADD and SUB. -/
def opSum (f : Nat → Nat → Nat → Nat) : CloveOp where
  modes := [1, 2, 3, 4]
  aSpan := CloveCmd.span
  bSpan := CloveCmd.spanB
  dSpan := CloveCmd.span
  cost := fun c n _ _ _ => c.span * 3 * n
  effect := eachPair fun c x y => f c.q x y

/-- CLOVE_ADD. -/
def execCloveAdd (slot : Fin 16384) (by_ : Issuer) (cmd prm : BitVec 64) (s : State) : Result :=
  .next (s.cloveDo slot 0x05 by_ cmd prm (opSum fun q a b => (a + b) % q))
/-- CLOVE_SUB. -/
def execCloveSub (slot : Fin 16384) (by_ : Issuer) (cmd prm : BitVec 64) (s : State) : Result :=
  .next (s.cloveDo slot 0x06 by_ cmd prm (opSum subMod))

/-- CLOVE_CMUL. -/
def execCloveCmul (slot : Fin 16384) (by_ : Issuer) (cmd prm : BitVec 64) (s : State) : Result :=
  .next (s.cloveDo slot 0x07 by_ cmd prm {
    modes := [1, 2, 3, 4]
    aSpan := CloveCmd.span
    dSpan := CloveCmd.span
    cost := fun c n _ _ _ => c.span * 3 * n
    effect := eachElem fun c x => c.value * x % c.q })

/-- SAMPLE_SMALL: eta is the low byte that stands at SRC_B (DEDUCED, log entry 43). -/
def opSampleSmall : CloveOp where
  modes := [1, 2]
  aSpan := fun c => c.source * c.count
  bSpan := fun _ => 1
  dSpan := CloveCmd.span
  aForm := .bytes
  bForm := .bytes
  cost := fun c n _ _ _ => c.count *
    (if sealedAt c.dst then n * (c.source + 3 * c.lines) else c.source + c.lines)
  effect := fun c a b _ free =>
    let eta := b.headD 0
    let one (i : Nat) : List Nat :=
      let src := ((a.drop (512 * c.source * i)).take c.value)
      let fr (x : Nat) : Nat := free (256 * i + x)
      if c.mode = 1 then cbd eta src fr
      else filled dsaQ (if eta = 2 ∨ eta = 4 then boundedOf eta src else []) fr
    ((List.range c.count).flatMap one, 0)

/-- CLOVE_SAMPLE_SMALL. -/
def execCloveSampleSmall (slot : Fin 16384) (by_ : Issuer) (cmd prm : BitVec 64) (s : State) : Result :=
  .next (s.cloveDo slot 0x08 by_ cmd prm opSampleSmall)

/-- SAMPLE_UNIFORM: VALUE of the result is the bytes consumed. -/
def opSampleUniform : CloveOp where
  modes := [1, 2]
  aSpan := fun c => c.source * c.count
  dSpan := CloveCmd.span
  aForm := .bytes
  plainOnly := true
  cost := fun c _ _ _ _ => c.count * (c.source + c.lines)
  effect := fun c a _ _ free =>
    let one (i : Nat) : List Nat × Nat :=
      rejection c.mode (c.value / 3) ((a.drop (512 * c.source * i)).take c.value) [] 0
    ((List.range c.count).flatMap fun i => filled c.q (one i).1 fun x => free (256 * i + x),
     ((List.range c.count).map fun i => (one i).2).sum)

/-- CLOVE_SAMPLE_UNIFORM. -/
def execCloveSampleUniform (slot : Fin 16384) (by_ : Issuer) (cmd prm : BitVec 64) (s : State) : Result :=
  .next (s.cloveDo slot 0x09 by_ cmd prm opSampleUniform)

/-- COMPRESS and DECOMPRESS: d from 1 to 12. -/
def opCompress (f : Nat → Nat → Nat) : CloveOp where
  modes := [1]
  aSpan := CloveCmd.span
  dSpan := CloveCmd.span
  valueOk := fun c => within 1 c.value 12
  cost := fun c n _ _ any => c.span * if any then 4 * n else 2
  effect := eachElem fun c x => f c.value x

/-- CLOVE_COMPRESS. -/
def execCloveCompress (slot : Fin 16384) (by_ : Issuer) (cmd prm : BitVec 64) (s : State) : Result :=
  .next (s.cloveDo slot 0x0A by_ cmd prm (opCompress compress))
/-- CLOVE_DECOMPRESS. -/
def execCloveDecompress (slot : Fin 16384) (by_ : Issuer) (cmd prm : BitVec 64) (s : State) : Result :=
  .next (s.cloveDo slot 0x0B by_ cmd prm (opCompress decompress))

/-- POWER2ROUND and DECOMPOSE: the high parts at DST, the low parts L x C lines on; a sealed destination's shares
span both (DEDUCED, log entry 43). -/
def opSplit (ok : CloveCmd → Bool) (f : CloveCmd → Nat → Nat × Nat) : CloveOp where
  modes := [2]
  aSpan := CloveCmd.span
  dSpan := fun c => 2 * c.span
  valueOk := ok
  cost := fun c n _ _ any => c.span * if any then 6 * n else 3
  effect := fun c a _ _ _ => (a.map (fun x => (f c x).1) ++ a.map (fun x => (f c x).2), 0)

/-- VALUE names a gamma2. -/
def gammaOk (c : CloveCmd) : Bool := decide (c.value ≤ 1)

/-- CLOVE_POWER2ROUND. -/
def execClovePower2round (slot : Fin 16384) (by_ : Issuer) (cmd prm : BitVec 64) (s : State) : Result :=
  .next (s.cloveDo slot 0x0C by_ cmd prm (opSplit (fun _ => true) fun _ x => power2round x))
/-- CLOVE_DECOMPOSE. -/
def execCloveDecompose (slot : Fin 16384) (by_ : Issuer) (cmd prm : BitVec 64) (s : State) : Result :=
  .next (s.cloveDo slot 0x0D by_ cmd prm (opSplit gammaOk fun c x => decompose c.value x))

/-- CLOVE_MAKEHINT: SRC_A holds z, SRC_B holds r (DEDUCED, log entry 43). -/
def execCloveMakehint (slot : Fin 16384) (by_ : Issuer) (cmd prm : BitVec 64) (s : State) : Result :=
  .next (s.cloveDo slot 0x0E by_ cmd prm {
    modes := [2]
    aSpan := CloveCmd.span
    bSpan := CloveCmd.spanB
    dSpan := CloveCmd.span
    valueOk := gammaOk
    cost := fun c n _ _ any => c.span * if any then 6 * n else 3
    effect := eachPair fun c x y => makeHint c.value x y })

/-- CLOVE_USEHINT: the hint at SRC_B. -/
def execCloveUsehint (slot : Fin 16384) (by_ : Issuer) (cmd prm : BitVec 64) (s : State) : Result :=
  .next (s.cloveDo slot 0x0F by_ cmd prm {
    modes := [2]
    aSpan := CloveCmd.span
    bSpan := CloveCmd.spanB
    dSpan := CloveCmd.span
    valueOk := gammaOk
    cost := fun c _ _ _ _ => c.span * 3
    effect := eachPair fun c x y => useHint c.value x y })

/-- CLOVE_NORMCHK: VALUE of the result is 1 where every centred coefficient lies below the parameter VALUE. -/
def execCloveNormchk (slot : Fin 16384) (by_ : Issuer) (cmd prm : BitVec 64) (s : State) : Result :=
  .next (s.cloveDo slot 0x10 by_ cmd prm {
    modes := [1, 2, 3, 4]
    aSpan := CloveCmd.span
    answers := true
    cost := fun c n _ _ any => c.span * if any then 4 * n else 1
    effect := fun c a _ _ _ => ([], if a.all fun x => decide (centredAbs c.q x < c.value) then 1 else 0) })

/-- A2B and B2A: the same values under the other kind of shares; the packing for a Keccak core keeps the containers
(DEDUCED, log entry 43). -/
def opConvert (a d : Form) : CloveOp where
  modes := [1, 2, 3, 4]
  aSpan := CloveCmd.span
  dSpan := CloveCmd.span
  aForm := a
  dForm := d
  cost := fun c n _ _ _ => c.span * if n = 3 then 12 else 6
  effect := eachElem fun _ x => x

/-- CLOVE_A2B. -/
def execCloveA2b (slot : Fin 16384) (by_ : Issuer) (cmd prm : BitVec 64) (s : State) : Result :=
  .next (s.cloveDo slot 0x11 by_ cmd prm (opConvert .ring .bool))
/-- CLOVE_B2A. -/
def execCloveB2a (slot : Fin 16384) (by_ : Issuer) (cmd prm : BitVec 64) (s : State) : Result :=
  .next (s.cloveDo slot 0x12 by_ cmd prm (opConvert .bool .ring))

/-- CLOVE_PACK: the coefficients of all objects in a row, VALUE bits each. -/
def execClovePack (slot : Fin 16384) (by_ : Issuer) (cmd prm : BitVec 64) (s : State) : Result :=
  .next (s.cloveDo slot 0x13 by_ cmd prm {
    modes := [1, 2, 3, 4]
    aSpan := CloveCmd.span
    dSpan := CloveCmd.packed
    dForm := .bytes
    valueOk := fun c => within 1 c.value 24
    cost := fun c n _ _ _ => c.span * 2 * n
    effect := fun c a _ _ _ => (packBits c.value a, 0) })

/-- CLOVE_UNPACK. -/
def execCloveUnpack (slot : Fin 16384) (by_ : Issuer) (cmd prm : BitVec 64) (s : State) : Result :=
  .next (s.cloveDo slot 0x14 by_ cmd prm {
    modes := [1, 2, 3, 4]
    aSpan := CloveCmd.packed
    dSpan := CloveCmd.span
    aForm := .bytes
    valueOk := fun c => within 1 c.value 24
    cost := fun c n _ _ _ => c.span * 2 * n
    effect := fun c a _ _ _ => (unpackBits c.value (modeN c.mode * c.count) a, 0) })

/-! ### Binary commands -/

/-- A list of bytes as a number, the first the lowest. -/
def ofByteList : List Nat → Nat
  | [] => 0
  | b :: r => b + 256 * ofByteList r

/-- `n` bytes of a number. -/
def toByteList : Nat → Nat → List Nat
  | 0, _ => []
  | n + 1, x => x % 256 :: toByteList n (x / 256)

/-- CLOVE_CLMULMOD: modulo x^n - 1, n = VALUE. -/
def execCloveClmulmod (slot : Fin 16384) (by_ : Issuer) (cmd prm : BitVec 64) (s : State) : Result :=
  .next (s.cloveDo slot 0x20 by_ cmd prm {
    modes := [5]
    aSpan := CloveCmd.span
    bSpan := CloveCmd.spanB
    dSpan := CloveCmd.span
    oneSealed := true
    cost := fun c n _ _ any => c.count * (if any then n else 1) * (c.lines * c.lines + 2 * c.lines + 2)
    effect := eachAB fun c x y => toByteList c.size (clmulmod c.value (ofByteList x) (ofByteList y)) })

/-- CLOVE_XOR. -/
def execCloveXor (slot : Fin 16384) (by_ : Issuer) (cmd prm : BitVec 64) (s : State) : Result :=
  .next (s.cloveDo slot 0x21 by_ cmd prm {
    modes := [5, 6, 7]
    aSpan := CloveCmd.span
    bSpan := CloveCmd.spanB
    dSpan := CloveCmd.span
    cost := fun c n _ _ _ => c.span * 3 * n
    effect := eachPair fun _ x y => x ^^^ y })

/-- CLOVE_GFMUL. -/
def execCloveGfmul (slot : Fin 16384) (by_ : Issuer) (cmd prm : BitVec 64) (s : State) : Result :=
  .next (s.cloveDo slot 0x22 by_ cmd prm {
    modes := [6, 7]
    aSpan := CloveCmd.span
    bSpan := CloveCmd.spanB
    dSpan := CloveCmd.span
    cost := fun c n a b any => c.span * productCost n a b any
    effect := eachPair fun c x y => gfMul c.mode x y })

/-- CLOVE_GFSQR. -/
def execCloveGfsqr (slot : Fin 16384) (by_ : Issuer) (cmd prm : BitVec 64) (s : State) : Result :=
  .next (s.cloveDo slot 0x23 by_ cmd prm {
    modes := [6, 7]
    aSpan := CloveCmd.span
    dSpan := CloveCmd.span
    cost := fun c n _ _ _ => c.span * 2 * n
    effect := eachElem fun c x => gfMul c.mode x x })

/-- CLOVE_GFINV: 0 to 0. -/
def execCloveGfinv (slot : Fin 16384) (by_ : Issuer) (cmd prm : BitVec 64) (s : State) : Result :=
  .next (s.cloveDo slot 0x24 by_ cmd prm {
    modes := [6, 7]
    aSpan := CloveCmd.span
    dSpan := CloveCmd.span
    cost := fun c n _ _ any => c.span * (gfField c.mode).1 * if any then n * n + 2 * n else 2
    effect := eachElem fun c x => gfInv c.mode x })

/-- CLOVE_GFEVAL: the polynomial of degree t = VALUE at SRC_A, lowest coefficient first (DEDUCED, log entry 43), at
each element of C lines at SRC_B. -/
def execCloveGfeval (slot : Fin 16384) (by_ : Issuer) (cmd prm : BitVec 64) (s : State) : Result :=
  .next (s.cloveDo slot 0x25 by_ cmd prm {
    modes := [6, 7]
    aSpan := fun c => ceilDiv (c.value + 1) 256
    bSpan := CloveCmd.spanB
    dSpan := CloveCmd.span
    cost := fun c n _ _ any => c.span * (c.value + 1) * if any then n * n + 2 * n else 1
    effect := fun c a b _ _ => ((c.spread b).map (gfEval c.mode (a.take (c.value + 1))), 0) })

/-! ### Streaming -/

/-- The rows that DMA fills the stream window with, `n` bits each: the Classic McEliece public key that the job uses;
for another job what the window's 16 lines hold, and free bytes after them (R308, R314; log entry 43). -/
def State.streamRow (s : State) (j : Job) (g : Region) (n i : Nat) : Nat :=
  let o := entryOpc j.entry
  if o.fam = 7 then
    let pk := if j.entry.key0 = 0 then j.input else j.pub0
    ofLe (slice (ceilDiv n 8 * i) (ceilDiv n 8) pk) % 2 ^ n
  else
    let w := ceilDiv n 4096
    let line (x : Nat) : Nat :=
      if x < 16 then ofLe ((s.opMem g.engine).readN (512 * (496 + x)) 512)
      else ofLe (freeBytes (s.free + 512 * x) 512)
    ((List.range w).foldl (fun v x => v + line (w * i + x) * 2 ^ (4096 * x)) 0) % 2 ^ n

/-- The row bits that STREAM_MATVEC reads at SRC_B. -/
def State.rowBits (s : State) (j : Job) (c : CloveCmd) : Nat :=
  match j.region with
  | some g => ofLe ((s.opMem g.engine).readN (g.byteOf c.b) 4)
  | none => 0

/-- STREAM_MATVEC for rows of `n` bits: bit i of DST is the parity of row i and SRC_A. -/
def opMatvec (n : Nat) (row : Nat → Nat) : CloveOp where
  modes := [5]
  aSpan := fun _ => ceilDiv n 4096
  bSpan := fun _ => 1
  dSpan := CloveCmd.lines
  plainOnly := true
  cost := fun c _ _ _ _ => c.value * ceilDiv n 4096 + c.lines
  effect := fun c a _ _ _ =>
    let v := ofByteList a
    (toByteList c.size (ofBits ((List.range c.value).map fun i => parity (row i &&& v) n)), 0)

/-- CLOVE_STREAM_MATVEC. -/
def execCloveStreamMatvec (slot : Fin 16384) (by_ : Issuer) (cmd prm : BitVec 64) (s : State) : Result :=
  .next (match s.job slot with
    | none => s
    | some j => match j.region with
      | none => s.cloveDo slot 0x26 by_ cmd prm (opMatvec 0 fun _ => 0)
      | some g =>
        let n := s.rowBits j (cloveCmd cmd prm)
        s.cloveDo slot 0x26 by_ cmd prm (opMatvec n (s.streamRow j g n)))

/-! ### Moving and selecting -/

/-- CLOVE_COPY. -/
def execCloveCopy (slot : Fin 16384) (by_ : Issuer) (cmd prm : BitVec 64) (s : State) : Result :=
  .next (s.cloveDo slot 0x30 by_ cmd prm {
    modes := [1, 2, 3, 4, 5, 6, 7]
    aSpan := CloveCmd.span
    dSpan := CloveCmd.span
    cost := fun c n _ _ _ => c.span * 2 * n
    effect := eachElem fun _ x => x })

/-- CLOVE_ZERO. -/
def execCloveZero (slot : Fin 16384) (by_ : Issuer) (cmd prm : BitVec 64) (s : State) : Result :=
  .next (s.cloveDo slot 0x31 by_ cmd prm {
    modes := [1, 2, 3, 4, 5, 6, 7]
    dSpan := CloveCmd.span
    cost := fun c n _ _ _ => c.span * n
    effect := fun c _ _ _ _ => (List.replicate (c.size * c.count) 0, 0) })

/-- CLOVE_MASKED_EQ: a flag object of one line, all ones where A = B over C lines. -/
def execCloveMaskedEq (slot : Fin 16384) (by_ : Issuer) (cmd prm : BitVec 64) (s : State) : Result :=
  .next (s.cloveDo slot 0x32 by_ cmd prm {
    modes := [1, 2, 3, 4, 5, 6, 7]
    aSpan := CloveCmd.count
    bSpan := CloveCmd.count
    dSpan := fun _ => 1
    dForm := .bytes
    cost := fun c n _ _ _ => c.count * 4 * n
    effect := fun _ a b _ _ => (List.replicate 512 (if a = b then 255 else 0), 0) })

/-- CLOVE_SELECT: A where the flag object is all ones, else B. -/
def execCloveSelect (slot : Fin 16384) (by_ : Issuer) (cmd prm : BitVec 64) (s : State) : Result :=
  .next (s.cloveDo slot 0x33 by_ cmd prm {
    modes := [1, 2, 3, 4, 5, 6, 7]
    aSpan := CloveCmd.span
    bSpan := CloveCmd.spanB
    dSpan := CloveCmd.span
    flagSpan := 1
    cost := fun c n _ _ _ => c.span * 4 * n
    effect := fun c a b f _ => (if f.all (· == 255) then a else c.spread b, 0) })

/-- CLOVE_UNMASK: Shedric firmware only. -/
def execCloveUnmask (slot : Fin 16384) (by_ : Issuer) (cmd prm : BitVec 64) (s : State) : Result :=
  .next (s.cloveDo slot 0x3E by_ cmd prm {
    modes := [1, 2, 3, 4, 5, 6, 7]
    aSpan := CloveCmd.span
    dSpan := CloveCmd.span
    unmasks := true
    cost := fun c n _ _ _ => c.span * (n + 1)
    effect := eachElem fun _ x => x })

end Sys2Proof.Machine
end

