-- ==== Sys2Proof/Machine/DigestWindows.lean ====
section
/-! DEFINITION. The digest windows (R289 to R293, R295, R296). -/

namespace Sys2Proof.Machine

open Sys2Proof

/-- The windows work for a port: from DEVICE_READY on, and not in HALTED (R289). -/
def State.windowsWork (s : State) (p : Nat) : Bool := s.ready && decide (p < s.portsUsed)

/-- CLAIM: a free window goes to the writing port; a held one sets BUSY in the writer's view (R290). -/
def State.claimWindow (s : State) (p w : Nat) (token : BitVec 32) : State :=
  if !s.windowsWork p || token == 0 then s
  else if (s.window w).owner.isNone then
    s.modWindow w fun _ => { owner := some p, token := token, lastWrite := s.now }
  else
    (s.modWindow w fun x => { x with
      busyFor := if x.owner == some p || x.busyFor.contains p then x.busyFor else x.busyFor ++ [p]
      lastWrite := if x.owner == some p then s.now else x.lastWrite })

/-- A write of the owning port other than to CLAIM; another port's is ignored (R290). -/
def State.ownerWrite (s : State) (p w : Nat) (f : State → State) : State :=
  if s.windowsWork p && (s.window w).owner == some p then
    f (s.modWindow w fun x => { x with lastWrite := s.now })
  else s

/-- RELEASE: with the owner's token it clears and frees the window (R290). -/
def State.releaseWindow (s : State) (p w : Nat) (token : BitVec 32) : State :=
  s.ownerWrite p w fun s => if (s.window w).token == token then s.modWindow w fun _ => {} else s

/-- START with these fields is ignored (Table - WSTATUS). -/
def startBad (v : BitVec 32) : Bool :=
  !within 1 (bits v.toNat 3 0) 10 || (v.getLsbD 22 && bits v.toNat 3 0 != 3)

/-- The fields of WCTRL that hold (Table - WCTRL). -/
def wctrlKept (v : BitVec 32) : BitVec 32 := v &&& 0x00470F0F#32

/-- WCTRL written: its fields, and START where bit 4 is 1 (R291). -/
def State.writeWctrl (s : State) (p w : Nat) (v : BitVec 32) : State :=
  s.ownerWrite p w fun s => s.modWindow w fun x =>
    let x := { x with wctrl := wctrlKept v }
    if !v.getLsbD 4 then x
    else if startBad v then { x with configError := true }
    else { x with
      message := [], digest := [], done := false, extended := false
      alarm := false, busError := false, lengthError := false
      active := true, alg := bits v.toNat 3 0, limit := x.declared }

/-- A length disagreement clears the state (R291). -/
def Window.disagree (x : Window) : Window := { x.clear with lengthError := true }

/-- A bus error clears the state and leaves the claim (R293). -/
def Window.busErr (x : Window) : Window := { x.clear with busError := true }

/-- A DATA write: 8 bytes more, or past DECLARED_LEN a length disagreement (R291, R293). -/
def State.writeData (s : State) (p w size : Nat) (v : BitVec 64) (poisoned : Bool) : State :=
  s.ownerWrite p w fun s => s.modWindow w fun x =>
    if poisoned || size != 8 then x.busErr
    else if !x.active then x
    else
      let m := x.message ++ le 8 v.toNat
      if x.limit < m.length then x.disagree else { x with message := m }

/-- The digest is extended into the port register that EXTEND_MR names, where EXTEND is set and V has its 48 bytes
(R294 to R296). -/
def State.windowExtend (s : State) (p w : Nat) : State :=
  let x := s.window w
  if !x.wctrl.getLsbD 22 || x.alg != 3 then s
  else
    let mr := 8 + 8 * p + bits x.wctrl.toNat 18 16
    if s.mayExtend mr then (s.extendMr mr 1 x.digest).modWindow w fun x => { x with extended := true }
    else s.modWindow w fun x => { x with extendRefused := true }

/-- DATA_LAST: LAST_VALID bytes more, then the digest, or a length disagreement (R291, R298). -/
def State.writeDataLast (s : State) (p w size : Nat) (v : BitVec 64) (poisoned : Bool) : State :=
  s.ownerWrite p w fun s =>
    let x := s.window w
    if poisoned || size != 8 then s.modWindow w Window.busErr
    else if !x.active then s
    else
      let m := x.message ++ (le 8 v.toNat).take (bits x.wctrl.toNat 11 8)
      if m.length != x.limit then s.modWindow w Window.disagree
      else
        let s := s.modWindow w fun x => { x with
          message := m, digest := hashOf x.alg m 0, done := true, active := false }
        (s.bump 0x220028 7 1).windowExtend p w

/-- DIGEST as read: zero before DONE, which sets EARLY_READ (R292). -/
def State.readDigest (s : State) (p w word : Nat) : State :=
  let at_ := 0x8000 + 0x1000 * w + 0x40 + 8 * word
  let answer (s : State) (n : Nat) : State := s.send (.registerRead p at_ (BitVec.ofNat 64 n))
  if !s.windowsWork p then answer s 0
  else if (s.window w).done then answer s (fieldLe (8 * word) 8 (fit 64 (s.window w).digest))
  else answer (s.modWindow w fun x => { x with earlyRead := true }) 0

/-- 10 s with no write from the owner free the window (R290). -/
def State.windowIdle (s : State) (w : Nat) : State :=
  if (s.window w).owner.isSome then (s.until ((s.window w).lastWrite + 10000000000)).freeWindow w else s

/-- CLAIM. -/
def execClaim (port win : Fin 4) (value : BitVec 32) (s : State) : Result := .next (s.claimWindow port win value)
/-- RELEASE. -/
def execRelease (port win : Fin 4) (value : BitVec 32) (s : State) : Result := .next (s.releaseWindow port win value)
/-- DIGEST_START: a write of WCTRL with START. -/
def execDigestStart (port win : Fin 4) (value : BitVec 32) (s : State) : Result :=
  .next (s.writeWctrl port win (value ||| 16))
/-- DATA. -/
def execData (port win : Fin 4) (size : Nat) (value : BitVec 64) (poisoned : Bool) (s : State) : Result :=
  .next (s.writeData port win size value poisoned)
/-- DATA_LAST. -/
def execDataLast (port win : Fin 4) (size : Nat) (value : BitVec 64) (poisoned : Bool) (s : State) : Result :=
  .next (s.writeDataLast port win size value poisoned)
/-- DIGEST_READ. -/
def execDigestRead (port win : Fin 4) (word : Fin 8) (s : State) : Result := .next (s.readDigest port win word)
/-- DIGEST_WINDOW_IDLE. -/
def execDigestWindowIdle (win : Fin 4) (s : State) : Result := .next (s.windowIdle win)

end Sys2Proof.Machine
end

