-- ==== Sys2Proof/Machine/Rings.lean ====
section
/-! DEFINITION. The rings of a queue pair: its control register, doorbells, fetched entries and posted
completions, and the spill area beside them (R136 to R140, R176 to R193). -/

namespace Sys2Proof.Machine

open Sys2Proof

/-! ### QP_CTRL -/

/-- The enabled queue pairs of an instance that has become ENABLED become ACTIVE (R138). -/
def State.activateQps (s : State) (i : Nat) : State :=
  s.modInst i fun n => { n with qps := n.qps.map fun x : Qp =>
    if x.enable && x.state == .disabled then { x with state := .active } else x }

/-- The completions that a queue pair with CQ_WRITE_FAULT keeps are dropped and their slots released
(R193). -/
def State.dropFinished (s : State) (i q : Nat) : State :=
  s.forEach ((s.jobsOfQp i q).filter (·.2.phase == .finished)) fun s k => s.releaseSlot k.1

/-- ENABLE is cleared: fetching stops, undispatched entries go, the queue pair is STOPPING until its last
job has posted (R138, R193, R194). -/
def State.disableQp (s : State) (i q : Nat) (x : Qp) : State :=
  if x.state == .active || x.state == .error then
    let s := s.modQp i q fun y => { y.discard with state := .stopping }
    let s := if x.errCode = 7 then s.dropFinished i q else s
    s.checkStopped i q
  else s

/-- ENABLE is set: a DISABLED queue pair of an ENABLED instance becomes ACTIVE, another when it can (R138). -/
def State.enableQp (s : State) (i q : Nat) (x : Qp) : State :=
  if x.state == .disabled && s.instState i == .enabled then
    s.modQp i q fun y => { y with state := .active }
  else s

/-- A write of QP_CTRL whose ENABLE bit is `on`: VECTOR and ENABLE take effect; LOG2_SIZE and ORDERED only
while the queue pair is DISABLED, and LOG2_SIZE only from 4 up; what is dropped sets CONFIG_IGNORED
(R138, R139). -/
def State.writeQpCtrl (s : State) (i q : Nat) (v : Nat) (on : Bool) : State :=
  match s.qp i q with
  | none => s
  | some x =>
    let idle := x.state == .disabled
    let size := bits v 7 4
    let keepSize := decide (size < 4) || (!idle && size != x.log2)
    let keepOrder := !idle && bit v 1 != x.ordered
    let s := s.modQp i q fun y => { y with
      enable := on, vector := bits v 27 16
      log2 := if keepSize then y.log2 else size
      ordered := if keepOrder then y.ordered else bit v 1 }
    let s := if keepSize || keepOrder then s.errorBit i .configIgnored else s
    if on then s.enableQp i q x else s.disableQp i q x

/-- QP_ENABLE: a write of QP_CTRL with ENABLE set. -/
def execQpEnable (inst : Fin 1024) (qp : Fin 1023) (value : BitVec 32) (s : State) : Result :=
  .next (s.writeQpCtrl inst qp value.toNat true).dispatch

/-- QP_DISABLE: a write of QP_CTRL with ENABLE clear. -/
def execQpDisable (inst : Fin 1024) (qp : Fin 1023) (value : BitVec 32) (s : State) : Result :=
  .next (s.writeQpCtrl inst qp value.toNat false).dispatch

/-! ### Submission doorbells -/

/-- A queue pair takes SQ doorbells: ACTIVE, in an ENABLED instance (R139, R192). -/
def State.takesSq (s : State) (i : Nat) (x : Qp) : Bool :=
  x.state == .active && s.instState i == .enabled

/-- SQ_DOORBELL without INVAL: INDEX is the new P, or a ring error (R182). -/
def State.sqDoorbell (s : State) (i q index : Nat) : State :=
  match s.qp i q with
  | none => s
  | some x =>
    let m := 2 * x.n
    if !s.takesSq i x then s
    else if m ≤ index then s.ringError i q 2 index
    else if x.n < x.held + (index + m - x.p) % m then s.ringError i q 1 index
    else (s.modQp i q fun y => { y with p := index }).fetch i q

/-- SQ_DOORBELL. -/
def execSqDoorbell (inst : Fin 1024) (qp : Fin 1023) (index : BitVec 17) (s : State) : Result :=
  .next (s.sqDoorbell inst qp index.toNat)

/-- A queue pair whose producer index goes back to `p`: the cached entries from there on are discarded, and
reads under way for them are dropped when they answer (R182, R183). -/
def Qp.withdraw (x : Qp) (p : Nat) : Qp :=
  let kept := (p + 2 * x.n - x.c) % (2 * x.n)
  { x with p := p, cache := x.cache.take kept, fetching := min x.fetching (kept - x.cache.length) }

/-- SQ_DOORBELL with INVAL: the entries from INDEX onward that are not dispatched are withdrawn, or a ring
error (R182, R183). -/
def State.sqWithdraw (s : State) (i q index : Nat) : State :=
  match s.qp i q with
  | none => s
  | some x =>
    let m := 2 * x.n
    let d := (x.p + m - index) % m
    if !s.takesSq i x then s
    else if m ≤ index then s.ringError i q 2 index
    else if d ≤ x.held then s.modQp i q fun y => y.withdraw index
    else if d ≤ x.n then s.modQp i q fun y => y.withdraw y.c
    else s.ringError i q 4 index

/-- SQ_WITHDRAW. -/
def execSqWithdraw (inst : Fin 1024) (qp : Fin 1023) (index : BitVec 17) (s : State) : Result :=
  .next (s.sqWithdraw inst qp index.toNat)

/-! ### Fetched entries -/

/-- A ring entry cannot be reached: no root, an address above 48 bits, or a cached translation that denies
the access (R151 to R153). -/
def State.ringBlocked (s : State) (i a : Nat) (write : Bool) : Bool :=
  if s.usesTable i then (s.inst i).root.isNone || decide (2 ^ 48 ≤ a) else !(s.translates i [] write a).1

/-- DESCRIPTOR_ARRIVAL: the oldest read under way answers with its entry, which the dispatcher may take;
one that does not translate for reading is a ring error (R24 steps 3 and 4, R184, R192). -/
def State.descriptorArrival (s : State) (i q : Nat) (entry : Option SqEntry) : State :=
  match s.qp i q with
  | none => s
  | some x =>
    if x.fetching = 0 || !(x.state == .active) then s
    else
      let index := (x.c + x.cache.length) % (2 * x.n)
      let blocked := s.ringBlocked i (x.sqBase.toNat + 64 * (index % x.n)) false
      match entry with
      | none => s.ringError i q 6 index
      | some e =>
        if blocked then s.ringError i q 6 index
        else (s.modQp i q fun y => { y with cache := y.cache ++ [e], fetching := y.fetching - 1 }).dispatch

/-- DESCRIPTOR_ARRIVAL. -/
def execDescriptorArrival (inst : Fin 1024) (qp : Fin 1023) (entry : Option SqEntry) (s : State) : Result :=
  .next (s.descriptorArrival inst qp entry)

/-! ### Completion entries -/

/-- STATUS as it is posted: OK after a corrected fault is OK_CORRECTED, with the unit in DETAIL (R34,
R179). -/
def Job.posted (j : Job) : JobResult :=
  match j.result.status, j.corrected with
  | .ok, some u => { j.result with status := .okCorrected, detail := BitVec.ofNat 64 (u.1 + 256 * u.2) }
  | _, _ => j.result

/-- TIMESTAMP: device time, or uptime while it has no value (Table - Completion entry). -/
def State.stamp (s : State) : Nat := s.clk.devTime.getD s.uptime

/-- A completion entry without its PHASE bit, as `index` of SQ_HEAD (R176). -/
def State.entryBytes (s : State) (j : Job) (c : Nat) : Bytes :=
  let r := j.posted
  let info := (if j.shielded then 1 else 0) + (if j.waited then 2 else 0) + (if j.fenced then 4 else 0) +
    (if bit c 16 then 128 else 0)
  fields [(4, j.entry.tag.toNat), (2, r.status.code), (2, j.qp), (4, r.outLen), (2, c), (2, 0),
    (8, r.detail.toNat), (6, s.stamp), (1, info)]

/-- A completion entry is written at the producer index, with the PHASE of the pass, and Q moves on
(R177). -/
def State.writeCompletion (s : State) (i q : Nat) (x : Qp) (head : Bytes) : State :=
  (s.send (.completion i q x.q (head ++ [if x.q < x.n then 1 else 0]))).modQp i q
    fun y => { y with q := (y.q + 1) % (2 * y.n) }

/-- A posted run is counted, and by its outcome (Table - Recipe entries). -/
def State.countRun (s : State) (st : Status) : State :=
  let s := s.bump 0x2A0009 0 1
  match st with
  | .ok | .okCorrected => s.bump 0x2A0009 1 1
  | .recipeFault => s.bump 0x2A0009 2 1
  | _ => s

/-- The counters of posted jobs: JOBS_POSTED and the operation's own; frames by their number (R160, R164,
R345). -/
def State.countPosted (s : State) (j : Job) : State :=
  let o := entryOpc j.entry
  let n : Nat := if o.fam = 0x0F then frameCount j.entry else 1
  let s := s.modInst j.inst fun n => { n with posted := n.posted + 1 }
  let s := if o == ⟨0x0E, 0, 1⟩ then s.countRun j.result.status else s
  match o.counter with
  | some c => s.bump c.1 c.2 n
  | none => s

/-- A job may post now: earlier jobs of an ORDERED queue pair have posted, else none that finished before
waits (R186, R187). -/
def State.postTurn (s : State) (j : Job) (x : Qp) : Bool :=
  (s.jobsOfQp j.inst j.qp).all fun k =>
    if x.ordered then decide (j.order ≤ k.2.order)
    else k.2.phase != .finished || decide (j.finish ≤ k.2.finish)

/-- A posted job leaves: its counters, its slot, and what its slot and its place in the ring held back
(R24 step 13, R185, R188). -/
def State.leave (s : State) (k : Nat) (j : Job) : State :=
  ((s.countPosted j).releaseSlot k).markWaits j.inst j.qp |>.dispatch

/-- The completion ring does not take a write: CQ_WRITE_FAULT, the completion stays in its slot (R193). -/
def State.cqWriteFault (s : State) (i q : Nat) (x : Qp) : State :=
  if x.state == .error then s.modQp i q fun y => { y with errCode := 7 }
  else s.ringError i q 7 x.q

/-- COMPLETION_POST of a finished job whose turn it is (R164, R176, R186 to R193). -/
def State.postJob (s : State) (k : Nat) (j : Job) (x : Qp) (fault : Bool) : State :=
  let i := j.inst
  let q := j.qp
  if x.errCode = 7 then (if x.enable then s else (s.releaseSlot k).dispatch)
  else if !j.posts then s.leave k j
  else if x.full then s.markWaits i q
  else if fault || s.ringBlocked i (x.cqBase.toNat + 32 * (x.q % x.n)) true then
    let s := s.cqWriteFault i q x
    if x.enable then s else (s.releaseSlot k).dispatch
  else
    let s := s.writeCompletion i q x (s.entryBytes j x.c)
    let s := if bit j.entry.flags.toNat 4 then s.raiseVec i x.vector else s
    s.leave k j

/-- COMPLETION_POST: step 13 of Table - Job path. Completions held over a freeze go first (R159). -/
def State.completionPost (s : State) (k : Nat) (fault : Bool) : State :=
  match s.job k with
  | none => s
  | some j => match s.qp j.inst j.qp with
    | none => s
    | some x =>
      let behind := (s.inst j.inst).held.any (·.qp == j.qp)
      if j.phase != .finished || behind || !s.postTurn j x then s
      else s.postJob k j x fault

/-- COMPLETION_POST. -/
def execCompletionPost (slot : Fin 16384) (writeFault : Bool) (s : State) : Result :=
  .next (s.completionPost slot writeFault)

/-- Completions held over a freeze are posted in order while their ring has room (R156, R159). -/
def State.postHeldN (i : Nat) : Nat → State → State
  | 0, s => s
  | n + 1, s =>
    let ready (h : HeldCompletion) : Bool := match s.qp i h.qp with
      | some x => !x.full
      | none => false
    match (s.inst i).held.find? ready with
    | none => s
    | some h => match s.qp i h.qp with
      | none => s
      | some x =>
        let s := s.writeCompletion i h.qp x h.entry
        let s := if h.irq then s.raiseVec i x.vector else s
        let s := s.modInst i fun n => { n with held := n.held.erase h, posted := n.posted + 1 }
        State.postHeldN i n s

/-- Every held completion of an instance that finds room is posted. -/
def State.postHeld (s : State) (i : Nat) : State := State.postHeldN i (s.inst i).held.length s

/-- A CQ doorbell is accepted: the queue pair is ACTIVE, STOPPING or ERROR, the instance FROZEN, or a drain
reset still waits for its jobs (R139, R148). -/
def State.takesCq (s : State) (i : Nat) (x : Qp) : Bool :=
  match s.instState i with
  | .frozen => true
  | .resetting => !(s.jobsOf i).isEmpty
  | .destroying | .unallocated => false
  | _ => x.state != .disabled

/-- CQ_DOORBELL: INDEX is the new D and waiting completions may find room, or a ring error (R182, R190). -/
def State.cqDoorbell (s : State) (i q index : Nat) : State :=
  match s.qp i q with
  | none => s
  | some x =>
    let m := 2 * x.n
    let bad := m ≤ index || x.n < (x.q + m - index) % m
    if !s.takesCq i x then s
    else if bad then
      (if x.state == .error then s else s.ringError i q (if m ≤ index then 5 else 3) index)
    else
      let s := s.modQp i q fun y => { y with d := index }
      let s := if s.instState i == .enabled then s.postHeld i else s
      s.markWaits i q

/-- CQ_DOORBELL. -/
def execCqDoorbell (inst : Fin 1024) (qp : Fin 1023) (index : BitVec 17) (s : State) : Result :=
  .next (s.cqDoorbell inst qp index.toNat)

/-- CQ_WAIT: a completion has waited for room for 10 ms; one WARNING for each wait (R191). -/
def State.cqWait (s : State) (i q : Nat) : State :=
  match s.qp i q with
  | none => s
  | some x => match x.waitSince with
    | none => s
    | some t =>
      if x.waitTold then s
      else
        let s := (s.until (t + 10000000)).modQp i q fun y => { y with waitTold := true }
        s.eventOf .cqWait i (le 2 i ++ le 2 q)

/-- CQ_WAIT. -/
def execCqWait (inst : Fin 1024) (qp : Fin 1023) (s : State) : Result := .next (s.cqWait inst qp)

/-! ### The spill area -/

/-- SPILL_CTRL.ENABLE is written (R140). -/
def State.writeSpill (s : State) (i : Nat) (on : Bool) : State :=
  if on then s.modInst i fun n => { n with spillEnable := true }
  else if (s.inst i).spillEnable then s.modInst i fun n => { n with spillEnable := false, spillBusy := true }
  else s

/-- The instance has registers to write: it is allocated, or a port manager's own. -/
def State.hasRegs (s : State) (i : Nat) : Bool := s.instState i != .unallocated

/-- SPILL_GRANT. -/
def execSpillGrant (inst : Fin 1024) (s : State) : Result :=
  .next (if s.hasRegs inst then s.writeSpill inst true else s)

/-- SPILL_REVOKE. -/
def execSpillRevoke (inst : Fin 1024) (s : State) : Result :=
  .next (if s.hasRegs inst then s.writeSpill inst false else s)

/-- A record is read back from the spill area into tier V; one that fails its seal is lost from there
(R22, R140). -/
def State.readBack (s : State) (k : Nat) : State :=
  match s.record k with
  | none => s
  | some r =>
    if r.badSeal then
      let s := (s.errorBit r.owner .spillFault).openFault { src := 0x0C, inst := r.owner, detail := k }
      let s := s.countTier 7 1
      if r.persistent && r.inA then s.modRecord k fun r => { r with inH := false } else s.removeRecord k
    else (s.modRecord k fun r => { r with inH := false, inV := true }).countTier 3 1

/-- SPILL_REVOKE_DONE: every record of the area stands in tier V again and BUSY clears (R140). -/
def State.spillRevokeDone (s : State) (i : Nat) : State :=
  if (s.inst i).spillBusy then
    let s := s.forEach ((s.keys.records.filter fun r => r.2.owner == i && r.2.inH).map (·.1))
      fun s k => s.readBack k
    (s.modInst i fun n => { n with spillBusy := false }).trimV
  else s

/-- SPILL_REVOKE_DONE. -/
def execSpillRevokeDone (inst : Fin 1024) (s : State) : Result := .next (s.spillRevokeDone inst)

end Sys2Proof.Machine
end

