-- ==== Sys2Proof/Machine/Mailbox.lean ====
section
/-! DEFINITION. The port manager's mailbox: instances, translation roots and open slots, and the ends of
the work its commands start (R145 to R150, R153, R154, R156, R412 to R414, R536). -/

namespace Sys2Proof.Machine

open Sys2Proof

/-! ### What every command shares -/

/-- A mailbox command: its code, SEQ and the argument bytes that follow at offset 8 (R149). -/
structure Mail where
  code : Nat
  seq : Nat
  args : Bytes := []
  deriving DecidableEq, Repr

/-- A response is written: BUSY clears, DONE and MAILBOX_DONE are set (R149). -/
def State.mailAnswer (s : State) (p : Nat) (m : Mail) (st : Status) (data : Bytes) : State :=
  (s.modPort p fun t => { t with
    mbxBusy := false, mbxDone := true
    mbxResp := fit 256 (fields [(2, m.code), (2, st.code), (4, m.seq)] ++ data) }).portEvent p .mailboxDone

/-- STATE_CONFLICT, counted under R123. -/
def State.mailConflict (s : State) (p : Nat) (m : Mail) : State :=
  (s.conflict 1 p 0xFFFF (le 1 p)).mailAnswer p m .stateConflict []

/-- The request stands in MBX_REQUEST and the doorbell has been written (R149). -/
def State.mailTake (s : State) (p : Nat) (m : Mail) : State :=
  s.modPort p fun t => { t with mbxReq := fit 256 (fields [(2, m.code), (2, 0), (4, m.seq)] ++ m.args) }

/-- The block serves the mailboxes of its ports: from DEVICE_READY on, and in HALTED. -/
def State.mailServed (s : State) (p : Nat) : Bool := (s.ready || s.halted) && decide (p < s.portsUsed)

/-- Every command but INST_STATUS is refused: in HALTED, during a power-fail warning or a transition
(R114, R147, R466). -/
def State.mailClosed (s : State) : Bool := s.halted || s.warning || s.inTransition

/-- An instance a port's commands may name: a VF instance of its range (R150). -/
def State.mailRange (s : State) (p n : Nat) : Bool := decide (4 ≤ n) && s.portOf n == some p

/-- A command about an instance, checked in the order of R150: the range, the fields, the present state,
then its effect, which gives the response data. -/
def State.mailInst (s : State) (p : Nat) (m : Mail) (n : Nat) (fieldsOk stateOk : Bool)
    (run : State → State × Bytes) : State :=
  if !s.mailServed p then s
  else
    let s := s.mailTake p m
    if !s.mailRange p n then s.mailAnswer p m .accessDenied []
    else if !fieldsOk then s.mailAnswer p m .lengthMismatch []
    else if s.mailClosed || !stateOk then s.mailConflict p m
    else
      let r := run s
      r.1.mailAnswer p m .ok r.2

/-- A command whose effect gives no response data. -/
def noData (f : State → State) (s : State) : State × Bytes := (f s, [])

/-- The state of a VF instance is one of a list. -/
def State.inState (s : State) (n : Nat) (l : List InstState) : Bool := l.contains (s.inst n).state

/-! ### INST_CREATE and INST_SET -/

/-- The argument bytes of INST_CREATE and INST_SET. -/
def createBytes (a : CreateArgs) : Bytes :=
  fields [(2, a.n.toNat), (2, a.qpCount.toNat), (2, a.vecCount.toNat), (2, a.weight.toNat),
    (4, a.slotQuota.toNat), (4, a.recQuota.toNat), (4, a.tierSKib.toNat)]

/-- The configuration that a request gives an instance. -/
structure InstConfig where
  qpCount : Nat
  vecCount : Nat
  weight : Nat
  slotQuota : Nat
  recQuota : Nat
  tierSKib : Nat
  deriving DecidableEq, Repr

/-- The configuration an INST_CREATE names. -/
def configOf (a : CreateArgs) : InstConfig :=
  ⟨a.qpCount.toNat, a.vecCount.toNat, a.weight.toNat, a.slotQuota.toNat, a.recQuota.toNat, a.tierSKib.toNat⟩

/-- The configuration an INST_SET leaves: 0xFFFF and 0xFFFF_FFFF keep a field (Table - Mailbox commands). -/
def configOver (a : CreateArgs) (n : Inst) : InstConfig :=
  let half (v : BitVec 16) (old : Nat) : Nat := if v = 0xFFFF then old else v.toNat
  let word (v : BitVec 32) (old : Nat) : Nat := if v = 0xFFFFFFFF then old else v.toNat
  ⟨half a.qpCount n.qpCount, half a.vecCount n.vecCount, half a.weight n.weight,
    word a.slotQuota n.slotQuota, word a.recQuota n.recQuota, word a.tierSKib n.tierSKib⟩

/-- The fields of a configuration lie in their ranges (R150). -/
def State.configOk (s : State) (p : Nat) (c : InstConfig) : Bool :=
  within 1 c.qpCount 1023 && within 1 c.vecCount 128 && within 1 c.weight 4096 &&
  decide (c.slotQuota ≤ s.portOd p 4) && decide (c.recQuota ≤ s.portOd p 5) &&
  decide (c.tierSKib ≤ s.portOd p 6)

/-- The fields that an INST_SET gives lie in their ranges; a field it leaves unchanged is not checked (R150). -/
def State.setOk (s : State) (p : Nat) (a : CreateArgs) : Bool :=
  (a.qpCount == 0xFFFF || within 1 a.qpCount.toNat 1023) &&
  (a.vecCount == 0xFFFF || within 1 a.vecCount.toNat 128) &&
  (a.weight == 0xFFFF || within 1 a.weight.toNat 4096) &&
  (a.slotQuota == 0xFFFFFFFF || decide (a.slotQuota.toNat ≤ s.portOd p 4)) &&
  (a.recQuota == 0xFFFFFFFF || decide (a.recQuota.toNat ≤ s.portOd p 5)) &&
  (a.tierSKib == 0xFFFFFFFF || decide (a.tierSKib.toNat ≤ s.portOd p 6))

/-- The port's share takes an instance's queue pairs and vectors in place of what it holds (R150). -/
def State.shareTakes (s : State) (p : Nat) (c : InstConfig) (old : Nat × Nat) : Bool :=
  decide (s.qpAllocated p + c.qpCount ≤ s.portOd p 3 + old.1) &&
  decide (s.vecAllocated p + c.vecCount ≤ 2048 + old.2)

/-- An instance with a configuration. -/
def Inst.configure (n : Inst) (c : InstConfig) : Inst :=
  { n with
    qpCount := c.qpCount, vecCount := c.vecCount, weight := c.weight, slotQuota := c.slotQuota
    recQuota := c.recQuota, tierSKib := c.tierSKib
    qps := n.qps.take c.qpCount ++ List.replicate (c.qpCount - n.qps.length) {} }

/-- An allocated instance begins in CREATED with its configuration, its registers at reset values (R146,
R537). -/
def State.allocate (s : State) (n : Nat) (c : InstConfig) : State :=
  let old := s.inst n
  let fresh : Inst := { errStatus := old.errStatus, migResult := old.migResult }
  (s.setInst n (fresh.configure c)).setInstState n .created

/-- INST_CREATE. -/
def State.instCreate (s : State) (p seq : Nat) (a : CreateArgs) : State :=
  let n := a.n.toNat
  let c := configOf a
  s.mailInst p ⟨1, seq, createBytes a⟩ n (s.configOk p c)
    (s.inState n [.unallocated] && (s.inst n).migBusy.isNone && s.shareTakes p c (0, 0))
    (noData fun s => s.allocate n c)

/-- INST_CREATE. -/
def execInstCreate (port : Fin 4) (seq : BitVec 32) (a : CreateArgs) (s : State) : Result :=
  .next (s.instCreate port seq.toNat a)

/-- INST_SET: counts change only in CREATED and FROZEN (R150). -/
def State.instSet (s : State) (p seq : Nat) (a : CreateArgs) : State :=
  let n := a.n.toNat
  let x := s.inst n
  let c := configOver a x
  let same := c.qpCount == x.qpCount && c.vecCount == x.vecCount
  s.mailInst p ⟨3, seq, createBytes a⟩ n (s.setOk p a)
    (s.inState n [.created, .enabled, .frozen] && (same || s.inState n [.created, .frozen]) &&
      s.shareTakes p c (x.qpCount, x.vecCount))
    (noData fun s => ((s.modInst n fun x => x.configure c).trimS n).dispatch)

/-- INST_SET. -/
def execInstSet (port : Fin 4) (seq : BitVec 32) (a : CreateArgs) (s : State) : Result :=
  .next (s.instSet port seq.toNat a)

/-! ### Changes of state -/

/-- INST_ENABLE: the DRBG is instantiated and enabled queue pairs become ACTIVE (R146). -/
def State.instEnable (s : State) (p seq n : Nat) : State :=
  s.mailInst p ⟨2, seq, le 2 n⟩ n true (s.inState n [.created])
    (noData fun s => ((s.setInstState n .enabled).activateQps n).askDrbg n)

/-- INST_ENABLE. -/
def execInstEnable (port : Fin 4) (seq : BitVec 32) (n : BitVec 16) (s : State) : Result :=
  .next (s.instEnable port seq.toNat n.toNat)

/-- INST_RESET, 0 in drain and 1 in squash mode (R147, R148). -/
def State.instReset (s : State) (p seq n mode : Nat) : State :=
  s.mailInst p ⟨4, seq, le 2 n ++ le 1 mode⟩ n (decide (mode ≤ 1))
    (s.inState n [.created, .enabled, .frozen]) (noData fun s => s.startReset n (mode == 1))

/-- INST_RESET. -/
def execInstReset (port : Fin 4) (seq : BitVec 32) (n : BitVec 16) (mode : Nat) (s : State) : Result :=
  .next (s.instReset port seq.toNat n.toNat mode)

/-- Step 1 of Table - Freeze. -/
def State.startFreeze (s : State) (n : Nat) : State :=
  s.modInst n fun x => { x with
    drainSince := if x.drain == some .freeze then x.drainSince else s.now
    drain := some .freeze, qps := x.qps.map Qp.discard }

/-- INST_FREEZE. -/
def State.instFreeze (s : State) (p seq n : Nat) : State :=
  s.mailInst p ⟨5, seq, le 2 n⟩ n true (s.inState n [.enabled]) (noData fun s => s.startFreeze n)

/-- INST_FREEZE. -/
def execInstFreeze (port : Fin 4) (seq : BitVec 32) (n : BitVec 16) (s : State) : Result :=
  .next (s.instFreeze port seq.toNat n.toNat)

/-- FREEZE_DONE: no job of the instance holds a slot, so it is FROZEN (R156). -/
def State.freezeDone (s : State) (n : Nat) : State :=
  if (s.inst n).drain == some .freeze && (s.jobsOf n).isEmpty then
    (s.modInst n fun x => { x with drain := none }).setInstState n .frozen
  else s

/-- FREEZE_DONE. -/
def execFreezeDone (inst : Fin 1024) (s : State) : Result := .next (s.freezeDone inst)

/-- The queue pairs of an instance fetch on. -/
def State.fetchAll (s : State) (n : Nat) : State :=
  s.forEach (List.range (s.inst n).qps.length) fun s q => s.fetch n q

/-- An instance thaws: held completions post, the DRBG is reseeded, fetching resumes (R146, R159). -/
def State.thaw (s : State) (n : Nat) : State :=
  let s := ((s.setInstState n .enabled).activateQps n).postHeld n
  let s := s.modInst n fun x => { x with squashed := [] }
  let s := if (s.inst n).drbg.seeded then s.askReseed n else s.askDrbg n
  s.fetchAll n

/-- INST_THAW. -/
def State.instThaw (s : State) (p seq n : Nat) : State :=
  s.mailInst p ⟨6, seq, le 2 n⟩ n true (s.inState n [.frozen] && (s.inst n).migBusy.isNone)
    (noData fun s => s.thaw n)

/-- INST_THAW. -/
def execInstThaw (port : Fin 4) (seq : BitVec 32) (n : BitVec 16) (s : State) : Result :=
  .next (s.instThaw port seq.toNat n.toNat)

/-- INST_DESTROY begins: a squash reset, in DESTROYING (R146). -/
def State.startDestroy (s : State) (n : Nat) : State :=
  let s := s.modInst n fun x => { x with
    drain := none, migBusy := none, squashed := [], held := [], reseeding := false
    qps := x.qps.map Qp.discard }
  (s.setInstState n .destroying).squashInst n

/-- INST_DESTROY. -/
def State.instDestroy (s : State) (p seq n : Nat) : State :=
  s.mailInst p ⟨7, seq, le 2 n⟩ n true (s.inState n [.created, .enabled, .frozen])
    (noData fun s => s.startDestroy n)

/-- INST_DESTROY. -/
def execInstDestroy (port : Fin 4) (seq : BitVec 32) (n : BitVec 16) (s : State) : Result :=
  .next (s.instDestroy port seq.toNat n.toNat)

/-- INSTANCE_DESTROY_DONE: the records, recipes and configuration of the instance are gone (R146). -/
def State.instanceDestroyDone (s : State) (n : Nat) : State :=
  if s.inState n [.destroying] && (s.jobsOf n).isEmpty then (s.wipeInst n).endDestroy n else s

/-- INSTANCE_DESTROY_DONE. -/
def execInstanceDestroyDone (inst : Fin 1024) (s : State) : Result := .next (s.instanceDestroyDone inst)

/-- The data of INST_STATUS (Table - Mailbox commands). -/
def State.statusData (s : State) (n : Nat) : Bytes :=
  let x := s.inst n
  fields [(1, x.state.code), (1, 0), (2, x.qpCount), (4, s.slotsOf n), (4, s.recordsOf n),
    (4, ceilDiv (s.tierSBytes n) 1024), (2, x.migResult.toNat), (2, 0), (8, x.imageLen)]

/-- INST_STATUS, which no state of the block refuses (R147). -/
def State.instStatus (s : State) (p seq n : Nat) : State :=
  if !s.mailServed p then s
  else
    let m : Mail := ⟨8, seq, le 2 n⟩
    let s := s.mailTake p m
    if !s.mailRange p n then s.mailAnswer p m .accessDenied []
    else s.mailAnswer p m .ok (s.statusData n)

/-- INST_STATUS. -/
def execInstStatus (port : Fin 4) (seq : BitVec 32) (n : BitVec 16) (s : State) : Result :=
  .next (s.instStatus port seq.toNat n.toNat)

/-! ### Translation -/

/-- SET_TRANSLATION: a new root, and every cached table entry of the instance goes (R153, R154). -/
def State.setTranslation (s : State) (p seq n root : Nat) : State :=
  s.mailInst p ⟨9, seq, le 2 n ++ zeros 6 ++ le 8 root⟩ n true (s.inState n [.created, .frozen])
    (noData fun s =>
      let s := s.modInst n fun x => { x with root := some (BitVec.ofNat 64 root) }
      { s with trans := { s.trans with table := s.trans.table.filter (·.1 != n) } })

/-- SET_TRANSLATION. -/
def execSetTranslation (port : Fin 4) (seq : BitVec 32) (n : BitVec 16) (root : BitVec 64) (s : State) : Result :=
  .next (s.setTranslation port seq.toNat n.toNat root.toNat)

/-- The cached translations of a range of an instance, all of them where LENGTH is 0, become invalid
(R154). -/
def State.invalidateRange (s : State) (n iova len : Nat) : State :=
  if len = 0 then s.dropTranslations n
  else { s with trans := {
    atc := s.trans.atc.filter fun e => !(e.inst == n && decide (e.base < iova + len) && decide (iova < e.base + e.len))
    table := s.trans.table.filter (·.1 != n) } }

/-- INVALIDATE. -/
def State.invalidate (s : State) (p seq n iova len : Nat) : State :=
  s.mailInst p ⟨0xA, seq, le 2 n ++ zeros 6 ++ le 8 iova ++ le 8 len⟩ n true
    (s.inState n [.created, .enabled, .frozen]) (noData fun s => s.invalidateRange n iova len)

/-- INVALIDATE. -/
def execInvalidate (port : Fin 4) (seq : BitVec 32) (n : BitVec 16) (iova len : BitVec 64) (s : State) :
    Result :=
  .next (s.invalidate port seq.toNat n.toNat iova.toNat len.toNat)

/-! ### Open slots -/

/-- The classes, bindings and key lengths that an open slot accepts (R413). -/
def openSlotOk (a : OpenSlotArgs) : Bool :=
  decide (a.slotNo.toNat ≤ 1023) && [1, 2, 5, 6].contains a.cls.toNat &&
  (symLens a.binding).isSome && a.binding != 0x0A12 && a.binding != 0x0A22 && a.binding != 0x0C00 &&
  classPairs a.cls.toNat a.binding && symLenOk a.binding a.keyLen.toNat

/-- A key is written into open slot `k` (R390, R412, R414). -/
def State.fillSlot (s : State) (k : Nat) (a : OpenSlotArgs) : State :=
  let s := s.removeSlot k
  let r : OpenSlot := {
    user := a.user.toNat, gen := s.genOf (slotBase + k), cls := a.cls.toNat, binding := a.binding
    secret := fit a.keyLen.toNat a.key, createTime := s.time64 }
  { s with keys := { s.keys with slots := put k r s.keys.slots } }

/-- The handle an open slot holds, 0 where it is empty. -/
def State.slotHandle (s : State) (k : Nat) : Nat :=
  match look k s.keys.slots with
  | some r => (r.handle k).toNat
  | none => 0

/-- Bytes 8 to 255 of MBX_REQUEST become zero (R413). -/
def State.blankRequest (s : State) (p : Nat) : State :=
  s.modPort p fun t => { t with mbxReq := fit 256 (t.mbxReq.take 8) }

/-- The argument bytes of OPEN_SLOT_WRITE. -/
def openSlotBytes (a : OpenSlotArgs) : Bytes :=
  fields [(2, a.slotNo.toNat), (2, a.user.toNat), (1, a.cls.toNat), (1, 0), (2, a.binding.toNat),
    (2, a.keyLen.toNat), (6, 0)] ++ a.key

/-- OPEN_SLOT_WRITE: USER stands for INSTANCE, and may be the port manager's own ID (R412). -/
def State.openSlotWrite (s : State) (p seq : Nat) (a : OpenSlotArgs) : State :=
  if !s.mailServed p then s
  else
    let m : Mail := ⟨0x20, seq, openSlotBytes a⟩
    let s := (s.mailTake p m).blankRequest p
    if s.portOf a.user.toNat != some p then s.mailAnswer p m .accessDenied []
    else if !openSlotOk a then s.mailAnswer p m .lengthMismatch []
    else if s.mailClosed then s.mailConflict p m
    else
      let k := 1024 * p + a.slotNo.toNat
      let s := s.fillSlot k a
      s.mailAnswer p m .ok (le 8 (s.slotHandle k))

/-- OPEN_SLOT_WRITE. -/
def execOpenSlotWrite (port : Fin 4) (seq : BitVec 32) (a : OpenSlotArgs) (s : State) : Result :=
  .next (s.openSlotWrite port seq.toNat a)

/-- An open slot command that names only a slot. -/
def State.mailSlot (s : State) (p : Nat) (m : Mail) (slotNo : Nat) (run : State → State × Bytes) : State :=
  if !s.mailServed p then s
  else
    let s := s.mailTake p m
    if 1023 < slotNo then s.mailAnswer p m .lengthMismatch []
    else if s.mailClosed then s.mailConflict p m
    else
      let r := run s
      r.1.mailAnswer p m .ok r.2

/-- OPEN_SLOT_CLEAR (R414). -/
def State.openSlotClear (s : State) (p seq slotNo : Nat) : State :=
  s.mailSlot p ⟨0x21, seq, le 2 slotNo⟩ slotNo (noData fun s => s.removeSlot (1024 * p + slotNo))

/-- OPEN_SLOT_CLEAR. -/
def execOpenSlotClear (port : Fin 4) (seq : BitVec 32) (slotNo : BitVec 16) (s : State) : Result :=
  .next (s.openSlotClear port seq.toNat slotNo.toNat)

/-- The data of OPEN_SLOT_READ (Table - Open slot commands). -/
def State.slotData (s : State) (k : Nat) : Bytes :=
  match look k s.keys.slots with
  | some r => fields [(2, r.user), (1, r.cls), (1, 0), (2, r.binding.toNat), (2, 0), (8, (r.handle k).toNat)]
  | none => zeros 16

/-- OPEN_SLOT_READ. -/
def State.openSlotRead (s : State) (p seq slotNo : Nat) : State :=
  s.mailSlot p ⟨0x22, seq, le 2 slotNo⟩ slotNo fun s => (s, s.slotData (1024 * p + slotNo))

/-- OPEN_SLOT_READ. -/
def execOpenSlotRead (port : Fin 4) (seq : BitVec 32) (slotNo : BitVec 16) (s : State) : Result :=
  .next (s.openSlotRead port seq.toNat slotNo.toNat)

/-! ### The drain timeout -/

/-- The drain timeout in nanoseconds, OD 0x1300.0D (R74, R148, R156). -/
def State.drainNs (s : State) : Nat := 1000000 * s.odNum 0x13000D

/-- A finished job gives its slot up at the timeout of a freeze: its completion is kept, unless it would post
none (R156, R164). -/
def State.holdCompletion (s : State) (k : Nat) (j : Job) : State :=
  let c := match s.qp j.inst j.qp with
    | some x => x.c
    | none => 0
  let h : HeldCompletion := {
    qp := j.qp, order := j.order, entry := s.entryBytes { j with waited := true } c
    irq := bit j.entry.flags.toNat 4 }
  let s := if j.posts then s.modInst j.inst fun n => { n with held := n.held ++ [h] } else s
  s.releaseSlot k

/-- A job still running at the timeout of a freeze is squashed and its TAG kept (R156). -/
def State.keepTag (s : State) (k : Nat) (j : Job) : State :=
  (s.modInst j.inst fun n => { n with squashed := n.squashed ++ [(j.qp, j.entry.tag)] }).squashJob k

/-- Finished jobs in the order in which they finished. -/
def byFinish : List (Nat × Job) → List (Nat × Job)
  | [] => []
  | a :: r =>
    let rec insert (a : Nat × Job) : List (Nat × Job) → List (Nat × Job)
      | [] => [a]
      | b :: r => if a.2.finish ≤ b.2.finish then a :: b :: r else b :: insert a r
    insert a (byFinish r)

/-- Step 3 of Table - Freeze. -/
def State.freezeTimeout (s : State) (n : Nat) : State :=
  let js := s.jobsOf n
  let s := s.forEach (byFinish (js.filter (·.2.phase == .finished))) fun s k => s.holdCompletion k.1 k.2
  s.forEach (js.filter (·.2.phase != .finished)) fun s k => s.keepTag k.1 k.2

/-- DRAIN_TIMEOUT: the drain of the device or of an instance runs out; what is left is squashed, dropped
with its completions in a reset, kept for the image in a freeze (R74, R148, R156). -/
def State.drainTimeout (s : State) (scope : DrainScope) : State :=
  match scope with
  | .device =>
    if s.start.draining.isNone then s
    else (s.until (s.start.drainSince + s.drainNs)).squashAll
  | .inst n =>
    match (s.inst n).drain with
    | none => s
    | some .reset => (s.until ((s.inst n).drainSince + s.drainNs)).squashInst n
    | some .freeze => (s.until ((s.inst n).drainSince + s.drainNs)).freezeTimeout n

/-- DRAIN_TIMEOUT. -/
def execDrainTimeout (scope : DrainScope) (s : State) : Result := .next (s.drainTimeout scope)

end Sys2Proof.Machine
end

