-- ==== Sys2Proof/Machine/Migration.lean ====
section
/-! DEFINITION. Migration of an instance between two modules: MIG_SAVE, MIG_RESTORE and their ends (R146,
R157 to R159, R279, R388). -/

namespace Sys2Proof.Machine

open Sys2Proof

/-! ### Requests -/

/-- MIG_SAVE: a FROZEN instance with no save in progress (R157). -/
def State.migSave (s : State) (p seq n flags iova len : Nat) : State :=
  s.mailInst p ⟨0x10, seq, le 2 n ++ le 2 flags ++ zeros 4 ++ le 8 iova ++ le 8 len⟩ n true
    (s.inState n [.frozen] && (s.inst n).migBusy.isNone)
    (noData fun s => s.modInst n fun x => { x with migBusy := some {
      save := true, omitOthers := bit flags 0, iova := BitVec.ofNat 64 iova, len := BitVec.ofNat 64 len } })

/-- MIG_SAVE. -/
def execMigSave (port : Fin 4) (seq : BitVec 32) (n : BitVec 16) (flags : BitVec 32) (iova len : BitVec 64)
    (s : State) : Result :=
  .next (s.migSave port seq.toNat n.toNat flags.toNat iova.toNat len.toNat)

/-- MIG_RESTORE: an UNALLOCATED instance ID with no restore in progress (R146, R158). -/
def State.migRestore (s : State) (p seq n iova len : Nat) : State :=
  s.mailInst p ⟨0x11, seq, le 2 n ++ zeros 6 ++ le 8 iova ++ le 8 len⟩ n true
    (s.inState n [.unallocated] && (s.inst n).migBusy.isNone)
    (noData fun s => s.modInst n fun x => { x with migBusy := some {
      save := false, iova := BitVec.ofNat 64 iova, len := BitVec.ofNat 64 len } })

/-- MIG_RESTORE; its FLAGS are reserved. -/
def execMigRestore (port : Fin 4) (seq : BitVec 32) (n : BitVec 16) (flags : BitVec 32) (iova len : BitVec 64)
    (s : State) : Result :=
  let _ := flags
  .next (s.migRestore port seq.toNat n.toNat iova.toNat len.toNat)

/-! ### The end of a save -/

/-- A save or restore ends with MIG_RESULT. -/
def State.endMig (s : State) (n : Nat) (st : Status) : State :=
  s.modInst n fun x => { x with migBusy := none, migResult := BitVec.ofNat 16 st.code }

/-- The key records of an instance that no image carries: not MIGRATABLE, or STATEFUL (R157, R279). -/
def State.staysBehind (s : State) (n : Nat) : List (Nat × KeyRecord) :=
  s.keys.records.filter fun r => r.2.owner == n && (!r.2.flag 2 || r.2.flag 4)

/-- The header of an image (Table - Migration image). -/
def State.imageHeader (s : State) (n : Nat) (omitted : Bool) (id nonce : Bytes) (body : Nat) : Bytes :=
  ascii "KQ9IMAGE" ++ fields [(2, 1), (2, n), (4, if omitted then 1 else 0)] ++ fit 16 id ++
  fit 32 s.identityDigest ++ fit 32 s.keys.domainId ++ le 8 s.time64.toNat ++ le 8 body ++
  fit 12 nonce ++ zeros 4

/-- The image is written, or found too long. The sections' contents are not laid out by the manual: body
and tag are free bytes, of a free length (log entry 7). -/
def State.writeImage (s : State) (n : Nat) (w : MigWork) (omitted : Bool) : State :=
  let a := s.drawInternal 28
  let b := a.2.take 3
  let body := ofLe b.1
  let total := 144 + body
  let s := b.2.modInst n fun x => { x with imageLen := total }
  if w.len.toNat < total then s.endMig n .outputTooSmall
  else
    let c := s.take (body + 16)
    let head := s.imageHeader n omitted (a.1.take 16) (a.1.drop 16) body
    let owner := (s.portOf n).getD 0
    (c.2.send (.memWrite owner w.iova.toNat (head ++ c.1))).endMig n .ok

/-- MIG_SAVE_DONE (R157, R388). -/
def State.migSaveDone (s : State) (n : Nat) : State :=
  match (s.inst n).migBusy with
  | none => s
  | some w =>
    if !w.save then s
    else if s.keys.domainSecret.isNone then s.endMig n .stateConflict
    else
      let left := s.staysBehind n
      if !left.isEmpty && !w.omitOthers then s.endMig n .keyRefused
      else s.writeImage n w (!left.isEmpty)

/-- MIG_SAVE_DONE. -/
def execMigSaveDone (inst : Fin 1024) (s : State) : Result := .next (s.migSaveDone inst)

/-! ### The end of a restore -/

/-- The configuration an image carries. -/
def imageConfig (m : MigImage) : InstConfig := configOf m.config

/-- A record or peer record of an image would lie at an index in use (log entry 36). -/
def State.imageCollides (s : State) (m : MigImage) : Bool :=
  (m.records.any fun r => s.indexTaken r.index) ||
  (m.peers.any fun r => (look r.index s.keys.peers).isSome)

/-- The result of the checks of R158, OK where the image is accepted. -/
def State.imageCheck (s : State) (n p : Nat) (m : MigImage) : Status :=
  if m.readFault then .translationFault
  else if s.keys.domainSecret.isNone then .stateConflict
  else if !m.tagOk || m.domain != s.keys.domainId || m.inst.toNat != n || s.keys.restoredIds.contains m.imageId then
    .inputRejected
  else if !s.configOk p (imageConfig m) || !s.shareTakes p (imageConfig m) (0, 0) || s.imageCollides m then
    .stateConflict
  else .ok

/-- A queue pair as its image restores it: P and D follow the two carried indices (R157, log entry 35). -/
def QpOfImage (q : QueueImage) : Qp :=
  { enable := q.enable, ordered := q.ordered, log2 := q.log2, vector := q.vector
    state := if q.enable then .active else .disabled
    sqBase := q.sqBase, cqBase := q.cqBase
    p := q.fetchIndex, c := q.fetchIndex, q := q.postIndex, d := q.postIndex }

/-- The generation of an index as a restored handle carries it. -/
def State.setGen (s : State) (k g : Nat) : State :=
  { s with keys := { s.keys with gens := put k g s.keys.gens } }

/-- A key record of an image. -/
def State.restoreRecord (s : State) (n : Nat) (r : RecordImage) : State :=
  (s.setGen r.index r.gen).setRecord r.index {
    owner := n, gen := r.gen, cls := r.cls, binding := r.binding, flags := r.flags, secret := r.secret
    pub := r.pub, version := r.version, createTime := r.createTime, origin := r.origin, parent := r.parent
    ivUsed := r.ivUsed, inV := true, inA := bit r.flags.toNat 0, lastUse := s.now }

/-- A peer record of an image. -/
def State.restorePeer (s : State) (n : Nat) (r : PeerImage) : State :=
  let s := s.setGen (peerBase + r.index) r.gen
  let v : Peer := {
    owner := n, gen := r.gen, peerId := r.peerId, sigSet := r.sigSet, mlkemSet := r.mlkemSet
    secretPresent := r.secretPresent, revoked := r.revoked, enrolTime := r.enrolTime
    secret := r.secret, sigPk := r.sigPk, mlkemPk := r.mlkemPk, lastUse := s.now }
  { s with keys := { s.keys with peers := put r.index v s.keys.peers } }

/-- A recipe's signature verifies under the enrolled key its header names (R361, R363). -/
def State.recipeVerifies (s : State) (package : Bytes) : Bool :=
  match s.signerKey package with
  | none => false
  | some k => mldsaOk 2 k (pureMsg (ascii "KQ9-RECIPE") (recipeBody package))
      (package.drop (package.length - 3309))

/-- A recipe of an image: loaded where it verifies, else dropped with its event (R158). -/
def State.restoreRecipe (s : State) (n : Nat) (r : Nat × Bytes) : State :=
  if s.recipeVerifies r.2 then
    s.modInst n fun x => { x with recipes := put r.1 { package := r.2, measured := false } x.recipes }
  else s.eventOf .recipeDropped n (le 2 n ++ le 1 r.1)

/-- An accepted image becomes the instance, in FROZEN (R158). -/
def State.applyImage (s : State) (n : Nat) (m : MigImage) : State :=
  let s := s.modInst n fun x => { (x.configure (imageConfig m)) with
    qps := (m.queues.map QpOfImage).take (imageConfig m).qpCount ++
      List.replicate ((imageConfig m).qpCount - m.queues.length) {}
    spillMib := m.spillMib, migBusy := none, migResult := 0
    held := m.completions.map fun c => { qp := c.1, entry := fit 31 c.2 }
    squashed := m.squashed }
  let s := s.forEach m.records fun s r => s.restoreRecord n r
  let s := s.forEach m.peers fun s r => s.restorePeer n r
  let s := s.forEach m.recipes fun s r => s.restoreRecipe n r
  let ids := s.keys.restoredIds ++ [m.imageId]
  let s := { s with keys := { s.keys with restoredIds := ids.drop (ids.length - 1024) } }
  (s.setInstState n .frozen).trimV

/-- MIG_RESTORE_DONE (R158). -/
def State.migRestoreDone (s : State) (n : Nat) (m : MigImage) : State :=
  match (s.inst n).migBusy, s.portOf n with
  | some w, some p =>
    if w.save then s
    else match s.imageCheck n p m with
      | .ok => s.applyImage n m
      | st => s.endMig n st
  | _, _ => s

/-- MIG_RESTORE_DONE. -/
def execMigRestoreDone (inst : Fin 1024) (image : MigImage) (s : State) : Result :=
  .next (s.migRestoreDone inst image)

end Sys2Proof.Machine
end

