-- ==== Sys2Proof/Machine/Registers.lean ====
section
/-! DEFINITION. Host writes by address: the registers of the CTRL BAR and of the instance BARs (R136, R137, R139 to
R141, R149, R155, R182, R289). -/

namespace Sys2Proof.Machine

open Sys2Proof

/-! ### MSI-X tables -/

/-- One word of a table entry is written (R155). -/
def MsixEntry.write (e : MsixEntry) (word : Nat) (v : BitVec 32) : MsixEntry :=
  match word with
  | 0 => { e with addr := BitVec.ofNat 64 (e.addr.toNat / 2 ^ 32 * 2 ^ 32 + v.toNat) }
  | 1 => { e with addr := BitVec.ofNat 64 (e.addr.toNat % 2 ^ 32 + v.toNat * 2 ^ 32) }
  | 2 => { e with data := v }
  | _ => { e with masked := v.getLsbD 0 }

/-- A vector pending in the PF's table is sent once its entry is not masked (R155). -/
def State.flushPf (s : State) (p n : Nat) : State :=
  if (s.port p).msixPending.contains n && !((look n (s.port p).msix).getD {}).masked then
    (s.modPort p fun t => { t with msixPending := t.msixPending.filter (· != n) }).send (.msix p none n)
  else s

/-- A vector pending in a VF's table is sent once its entry is not masked (R155). -/
def State.flushVf (s : State) (i n : Nat) : State :=
  if (s.inst i).msixPending.contains n && !((look n (s.inst i).msix).getD {}).masked then
    (s.modInst i fun x => { x with msixPending := x.msixPending.filter (· != n) }).send
      (.msix ((s.portOf i).getD 0) (some i) n)
  else s

/-- A word at an offset of the PF's table. -/
def State.writeMsixPf (s : State) (p off : Nat) (v : BitVec 32) : State :=
  let n := off / 16
  (s.modPort p fun t => { t with
    msix := put n (((look n t.msix).getD {}).write (off % 16 / 4) v) t.msix }).flushPf p n

/-- A word at an offset of a VF's table. -/
def State.writeMsixVf (s : State) (i off : Nat) (v : BitVec 32) : State :=
  let n := off / 16
  (s.modInst i fun x => { x with
    msix := put n (((look n x.msix).getD {}).write (off % 16 / 4) v) x.msix }).flushVf i n

/-! ### The mailbox -/

/-- The arguments of INST_CREATE and INST_SET in a request. -/
def createArgs (b : Bytes) : CreateArgs :=
  let h (o : Nat) : BitVec 16 := BitVec.ofNat 16 (fieldLe o 2 b)
  let w (o : Nat) : BitVec 32 := BitVec.ofNat 32 (fieldLe o 4 b)
  { n := h 8, qpCount := h 10, vecCount := h 12, weight := h 14
    slotQuota := w 16, recQuota := w 20, tierSKib := w 24 }

/-- The arguments of OPEN_SLOT_WRITE in a request. -/
def openSlotArgs (b : Bytes) : OpenSlotArgs :=
  let h (o : Nat) : BitVec 16 := BitVec.ofNat 16 (fieldLe o 2 b)
  { slotNo := h 8, user := h 10, cls := BitVec.ofNat 8 (fieldLe 12 1 b), binding := h 14, keyLen := h 16
    key := slice 24 (fieldLe 16 2 b) b }

/-- MBX_DOORBELL: the command that stands in MBX_REQUEST is carried out (Table - Mailbox commands, Table - Open slot
commands); while BUSY is set the write is ignored (R149). -/
def State.mailDoorbell (s : State) (p : Nat) : State :=
  let b := (s.port p).mbxReq
  let code := fieldLe 0 2 b
  let seq := fieldLe 4 4 b
  let n := fieldLe 8 2 b
  if (s.port p).mbxBusy then s
  else match code with
    | 0x01 => s.instCreate p seq (createArgs b)
    | 0x02 => s.instEnable p seq n
    | 0x03 => s.instSet p seq (createArgs b)
    | 0x04 => s.instReset p seq n (fieldLe 10 1 b)
    | 0x05 => s.instFreeze p seq n
    | 0x06 => s.instThaw p seq n
    | 0x07 => s.instDestroy p seq n
    | 0x08 => s.instStatus p seq n
    | 0x09 => s.setTranslation p seq n (fieldLe 16 8 b)
    | 0x0A => s.invalidate p seq n (fieldLe 16 8 b) (fieldLe 24 8 b)
    | 0x10 => s.migSave p seq n (fieldLe 10 2 b) (fieldLe 16 8 b) (fieldLe 24 8 b)
    | 0x11 => s.migRestore p seq n (fieldLe 16 8 b) (fieldLe 24 8 b)
    | 0x20 => s.openSlotWrite p seq (openSlotArgs b)
    | 0x21 => s.openSlotClear p seq n
    | 0x22 => s.openSlotRead p seq n
    | _ => if s.mailServed p then s.mailAnswer p { code := code, seq := seq } .badService [] else s

/-- Bytes written into a buffer. -/
def patch (off : Nat) (b buf : Bytes) : Bytes := buf.take off ++ b ++ buf.drop (off + b.length)

/-! ### The CTRL BAR -/

/-- A 4-byte write to the port registers, the mailbox or the management window (Table - CTRL BAR). -/
def State.writePort (s : State) (p off : Nat) (v : BitVec 32) : State :=
  if off = 0x18 then s.modPort p fun t => { t with evStatus := t.evStatus &&& ~~~v }
  else if off = 0x1C then s.modPort p fun t => { t with evEnable := v &&& 0x7F }
  else if off = 0x20 then s.modPort p fun t => { t with evVector := v.setWidth 16 }
  else if 0x1000 ≤ off ∧ off < 0x1100 then
    s.modPort p fun t => { t with mbxReq := patch (off - 0x1000) (le 4 v.toNat) t.mbxReq }
  else if off = 0x1200 then (if v = 1 then s.mailDoorbell p else s)
  else if off = 0x1204 then s.modPort p fun t => { t with mbxDone := t.mbxDone && !v.getLsbD 1 }
  else if 0x2000 ≤ off ∧ off < 0x2578 then
    s.modPort p fun t => { t with txFrame := patch (off - 0x2000) (le 4 v.toNat) t.txFrame }
  else if off = 0x3000 then s.modPort p fun t => { t with txLen := v, txBusy := false }
  else if off = 0x300C then (if v = 1 then s.rxAck p else s)
  else if 0x4000 ≤ off ∧ off < 0x5000 then s.writeMsixPf p (off - 0x4000) v
  else s

/-- RW1C bits of WSTATUS (Table - WSTATUS). -/
def Window.clearBits (w : Window) (v : BitVec 32) : Window :=
  { w with
    configError := w.configError && !v.getLsbD 10, extendRefused := w.extendRefused && !v.getLsbD 9
    alarm := w.alarm && !v.getLsbD 7, busError := w.busError && !v.getLsbD 6
    lengthError := w.lengthError && !v.getLsbD 5, earlyRead := w.earlyRead && !v.getLsbD 4 }

/-- A 4-byte write to a digest window (Table - Digest window). -/
def State.writeWindow (s : State) (p w off : Nat) (v : BitVec 32) : State :=
  match off with
  | 0x00 => s.claimWindow p w v
  | 0x04 => s.releaseWindow p w v
  | 0x08 => s.writeWctrl p w v
  | 0x0C => s.ownerWrite p w fun s => s.modWindow w fun x => x.clearBits v
  | 0x10 => s.ownerWrite p w fun s => s.modWindow w fun x => { x with
      declared := x.declared / 2 ^ 32 * 2 ^ 32 + v.toNat }
  | 0x14 => s.ownerWrite p w fun s => s.modWindow w fun x => { x with
      declared := x.declared % 2 ^ 32 + v.toNat * 2 ^ 32 }
  | 0x20 | 0x24 => s.writeData p w 4 (v.setWidth 64) false
  | 0x28 | 0x2C => s.writeDataLast p w 4 (v.setWidth 64) false
  | _ => s

/-- A 4-byte write to the CTRL BAR. -/
def State.ctrlWord (s : State) (p off : Nat) (v : BitVec 32) : State :=
  if 0x8000 ≤ off ∧ off < 0xC000 then s.writeWindow p ((off - 0x8000) / 0x1000) (off % 0x1000) v
  else s.writePort p off v

/-! ### Instance BARs -/

/-- A field of the spill area: dropped with CONFIG_IGNORED while ENABLE or BUSY is set (R140). -/
def State.spillField (s : State) (i : Nat) (f : Inst → Inst) : State :=
  if (s.inst i).spillEnable || (s.inst i).spillBusy then s.errorBit i .configIgnored else s.modInst i f

/-- Half of a 64-bit register replaced. -/
def setHalf (x : BitVec 64) (high : Bool) (v : BitVec 32) : BitVec 64 :=
  if high then BitVec.ofNat 64 (x.toNat % 2 ^ 32 + v.toNat * 2 ^ 32)
  else BitVec.ofNat 64 (x.toNat / 2 ^ 32 * 2 ^ 32 + v.toNat)

/-- A 4-byte write to page 0 (Table - Instance control page); the low bits of an aligned base stay 0. -/
def State.controlWord (s : State) (i off : Nat) (v : BitVec 32) : State :=
  match off with
  | 0x0C => s.modInst i fun n => { n with errStatus := n.errStatus &&& ~~~v }
  | 0x10 => s.modInst i fun n => { n with errVector := v.setWidth 16 }
  | 0x18 => s.spillField i fun n => { n with spillIova := setHalf n.spillIova false (v &&& 0xFFE00000) }
  | 0x1C => s.spillField i fun n => { n with spillIova := setHalf n.spillIova true v }
  | 0x20 => if 65536 < v.toNat then s else s.spillField i fun n => { n with spillMib := v }
  | 0x24 => s.writeSpill i (v.getLsbD 0)
  | _ => if 4 ≤ i ∧ 0x800 ≤ off then s.writeMsixVf i (off - 0x800) v else s

/-- A ring base: while the queue pair is not DISABLED a write that would change it is dropped with CONFIG_IGNORED
(R139). -/
def State.ringBase (s : State) (i q : Nat) (get : Qp → BitVec 64) (set : Qp → BitVec 64 → Qp) (high : Bool)
    (v : BitVec 32) : State :=
  match s.qp i q with
  | none => s
  | some x =>
    let new := setHalf (get x) high (if high then v else v &&& 0xFFFFF000)
    if x.state == .disabled then s.modQp i q fun y => set y new
    else if new == get x then s
    else s.errorBit i .configIgnored

/-- A 4-byte write to a queue pair page (Table - Queue pair page). -/
def State.queueWord (s : State) (i q off : Nat) (v : BitVec 32) : State :=
  let index := v.toNat % 2 ^ 17
  match off with
  | 0x00 => if v.getLsbD 31 then s.sqWithdraw i q index else s.sqDoorbell i q index
  | 0x08 => s.cqDoorbell i q index
  | 0x40 => (s.writeQpCtrl i q v.toNat (v.getLsbD 0)).dispatch
  | 0x48 => s.ringBase i q Qp.sqBase (fun x b => { x with sqBase := b }) false v
  | 0x4C => s.ringBase i q Qp.sqBase (fun x b => { x with sqBase := b }) true v
  | 0x50 => s.ringBase i q Qp.cqBase (fun x b => { x with cqBase := b }) false v
  | 0x54 => s.ringBase i q Qp.cqBase (fun x b => { x with cqBase := b }) true v
  | _ => s

/-- A 4-byte write to an instance BAR (Table - Instance BAR). -/
def State.instWord (s : State) (i off : Nat) (v : BitVec 32) : State :=
  if !s.hasRegs i then s
  else if off < 0x1000 then s.controlWord i off v
  else s.queueWord i (off / 0x1000 - 1) (off % 0x1000) v

/-! ### A write of any width -/

/-- The port a register block belongs to. -/
def State.blockPort (s : State) (fn : RegBlock) : Option Nat :=
  match fn with
  | .ctrl p | .dbell p => some p.val
  | .vf i => s.portOf i

/-- A 4-byte write to a register block. -/
def State.regWord (s : State) (fn : RegBlock) (off : Nat) (v : BitVec 32) : State :=
  match fn with
  | .ctrl p => s.ctrlWord p off v
  | .dbell p => s.instWord p off v
  | .vf i => s.instWord i off v

/-- A write to DATA or DATA_LAST of a digest window, of its own width (R293). -/
def State.dataWrite (s : State) (fn : RegBlock) (off size : Nat) (v : BitVec 64) : Option State :=
  match fn with
  | .ctrl p =>
    if 0x8000 ≤ off ∧ off < 0xC000 then
      let w := (off - 0x8000) / 0x1000
      match off % 0x1000 with
      | 0x20 => some (s.writeData p w size v false)
      | 0x28 => some (s.writeDataLast p w size v false)
      | _ => none
    else none
  | _ => none

/-- A host write: aligned, of 4 or 8 bytes; an 8-byte write fills two words, the lower first; any other is dropped,
but for the data registers of a digest window (R136, R293). -/
def State.registerWrite (s : State) (fn : RegBlock) (off size : Nat) (v : BitVec 64) : State :=
  match s.blockPort fn with
  | none => s
  | some p =>
    if !s.mailServed p then s
    else match s.dataWrite fn off size v with
    | some t => t
    | none =>
      if !(size == 4 || size == 8) || off % size != 0 then s
      else
        let t := s.regWord fn off (v.setWidth 32)
        if size = 4 then t else t.regWord fn (off + 4) ((v >>> 32).setWidth 32)

/-- REGISTER_WRITE. -/
def execRegisterWrite (fn : RegBlock) (offset size : Nat) (value : BitVec 64) (s : State) : Result :=
  .next (s.registerWrite fn offset size value)

end Sys2Proof.Machine
end

