-- ==== Sys2Proof/Machine/Saffron.lean ====
section
/-! DEFINITION. The commands of the wide multiply-accumulate units (R317 to R320). -/

namespace Sys2Proof.Machine

open Sys2Proof

/-- The fields of a command word (Table - Saffron command word). -/
structure SaffronCmd where
  field : Nat
  win : Nat
  limbs : Nat
  dst : Nat
  a : Nat
  b : Nat
  exp : Nat
  pos : Nat
  deriving DecidableEq, Repr

/-- The fields of a word. -/
def saffronCmd (cmd : BitVec 64) : SaffronCmd :=
  let c := cmd.toNat
  { field := bits c 55 52, win := bits c 51 48, limbs := bits c 47 44 + 1, dst := bits c 43 36
    a := bits c 35 28, b := bits c 27 20, exp := bits c 19 12, pos := bits c 11 0 }

/-! ### Operands -/

/-- An operand address names the sealed bank (R318). -/
def inBank (x : Nat) : Bool := decide (x < 0x20)

/-- `w` limbs from an address lie in one store (R318). -/
def operandOk (x w : Nat) : Bool :=
  if x < 0x20 then decide (x + w ≤ 0x20) else decide (0x80 ≤ x) && decide (x + w ≤ 0x100)

/-- One limb. -/
def Saffron.limb (u : Saffron) (x : Nat) : BitVec 256 := if x < 0x20 then u.bank.getD x 0 else u.file.getD (x - 0x80) 0

/-- An operand of `w` limbs, least significant limb first (R318). -/
def Saffron.operand (u : Saffron) (x : Nat) : Nat → Nat
  | 0 => 0
  | w + 1 => (u.limb x).toNat + 2 ^ 256 * u.operand (x + 1) w

/-- One limb written. -/
def Saffron.setLimb (u : Saffron) (x : Nat) (v : BitVec 256) : Saffron :=
  if x < 0x20 then { u with bank := u.bank.set x v } else { u with file := u.file.set (x - 0x80) v }

/-- An operand of `w` limbs written. -/
def Saffron.setOperand (u : Saffron) (x : Nat) : Nat → Nat → Saffron
  | 0, _ => u
  | w + 1, v => (u.setLimb x (BitVec.ofNat 256 v)).setOperand (x + 1) w (v / 2 ^ 256)

/-! ### Fields -/

/-- Limbs of an operand by FIELD (Table - Saffron fields); none for a FIELD the table does not have. UNSEAL and ZERO
take W from FIELD and LIMBS as FMUL does (DEDUCED, log entry 44). -/
def SaffronCmd.w (c : SaffronCmd) : Option Nat :=
  match c.field with
  | 1 | 2 | 7 | 8 => some 1
  | 3 | 4 | 9 | 10 => some 2
  | 5 | 6 => some 3
  | 14 => if within 4 c.limbs 16 then some c.limbs else none
  | _ => none

/-- The fixed moduli (Table - Saffron fields). -/
def fieldModulus : Nat → Nat
  | 1 => p256Prime | 2 => p256Order | 3 => p384Prime | 4 => p384Order | 5 => p521Prime | 6 => p521Order
  | 7 => p25519 | 8 => ed25519Order | 9 => p448 | _ => ed448Order

/-- The inverse of an odd number modulo 2^(2^k), by Newton's iteration. -/
def invTwo (n : Nat) : Nat → Nat
  | 0 => 1
  | k + 1 =>
    let x := invTwo n k
    let m := 2 ^ 2 ^ (k + 1)
    x * ((m + 2 - n * x % m) % m) % m

/-- The Montgomery product a b / 2^(256 w) modulo an odd n. -/
def montgomery (n w a b : Nat) : Nat :=
  let r := 2 ^ (256 * w)
  let t := a * b
  let m := t % r * (r - invTwo n 12 % r) % r
  (t + m * n) / r % n

/-- A product in FIELD; a modulus register that holds no odd modulus has no Montgomery constant, and the product is a
free value (log entry 44). -/
def Saffron.product (u : Saffron) (c : SaffronCmd) (w a b : Nat) (free : Nat) : Nat :=
  if c.field = 14 then
    let n := u.modulus.toNat % 2 ^ (256 * w)
    if n % 2 = 1 then montgomery n w a b else free
  else a * b % fieldModulus c.field

/-! ### Commands -/

/-- What a command answers: RESULT, and the unit after it with the free bytes it has taken. -/
structure SaffronOp where
  bad : SaffronCmd → Bool
  forbidden : SaffronCmd → Bool
  effect : SaffronCmd → Saffron → Nat → Saffron
  takes : Nat := 0

/-- A sealed source must name a sealed DST (R319). -/
def SaffronCmd.leaks (c : SaffronCmd) (srcs : List Nat) : Bool := srcs.any inBank && !inBank c.dst

/-- A command of Shedric firmware to a unit: RESULT 1, 3 or 0 in its result word (R319). -/
def State.saffronDo (s : State) (n op : Nat) (cmd : BitVec 64) (o : SaffronOp) : State :=
  if bits cmd.toNat 63 56 != op then s
  else
    let c := saffronCmd cmd
    let u := s.saffron.getD n {}
    let put (s : State) (u : Saffron) (r : Nat) : State :=
      { s with saffron := s.saffron.set n { u with result := BitVec.ofNat 64 r } }
    if o.bad c then put s u 1
    else if o.forbidden c then put s u 3
    else
      let x := s.take o.takes
      put x.2 (o.effect c u (ofLe x.1)) 0

/-- ACC after a product is added; a sum beyond 640 bits is a free value (log entry 44). -/
def Saffron.sum (u : Saffron) (c : SaffronCmd) (free : Nat) : Nat :=
  let x := u.acc.toNat + (u.limb c.a).toNat * (u.limb c.b).toNat
  if x < 2 ^ 640 then x else free

/-- MAC and MAC_SHIFT. -/
def opMac (shift : Nat) : SaffronOp where
  bad := fun c => !operandOk c.a 1 || !operandOk c.b 1
  forbidden := fun c => c.leaks [c.a, c.b]
  effect := fun c u free => { u with acc := BitVec.ofNat 640 (u.sum c free / 2 ^ shift) }
  takes := 80

/-- SAFFRON_MAC. -/
def execSaffronMac (unit : Fin 18) (cmd : BitVec 64) (release : Bool) (s : State) : Result :=
  let _ := release
  .next (s.saffronDo unit 0x01 cmd (opMac 0))

/-- MAC_SHIFT. -/
def execMacShift (unit : Fin 18) (cmd : BitVec 64) (release : Bool) (s : State) : Result :=
  let _ := release
  .next (s.saffronDo unit 0x02 cmd (opMac 256))

/-- ACC_OUT. -/
def execAccOut (unit : Fin 18) (cmd : BitVec 64) (release : Bool) (s : State) : Result :=
  let _ := release
  .next (s.saffronDo unit 0x03 cmd {
    bad := fun c => !operandOk c.dst 1
    forbidden := fun _ => false
    effect := fun c u _ => { u.setLimb c.dst (u.acc.setWidth 256) with acc := u.acc >>> 256 } })

/-- ACC_CLEAR. -/
def execAccClear (unit : Fin 18) (cmd : BitVec 64) (release : Bool) (s : State) : Result :=
  let _ := release
  .next (s.saffronDo unit 0x04 cmd {
    bad := fun _ => false
    forbidden := fun _ => false
    effect := fun _ u _ => { u with acc := 0 } })

/-- SAFFRON_FMUL. -/
def execSaffronFmul (unit : Fin 18) (cmd : BitVec 64) (release : Bool) (s : State) : Result :=
  let _ := release
  .next (s.saffronDo unit 0x10 cmd {
    bad := fun c => match c.w with
      | none => true
      | some w => !operandOk c.dst w || !operandOk c.a w || !operandOk c.b w
    forbidden := fun c => c.leaks [c.a, c.b]
    effect := fun c u free =>
      let w := c.w.getD 0
      u.setOperand c.dst w (u.product c w (u.operand c.a w) (u.operand c.b w) free)
    takes := 512 })

/-- The entry of the table that the window of EXP selects. -/
def SaffronCmd.selected (c : SaffronCmd) (u : Saffron) : Nat :=
  bits (u.operand c.exp (0x20 - c.exp)) (c.pos + c.win - 1) c.pos

/-- FMUL_SEL: EXP names the sealed bank. -/
def execFmulSel (unit : Fin 18) (cmd : BitVec 64) (release : Bool) (s : State) : Result :=
  let _ := release
  .next (s.saffronDo unit 0x11 cmd {
    bad := fun c => match c.w with
      | none => true
      | some w => !within 1 c.win 5 || !operandOk c.dst w || !operandOk c.a w || !operandOk c.b (2 ^ c.win * w) ||
          !inBank c.exp || !operandOk c.exp ((c.pos + c.win - 1) / 256 + 1)
    forbidden := fun c => c.leaks [c.a, c.b, c.exp]
    effect := fun c u free =>
      let w := c.w.getD 0
      u.setOperand c.dst w (u.product c w (u.operand c.a w) (u.operand (c.b + w * c.selected u) w) free)
    takes := 512 })

/-- UNSEAL: of the release routine only. -/
def execUnseal (unit : Fin 18) (cmd : BitVec 64) (release : Bool) (s : State) : Result :=
  .next (s.saffronDo unit 0x20 cmd {
    bad := fun c => match c.w with
      | none => true
      | some w => !operandOk c.dst w || !operandOk c.a w || !inBank c.a || inBank c.dst
    forbidden := fun _ => !release
    effect := fun c u _ => u.setOperand c.dst (c.w.getD 0) (u.operand c.a (c.w.getD 0)) })

/-- SAFFRON_ZERO. -/
def execSaffronZero (unit : Fin 18) (cmd : BitVec 64) (release : Bool) (s : State) : Result :=
  let _ := release
  .next (s.saffronDo unit 0x21 cmd {
    bad := fun c => match c.w with
      | none => true
      | some w => !operandOk c.dst w
    forbidden := fun _ => false
    effect := fun c u _ => u.setOperand c.dst (c.w.getD 0) 0 })

end Sys2Proof.Machine
end

