-- ==== Sys2Proof/Machine/Scalar.lean ====
section
/-! DEFINITION. The scalar instructions of the sequencer cores: integer and floating-point arithmetic, loads and
stores, branches, control registers (R347 to R354). -/

namespace Sys2Proof.Machine

open Sys2Proof

/-! ### Integer functions -/

/-- 1 for true, 0 for false. -/
def flag (b : Bool) : BitVec 64 := if b then 1 else 0

/-- A left shift by the low six bits of an amount (DEDUCED, log entry 39). -/
def shl64 (a : BitVec 64) (n : Nat) : BitVec 64 := a <<< (n % 64)
/-- A logical right shift. -/
def shru64 (a : BitVec 64) (n : Nat) : BitVec 64 := a >>> (n % 64)
/-- An arithmetic right shift. -/
def shrs64 (a : BitVec 64) (n : Nat) : BitVec 64 := a.sshiftRight (n % 64)
/-- A left rotation. -/
def rotl64 (a : BitVec 64) (n : Nat) : BitVec 64 := a.rotateLeft (n % 64)

/-- The number of leading zero bits. -/
def leadingZeros (a : BitVec 64) : BitVec 64 :=
  BitVec.ofNat 64 (if a = 0 then 64 else 63 - Nat.log2 a.toNat)

/-- The number of bits set. -/
def popCount (a : BitVec 64) : BitVec 64 :=
  BitVec.ofNat 64 ((List.range 64).filter fun i => bit a.toNat i).length

/-- Division toward zero; -2^63 by -1 wraps (R348). -/
def divs64 (a b : BitVec 64) : BitVec 64 := BitVec.ofInt 64 (Int.tdiv a.toInt b.toInt)
/-- The remainder of a division toward zero (R348). -/
def rems64 (a b : BitVec 64) : BitVec 64 := BitVec.ofInt 64 (Int.tmod a.toInt b.toInt)

/-! ### Register to register -/

/-- A word of format A with given fields. -/
def isA (major funct : Nat) (rd rs1 rs2 : Fin 32) (w : Nat) : Bool := w == wordA major rd rs1 rs2 funct

/-- An instruction of major 0x00 on two g registers. -/
def State.alu (s : State) (k funct : Nat) (rd rs1 rs2 : Fin 32) (charge : Nat)
    (f : BitVec 64 → BitVec 64 → BitVec 64) : State :=
  s.simple k (isA 0x00 funct rd rs1 rs2) charge fun r => r.setReg rd (f (r.reg rs1) (r.reg rs2))

/-- A division: a zero divisor traps with DIVIDE before rd is written (R348). -/
def State.division (s : State) (k funct : Nat) (rd rs1 rs2 : Fin 32) (f : BitVec 64 → BitVec 64 → BitVec 64) :
    State :=
  s.instr k {
    isIt := fun _ => isA 0x00 funct rd rs1 rs2
    charge := fun _ _ => 8
    act := fun s _ r =>
      if r.reg rs2 = 0 then s.trap k 0x000A
      else s.setRun k (r.setReg rd (f (r.reg rs1) (r.reg rs2))).next }
/-- ADD. -/
def execAdd (slot : Fin 16384) (rd rs1 rs2 : Fin 32) (s : State) : Result :=
  .next (s.alu slot 0x000 rd rs1 rs2 1 fun a b => a + b)
/-- SUB. -/
def execSub (slot : Fin 16384) (rd rs1 rs2 : Fin 32) (s : State) : Result :=
  .next (s.alu slot 0x001 rd rs1 rs2 1 fun a b => a - b)
/-- AND. -/
def execAnd (slot : Fin 16384) (rd rs1 rs2 : Fin 32) (s : State) : Result :=
  .next (s.alu slot 0x002 rd rs1 rs2 1 fun a b => a &&& b)
/-- OR. -/
def execOr (slot : Fin 16384) (rd rs1 rs2 : Fin 32) (s : State) : Result :=
  .next (s.alu slot 0x003 rd rs1 rs2 1 fun a b => a ||| b)
/-- XOR. -/
def execXor (slot : Fin 16384) (rd rs1 rs2 : Fin 32) (s : State) : Result :=
  .next (s.alu slot 0x004 rd rs1 rs2 1 fun a b => a ^^^ b)
/-- SHL. -/
def execShl (slot : Fin 16384) (rd rs1 rs2 : Fin 32) (s : State) : Result :=
  .next (s.alu slot 0x005 rd rs1 rs2 1 fun a b => shl64 a b.toNat)
/-- SHRU. -/
def execShru (slot : Fin 16384) (rd rs1 rs2 : Fin 32) (s : State) : Result :=
  .next (s.alu slot 0x006 rd rs1 rs2 1 fun a b => shru64 a b.toNat)
/-- SHRS. -/
def execShrs (slot : Fin 16384) (rd rs1 rs2 : Fin 32) (s : State) : Result :=
  .next (s.alu slot 0x007 rd rs1 rs2 1 fun a b => shrs64 a b.toNat)
/-- CMPLT. -/
def execCmplt (slot : Fin 16384) (rd rs1 rs2 : Fin 32) (s : State) : Result :=
  .next (s.alu slot 0x008 rd rs1 rs2 1 fun a b => flag (decide (a.toInt < b.toInt)))
/-- CMPLTU. -/
def execCmpltu (slot : Fin 16384) (rd rs1 rs2 : Fin 32) (s : State) : Result :=
  .next (s.alu slot 0x009 rd rs1 rs2 1 fun a b => flag (decide (a.toNat < b.toNat)))
/-- ROTL. -/
def execRotl (slot : Fin 16384) (rd rs1 rs2 : Fin 32) (s : State) : Result :=
  .next (s.alu slot 0x00A rd rs1 rs2 1 fun a b => rotl64 a b.toNat)
/-- ROTR. -/
def execRotr (slot : Fin 16384) (rd rs1 rs2 : Fin 32) (s : State) : Result :=
  .next (s.alu slot 0x00B rd rs1 rs2 1 fun a b => rotl64 a (64 - b.toNat % 64))
/-- CLZ. -/
def execClz (slot : Fin 16384) (rd rs1 rs2 : Fin 32) (s : State) : Result :=
  .next (s.alu slot 0x00C rd rs1 rs2 1 fun a _ => leadingZeros a)
/-- POPC. -/
def execPopc (slot : Fin 16384) (rd rs1 rs2 : Fin 32) (s : State) : Result :=
  .next (s.alu slot 0x00D rd rs1 rs2 1 fun a _ => popCount a)
/-- MUL. -/
def execMul (slot : Fin 16384) (rd rs1 rs2 : Fin 32) (s : State) : Result :=
  .next (s.alu slot 0x010 rd rs1 rs2 2 fun a b => a * b)
/-- MULHS. -/
def execMulhs (slot : Fin 16384) (rd rs1 rs2 : Fin 32) (s : State) : Result :=
  .next (s.alu slot 0x011 rd rs1 rs2 2 fun a b => BitVec.ofInt 64 (a.toInt * b.toInt / 2 ^ 64))
/-- MULHU. -/
def execMulhu (slot : Fin 16384) (rd rs1 rs2 : Fin 32) (s : State) : Result :=
  .next (s.alu slot 0x012 rd rs1 rs2 2 fun a b => BitVec.ofNat 64 (a.toNat * b.toNat / 2 ^ 64))
/-- DIV. -/
def execDiv (slot : Fin 16384) (rd rs1 rs2 : Fin 32) (s : State) : Result :=
  .next (s.division slot 0x018 rd rs1 rs2 divs64)
/-- DIVU. -/
def execDivu (slot : Fin 16384) (rd rs1 rs2 : Fin 32) (s : State) : Result :=
  .next (s.division slot 0x019 rd rs1 rs2 (fun a b => a / b))
/-- REM. -/
def execRem (slot : Fin 16384) (rd rs1 rs2 : Fin 32) (s : State) : Result :=
  .next (s.division slot 0x01A rd rs1 rs2 rems64)
/-- REMU. -/
def execRemu (slot : Fin 16384) (rd rs1 rs2 : Fin 32) (s : State) : Result :=
  .next (s.division slot 0x01B rd rs1 rs2 (fun a b => a % b))

/-! ### Immediates -/

/-- A word of format I with given fields. -/
def isI (major : Nat) (rd rs1 : Fin 32) (imm : BitVec 16) (w : Nat) : Bool := w == wordI major rd rs1 imm

/-- An immediate as a 64-bit value, sign-extended (R353). -/
def immS (imm : BitVec 16) : BitVec 64 := imm.signExtend 64

/-- An instruction on a g register and an immediate. -/
def State.aluI (s : State) (k major : Nat) (rd rs1 : Fin 32) (imm : BitVec 16)
    (f : BitVec 64 → BitVec 64 → BitVec 64) : State :=
  s.simple k (isI major rd rs1 imm) 1 fun r => r.setReg rd (f (r.reg rs1) (immS imm))

/-- A shift by an immediate: IMM16 [7:6] names the shift, IMM16 [5:0] is its amount. -/
def State.shiftI (s : State) (k kind : Nat) (rd rs1 : Fin 32) (imm : BitVec 16)
    (f : BitVec 64 → Nat → BitVec 64) : State :=
  s.simple k (fun w => isI 0x05 rd rs1 imm w && bits imm.toNat 7 6 == kind) 1
    fun r => r.setReg rd (f (r.reg rs1) (bits imm.toNat 5 0))
/-- ADDI. -/
def execAddi (slot : Fin 16384) (rd rs1 : Fin 32) (imm : BitVec 16) (s : State) : Result :=
  .next (s.aluI slot 0x01 rd rs1 imm fun a b => a + b)
/-- ANDI. -/
def execAndi (slot : Fin 16384) (rd rs1 : Fin 32) (imm : BitVec 16) (s : State) : Result :=
  .next (s.aluI slot 0x02 rd rs1 imm fun a b => a &&& b)
/-- ORI. -/
def execOri (slot : Fin 16384) (rd rs1 : Fin 32) (imm : BitVec 16) (s : State) : Result :=
  .next (s.aluI slot 0x03 rd rs1 imm fun a b => a ||| b)
/-- XORI. -/
def execXori (slot : Fin 16384) (rd rs1 : Fin 32) (imm : BitVec 16) (s : State) : Result :=
  .next (s.aluI slot 0x04 rd rs1 imm fun a b => a ^^^ b)
/-- SHLI. -/
def execShli (slot : Fin 16384) (rd rs1 : Fin 32) (imm : BitVec 16) (s : State) : Result :=
  .next (s.shiftI slot 0 rd rs1 imm shl64)
/-- SHRUI. -/
def execShrui (slot : Fin 16384) (rd rs1 : Fin 32) (imm : BitVec 16) (s : State) : Result :=
  .next (s.shiftI slot 1 rd rs1 imm shru64)
/-- SHRSI. -/
def execShrsi (slot : Fin 16384) (rd rs1 : Fin 32) (imm : BitVec 16) (s : State) : Result :=
  .next (s.shiftI slot 2 rd rs1 imm shrs64)
/-- ROTLI. -/
def execRotli (slot : Fin 16384) (rd rs1 : Fin 32) (imm : BitVec 16) (s : State) : Result :=
  .next (s.shiftI slot 3 rd rs1 imm rotl64)
/-- LDHI: IMM16 << 16, sign-extended; rs1 is ignored. -/
def execLdhi (slot : Fin 16384) (rd : Fin 32) (imm : BitVec 16) (s : State) : Result :=
  .next (s.simple slot (fun w => majorOf w == 0x06 && rdOf w == rd.val && bits w 15 0 == imm.toNat) 1
    fun r => r.setReg rd (immS imm <<< 16))

/-! ### Loads and stores -/

/-- The address of a load or store: rs1 + IMM16 (R354). -/
def Run.address (r : Run) (rs1 : Fin 32) (imm : BitVec 16) : Nat := (r.reg rs1 + immS imm).toNat

/-- The charge of a load: 16 in the IN window, else 2. -/
def loadCharge (n : Nat) (rs1 : Fin 32) (imm : BitVec 16) (j : Job) (r : Run) : Nat :=
  match windowOf j r (r.address rs1 imm) n with
  | some (.input, _) => 16
  | _ => 2

/-- A load of `n` bytes, and what it does with them. -/
def State.loadWin (s : State) (k major : Nat) (rd rs1 : Fin 32) (imm : BitVec 16) (n : Nat) (f : Run → Bytes → Run) :
    State :=
  s.instr k {
    isIt := fun _ => isI major rd rs1 imm
    charge := loadCharge n rs1 imm
    act := fun s j r =>
      let a := r.address rs1 imm
      match s.access j r false a n with
      | .trap c => s.trap k c
      | .ok w o => match missing r w a n with
        | p :: _ => s.needPage k p
        | [] => s.setRun k (f r (s.winRead j r w o a n)).next }

/-- A store of the bytes that a register gives. -/
def State.storeWin (s : State) (k major : Nat) (rs1 rs2 : Fin 32) (imm : BitVec 16) (n : Nat) (f : Run → Nat) : State :=
  s.instr k {
    isIt := fun _ => isI major rs2 rs1 imm
    charge := fun _ _ => 2
    act := fun s j r =>
      let a := r.address rs1 imm
      match s.access j r true a n with
      | .trap c => s.trap k c
      | .ok w o => match missing r w a n with
        | p :: _ => s.needPage k p
        | [] => (s.winWrite k j w o a (le n (f r))).modRun k Run.next }
/-- LDD. -/
def execLdd (slot : Fin 16384) (rd rs1 : Fin 32) (imm : BitVec 16) (s : State) : Result :=
  .next (s.loadWin slot 0x08 rd rs1 imm 8 fun r b => r.setReg rd (BitVec.ofNat 64 (ofLe b)))
/-- LDW. -/
def execLdw (slot : Fin 16384) (rd rs1 : Fin 32) (imm : BitVec 16) (s : State) : Result :=
  .next (s.loadWin slot 0x09 rd rs1 imm 4 fun r b => r.setReg rd (BitVec.ofNat 64 (ofLe b)))
/-- LDH. -/
def execLdh (slot : Fin 16384) (rd rs1 : Fin 32) (imm : BitVec 16) (s : State) : Result :=
  .next (s.loadWin slot 0x0A rd rs1 imm 2 fun r b => r.setReg rd (BitVec.ofNat 64 (ofLe b)))
/-- LDB. -/
def execLdb (slot : Fin 16384) (rd rs1 : Fin 32) (imm : BitVec 16) (s : State) : Result :=
  .next (s.loadWin slot 0x0B rd rs1 imm 1 fun r b => r.setReg rd (BitVec.ofNat 64 (ofLe b)))
/-- STD: rs2 stands in the field rd, which names the register stored. -/
def execStd (slot : Fin 16384) (rs1 rs2 : Fin 32) (imm : BitVec 16) (s : State) : Result :=
  .next (s.storeWin slot 0x0C rs1 rs2 imm 8 fun r => (r.reg rs2).toNat)
/-- STW. -/
def execStw (slot : Fin 16384) (rs1 rs2 : Fin 32) (imm : BitVec 16) (s : State) : Result :=
  .next (s.storeWin slot 0x0D rs1 rs2 imm 4 fun r => (r.reg rs2).toNat)
/-- STH. -/
def execSth (slot : Fin 16384) (rs1 rs2 : Fin 32) (imm : BitVec 16) (s : State) : Result :=
  .next (s.storeWin slot 0x0E rs1 rs2 imm 2 fun r => (r.reg rs2).toNat)
/-- STB. -/
def execStb (slot : Fin 16384) (rs1 rs2 : Fin 32) (imm : BitVec 16) (s : State) : Result :=
  .next (s.storeWin slot 0x0F rs1 rs2 imm 1 fun r => (r.reg rs2).toNat)
/-- FLDD. -/
def execFldd (slot : Fin 16384) (rd rs1 : Fin 32) (imm : BitVec 16) (s : State) : Result :=
  .next (s.loadWin slot 0x19 rd rs1 imm 8 fun r b => r.setFreg rd (BitVec.ofNat 64 (ofLe b)))
/-- FSTD. -/
def execFstd (slot : Fin 16384) (rs1 rs2 : Fin 32) (imm : BitVec 16) (s : State) : Result :=
  .next (s.storeWin slot 0x1A rs1 rs2 imm 8 fun r => (r.freg rs2).toNat)

/-! ### Branches and jumps -/

/-- A branch: OFFSET16 counts instructions from the branch itself (R353). -/
def State.branch (s : State) (k major : Nat) (rs1 rs2 : Fin 32) (off : BitVec 16)
    (taken : BitVec 64 → BitVec 64 → Bool) : State :=
  s.instr k {
    isIt := fun _ => isI major rs1 rs2 off
    charge := fun _ _ => 1
    act := fun s _ r =>
      s.setRun k (if taken (r.reg rs1) (r.reg rs2) then { r with pc := r.pc + immS off <<< 2 } else r.next) }
/-- BEQ. -/
def execBeq (slot : Fin 16384) (rs1 rs2 : Fin 32) (imm : BitVec 16) (s : State) : Result :=
  .next (s.branch slot 0x10 rs1 rs2 imm fun a b => a == b)
/-- BNE. -/
def execBne (slot : Fin 16384) (rs1 rs2 : Fin 32) (imm : BitVec 16) (s : State) : Result :=
  .next (s.branch slot 0x11 rs1 rs2 imm fun a b => a != b)
/-- BLT. -/
def execBlt (slot : Fin 16384) (rs1 rs2 : Fin 32) (imm : BitVec 16) (s : State) : Result :=
  .next (s.branch slot 0x12 rs1 rs2 imm fun a b => decide (a.toInt < b.toInt))
/-- BGE. -/
def execBge (slot : Fin 16384) (rs1 rs2 : Fin 32) (imm : BitVec 16) (s : State) : Result :=
  .next (s.branch slot 0x13 rs1 rs2 imm fun a b => decide (b.toInt ≤ a.toInt))
/-- BLTU. -/
def execBltu (slot : Fin 16384) (rs1 rs2 : Fin 32) (imm : BitVec 16) (s : State) : Result :=
  .next (s.branch slot 0x14 rs1 rs2 imm fun a b => decide (a.toNat < b.toNat))
/-- BGEU. -/
def execBgeu (slot : Fin 16384) (rs1 rs2 : Fin 32) (imm : BitVec 16) (s : State) : Result :=
  .next (s.branch slot 0x15 rs1 rs2 imm fun a b => decide (b.toNat ≤ a.toNat))
/-- JMPL: a jump by OFFSET21 instructions; rd takes the return address. -/
def execJmpl (slot : Fin 16384) (rd : Fin 32) (off : BitVec 21) (s : State) : Result :=
  .next (s.instr slot {
    isIt := fun _ w => w == 0x16 * 2 ^ 26 + rd.val * 2 ^ 21 + off.toNat
    charge := fun _ _ => 1
    act := fun s _ r => s.setRun slot { r.setReg rd (r.pc + 4) with pc := r.pc + off.signExtend 64 <<< 2 } })
/-- JMPR: a jump to rs1 + IMM16, bits [1:0] cleared; rd takes the return address. -/
def execJmpr (slot : Fin 16384) (rd rs1 : Fin 32) (imm : BitVec 16) (s : State) : Result :=
  .next (s.instr slot {
    isIt := fun _ => isI 0x17 rd rs1 imm
    charge := fun _ _ => 1
    act := fun s _ r =>
      let target := (r.reg rs1 + immS imm) &&& ~~~3#64
      s.setRun slot { r.setReg rd (r.pc + 4) with pc := target } })

/-! ### Floating point -/

/-- A floating-point instruction of major 0x18 on two f registers. -/
def State.fpu (s : State) (k funct : Nat) (rd rs1 rs2 : Fin 32) (charge : Nat)
    (f : Nat → BitVec 64 → BitVec 64 → FRes) : State :=
  s.simple k (isA 0x18 funct rd rs1 rs2) charge fun r =>
    let x := f r.rm (r.freg rs1) (r.freg rs2)
    (r.setFreg rd x.v).raiseF x.flags
/-- FADD. -/
def execFadd (slot : Fin 16384) (rd rs1 rs2 : Fin 32) (s : State) : Result :=
  .next (s.fpu slot 0x000 rd rs1 rs2 2 fadd)
/-- FSUB. -/
def execFsub (slot : Fin 16384) (rd rs1 rs2 : Fin 32) (s : State) : Result :=
  .next (s.fpu slot 0x001 rd rs1 rs2 2 fsub)
/-- FMUL. -/
def execFmul (slot : Fin 16384) (rd rs1 rs2 : Fin 32) (s : State) : Result :=
  .next (s.fpu slot 0x002 rd rs1 rs2 2 fmul)
/-- FMIN. -/
def execFmin (slot : Fin 16384) (rd rs1 rs2 : Fin 32) (s : State) : Result :=
  .next (s.fpu slot 0x003 rd rs1 rs2 2 (fun _ a b => fminmax false a b))
/-- FMAX. -/
def execFmax (slot : Fin 16384) (rd rs1 rs2 : Fin 32) (s : State) : Result :=
  .next (s.fpu slot 0x004 rd rs1 rs2 2 (fun _ a b => fminmax true a b))
/-- FCOPYSIGN. -/
def execFcopysign (slot : Fin 16384) (rd rs1 rs2 : Fin 32) (s : State) : Result :=
  .next (s.fpu slot 0x005 rd rs1 rs2 2 (fun _ a b => fcopysign a b))
/-- FDIV. -/
def execFdiv (slot : Fin 16384) (rd rs1 rs2 : Fin 32) (s : State) : Result :=
  .next (s.fpu slot 0x008 rd rs1 rs2 12 fdiv)
/-- FSQRT. -/
def execFsqrt (slot : Fin 16384) (rd rs1 rs2 : Fin 32) (s : State) : Result :=
  .next (s.fpu slot 0x009 rd rs1 rs2 12 (fun m a _ => fsqrt m a))
/-- FTOI: f to signed g, by RM. -/
def execFtoi (slot : Fin 16384) (rd rs1 rs2 : Fin 32) (s : State) : Result :=
  .next (s.simple slot (isA 0x18 0x010 rd rs1 rs2) 2 fun r =>
    (r.setReg rd (ftoi r.rm (r.freg rs1)).v).raiseF (ftoi r.rm (r.freg rs1)).flags)
/-- ITOF: signed g to f. -/
def execItof (slot : Fin 16384) (rd rs1 rs2 : Fin 32) (s : State) : Result :=
  .next (s.simple slot (isA 0x18 0x011 rd rs1 rs2) 2 fun r =>
    (r.setFreg rd (itof r.rm (r.reg rs1)).v).raiseF (itof r.rm (r.reg rs1)).flags)
/-- FBITS: the bits of f to g. -/
def execFbits (slot : Fin 16384) (rd rs1 rs2 : Fin 32) (s : State) : Result :=
  .next (s.simple slot (isA 0x18 0x012 rd rs1 rs2) 2 fun r => r.setReg rd (r.freg rs1))
/-- GBITS: the bits of g to f. -/
def execGbits (slot : Fin 16384) (rd rs1 rs2 : Fin 32) (s : State) : Result :=
  .next (s.simple slot (isA 0x18 0x013 rd rs1 rs2) 2 fun r => r.setFreg rd (r.reg rs1))
/-- FCMP: FUNCT of the word in CODE names the relation. -/
def execFcmp (slot : Fin 16384) (rd rs1 rs2 : Fin 32) (s : State) : Result :=
  .next (s.simple slot (fun w => isA 0x1B (functOf w) rd rs1 rs2 w && decide (functOf w ≤ 2)) 2 fun r =>
    let x := fcmp ((r.word.map functOf).getD 0) (r.freg rs1) (r.freg rs2)
    (r.setReg rd x.v).raiseF x.flags)

/-! ### Control registers -/

/-- CTLR: a control register to rd; a number that Table - Control registers does not have reads as a free value
(log entry 40). -/
def execCtlr (slot : Fin 16384) (rd rs1 : Fin 32) (imm : BitVec 16) (s : State) : Result :=
  .next (s.instr slot {
    isIt := fun _ => isI 0x22 rd rs1 imm
    charge := fun _ _ => 1
    act := fun s _ r => match r.control (imm.toNat % 4096) with
      | some v => s.setRun slot (r.setReg rd (BitVec.ofNat 64 v)).next
      | none =>
        let x := s.take 8
        x.2.setRun slot (r.setReg rd (BitVec.ofNat 64 (ofLe x.1))).next })
/-- CTLW: rs1 to a control register; one marked RO traps with PRIVILEGE (R348). -/
def execCtlw (slot : Fin 16384) (rd rs1 : Fin 32) (imm : BitVec 16) (s : State) : Result :=
  .next (s.instr slot {
    isIt := fun _ => isI 0x23 rd rs1 imm
    charge := fun _ _ => 1
    act := fun s _ r =>
      let n := imm.toNat % 4096
      if controlReadOnly n then s.trap slot 0x0006
      else s.setRun slot (r.setControl n (r.reg rs1).toNat).next })

end Sys2Proof.Machine
end

