-- ==== Sys2Proof/Machine/Services.lean ====
section
/-! DEFINITION. The Zynbo services and the writes that entries give a meaning of their own (R93 to R97, R103, R110 to
R124, R128, R406 to R411, R419, R461 to R463, R469, R482, R510 to R512, R525 to R531). -/

namespace Sys2Proof.Machine

open Sys2Proof

/-! ### HALTED -/

/-- In HALTED a service that R114 does not name is refused where its result would be OK (R114). -/
def State.gate (s : State) (r : Reply × State) : Reply × State :=
  if s.halted && r.1.status == .ok then (.conflict, s) else r

/-! ### Reading -/

/-- The value of an entry as a session reads it; LOG_RECORDS of an in-band session holds the records of its port
and of the device (R119, R511). -/
def State.valueFor (s : State) (x : Session) (key : Nat) : Bytes :=
  match x.inBand with
  | some p =>
    if key = 0x270001 then
      (s.log.log.filter fun e => e.inst == 0xFFFF || s.portOf e.inst == some p).flatMap Event.bytes
    else s.sessionRead x key
  | none => s.sessionRead x key

/-- READ (R95, R113). -/
def State.readEntry (s : State) (x : Session) (k : OdKey) : Reply × State :=
  let s := s.noteService x
  match s.entryCheck x k true with
  | .error e => (.refuse e, s)
  | .ok d =>
    if d.access == .wo || d.ty.isDomain then (.refuse .accessDenied, s)
    else (.ok (s.valueFor x (OdKey.num k)), s)

/-- READ. -/
def execRead (z : ZReq) (key : OdKey) (s : State) : Result :=
  .next (s.answer z 0x01 fun x s => s.readEntry x key)

/-- DESCRIBE. -/
def execDescribe (z : ZReq) (key : OdKey) (s : State) : Result :=
  .next (s.answer z 0x03 fun x s => match s.entryCheck x key false with
    | .error e => (.refuse e, s)
    | .ok d => (.ok d.describe, s))

/-- The next entry after a key that a session sees; every index of hidden instance records is passed over. -/
def State.nextSeen (s : State) (x : Session) : Nat → OdKey → Option OdKey
  | 0, _ => none
  | n + 1, k => match Sys2Proof.Machine.nextEntry k with
    | none => none
    | some e => if s.hidden x e then s.nextSeen x n ⟨e.index, 0xFF⟩ else some e

/-- NEXT. -/
def execNext (z : ZReq) (key : OdKey) (s : State) : Result :=
  .next (s.answer z 0x04 fun x s => match s.nextSeen x 1025 key with
    | none => (.refuse .noSuchEntry, s)
    | some e => (.ok (fields [(2, e.index.toNat), (1, e.sub.toNat), (1, 0)]), s))

/-! ### Writes with a meaning of their own -/

/-- TIME_SET: device time while TIME_STATE is FREE_RUN (R128). -/
def State.setTime (s : State) (v : Bytes) : Reply × State :=
  if s.timeState != 0 then (.conflict, s)
  else (.ok [], { s with clk := { s.clk with devTime := some (ofLe v) } })

/-- LOG_CLEAR (R512). -/
def State.writeLogClear (s : State) (x : Session) (v : Bytes) : Reply × State :=
  if ofLe v != 1 then (.refuse .stateConflict, s)
  else if s.inTransition || s.warning then (.conflict, s)
  else (.ok [], s.clearLog x.credId)

/-- LOG_CHECK_RUN (R510). -/
def State.writeLogCheck (s : State) (v : Bytes) : Reply × State :=
  if ofLe v != 1 then (.refuse .stateConflict, s) else (.ok [], s.checkLog)

/-- The disposition a code names. -/
def dispositionOf : Nat → Option Disposition
  | 1 => some .retry | 2 => some .retire | 3 => some .resetInstance | 4 => some .accept | _ => none

/-- DISPOSE: FAULT_ID, DISPOSITION, three reserved bytes (R481, R482). -/
def State.writeDispose (s : State) (x : Session) (v : Bytes) (pass : Bool) : Reply × State :=
  match dispositionOf (fieldLe 4 1 v) with
  | none => (.refuse .stateConflict, s)
  | some d => s.dispose x (fieldLe 0 4 v) d pass

/-- CARD_OP: operation and argument (R525). -/
def State.writeCardOp (s : State) (x : Session) (v : Bytes) (m : CardImage) : Reply × State :=
  match cardOpOf (fieldLe 0 1 v) with
  | none => (.refuse .stateConflict, s)
  | some c => s.cardOp x c (fieldLe 1 1 v) m

/-- The manifests on a card as free values show them, for a RESTORE begun by a plain WRITE (log entry 7). -/
def freeImage (b : Bytes) : CardImage :=
  let flags := fieldLe 0 1 b
  { found := bit flags 0, manifestOk := bit flags 1, generation := fieldLe 1 4 b
    segments := fieldLe 5 4 b, imageId := slice 9 16 b }

/-- A write to a WO entry that holds a value of at most eight or 36 bytes, past its length check. -/
def State.writeWo (s : State) (x : Session) (key : Nat) (v : Bytes) : Reply × State :=
  match key with
  | 0x11000B => s.tamperAck x v
  | 0x23000D => s.archiveRatchet v
  | 0x250001 => s.lcRequestBy x v
  | 0x250006 => s.debugAllow v
  | 0x260003 =>
    let r := s.take 1
    r.2.writeDispose x v (bit (ofLe r.1) 0)
  | 0x270003 => s.writeLogClear x v
  | 0x270007 => s.writeLogCheck v
  | 0x280003 =>
    let r := s.take 25
    r.2.writeCardOp x v (freeImage r.1)
  | 0x290026 => s.setTime v
  | _ => s.writeDigest key v

/-- A write past the checks of R113 up to LENGTH_MISMATCH: the range, then the present state (R95, R113, R114). -/
def State.writeValue (s : State) (x : Session) (key : Nat) (d : EntryDef) (v : Bytes) : Reply × State :=
  if d.access == .wo then
    let r := s.writeWo x key v
    if key = 0x11000B then r else s.gate r
  else if !rangeOk key d v then (.refuse .stateConflict, s)
  else s.gate (if d.access == .rwt then s.stageValue x key v else s.writeRw x key v)

/-- WRITE (R95, R113). -/
def State.writeEntry (s : State) (x : Session) (k : OdKey) (v : Bytes) : Reply × State :=
  let s := s.noteService x
  let key := OdKey.num k
  match s.entryCheck x k false with
  | .error e => (.refuse e, s)
  | .ok d =>
    if d.access == .ro || d.ty.isDomain then (.refuse .accessDenied, s)
    else if !d.ty.sizeOk v.length || !lengthOk key v.length then (.refuse .lengthMismatch, s)
    else s.writeValue x key d v

/-- A write request; a change of the network's addresses closes the network sessions after the response (R110). -/
def State.writeService (s : State) (z : ZReq) (k : OdKey) (v : Bytes) : State :=
  s.serve z 0x02 (fun x s => s.writeEntry x k v) fun _ t => t.followNetwork s

/-- WRITE. -/
def execWrite (z : ZReq) (key : OdKey) (value : Bytes) (s : State) : Result := .next (s.writeService z key value)

/-- A write of one WO entry whose meaning an operand of the command completes. -/
def State.writeOwn (s : State) (z : ZReq) (key : Nat) (run : Session → State → Reply × State) : State :=
  s.answer z 0x02 fun x s =>
    let s := s.noteService x
    match s.entryCheck x (keyOf key) false with
    | .error e => (.refuse e, s)
    | .ok _ => s.gate (run x s)

/-- TAMPER_ACK. -/
def execTamperAck (z : ZReq) (value : Bytes) (s : State) : Result :=
  .next (s.writeService z (keyOf 0x11000B) value)
/-- TIME_SET. -/
def execTimeSet (z : ZReq) (value : Bytes) (s : State) : Result := .next (s.writeService z (keyOf 0x290026) value)
/-- DEBUG_ALLOW. -/
def execDebugAllow (z : ZReq) (value : Bytes) (s : State) : Result := .next (s.writeService z (keyOf 0x250006) value)
/-- ARCHIVE_RATCHET. -/
def execArchiveRatchet (z : ZReq) (value : Bytes) (s : State) : Result :=
  .next (s.writeService z (keyOf 0x23000D) value)
/-- LOG_CLEAR. -/
def execLogClear (z : ZReq) (value : Bytes) (s : State) : Result := .next (s.writeService z (keyOf 0x270003) value)
/-- LOG_CHECK_RUN. -/
def execLogCheckRun (z : ZReq) (value : Bytes) (s : State) : Result := .next (s.writeService z (keyOf 0x270007) value)
/-- LC_REQUEST: TARGET, three reserved bytes, TOKEN. -/
def execLcRequest (z : ZReq) (target : Nat) (token : Bytes) (s : State) : Result :=
  .next (s.writeService z (keyOf 0x250001) (fields [(1, target), (3, 0)] ++ token))

/-- A disposition of a fault record. -/
def State.disposeOwn (s : State) (z : ZReq) (id : BitVec 32) (d : Disposition) (pass : Bool) : State :=
  s.writeOwn z 0x260003 fun x s => s.dispose x id.toNat d pass
/-- RETRY. -/
def execRetry (z : ZReq) (id : BitVec 32) (pass : Bool) (s : State) : Result := .next (s.disposeOwn z id .retry pass)
/-- RETIRE. -/
def execRetire (z : ZReq) (id : BitVec 32) (s : State) : Result := .next (s.disposeOwn z id .retire false)
/-- RESET_INSTANCE. -/
def execResetInstance (z : ZReq) (id : BitVec 32) (s : State) : Result :=
  .next (s.disposeOwn z id .resetInstance false)
/-- ACCEPT. -/
def execAccept (z : ZReq) (id : BitVec 32) (s : State) : Result := .next (s.disposeOwn z id .accept false)

/-- A card operation. -/
def State.cardOwn (s : State) (z : ZReq) (c : CardOpCode) (arg : Nat) (m : CardImage) : State :=
  s.writeOwn z 0x280003 fun x s => s.cardOp x c (arg % 256) m
/-- APPROVE. -/
def execApprove (z : ZReq) (arg : Nat) (s : State) : Result := .next (s.cardOwn z .approve arg {})
/-- CONFIG_SAVE. -/
def execConfigSave (z : ZReq) (arg : Nat) (s : State) : Result := .next (s.cardOwn z .configSave arg {})
/-- CONFIG_LOAD. -/
def execConfigLoad (z : ZReq) (arg : Nat) (s : State) : Result := .next (s.cardOwn z .configLoad arg {})
/-- BACKUP. -/
def execBackup (z : ZReq) (arg : Nat) (s : State) : Result := .next (s.cardOwn z .backup arg {})
/-- RESTORE. -/
def execRestore (z : ZReq) (arg : Nat) (image : CardImage) (s : State) : Result :=
  .next (s.cardOwn z .restore arg image)
/-- PROTECT. -/
def execProtect (z : ZReq) (arg : Nat) (s : State) : Result := .next (s.cardOwn z .protect arg {})
/-- UNPROTECT. -/
def execUnprotect (z : ZReq) (arg : Nat) (s : State) : Result := .next (s.cardOwn z .unprotect arg {})
/-- CANCEL. -/
def execCancel (z : ZReq) (arg : Nat) (s : State) : Result := .next (s.cardOwn z .cancel arg {})

/-! ### Transactions -/

/-- TXN_BEGIN (R118, R126). -/
def State.txnBegin (s : State) (x : Session) : Reply × State :=
  let s := s.noteService x
  if s.mgmt.txn.open_ then (.conflict, s)
  else
    let id := (s.mgmt.txn.id + 1) % 2 ^ 32
    s.gate (.ok (le 4 id), { s with mgmt := { s.mgmt with
      txn := { s.mgmt.txn with open_ := true, id := id, session := x.id, owner := x.credId, staged := [] } } })

/-- TXN_BEGIN. -/
def execTxnBegin (z : ZReq) (s : State) : Result := .next (s.answer z 0x10 fun x s => s.txnBegin x)

/-- A service that ends the session's own transaction, named by its TXN_ID (R118). -/
def State.endTxn (s : State) (x : Session) (id : BitVec 32) (run : State → Reply × State) : Reply × State :=
  let s := s.noteService x
  if !s.ownsTxn x || s.mgmt.txn.id != id.toNat then (.conflict, s) else s.gate (run s)

/-- TXN_COMMIT: refused during a power-fail warning and a transition (R121, R122). -/
def execTxnCommit (z : ZReq) (id : BitVec 32) (s : State) : Result :=
  .next (s.serve z 0x11 (fun x s => s.endTxn x id fun s =>
    if s.warning || s.inTransition then (.conflict, s) else s.commitTxn) fun _ t => t.followNetwork s)

/-- TXN_ROLLBACK. -/
def execTxnRollback (z : ZReq) (id : BitVec 32) (s : State) : Result :=
  .next (s.answer z 0x12 fun x s => s.endTxn x id fun s => (.ok [], s.rollback))

/-- TXN_TIMEOUT: 30 s without a service of R122 from the owner (R122). -/
def State.txnTimeout (s : State) : State :=
  if s.mgmt.txn.open_ then
    match s.session s.mgmt.txn.session with
    | none => s
    | some x => ((s.until (x.lastService + 30000000000)).rollback).event .txnTimeout (le 4 s.mgmt.txn.id)
  else s

/-- TXN_TIMEOUT. -/
def execTxnTimeout (s : State) : Result := .next s.txnTimeout

/-! ### Block transfers -/

/-- Segments of a transfer. -/
def BlockTransfer.count (b : BlockTransfer) : Nat := ceilDiv b.total 1024

/-- Bytes of segment `n` (R115). -/
def BlockTransfer.segLen (b : BlockTransfer) (n : Nat) : Nat := min 1024 (b.total - 1024 * n)

/-- The content of a write, where every segment has arrived. -/
def BlockTransfer.content (b : BlockTransfer) : Option Bytes :=
  let parts := (List.range b.count).map fun n => look n b.segs
  if parts.all Option.isSome then some (parts.flatMap fun p => p.getD []) else none

/-- The DOMAIN entry is in another session's block transfer. -/
def State.blockBusy (s : State) (x : Session) (key : Nat) (d : EntryDef) : Bool :=
  d.ty.isDomain && s.mgmt.sessions.any fun y => y.id != x.id && match y.block with
    | some b => b.key == key
    | none => false

/-- The transfer of a session replaced. -/
def State.setBlock (s : State) (x : Session) (b : Option BlockTransfer) : State :=
  s.modSession x.id fun y => { y with block := b }

/-- TOTAL_LEN and SEGMENT_SIZE. -/
def blockHead (total : Nat) : Bytes := fields [(4, total), (2, 1024)]

/-- BLOCK_OPEN past NO_SUCH_ENTRY, ROLE_DENIED and CARD_ABSENT (R113, R115, R116). -/
def State.openBlock (s : State) (x : Session) (key : Nat) (d : EntryDef) (write : Bool) (total : Nat) :
    Reply × State :=
  if (if write then d.access == .ro else d.access == .wo) then (.refuse .accessDenied, s)
  else if write && (!d.ty.sizeOk total || !lengthOk key total) then (.refuse .lengthMismatch, s)
  else if s.blockBusy x key d then (.refuse .busy, s)
  else if x.block.isSome then (.conflict, s)
  else if write then
    s.gate (.ok (blockHead total),
      s.setBlock x (some { key := key, write := true, total := total, lastData := s.now }))
  else
    let v := s.valueFor x key
    (.ok (blockHead v.length),
      s.setBlock x (some { key := key, total := v.length, snapshot := v, lastData := s.now }))

/-- BLOCK_OPEN: DIRECTION is 0 to read, 1 to write. -/
def execBlockOpen (z : ZReq) (key : OdKey) (dir total : Nat) (s : State) : Result :=
  .next (s.answer z 0x20 fun x s =>
    let s := s.noteService x
    match s.entryCheck x key (dir == 0) with
    | .error e => (.refuse e, s)
    | .ok d =>
      if 2 ≤ dir then (.refuse .stateConflict, s)
      else s.openBlock x (OdKey.num key) d (dir == 1) total)

/-- A service of the session's block transfer on an entry; without one in the present state, STATE_CONFLICT. -/
def State.inBlock (s : State) (x : Session) (k : OdKey) (run : BlockTransfer → EntryDef → State → Reply × State) :
    Reply × State :=
  let s := s.noteService x
  let reading := match x.block with
    | some b => !b.write
    | none => false
  match s.entryCheck x k reading with
  | .error e => (.refuse e, s)
  | .ok d => match x.block with
    | none => (.conflict, s)
    | some b => if b.key != OdKey.num k then (.conflict, s) else run b d s

/-- BLOCK_DATA: a segment sent or asked for (R115). -/
def State.blockData (s : State) (x : Session) (b : BlockTransfer) (n : Nat) (data : Bytes) : Reply × State :=
  let s := s.setBlock x (some { b with lastData := s.now })
  let head := fields [(2, n), (2, 0)]
  if b.count ≤ n then (.refuse .lengthMismatch, s)
  else if !b.write then (.ok (head ++ slice (1024 * n) (b.segLen n) b.snapshot), s)
  else if data.length != b.segLen n then (.refuse .lengthMismatch, s)
  else (.ok head, s.setBlock x (some { b with lastData := s.now, segs := put n data b.segs }))

/-- BLOCK_DATA. -/
def execBlockData (z : ZReq) (key : OdKey) (seg : Nat) (data : Bytes) (s : State) : Result :=
  .next (s.answer z 0x21 fun x s => s.inBlock x key fun b _ s => s.blockData x b seg data)

/-- The first of the checks 1 and 2 of R408 that fails. -/
def State.updateBarred (s : State) : Option Nat :=
  if s.lcState != 3 || s.inTransition || s.warning then some 1
  else if s.keys.authMldsa.isEmpty then some 2
  else none

/-- UPDATE_RESULT and UPDATE_HANDLES after a message (R411). -/
def State.noteUpdate (s : State) (st : Status) (handles : Bytes) : State :=
  { s with keys := { s.keys with
    updateResult := BitVec.ofNat 16 st.code
    updateHandles := (List.range (handles.length / 8)).map fun i => BitVec.ofNat 64 (fieldLe (8 * i) 8 handles) } }

/-- A message submitted through UPDATE_SUBMIT: its status stands in UPDATE_RESULT (R406, R408, R411). -/
def State.submitUpdate (s : State) (x : Session) (m : Bytes) : Reply × State :=
  match s.updateBarred with
  | some n => (.conflict, (s.updateRefused n).noteUpdate .stateConflict [])
  | none =>
    if m.length != 6435 + payloadLen m || m.length < 6435 then (.ok [], s.noteUpdate .lengthMismatch [])
    else match s.judgeUpdate m with
    | .ok xs =>
      let a := s.applyUpdate m xs
      (.ok [], (a.2.noteUpdate .ok a.1).dispatch)
    | .error (check, st) =>
      let s := (s.updateRefused check).noteUpdate st []
      (.ok [], s.when (st == .stateConflict) fun s => s.conflict 0 x.credId.toNat 0xFFFF (le 8 x.credId.toNat))

/-- The content of a write transfer takes effect as a WRITE would (R103, R116, R535). -/
def State.blockWrite (s : State) (x : Session) (key : Nat) (d : EntryDef) (v : Bytes) : Reply × State :=
  if key = 0x230009 then s.gate (s.submitUpdate x v)
  else s.writeValue x key d v

/-- BLOCK_CLOSE: a read answers the digest of its snapshot; a write is checked in the order of R113 and takes effect;
the transfer stays open after a missing segment, a wrong digest or a missing right (R103, R113, R116). -/
def State.closeBlock (s : State) (x : Session) (b : BlockTransfer) (d : EntryDef) (digest : Bytes) : Reply × State :=
  if !b.write then (.ok (sha3_256 b.snapshot), s.setBlock x none)
  else
    let lacks := if isCredential b.key then b.content.bind fun v => s.credentialRight x b.key v else none
    match lacks with
    | some e => (.refuse e, s)
    | none => match b.content with
      | none => (.refuse .lengthMismatch, s)
      | some v =>
        if sha3_256 v != digest then (.refuse .digestMismatch, s)
        else (s.setBlock x none).blockWrite x b.key d v

/-- BLOCK_CLOSE. -/
def execBlockClose (z : ZReq) (key : OdKey) (digest : Bytes) (s : State) : Result :=
  .next (s.serve z 0x22 (fun x s => s.inBlock x key fun b d s => s.closeBlock x b d digest) fun _ t =>
    t.followNetwork s)

/-- BLOCK_ABORT. -/
def execBlockAbort (z : ZReq) (s : State) : Result :=
  .next (s.answer z 0x23 fun x s =>
    let s := s.noteService x
    if x.block.isNone then (.conflict, s) else (.ok [], s.setBlock x none))

/-- BLOCK_TRANSFER_TIMEOUT: 10 s without a BLOCK_DATA (R116). -/
def State.blockTimeout (s : State) (id : BitVec 32) : State :=
  match s.session id with
  | none => s
  | some x => match x.block with
    | none => s
    | some b => (s.until (b.lastData + 10000000000)).setBlock x none

/-- BLOCK_TRANSFER_TIMEOUT. -/
def execBlockTransferTimeout (session : BitVec 32) (s : State) : Result := .next (s.blockTimeout session)

/-! ### Subscriptions, restart, the session itself -/

/-- SUBSCRIBE: a subscription takes the place of the one held (R117). -/
def State.subscribe (s : State) (x : Session) (min inst : Nat) : Reply × State :=
  if 5 < min || 0xFFFF < inst then (.refuse .stateConflict, s)
  else (.ok (le 8 s.warden.nextSeq),
    s.modSession x.id fun y => { y with subSeverity := some min, subInst := inst })

/-- SUBSCRIBE. -/
def execSubscribe (z : ZReq) (minSeverity instNo : Nat) (s : State) : Result :=
  .next (s.answer z 0x30 fun x s => s.subscribe x minSeverity instNo)

/-- UNSUBSCRIBE. -/
def execUnsubscribe (z : ZReq) (s : State) : Result :=
  .next (s.answer z 0x31 fun x s =>
    (.ok [], s.modSession x.id fun y => { y with subSeverity := none, subInst := 0xFFFF }))

/-- Whether a RESTART is accepted (R124). -/
def State.restartCheck (s : State) (x : Session) (nonce : BitVec 32) : Reply × State :=
  if x.role < 3 then (.refuse .roleDenied, s)
  else if nonce != s.start.restartNonce then (.refuse .stateConflict, s)
  else if s.inTransition || s.warning then (.conflict, s)
  else (.ok [], s)

/-- An accepted RESTART: its event and LAST_RESTART_CRED, the end of the card operation, and the drain of R74
(R124, R125, R524). -/
def State.acceptRestart (s : State) (cred : BitVec 64) : State :=
  let s := (s.event .restartRequested (le 8 cred.toNat)).setOd 0x100202 (le 8 cred.toNat)
  let s := s.endCard
  if s.start.draining.isSome then s
  else { s with start := { s.start with draining := some .restart, drainSince := s.now } }

/-- RESTART: the response is sent, then the restart proceeds. -/
def execRestart (z : ZReq) (nonce : BitVec 32) (s : State) : Result :=
  .next (s.serve z 0x40 (fun x s => s.restartCheck x nonce) fun r t =>
    if r.status == .ok then t.acceptRestart (((s.session z.session).map (·.credId)).getD 0) else t)

/-- KEEPALIVE. -/
def execKeepalive (z : ZReq) (s : State) : Result := .next (s.answer z 0x41 fun _ s => (.ok [], s))

/-- CLOSE: the response is sent, then the session closes (R110). -/
def execClose (z : ZReq) (s : State) : Result :=
  .next (s.serve z 0x42 (fun _ s => (.ok [], s)) fun _ s => s.closeSession z.session)

/-- SESSION_IDLE_TIMEOUT: OD 0x2900.0E seconds without an accepted frame (R110). -/
def State.idleTimeout (s : State) (id : BitVec 32) : State :=
  match s.session id with
  | none => s
  | some x =>
    if x.opened then (s.until (x.lastFrame + 1000000000 * s.odNum 0x29000E)).closeSession id else s

/-- SESSION_IDLE_TIMEOUT. -/
def execSessionIdleTimeout (session : BitVec 32) (s : State) : Result := .next (s.idleTimeout session)

/-! ### Requests and frames that no service takes -/

/-- The service codes of Table - Zynbo services. -/
def knownService (code : Nat) : Bool :=
  [0x01, 0x02, 0x03, 0x04, 0x10, 0x11, 0x12, 0x20, 0x21, 0x22, 0x23, 0x30, 0x31, 0x40, 0x41, 0x42].contains code

/-- The command codes of Table - Mailbox commands. -/
def knownMail (code : Nat) : Bool :=
  within 0x01 code 0x0A || [0x10, 0x11, 0x20, 0x21, 0x22].contains code

/-- UNKNOWN_SERVICE: BAD_SERVICE (R111, R113, R150). -/
def execUnknownService (req : UnknownReq) (s : State) : Result :=
  .next (match req with
    | .zynbo z code =>
      if knownService code.toNat then s else s.answer z code.toNat fun _ s => (.refuse .badService, s)
    | .mailbox port seq code =>
      let m : Mail := { code := code.toNat, seq := seq.toNat }
      if knownMail code.toNat || !s.mailServed port then s
      else (s.mailTake port m).mailAnswer port m .badService [])

/-- REPLAY_DISCARD: a protected frame whose tag fails, or whose SEQ is old or already accepted, counted by where it
belongs (R109). -/
def State.replayDiscard (s : State) (id : BitVec 32) (seq : Nat) (tagOk : Bool) : State :=
  match s.session id with
  | none => s.discardProtected
  | some x =>
    if tagOk && x.fresh seq then s
    else if x.opened then s.discardProtected
    else s.bump 0x290011 0 1

/-- REPLAY_DISCARD. -/
def execReplayDiscard (session : BitVec 32) (seq : Nat) (tagOk : Bool) (s : State) : Result :=
  .next (s.replayDiscard session seq tagOk)

end Sys2Proof.Machine
end

