-- ==== Sys2Proof/Machine/Vector.lean ====
section
/-! DEFINITION. The vector extension (R368 to R383). -/

namespace Sys2Proof.Machine

open Sys2Proof

/-! ### Elements -/

/-- The elements of a vector register at EW (R368). -/
def elems (ew : Nat) (v : BitVec 1024) : List Nat :=
  (List.range (vcap ew)).map fun i => bits v.toNat (ewBits ew * (i + 1) - 1) (ewBits ew * i)

/-- A vector register of elements. -/
def ofElems (ew : Nat) : List Nat → Nat
  | [] => 0
  | x :: r => x % 2 ^ ewBits ew + 2 ^ ewBits ew * ofElems ew r

/-- Element `i` of a list of elements, 0 beyond it. -/
def elemAt (l : List Nat) (i : Nat) : Nat := l.getD i 0

/-- An element is active: at or above VRESUME, below VL, and set in the mask where VM is 1 (R371, R372). -/
def Run.active (r : Run) (vm : Bool) (i : Nat) : Bool :=
  decide (r.vresume ≤ i) && decide (i < r.vl) && (!vm || (r.vreg 31).getLsbD i)

/-- The active elements in ascending order. -/
def Run.actives (r : Run) (vm : Bool) : List Nat := (List.range (vcap r.ew)).filter (r.active vm)

/-- The active elements of a register written, the others unchanged (R372). -/
def Run.setElems (r : Run) (vm : Bool) (vd : Nat) (f : Nat → Nat) : Run :=
  let old := elems r.ew (r.vreg vd)
  r.setVreg vd (BitVec.ofNat 1024 (ofElems r.ew ((List.range (vcap r.ew)).map fun i =>
    if r.active vm i then f i else elemAt old i)))

/-- The mask bits of the active elements written (R372). -/
def Run.setMask (r : Run) (vm : Bool) (vd : Nat) (f : Nat → Bool) : Run :=
  let old := (r.vreg vd).toNat
  r.setVreg vd (BitVec.ofNat 1024 (ofBits ((List.range 1024).map fun i =>
    if (if r.active vm i then f i else bit old i) then 1 else 0)))

/-- The elements of a register at the width in force. -/
def Run.els (r : Run) (n : Nat) : List Nat := elems r.ew (r.vreg n)

/-- An element as a signed number. -/
def signedEl (ew x : Nat) : Int := (BitVec.ofNat (ewBits ew) x).toInt

/-! ### Instructions -/

/-- The fields of format V but for SUB, which the word in CODE gives (Table - Format V, log entry 1). -/
structure VFields where
  major : Nat
  vfunct : Nat
  vd : Nat
  vs1 : Nat
  vs2 : Nat
  vm : Bool
  deriving DecidableEq, Repr

/-- SUB. -/
def subOf (w : Nat) : Nat := bits w 9 8

/-- A word with given fields, whatever its SUB. -/
def VFields.isIt (v : VFields) (w : Nat) : Bool :=
  w == wordA v.major v.vd v.vs1 v.vs2 (1024 * (if v.vm then 1 else 0) + 256 * subOf w + v.vfunct)

/-- SUB of the instruction at the program counter. -/
def Run.sub (r : Run) : Nat := (r.word.map subOf).getD 0

/-- A vector instruction: what makes it ILLEGAL before it processes any element (R374, R376), its charge, and its
effect; it sets VRESUME to 0 when it completes (R371). -/
def State.vecOp (s : State) (k : Nat) (v : VFields) (illegal : Run → Bool) (charge : Nat) (f : Run → Run) : State :=
  s.instr k {
    isIt := fun _ => v.isIt
    charge := fun _ r => if illegal r then 0 else charge
    elem := fun r => r.vresume
    act := fun s _ r =>
      if illegal r then s.trapAt k 2 r.vresume
      else s.setRun k { f r with vresume := 0 }.next }

/-- VM 1 on an instruction that writes vd, when vd is v31 (R376). -/
def VFields.maskHit (v : VFields) : Bool := v.vm && v.vd == 31

/-! ### Configuration -/

/-- VL and VTYPE set at once; rd takes the requested elements that remain (R370). -/
def Run.config (r : Run) (rd rs1 : Nat) (ew : Nat) : Run :=
  let want := (r.reg rs1).toNat
  let vl := min want (vcap ew)
  ({ r with ew := ew, vl := vl }).setReg rd (BitVec.ofNat 64 (want - vl))

/-- An instruction of major 0x30: it neither reads nor changes VRESUME (R371). -/
def State.vecConfig (s : State) (k : Nat) (v : VFields) (illegal : Run → Bool) (f : Run → Run) : State :=
  s.instr k {
    isIt := fun _ => v.isIt
    charge := fun _ r => if illegal r then 0 else 1
    elem := fun r => r.vresume
    act := fun s _ r => if illegal r then s.trapAt k 2 r.vresume else s.setRun k (f r).next }

/-- VCFG. -/
def execVcfg (slot : Fin 16384) (vd vs1 vs2 : Fin 32) (vm : Bool) (s : State) : Result :=
  .next (s.vecConfig slot ⟨0x30, 0x00, vd, vs1, vs2, vm⟩ (fun _ => false) fun r => r.config vd vs1 r.sub)
/-- VCFGX. -/
def execVcfgx (slot : Fin 16384) (vd vs1 vs2 : Fin 32) (vm : Bool) (s : State) : Result :=
  .next (s.vecConfig slot ⟨0x30, 0x01, vd, vs1, vs2, vm⟩ (fun r => r.sub != 0) fun r =>
    r.config vd vs1 ((r.reg vs2).toNat % 4))

/-! ### Memory -/

/-- The address of element `i` (R377). -/
def Run.elemAddr (r : Run) (v : VFields) (mode i : Nat) : Nat :=
  let w := 2 ^ r.ew
  let base := r.reg v.vs1
  (match mode with
    | 0 => base + BitVec.ofNat 64 (i * w)
    | 1 => base + BitVec.ofInt 64 (i * (r.reg v.vs2).toInt)
    | _ => base + BitVec.ofNat 64 (elemAt (r.els v.vs2) i)).toNat

/-- The charge of an element (Table - Vector memory charges). -/
def elemCharge (r : Run) (w : Win) (mode a : Nat) : Nat :=
  let one := match w with
    | .vscratch | .directory => 4
    | .input => 16
    | _ => 1
  if mode = 0 ∧ r.lastBlock = some (a / 64) then 0 else one

/-- One element is loaded or stored. -/
def State.moveElem (s : State) (k : Nat) (j : Job) (r : Run) (v : VFields) (store : Bool) (w : Win) (o a i : Nat) :
    State :=
  if store then s.winWrite k j w o a (le (2 ^ r.ew) (elemAt (r.els v.vd) i))
  else s.modRun k fun r => r.setVreg v.vd (BitVec.ofNat 1024 (ofElems r.ew
    ((r.els v.vd).set i (ofLe (s.winRead j r w o a (2 ^ r.ew))))))

/-- The elements of a memory instruction in ascending order: the first check that fails decides the element's
outcome (R377 to R382, Table - Element checks). -/
def State.vecMem (s : State) (k : Nat) (v : VFields) (store : Bool) (mode : Nat) : List Nat → State
  | [] => s.modRun k fun r => { r with vresume := 0, lastBlock := none }.next
  | i :: rest =>
    match s.running k with
    | none => s
    | some (j, r) =>
      let a := r.elemAddr v mode i
      let n := 2 ^ r.ew
      let stop := s.modRun k fun r => { r with vresume := i }
      match s.access j r store a n with
      | .trap c => stop.trapAt k c i
      | .ok w o =>
        let c := elemCharge r w mode a
        if r.budget < r.used + c then stop.trapAt k 1 i
        else match missing r w a n with
          | p :: _ => stop.needPage k p
          | [] =>
            let s := s.moveElem k j r v store w o a i
            let s := s.modRun k fun r => { r with used := r.used + c, lastBlock := some (a / 64) }
            s.vecMem k v store mode rest

/-- A load or store: its base charge at issue (R379). -/
def State.vecAccess (s : State) (k : Nat) (v : VFields) (store : Bool) (mode : Nat) : State :=
  let illegal := !store && (v.maskHit || (mode == 2 && v.vd == v.vs2))
  s.instr k {
    isIt := fun _ w => v.isIt w && subOf w == mode
    charge := fun _ _ => if illegal then 0 else 2
    elem := fun r => r.vresume
    act := fun s _ r =>
      if illegal then s.trapAt k 2 r.vresume
      else s.vecMem k v store mode (r.actives v.vm) }

/-- VLD_UNIT. -/
def execVldUnit (slot : Fin 16384) (vd vs1 vs2 : Fin 32) (vm : Bool) (s : State) : Result :=
  .next (s.vecAccess slot ⟨0x31, 0x00, vd, vs1, vs2, vm⟩ false 0)
/-- VLD_STRIDED. -/
def execVldStrided (slot : Fin 16384) (vd vs1 vs2 : Fin 32) (vm : Bool) (s : State) : Result :=
  .next (s.vecAccess slot ⟨0x31, 0x00, vd, vs1, vs2, vm⟩ false 1)
/-- VLD_INDEXED. -/
def execVldIndexed (slot : Fin 16384) (vd vs1 vs2 : Fin 32) (vm : Bool) (s : State) : Result :=
  .next (s.vecAccess slot ⟨0x31, 0x00, vd, vs1, vs2, vm⟩ false 2)
/-- VST_UNIT. -/
def execVstUnit (slot : Fin 16384) (vd vs1 vs2 : Fin 32) (vm : Bool) (s : State) : Result :=
  .next (s.vecAccess slot ⟨0x32, 0x00, vd, vs1, vs2, vm⟩ true 0)
/-- VST_STRIDED. -/
def execVstStrided (slot : Fin 16384) (vd vs1 vs2 : Fin 32) (vm : Bool) (s : State) : Result :=
  .next (s.vecAccess slot ⟨0x32, 0x00, vd, vs1, vs2, vm⟩ true 1)
/-- VST_INDEXED. -/
def execVstIndexed (slot : Fin 16384) (vd vs1 vs2 : Fin 32) (vm : Bool) (s : State) : Result :=
  .next (s.vecAccess slot ⟨0x32, 0x00, vd, vs1, vs2, vm⟩ true 2)

/-! ### Integer -/

/-- The second source: vs2 in major 0x33, the low EW bits of g[rs2] as every element in major 0x34 (R374). -/
def Run.second (r : Run) (v : VFields) : List Nat :=
  if v.major = 0x34 then List.replicate (vcap r.ew) ((r.reg v.vs2).toNat % 2 ^ ewBits r.ew) else r.els v.vs2

/-- An integer function of two elements at EW. -/
def State.vecInt (s : State) (k charge : Nat) (v : VFields) (f : Nat → Nat → Nat → Nat) : State :=
  s.vecOp k v (fun r => v.maskHit || r.sub != 0) charge fun r =>
    let a := r.els v.vs1
    let b := r.second v
    r.setElems v.vm v.vd fun i => f r.ew (elemAt a i) (elemAt b i)

/-- A comparison of two elements at EW, which writes a mask. -/
def State.vecCmp (s : State) (k : Nat) (v : VFields) (f : Nat → Nat → Nat → Bool) : State :=
  s.vecOp k v (fun r => v.maskHit || r.sub != 0) 2 fun r =>
    let a := r.els v.vs1
    let b := r.second v
    r.setMask v.vm v.vd fun i => f r.ew (elemAt a i) (elemAt b i)

/-- BLEND: the second source where v31 bit i is 1, else the first; VM must be 0. -/
def State.vecBlend (s : State) (k : Nat) (v : VFields) : State :=
  s.vecOp k v (fun r => v.vm || r.sub != 0) 2 fun r =>
    let a := r.els v.vs1
    let b := r.second v
    r.setElems false v.vd fun i => if (r.vreg 31).getLsbD i then elemAt b i else elemAt a i

/-- An element difference. -/
def elSub (ew a b : Nat) : Nat := a + (2 ^ ewBits ew - b)
/-- A left shift by the low log2(EW) bits of an amount. -/
def elShl (ew a b : Nat) : Nat := a <<< (b % ewBits ew)
/-- A logical right shift. -/
def elShru (ew a b : Nat) : Nat := a >>> (b % ewBits ew)
/-- An arithmetic right shift. -/
def elShrs (ew a b : Nat) : Nat := ((BitVec.ofNat (ewBits ew) a).sshiftRight (b % ewBits ew)).toNat
/-- The high half of an unsigned product. -/
def elMulhu (ew a b : Nat) : Nat := a * b / 2 ^ ewBits ew

/-- VADD. -/
def execVadd (slot : Fin 16384) (vd vs1 vs2 : Fin 32) (vm : Bool) (s : State) : Result :=
  .next (s.vecInt slot 2 ⟨0x33, 0x00, vd, vs1, vs2, vm⟩ (fun _ a b => a + b))
/-- VSUB. -/
def execVsub (slot : Fin 16384) (vd vs1 vs2 : Fin 32) (vm : Bool) (s : State) : Result :=
  .next (s.vecInt slot 2 ⟨0x33, 0x01, vd, vs1, vs2, vm⟩ elSub)
/-- VAND. -/
def execVand (slot : Fin 16384) (vd vs1 vs2 : Fin 32) (vm : Bool) (s : State) : Result :=
  .next (s.vecInt slot 2 ⟨0x33, 0x02, vd, vs1, vs2, vm⟩ (fun _ a b => a &&& b))
/-- VOR. -/
def execVor (slot : Fin 16384) (vd vs1 vs2 : Fin 32) (vm : Bool) (s : State) : Result :=
  .next (s.vecInt slot 2 ⟨0x33, 0x03, vd, vs1, vs2, vm⟩ (fun _ a b => a ||| b))
/-- VXOR. -/
def execVxor (slot : Fin 16384) (vd vs1 vs2 : Fin 32) (vm : Bool) (s : State) : Result :=
  .next (s.vecInt slot 2 ⟨0x33, 0x04, vd, vs1, vs2, vm⟩ (fun _ a b => a ^^^ b))
/-- VSHL. -/
def execVshl (slot : Fin 16384) (vd vs1 vs2 : Fin 32) (vm : Bool) (s : State) : Result :=
  .next (s.vecInt slot 2 ⟨0x33, 0x05, vd, vs1, vs2, vm⟩ elShl)
/-- VSHRU. -/
def execVshru (slot : Fin 16384) (vd vs1 vs2 : Fin 32) (vm : Bool) (s : State) : Result :=
  .next (s.vecInt slot 2 ⟨0x33, 0x06, vd, vs1, vs2, vm⟩ elShru)
/-- VSHRS. -/
def execVshrs (slot : Fin 16384) (vd vs1 vs2 : Fin 32) (vm : Bool) (s : State) : Result :=
  .next (s.vecInt slot 2 ⟨0x33, 0x07, vd, vs1, vs2, vm⟩ elShrs)
/-- VMINU. -/
def execVminu (slot : Fin 16384) (vd vs1 vs2 : Fin 32) (vm : Bool) (s : State) : Result :=
  .next (s.vecInt slot 2 ⟨0x33, 0x0A, vd, vs1, vs2, vm⟩ (fun _ a b => min a b))
/-- VMAXU. -/
def execVmaxu (slot : Fin 16384) (vd vs1 vs2 : Fin 32) (vm : Bool) (s : State) : Result :=
  .next (s.vecInt slot 2 ⟨0x33, 0x0B, vd, vs1, vs2, vm⟩ (fun _ a b => max a b))
/-- VMUL. -/
def execVmul (slot : Fin 16384) (vd vs1 vs2 : Fin 32) (vm : Bool) (s : State) : Result :=
  .next (s.vecInt slot 3 ⟨0x33, 0x08, vd, vs1, vs2, vm⟩ (fun _ a b => a * b))
/-- VMULHU. -/
def execVmulhu (slot : Fin 16384) (vd vs1 vs2 : Fin 32) (vm : Bool) (s : State) : Result :=
  .next (s.vecInt slot 3 ⟨0x33, 0x09, vd, vs1, vs2, vm⟩ elMulhu)
/-- VCMPEQ. -/
def execVcmpeq (slot : Fin 16384) (vd vs1 vs2 : Fin 32) (vm : Bool) (s : State) : Result :=
  .next (s.vecCmp slot ⟨0x33, 0x10, vd, vs1, vs2, vm⟩ (fun _ a b => a == b))
/-- VCMPLTU. -/
def execVcmpltu (slot : Fin 16384) (vd vs1 vs2 : Fin 32) (vm : Bool) (s : State) : Result :=
  .next (s.vecCmp slot ⟨0x33, 0x11, vd, vs1, vs2, vm⟩ (fun _ a b => decide (a < b)))
/-- VCMPLT. -/
def execVcmplt (slot : Fin 16384) (vd vs1 vs2 : Fin 32) (vm : Bool) (s : State) : Result :=
  .next (s.vecCmp slot ⟨0x33, 0x12, vd, vs1, vs2, vm⟩ (fun ew a b => decide (signedEl ew a < signedEl ew b)))
/-- VBLEND. -/
def execVblend (slot : Fin 16384) (vd vs1 vs2 : Fin 32) (vm : Bool) (s : State) : Result :=
  .next (s.vecBlend slot ⟨0x33, 0x18, vd, vs1, vs2, vm⟩)
/-- VADD_VS. -/
def execVaddVs (slot : Fin 16384) (vd vs1 vs2 : Fin 32) (vm : Bool) (s : State) : Result :=
  .next (s.vecInt slot 2 ⟨0x34, 0x00, vd, vs1, vs2, vm⟩ (fun _ a b => a + b))
/-- VSUB_VS. -/
def execVsubVs (slot : Fin 16384) (vd vs1 vs2 : Fin 32) (vm : Bool) (s : State) : Result :=
  .next (s.vecInt slot 2 ⟨0x34, 0x01, vd, vs1, vs2, vm⟩ elSub)
/-- VAND_VS. -/
def execVandVs (slot : Fin 16384) (vd vs1 vs2 : Fin 32) (vm : Bool) (s : State) : Result :=
  .next (s.vecInt slot 2 ⟨0x34, 0x02, vd, vs1, vs2, vm⟩ (fun _ a b => a &&& b))
/-- VOR_VS. -/
def execVorVs (slot : Fin 16384) (vd vs1 vs2 : Fin 32) (vm : Bool) (s : State) : Result :=
  .next (s.vecInt slot 2 ⟨0x34, 0x03, vd, vs1, vs2, vm⟩ (fun _ a b => a ||| b))
/-- VXOR_VS. -/
def execVxorVs (slot : Fin 16384) (vd vs1 vs2 : Fin 32) (vm : Bool) (s : State) : Result :=
  .next (s.vecInt slot 2 ⟨0x34, 0x04, vd, vs1, vs2, vm⟩ (fun _ a b => a ^^^ b))
/-- VSHL_VS. -/
def execVshlVs (slot : Fin 16384) (vd vs1 vs2 : Fin 32) (vm : Bool) (s : State) : Result :=
  .next (s.vecInt slot 2 ⟨0x34, 0x05, vd, vs1, vs2, vm⟩ elShl)
/-- VSHRU_VS. -/
def execVshruVs (slot : Fin 16384) (vd vs1 vs2 : Fin 32) (vm : Bool) (s : State) : Result :=
  .next (s.vecInt slot 2 ⟨0x34, 0x06, vd, vs1, vs2, vm⟩ elShru)
/-- VSHRS_VS. -/
def execVshrsVs (slot : Fin 16384) (vd vs1 vs2 : Fin 32) (vm : Bool) (s : State) : Result :=
  .next (s.vecInt slot 2 ⟨0x34, 0x07, vd, vs1, vs2, vm⟩ elShrs)
/-- VMINU_VS. -/
def execVminuVs (slot : Fin 16384) (vd vs1 vs2 : Fin 32) (vm : Bool) (s : State) : Result :=
  .next (s.vecInt slot 2 ⟨0x34, 0x0A, vd, vs1, vs2, vm⟩ (fun _ a b => min a b))
/-- VMAXU_VS. -/
def execVmaxuVs (slot : Fin 16384) (vd vs1 vs2 : Fin 32) (vm : Bool) (s : State) : Result :=
  .next (s.vecInt slot 2 ⟨0x34, 0x0B, vd, vs1, vs2, vm⟩ (fun _ a b => max a b))
/-- VMUL_VS. -/
def execVmulVs (slot : Fin 16384) (vd vs1 vs2 : Fin 32) (vm : Bool) (s : State) : Result :=
  .next (s.vecInt slot 3 ⟨0x34, 0x08, vd, vs1, vs2, vm⟩ (fun _ a b => a * b))
/-- VMULHU_VS. -/
def execVmulhuVs (slot : Fin 16384) (vd vs1 vs2 : Fin 32) (vm : Bool) (s : State) : Result :=
  .next (s.vecInt slot 3 ⟨0x34, 0x09, vd, vs1, vs2, vm⟩ elMulhu)
/-- VCMPEQ_VS. -/
def execVcmpeqVs (slot : Fin 16384) (vd vs1 vs2 : Fin 32) (vm : Bool) (s : State) : Result :=
  .next (s.vecCmp slot ⟨0x34, 0x10, vd, vs1, vs2, vm⟩ (fun _ a b => a == b))
/-- VCMPLTU_VS. -/
def execVcmpltuVs (slot : Fin 16384) (vd vs1 vs2 : Fin 32) (vm : Bool) (s : State) : Result :=
  .next (s.vecCmp slot ⟨0x34, 0x11, vd, vs1, vs2, vm⟩ (fun _ a b => decide (a < b)))
/-- VCMPLT_VS. -/
def execVcmpltVs (slot : Fin 16384) (vd vs1 vs2 : Fin 32) (vm : Bool) (s : State) : Result :=
  .next (s.vecCmp slot ⟨0x34, 0x12, vd, vs1, vs2, vm⟩ (fun ew a b => decide (signedEl ew a < signedEl ew b)))
/-- VBLEND_VS. -/
def execVblendVs (slot : Fin 16384) (vd vs1 vs2 : Fin 32) (vm : Bool) (s : State) : Result :=
  .next (s.vecBlend slot ⟨0x34, 0x18, vd, vs1, vs2, vm⟩)

/-! ### Modular lanes -/

/-- The modulus that SUB selects, with the EW it requires (R375). -/
def laneModulus : Nat → Option (Nat × Nat)
  | 0 => some (3329, 1)
  | 1 => some (8380417, 2)
  | 2 => some (12289, 2)
  | _ => none

/-- A modular instruction: ILLEGAL with SUB 3 or another EW than its SUB requires (R375, R376). -/
def State.vecMod (s : State) (k charge : Nat) (v : VFields) (b : Run → List Nat) (f : Nat → Nat → Nat → Nat) :
    State :=
  s.vecOp k v (fun r => v.maskHit || (laneModulus r.sub).all (fun m => m.2 != r.ew)) charge fun r =>
    let q := ((laneModulus r.sub).map (·.1)).getD 1
    let x := r.els v.vs1
    let y := b r
    r.setElems v.vm v.vd fun i => f q (elemAt x i) (elemAt y i)

/-- VMADD. -/
def execVmadd (slot : Fin 16384) (vd vs1 vs2 : Fin 32) (vm : Bool) (s : State) : Result :=
  .next (s.vecMod slot 2 ⟨0x35, 0x00, vd, vs1, vs2, vm⟩ (fun r => r.els vs2) fun q a b => (a + b) % q)
/-- VMSUB. -/
def execVmsub (slot : Fin 16384) (vd vs1 vs2 : Fin 32) (vm : Bool) (s : State) : Result :=
  .next (s.vecMod slot 2 ⟨0x35, 0x01, vd, vs1, vs2, vm⟩ (fun r => r.els vs2) fun q a b => (a + (q - b % q)) % q)
/-- VMNEG. -/
def execVmneg (slot : Fin 16384) (vd vs1 vs2 : Fin 32) (vm : Bool) (s : State) : Result :=
  .next (s.vecMod slot 2 ⟨0x35, 0x02, vd, vs1, vs2, vm⟩ (fun r => r.els vs2) fun q a _ => (q - a % q) % q)
/-- VMRED. -/
def execVmred (slot : Fin 16384) (vd vs1 vs2 : Fin 32) (vm : Bool) (s : State) : Result :=
  .next (s.vecMod slot 2 ⟨0x35, 0x03, vd, vs1, vs2, vm⟩ (fun r => r.els vs2) fun q a _ => a % q)
/-- VMMUL. -/
def execVmmul (slot : Fin 16384) (vd vs1 vs2 : Fin 32) (vm : Bool) (s : State) : Result :=
  .next (s.vecMod slot 4 ⟨0x35, 0x04, vd, vs1, vs2, vm⟩ (fun r => r.els vs2) fun q a b => a * b % q)
/-- VMMULX: the second source is the low EW bits of g[rs2]. -/
def execVmmulx (slot : Fin 16384) (vd vs1 vs2 : Fin 32) (vm : Bool) (s : State) : Result :=
  .next (s.vecMod slot 4 ⟨0x35, 0x05, vd, vs1, vs2, vm⟩
    (fun r => List.replicate (vcap r.ew) ((r.reg vs2).toNat % 2 ^ ewBits r.ew)) fun q a b => a * b % q)

/-! ### Floating point -/

/-- A floating-point instruction at EW 64: FPCTL.FLAGS takes the union of the exceptions of all active elements
(R374, R376). -/
def State.vecFloat (s : State) (k charge : Nat) (v : VFields) (f : Nat → BitVec 64 → BitVec 64 → FRes) : State :=
  s.vecOp k v (fun r => v.maskHit || r.sub != 0 || r.ew != 3) charge fun r =>
    let a := r.els v.vs1
    let b := r.els v.vs2
    let one (i : Nat) : FRes := f r.rm (BitVec.ofNat 64 (elemAt a i)) (BitVec.ofNat 64 (elemAt b i))
    let flags := (r.actives v.vm).foldl (fun x i => x ||| (one i).flags) 0
    (r.setElems v.vm v.vd fun i => (one i).v.toNat).raiseF flags

/-- VFADD. -/
def execVfadd (slot : Fin 16384) (vd vs1 vs2 : Fin 32) (vm : Bool) (s : State) : Result :=
  .next (s.vecFloat slot 4 ⟨0x36, 0x00, vd, vs1, vs2, vm⟩ fadd)
/-- VFSUB. -/
def execVfsub (slot : Fin 16384) (vd vs1 vs2 : Fin 32) (vm : Bool) (s : State) : Result :=
  .next (s.vecFloat slot 4 ⟨0x36, 0x01, vd, vs1, vs2, vm⟩ fsub)
/-- VFMUL. -/
def execVfmul (slot : Fin 16384) (vd vs1 vs2 : Fin 32) (vm : Bool) (s : State) : Result :=
  .next (s.vecFloat slot 4 ⟨0x36, 0x02, vd, vs1, vs2, vm⟩ fmul)
/-- VFMIN. -/
def execVfmin (slot : Fin 16384) (vd vs1 vs2 : Fin 32) (vm : Bool) (s : State) : Result :=
  .next (s.vecFloat slot 4 ⟨0x36, 0x03, vd, vs1, vs2, vm⟩ (fun _ a b => fminmax false a b))
/-- VFMAX. -/
def execVfmax (slot : Fin 16384) (vd vs1 vs2 : Fin 32) (vm : Bool) (s : State) : Result :=
  .next (s.vecFloat slot 4 ⟨0x36, 0x04, vd, vs1, vs2, vm⟩ (fun _ a b => fminmax true a b))
/-- VFTOI. -/
def execVftoi (slot : Fin 16384) (vd vs1 vs2 : Fin 32) (vm : Bool) (s : State) : Result :=
  .next (s.vecFloat slot 4 ⟨0x36, 0x10, vd, vs1, vs2, vm⟩ (fun m a _ => ftoi m a))
/-- VITOF. -/
def execVitof (slot : Fin 16384) (vd vs1 vs2 : Fin 32) (vm : Bool) (s : State) : Result :=
  .next (s.vecFloat slot 4 ⟨0x36, 0x11, vd, vs1, vs2, vm⟩ (fun m a _ => itof m a))
/-- VFDIV. -/
def execVfdiv (slot : Fin 16384) (vd vs1 vs2 : Fin 32) (vm : Bool) (s : State) : Result :=
  .next (s.vecFloat slot 24 ⟨0x36, 0x08, vd, vs1, vs2, vm⟩ fdiv)
/-- VFSQRT. -/
def execVfsqrt (slot : Fin 16384) (vd vs1 vs2 : Fin 32) (vm : Bool) (s : State) : Result :=
  .next (s.vecFloat slot 24 ⟨0x36, 0x09, vd, vs1, vs2, vm⟩ (fun m a _ => fsqrt m a))

/-! ### Permutation -/

/-- A permutation instruction that writes active elements of vd. -/
def State.vecPerm (s : State) (k charge : Nat) (v : VFields) (illegal : Bool) (f : Run → Nat → Nat) : State :=
  s.vecOp k v (fun r => v.maskHit || illegal || r.sub != 0) charge fun r => r.setElems v.vm v.vd (f r)

/-- An instruction that writes a g register. -/
def State.vecOut (s : State) (k charge : Nat) (v : VFields) (f : Run → Nat) : State :=
  s.vecOp k v (fun r => r.sub != 0) charge fun r => r.setReg v.vd (BitVec.ofNat 64 (f r))

/-- VSPLAT. -/
def execVsplat (slot : Fin 16384) (vd vs1 vs2 : Fin 32) (vm : Bool) (s : State) : Result :=
  .next (s.vecPerm slot 2 ⟨0x37, 0x00, vd, vs1, vs2, vm⟩ false fun r _ => (r.reg vs1).toNat)
/-- VEXTRACT. -/
def execVextract (slot : Fin 16384) (vd vs1 vs2 : Fin 32) (vm : Bool) (s : State) : Result :=
  .next (s.vecOut slot 2 ⟨0x37, 0x01, vd, vs1, vs2, vm⟩ fun r => elemAt (r.els vs2) (r.reg vs1).toNat)
/-- VSHIFTDN. -/
def execVshiftdn (slot : Fin 16384) (vd vs1 vs2 : Fin 32) (vm : Bool) (s : State) : Result :=
  .next (s.vecPerm slot 2 ⟨0x37, 0x02, vd, vs1, vs2, vm⟩ (vd == vs2) fun r i =>
    elemAt (r.els vs2) (i + (r.reg vs1).toNat))
/-- VSHIFTUP: elements below the shift stay unchanged. -/
def execVshiftup (slot : Fin 16384) (vd vs1 vs2 : Fin 32) (vm : Bool) (s : State) : Result :=
  .next (s.vecPerm slot 2 ⟨0x37, 0x03, vd, vs1, vs2, vm⟩ (vd == vs2) fun r i =>
    if (r.reg vs1).toNat ≤ i then elemAt (r.els vs2) (i - (r.reg vs1).toNat) else elemAt (r.els vd) i)
/-- VPERM. -/
def execVperm (slot : Fin 16384) (vd vs1 vs2 : Fin 32) (vm : Bool) (s : State) : Result :=
  .next (s.vecPerm slot 4 ⟨0x37, 0x04, vd, vs1, vs2, vm⟩ (vd == vs1 || vd == vs2) fun r i =>
    elemAt (r.els vs1) (elemAt (r.els vs2) i))
/-- VINDEX. -/
def execVindex (slot : Fin 16384) (vd vs1 vs2 : Fin 32) (vm : Bool) (s : State) : Result :=
  .next (s.vecPerm slot 2 ⟨0x37, 0x05, vd, vs1, vs2, vm⟩ false fun _ i => i)
/-- VFOLDADD. -/
def execVfoldadd (slot : Fin 16384) (vd vs1 vs2 : Fin 32) (vm : Bool) (s : State) : Result :=
  .next (s.vecOut slot 4 ⟨0x37, 0x08, vd, vs1, vs2, vm⟩ fun r =>
    (r.actives vm).foldl (fun x i => x + elemAt (r.els vs2) i) 0)
/-- VFOLDXOR. -/
def execVfoldxor (slot : Fin 16384) (vd vs1 vs2 : Fin 32) (vm : Bool) (s : State) : Result :=
  .next (s.vecOut slot 4 ⟨0x37, 0x09, vd, vs1, vs2, vm⟩ fun r =>
    (r.actives vm).foldl (fun x i => x ^^^ elemAt (r.els vs2) i) 0)
/-- VMCOUNT. -/
def execVmcount (slot : Fin 16384) (vd vs1 vs2 : Fin 32) (vm : Bool) (s : State) : Result :=
  .next (s.vecOut slot 4 ⟨0x37, 0x0A, vd, vs1, vs2, vm⟩ fun r =>
    ((r.actives vm).filter fun i => (r.vreg vs2).getLsbD i).length)

end Sys2Proof.Machine
end

