-- ==== Sys2Proof/Machine/Dispatch.lean ====
section
/-! DEFINITION. One arm per command: the meaning it calls. -/

namespace Sys2Proof.Machine

def exec (i : Instr) (s : State) : Host.Outcome State Fault Refusal :=
  match i with
  | .mainRailLoss rail loadMw storedMj => Sys2Proof.Machine.execMainRailLoss rail loadMw storedMj s
  | .rideThroughEnd => Sys2Proof.Machine.execRideThroughEnd s
  | .inFlightWindowEnd => Sys2Proof.Machine.execInFlightWindowEnd s
  | .flushDone => Sys2Proof.Machine.execFlushDone s
  | .mainRailReturn rail => Sys2Proof.Machine.execMainRailReturn rail s
  | .holdupMeasure fullMj storedMj => Sys2Proof.Machine.execHoldupMeasure fullMj storedMj s
  | .tamperMeshCheck intact => Sys2Proof.Machine.execTamperMeshCheck intact s
  | .tamperLoopPulse ohm => Sys2Proof.Machine.execTamperLoopPulse ohm s
  | .canTemperatureLimit milliC => Sys2Proof.Machine.execCanTemperatureLimit milliC s
  | .tamperAck z value => Sys2Proof.Machine.execTamperAck z value s
  | .aliveToggle => Sys2Proof.Machine.execAliveToggle s
  | .alive1kToggle => Sys2Proof.Machine.execAlive1kToggle s
  | .cardVddOvercurrent => Sys2Proof.Machine.execCardVddOvercurrent s
  | .thermalPause dieMc => Sys2Proof.Machine.execThermalPause dieMc s
  | .thermalResume dieMc => Sys2Proof.Machine.execThermalResume dieMc s
  | .startCold coinMv storedMj fullMj registerLost => Sys2Proof.Machine.execStartCold coinMv storedMj fullMj registerLost s
  | .startWarm coinMv storedMj fullMj => Sys2Proof.Machine.execStartWarm coinMv storedMj fullMj s
  | .katComplete failed => Sys2Proof.Machine.execKatComplete failed s
  | .drbgFirstSeed which => Sys2Proof.Machine.execDrbgFirstSeed which s
  | .entropyStartFail => Sys2Proof.Machine.execEntropyStartFail s
  | .firmwareAuthenticated slotA slotB cardImage => Sys2Proof.Machine.execFirmwareAuthenticated slotA slotB cardImage s
  | .archiveMount => Sys2Proof.Machine.execArchiveMount s
  | .perstDeassert port => Sys2Proof.Machine.execPerstDeassert port s
  | .portReset port cause => Sys2Proof.Machine.execPortReset port cause s
  | .vfFlr inst => Sys2Proof.Machine.execVfFlr inst s
  | .vfD3hotToD0 inst => Sys2Proof.Machine.execVfD3hotToD0 inst s
  | .configRequest port => Sys2Proof.Machine.execConfigRequest port s
  | .atsInvalidateRequest inst iova len => Sys2Proof.Machine.execAtsInvalidateRequest inst iova len s
  | .atsTranslationCompletion slot iova len canRead canWrite => Sys2Proof.Machine.execAtsTranslationCompletion slot iova len canRead canWrite s
  | .atsTranslationExpiry inst iova => Sys2Proof.Machine.execAtsTranslationExpiry inst iova s
  | .ptmDialogue port offset time locked => Sys2Proof.Machine.execPtmDialogue port offset time locked s
  | .ptpMessage gm domain vlan time offset locked => Sys2Proof.Machine.execPtpMessage gm domain vlan time offset locked s
  | .holdoverLimit => Sys2Proof.Machine.execHoldoverLimit s
  | .addressResolution v6 target vlan => Sys2Proof.Machine.execAddressResolution v6 target vlan s
  | .frameDiscard => Sys2Proof.Machine.execFrameDiscard s
  | .mgmtTxSubmit port len => Sys2Proof.Machine.execMgmtTxSubmit port len s
  | .mgmtRxAck port value => Sys2Proof.Machine.execMgmtRxAck port value s
  | .open1 chan credId roleAsked nonce x25519 ek => Sys2Proof.Machine.execOpen1 chan credId roleAsked nonce x25519 ek s
  | .open3 session sig => Sys2Proof.Machine.execOpen3 session sig s
  | .openingTimeout session => Sys2Proof.Machine.execOpeningTimeout session s
  | .credentialBlockEnd credId => Sys2Proof.Machine.execCredentialBlockEnd credId s
  | .read z key => Sys2Proof.Machine.execRead z key s
  | .write z key value => Sys2Proof.Machine.execWrite z key value s
  | .describe z key => Sys2Proof.Machine.execDescribe z key s
  | .next z key => Sys2Proof.Machine.execNext z key s
  | .txnBegin z => Sys2Proof.Machine.execTxnBegin z s
  | .txnCommit z id => Sys2Proof.Machine.execTxnCommit z id s
  | .txnRollback z id => Sys2Proof.Machine.execTxnRollback z id s
  | .txnTimeout => Sys2Proof.Machine.execTxnTimeout s
  | .blockOpen z key dir total => Sys2Proof.Machine.execBlockOpen z key dir total s
  | .blockData z key seg data => Sys2Proof.Machine.execBlockData z key seg data s
  | .blockClose z key digest => Sys2Proof.Machine.execBlockClose z key digest s
  | .blockAbort z => Sys2Proof.Machine.execBlockAbort z s
  | .blockTransferTimeout session => Sys2Proof.Machine.execBlockTransferTimeout session s
  | .subscribe z minSeverity instNo => Sys2Proof.Machine.execSubscribe z minSeverity instNo s
  | .unsubscribe z => Sys2Proof.Machine.execUnsubscribe z s
  | .restart z nonce => Sys2Proof.Machine.execRestart z nonce s
  | .keepalive z => Sys2Proof.Machine.execKeepalive z s
  | .close z => Sys2Proof.Machine.execClose z s
  | .sessionIdleTimeout session => Sys2Proof.Machine.execSessionIdleTimeout session s
  | .timeSet z value => Sys2Proof.Machine.execTimeSet z value s
  | .lcRequest z target token => Sys2Proof.Machine.execLcRequest z target token s
  | .lcWipeDone readback => Sys2Proof.Machine.execLcWipeDone readback s
  | .debugAllow z value => Sys2Proof.Machine.execDebugAllow z value s
  | .archiveRatchet z value => Sys2Proof.Machine.execArchiveRatchet z value s
  | .logClear z value => Sys2Proof.Machine.execLogClear z value s
  | .logCheckRun z value => Sys2Proof.Machine.execLogCheckRun z value s
  | .eventCommit => Sys2Proof.Machine.execEventCommit s
  | .instCreate port seq a => Sys2Proof.Machine.execInstCreate port seq a s
  | .instEnable port seq n => Sys2Proof.Machine.execInstEnable port seq n s
  | .instSet port seq a => Sys2Proof.Machine.execInstSet port seq a s
  | .instReset port seq n mode => Sys2Proof.Machine.execInstReset port seq n mode s
  | .instanceResetDone inst => Sys2Proof.Machine.execInstanceResetDone inst s
  | .instFreeze port seq n => Sys2Proof.Machine.execInstFreeze port seq n s
  | .freezeDone inst => Sys2Proof.Machine.execFreezeDone inst s
  | .instThaw port seq n => Sys2Proof.Machine.execInstThaw port seq n s
  | .instDestroy port seq n => Sys2Proof.Machine.execInstDestroy port seq n s
  | .instStatus port seq n => Sys2Proof.Machine.execInstStatus port seq n s
  | .setTranslation port seq n root => Sys2Proof.Machine.execSetTranslation port seq n root s
  | .invalidate port seq n iova len => Sys2Proof.Machine.execInvalidate port seq n iova len s
  | .migSave port seq n flags iova len => Sys2Proof.Machine.execMigSave port seq n flags iova len s
  | .migRestore port seq n flags iova len => Sys2Proof.Machine.execMigRestore port seq n flags iova len s
  | .openSlotWrite port seq a => Sys2Proof.Machine.execOpenSlotWrite port seq a s
  | .openSlotClear port seq slotNo => Sys2Proof.Machine.execOpenSlotClear port seq slotNo s
  | .openSlotRead port seq slotNo => Sys2Proof.Machine.execOpenSlotRead port seq slotNo s
  | .qpEnable inst qp value => Sys2Proof.Machine.execQpEnable inst qp value s
  | .qpDisable inst qp value => Sys2Proof.Machine.execQpDisable inst qp value s
  | .spillGrant inst => Sys2Proof.Machine.execSpillGrant inst s
  | .spillRevoke inst => Sys2Proof.Machine.execSpillRevoke inst s
  | .spillRevokeDone inst => Sys2Proof.Machine.execSpillRevokeDone inst s
  | .registerWrite fn offset size value => Sys2Proof.Machine.execRegisterWrite fn offset size value s
  | .sqDoorbell inst qp index => Sys2Proof.Machine.execSqDoorbell inst qp index s
  | .sqWithdraw inst qp index => Sys2Proof.Machine.execSqWithdraw inst qp index s
  | .cqDoorbell inst qp index => Sys2Proof.Machine.execCqDoorbell inst qp index s
  | .descriptorArrival inst qp entry => Sys2Proof.Machine.execDescriptorArrival inst qp entry s
  | .recordsPinned slot sealOk => Sys2Proof.Machine.execRecordsPinned slot sealOk s
  | .jobInputArrived slot input => Sys2Proof.Machine.execJobInputArrived slot input s
  | .engineCommandDone kind unit outcome count => Sys2Proof.Machine.execEngineCommandDone kind unit outcome count s
  | .shieldBoundary slot => Sys2Proof.Machine.execShieldBoundary slot s
  | .completionPost slot writeFault => Sys2Proof.Machine.execCompletionPost slot writeFault s
  | .cqWait inst qp => Sys2Proof.Machine.execCqWait inst qp s
  | .drainTimeout scope => Sys2Proof.Machine.execDrainTimeout scope s
  | .entropyWaitTimeout slot => Sys2Proof.Machine.execEntropyWaitTimeout slot s
  | .placementTrapResolved slot => Sys2Proof.Machine.execPlacementTrapResolved slot s
  | .ctxExpired inst ctx => Sys2Proof.Machine.execCtxExpired inst ctx s
  | .statefulBuildBlock index => Sys2Proof.Machine.execStatefulBuildBlock index s
  | .leafBlockJournaled index => Sys2Proof.Machine.execLeafBlockJournaled index s
  | .nop slot => Sys2Proof.Machine.execNop slot s
  | .fence slot => Sys2Proof.Machine.execFence slot s
  | .mlkemKeygen slot => Sys2Proof.Machine.execMlkemKeygen slot s
  | .mlkemEncaps slot => Sys2Proof.Machine.execMlkemEncaps slot s
  | .mlkemEncapsKeep slot => Sys2Proof.Machine.execMlkemEncapsKeep slot s
  | .mlkemDecaps slot => Sys2Proof.Machine.execMlkemDecaps slot s
  | .mlkemDecapsKeep slot => Sys2Proof.Machine.execMlkemDecapsKeep slot s
  | .mldsaKeygen slot => Sys2Proof.Machine.execMldsaKeygen slot s
  | .mldsaSign slot => Sys2Proof.Machine.execMldsaSign slot s
  | .mldsaSignDeterministic slot => Sys2Proof.Machine.execMldsaSignDeterministic slot s
  | .mldsaVerify slot => Sys2Proof.Machine.execMldsaVerify slot s
  | .fndsaKeygen slot => Sys2Proof.Machine.execFndsaKeygen slot s
  | .fndsaSign slot => Sys2Proof.Machine.execFndsaSign slot s
  | .fndsaVerify slot => Sys2Proof.Machine.execFndsaVerify slot s
  | .slhdsaKeygen slot => Sys2Proof.Machine.execSlhdsaKeygen slot s
  | .slhdsaSign slot => Sys2Proof.Machine.execSlhdsaSign slot s
  | .slhdsaSignDeterministic slot => Sys2Proof.Machine.execSlhdsaSignDeterministic slot s
  | .slhdsaVerify slot => Sys2Proof.Machine.execSlhdsaVerify slot s
  | .statefulKeygen slot => Sys2Proof.Machine.execStatefulKeygen slot s
  | .statefulSign slot => Sys2Proof.Machine.execStatefulSign slot s
  | .statefulVerify slot => Sys2Proof.Machine.execStatefulVerify slot s
  | .statefulStatus slot => Sys2Proof.Machine.execStatefulStatus slot s
  | .hash slot => Sys2Proof.Machine.execHash slot s
  | .mac slot => Sys2Proof.Machine.execMac slot s
  | .macVerify slot => Sys2Proof.Machine.execMacVerify slot s
  | .ctxClose slot => Sys2Proof.Machine.execCtxClose slot s
  | .measure slot => Sys2Proof.Machine.execMeasure slot s
  | .quote slot => Sys2Proof.Machine.execQuote slot s
  | .hqcKeygen slot => Sys2Proof.Machine.execHqcKeygen slot s
  | .hqcEncaps slot => Sys2Proof.Machine.execHqcEncaps slot s
  | .hqcEncapsKeep slot => Sys2Proof.Machine.execHqcEncapsKeep slot s
  | .hqcDecaps slot => Sys2Proof.Machine.execHqcDecaps slot s
  | .hqcDecapsKeep slot => Sys2Proof.Machine.execHqcDecapsKeep slot s
  | .mceKeygen slot => Sys2Proof.Machine.execMceKeygen slot s
  | .mceEncaps slot => Sys2Proof.Machine.execMceEncaps slot s
  | .mceEncapsKeep slot => Sys2Proof.Machine.execMceEncapsKeep slot s
  | .mceDecaps slot => Sys2Proof.Machine.execMceDecaps slot s
  | .mceDecapsKeep slot => Sys2Proof.Machine.execMceDecapsKeep slot s
  | .ecKeygen slot => Sys2Proof.Machine.execEcKeygen slot s
  | .ecSign slot => Sys2Proof.Machine.execEcSign slot s
  | .ecVerify slot => Sys2Proof.Machine.execEcVerify slot s
  | .ecAgree slot => Sys2Proof.Machine.execEcAgree slot s
  | .ecAgreeKeep slot => Sys2Proof.Machine.execEcAgreeKeep slot s
  | .rsaKeygen slot => Sys2Proof.Machine.execRsaKeygen slot s
  | .rsaSignPss slot => Sys2Proof.Machine.execRsaSignPss slot s
  | .rsaSignPkcs1 slot => Sys2Proof.Machine.execRsaSignPkcs1 slot s
  | .rsaVerifyPss slot => Sys2Proof.Machine.execRsaVerifyPss slot s
  | .rsaVerifyPkcs1 slot => Sys2Proof.Machine.execRsaVerifyPkcs1 slot s
  | .rsaOaepEncrypt slot => Sys2Proof.Machine.execRsaOaepEncrypt slot s
  | .rsaOaepDecrypt slot => Sys2Proof.Machine.execRsaOaepDecrypt slot s
  | .gcmEncrypt slot => Sys2Proof.Machine.execGcmEncrypt slot s
  | .gcmDecrypt slot => Sys2Proof.Machine.execGcmDecrypt slot s
  | .gmacGenerate slot => Sys2Proof.Machine.execGmacGenerate slot s
  | .gmacVerify slot => Sys2Proof.Machine.execGmacVerify slot s
  | .kwWrap slot => Sys2Proof.Machine.execKwWrap slot s
  | .kwUnwrap slot => Sys2Proof.Machine.execKwUnwrap slot s
  | .xtsEncrypt slot => Sys2Proof.Machine.execXtsEncrypt slot s
  | .xtsDecrypt slot => Sys2Proof.Machine.execXtsDecrypt slot s
  | .frameTag slot => Sys2Proof.Machine.execFrameTag slot s
  | .frameCheck slot => Sys2Proof.Machine.execFrameCheck slot s
  | .hybKeygen slot => Sys2Proof.Machine.execHybKeygen slot s
  | .hybEncaps slot => Sys2Proof.Machine.execHybEncaps slot s
  | .hybEncapsKeep slot => Sys2Proof.Machine.execHybEncapsKeep slot s
  | .hybDecaps slot => Sys2Proof.Machine.execHybDecaps slot s
  | .hybDecapsKeep slot => Sys2Proof.Machine.execHybDecapsKeep slot s
  | .hybSign slot => Sys2Proof.Machine.execHybSign slot s
  | .hybVerify slot => Sys2Proof.Machine.execHybVerify slot s
  | .kmUpdate slot => Sys2Proof.Machine.execKmUpdate slot s
  | .kmGenerate slot => Sys2Proof.Machine.execKmGenerate slot s
  | .kmDerive slot => Sys2Proof.Machine.execKmDerive slot s
  | .kmDeriveRelease slot => Sys2Proof.Machine.execKmDeriveRelease slot s
  | .kmWrap slot => Sys2Proof.Machine.execKmWrap slot s
  | .kmUnwrap slot => Sys2Proof.Machine.execKmUnwrap slot s
  | .kmExport slot => Sys2Proof.Machine.execKmExport slot s
  | .kmImport slot => Sys2Proof.Machine.execKmImport slot s
  | .kmImportPublic slot => Sys2Proof.Machine.execKmImportPublic slot s
  | .kmDelete slot => Sys2Proof.Machine.execKmDelete slot s
  | .kmInfo slot => Sys2Proof.Machine.execKmInfo slot s
  | .kmProve slot => Sys2Proof.Machine.execKmProve slot s
  | .peerSetSecret slot => Sys2Proof.Machine.execPeerSetSecret slot s
  | .peerRevoke slot => Sys2Proof.Machine.execPeerRevoke slot s
  | .peerInfo slot => Sys2Proof.Machine.execPeerInfo slot s
  | .randomGenerate slot => Sys2Proof.Machine.execRandomGenerate slot s
  | .randomReseed slot => Sys2Proof.Machine.execRandomReseed slot s
  | .recipeRun slot => Sys2Proof.Machine.execRecipeRun slot s
  | .recipeLoad slot => Sys2Proof.Machine.execRecipeLoad slot s
  | .recipeUnload slot => Sys2Proof.Machine.execRecipeUnload slot s
  | .recipeInfo slot => Sys2Proof.Machine.execRecipeInfo slot s
  | .add slot rd rs1 rs2 => Sys2Proof.Machine.execAdd slot rd rs1 rs2 s
  | .sub slot rd rs1 rs2 => Sys2Proof.Machine.execSub slot rd rs1 rs2 s
  | .and slot rd rs1 rs2 => Sys2Proof.Machine.execAnd slot rd rs1 rs2 s
  | .or slot rd rs1 rs2 => Sys2Proof.Machine.execOr slot rd rs1 rs2 s
  | .xor slot rd rs1 rs2 => Sys2Proof.Machine.execXor slot rd rs1 rs2 s
  | .shl slot rd rs1 rs2 => Sys2Proof.Machine.execShl slot rd rs1 rs2 s
  | .shru slot rd rs1 rs2 => Sys2Proof.Machine.execShru slot rd rs1 rs2 s
  | .shrs slot rd rs1 rs2 => Sys2Proof.Machine.execShrs slot rd rs1 rs2 s
  | .cmplt slot rd rs1 rs2 => Sys2Proof.Machine.execCmplt slot rd rs1 rs2 s
  | .cmpltu slot rd rs1 rs2 => Sys2Proof.Machine.execCmpltu slot rd rs1 rs2 s
  | .rotl slot rd rs1 rs2 => Sys2Proof.Machine.execRotl slot rd rs1 rs2 s
  | .rotr slot rd rs1 rs2 => Sys2Proof.Machine.execRotr slot rd rs1 rs2 s
  | .clz slot rd rs1 rs2 => Sys2Proof.Machine.execClz slot rd rs1 rs2 s
  | .popc slot rd rs1 rs2 => Sys2Proof.Machine.execPopc slot rd rs1 rs2 s
  | .mul slot rd rs1 rs2 => Sys2Proof.Machine.execMul slot rd rs1 rs2 s
  | .mulhs slot rd rs1 rs2 => Sys2Proof.Machine.execMulhs slot rd rs1 rs2 s
  | .mulhu slot rd rs1 rs2 => Sys2Proof.Machine.execMulhu slot rd rs1 rs2 s
  | .div slot rd rs1 rs2 => Sys2Proof.Machine.execDiv slot rd rs1 rs2 s
  | .divu slot rd rs1 rs2 => Sys2Proof.Machine.execDivu slot rd rs1 rs2 s
  | .rem slot rd rs1 rs2 => Sys2Proof.Machine.execRem slot rd rs1 rs2 s
  | .remu slot rd rs1 rs2 => Sys2Proof.Machine.execRemu slot rd rs1 rs2 s
  | .addi slot rd rs1 imm => Sys2Proof.Machine.execAddi slot rd rs1 imm s
  | .andi slot rd rs1 imm => Sys2Proof.Machine.execAndi slot rd rs1 imm s
  | .ori slot rd rs1 imm => Sys2Proof.Machine.execOri slot rd rs1 imm s
  | .xori slot rd rs1 imm => Sys2Proof.Machine.execXori slot rd rs1 imm s
  | .shli slot rd rs1 imm => Sys2Proof.Machine.execShli slot rd rs1 imm s
  | .shrui slot rd rs1 imm => Sys2Proof.Machine.execShrui slot rd rs1 imm s
  | .shrsi slot rd rs1 imm => Sys2Proof.Machine.execShrsi slot rd rs1 imm s
  | .rotli slot rd rs1 imm => Sys2Proof.Machine.execRotli slot rd rs1 imm s
  | .ldhi slot rd imm => Sys2Proof.Machine.execLdhi slot rd imm s
  | .ldd slot rd rs1 imm => Sys2Proof.Machine.execLdd slot rd rs1 imm s
  | .ldw slot rd rs1 imm => Sys2Proof.Machine.execLdw slot rd rs1 imm s
  | .ldh slot rd rs1 imm => Sys2Proof.Machine.execLdh slot rd rs1 imm s
  | .ldb slot rd rs1 imm => Sys2Proof.Machine.execLdb slot rd rs1 imm s
  | .std slot rs1 rs2 imm => Sys2Proof.Machine.execStd slot rs1 rs2 imm s
  | .stw slot rs1 rs2 imm => Sys2Proof.Machine.execStw slot rs1 rs2 imm s
  | .sth slot rs1 rs2 imm => Sys2Proof.Machine.execSth slot rs1 rs2 imm s
  | .stb slot rs1 rs2 imm => Sys2Proof.Machine.execStb slot rs1 rs2 imm s
  | .beq slot rs1 rs2 imm => Sys2Proof.Machine.execBeq slot rs1 rs2 imm s
  | .bne slot rs1 rs2 imm => Sys2Proof.Machine.execBne slot rs1 rs2 imm s
  | .blt slot rs1 rs2 imm => Sys2Proof.Machine.execBlt slot rs1 rs2 imm s
  | .bge slot rs1 rs2 imm => Sys2Proof.Machine.execBge slot rs1 rs2 imm s
  | .bltu slot rs1 rs2 imm => Sys2Proof.Machine.execBltu slot rs1 rs2 imm s
  | .bgeu slot rs1 rs2 imm => Sys2Proof.Machine.execBgeu slot rs1 rs2 imm s
  | .jmpl slot rd off => Sys2Proof.Machine.execJmpl slot rd off s
  | .jmpr slot rd rs1 imm => Sys2Proof.Machine.execJmpr slot rd rs1 imm s
  | .fadd slot rd rs1 rs2 => Sys2Proof.Machine.execFadd slot rd rs1 rs2 s
  | .fsub slot rd rs1 rs2 => Sys2Proof.Machine.execFsub slot rd rs1 rs2 s
  | .fmul slot rd rs1 rs2 => Sys2Proof.Machine.execFmul slot rd rs1 rs2 s
  | .fmin slot rd rs1 rs2 => Sys2Proof.Machine.execFmin slot rd rs1 rs2 s
  | .fmax slot rd rs1 rs2 => Sys2Proof.Machine.execFmax slot rd rs1 rs2 s
  | .fcopysign slot rd rs1 rs2 => Sys2Proof.Machine.execFcopysign slot rd rs1 rs2 s
  | .fdiv slot rd rs1 rs2 => Sys2Proof.Machine.execFdiv slot rd rs1 rs2 s
  | .fsqrt slot rd rs1 rs2 => Sys2Proof.Machine.execFsqrt slot rd rs1 rs2 s
  | .ftoi slot rd rs1 rs2 => Sys2Proof.Machine.execFtoi slot rd rs1 rs2 s
  | .itof slot rd rs1 rs2 => Sys2Proof.Machine.execItof slot rd rs1 rs2 s
  | .fbits slot rd rs1 rs2 => Sys2Proof.Machine.execFbits slot rd rs1 rs2 s
  | .gbits slot rd rs1 rs2 => Sys2Proof.Machine.execGbits slot rd rs1 rs2 s
  | .fldd slot rd rs1 imm => Sys2Proof.Machine.execFldd slot rd rs1 imm s
  | .fstd slot rs1 rs2 imm => Sys2Proof.Machine.execFstd slot rs1 rs2 imm s
  | .fcmp slot rd rs1 rs2 => Sys2Proof.Machine.execFcmp slot rd rs1 rs2 s
  | .ewait slot rd funct => Sys2Proof.Machine.execEwait slot rd funct s
  | .ctlr slot rd rs1 imm => Sys2Proof.Machine.execCtlr slot rd rs1 imm s
  | .ctlw slot rd rs1 imm => Sys2Proof.Machine.execCtlw slot rd rs1 imm s
  | .halt slot rs1 => Sys2Proof.Machine.execHalt slot rs1 s
  | .dma slot cmd prm => Sys2Proof.Machine.execDma slot cmd prm s
  | .invoke slot rs1 => Sys2Proof.Machine.execInvoke slot rs1 s
  | .retain slot rs1 => Sys2Proof.Machine.execRetain slot rs1 s
  | .permute slot cmd prm => Sys2Proof.Machine.execPermute slot cmd prm s
  | .absorb slot cmd prm => Sys2Proof.Machine.execAbsorb slot cmd prm s
  | .sha256 slot cmd prm => Sys2Proof.Machine.execSha256 slot cmd prm s
  | .sha512 slot cmd prm => Sys2Proof.Machine.execSha512 slot cmd prm s
  | .cloveNtt slot by_ cmd prm => Sys2Proof.Machine.execCloveNtt slot by_ cmd prm s
  | .cloveIntt slot by_ cmd prm => Sys2Proof.Machine.execCloveIntt slot by_ cmd prm s
  | .clovePmul slot by_ cmd prm => Sys2Proof.Machine.execClovePmul slot by_ cmd prm s
  | .cloveDot slot by_ cmd prm => Sys2Proof.Machine.execCloveDot slot by_ cmd prm s
  | .cloveAdd slot by_ cmd prm => Sys2Proof.Machine.execCloveAdd slot by_ cmd prm s
  | .cloveSub slot by_ cmd prm => Sys2Proof.Machine.execCloveSub slot by_ cmd prm s
  | .cloveCmul slot by_ cmd prm => Sys2Proof.Machine.execCloveCmul slot by_ cmd prm s
  | .cloveSampleSmall slot by_ cmd prm => Sys2Proof.Machine.execCloveSampleSmall slot by_ cmd prm s
  | .cloveSampleUniform slot by_ cmd prm => Sys2Proof.Machine.execCloveSampleUniform slot by_ cmd prm s
  | .cloveCompress slot by_ cmd prm => Sys2Proof.Machine.execCloveCompress slot by_ cmd prm s
  | .cloveDecompress slot by_ cmd prm => Sys2Proof.Machine.execCloveDecompress slot by_ cmd prm s
  | .clovePower2round slot by_ cmd prm => Sys2Proof.Machine.execClovePower2round slot by_ cmd prm s
  | .cloveDecompose slot by_ cmd prm => Sys2Proof.Machine.execCloveDecompose slot by_ cmd prm s
  | .cloveMakehint slot by_ cmd prm => Sys2Proof.Machine.execCloveMakehint slot by_ cmd prm s
  | .cloveUsehint slot by_ cmd prm => Sys2Proof.Machine.execCloveUsehint slot by_ cmd prm s
  | .cloveNormchk slot by_ cmd prm => Sys2Proof.Machine.execCloveNormchk slot by_ cmd prm s
  | .cloveA2b slot by_ cmd prm => Sys2Proof.Machine.execCloveA2b slot by_ cmd prm s
  | .cloveB2a slot by_ cmd prm => Sys2Proof.Machine.execCloveB2a slot by_ cmd prm s
  | .clovePack slot by_ cmd prm => Sys2Proof.Machine.execClovePack slot by_ cmd prm s
  | .cloveUnpack slot by_ cmd prm => Sys2Proof.Machine.execCloveUnpack slot by_ cmd prm s
  | .cloveClmulmod slot by_ cmd prm => Sys2Proof.Machine.execCloveClmulmod slot by_ cmd prm s
  | .cloveXor slot by_ cmd prm => Sys2Proof.Machine.execCloveXor slot by_ cmd prm s
  | .cloveGfmul slot by_ cmd prm => Sys2Proof.Machine.execCloveGfmul slot by_ cmd prm s
  | .cloveGfsqr slot by_ cmd prm => Sys2Proof.Machine.execCloveGfsqr slot by_ cmd prm s
  | .cloveGfinv slot by_ cmd prm => Sys2Proof.Machine.execCloveGfinv slot by_ cmd prm s
  | .cloveGfeval slot by_ cmd prm => Sys2Proof.Machine.execCloveGfeval slot by_ cmd prm s
  | .cloveStreamMatvec slot by_ cmd prm => Sys2Proof.Machine.execCloveStreamMatvec slot by_ cmd prm s
  | .cloveCopy slot by_ cmd prm => Sys2Proof.Machine.execCloveCopy slot by_ cmd prm s
  | .cloveZero slot by_ cmd prm => Sys2Proof.Machine.execCloveZero slot by_ cmd prm s
  | .cloveMaskedEq slot by_ cmd prm => Sys2Proof.Machine.execCloveMaskedEq slot by_ cmd prm s
  | .cloveSelect slot by_ cmd prm => Sys2Proof.Machine.execCloveSelect slot by_ cmd prm s
  | .cloveUnmask slot by_ cmd prm => Sys2Proof.Machine.execCloveUnmask slot by_ cmd prm s
  | .saffronMac unit cmd release => Sys2Proof.Machine.execSaffronMac unit cmd release s
  | .macShift unit cmd release => Sys2Proof.Machine.execMacShift unit cmd release s
  | .accOut unit cmd release => Sys2Proof.Machine.execAccOut unit cmd release s
  | .accClear unit cmd release => Sys2Proof.Machine.execAccClear unit cmd release s
  | .saffronFmul unit cmd release => Sys2Proof.Machine.execSaffronFmul unit cmd release s
  | .fmulSel unit cmd release => Sys2Proof.Machine.execFmulSel unit cmd release s
  | .unseal unit cmd release => Sys2Proof.Machine.execUnseal unit cmd release s
  | .saffronZero unit cmd release => Sys2Proof.Machine.execSaffronZero unit cmd release s
  | .vcfg slot vd vs1 vs2 vm => Sys2Proof.Machine.execVcfg slot vd vs1 vs2 vm s
  | .vcfgx slot vd vs1 vs2 vm => Sys2Proof.Machine.execVcfgx slot vd vs1 vs2 vm s
  | .vldUnit slot vd vs1 vs2 vm => Sys2Proof.Machine.execVldUnit slot vd vs1 vs2 vm s
  | .vldStrided slot vd vs1 vs2 vm => Sys2Proof.Machine.execVldStrided slot vd vs1 vs2 vm s
  | .vldIndexed slot vd vs1 vs2 vm => Sys2Proof.Machine.execVldIndexed slot vd vs1 vs2 vm s
  | .vstUnit slot vd vs1 vs2 vm => Sys2Proof.Machine.execVstUnit slot vd vs1 vs2 vm s
  | .vstStrided slot vd vs1 vs2 vm => Sys2Proof.Machine.execVstStrided slot vd vs1 vs2 vm s
  | .vstIndexed slot vd vs1 vs2 vm => Sys2Proof.Machine.execVstIndexed slot vd vs1 vs2 vm s
  | .vadd slot vd vs1 vs2 vm => Sys2Proof.Machine.execVadd slot vd vs1 vs2 vm s
  | .vsub slot vd vs1 vs2 vm => Sys2Proof.Machine.execVsub slot vd vs1 vs2 vm s
  | .vand slot vd vs1 vs2 vm => Sys2Proof.Machine.execVand slot vd vs1 vs2 vm s
  | .vor slot vd vs1 vs2 vm => Sys2Proof.Machine.execVor slot vd vs1 vs2 vm s
  | .vxor slot vd vs1 vs2 vm => Sys2Proof.Machine.execVxor slot vd vs1 vs2 vm s
  | .vshl slot vd vs1 vs2 vm => Sys2Proof.Machine.execVshl slot vd vs1 vs2 vm s
  | .vshru slot vd vs1 vs2 vm => Sys2Proof.Machine.execVshru slot vd vs1 vs2 vm s
  | .vshrs slot vd vs1 vs2 vm => Sys2Proof.Machine.execVshrs slot vd vs1 vs2 vm s
  | .vminu slot vd vs1 vs2 vm => Sys2Proof.Machine.execVminu slot vd vs1 vs2 vm s
  | .vmaxu slot vd vs1 vs2 vm => Sys2Proof.Machine.execVmaxu slot vd vs1 vs2 vm s
  | .vmul slot vd vs1 vs2 vm => Sys2Proof.Machine.execVmul slot vd vs1 vs2 vm s
  | .vmulhu slot vd vs1 vs2 vm => Sys2Proof.Machine.execVmulhu slot vd vs1 vs2 vm s
  | .vcmpeq slot vd vs1 vs2 vm => Sys2Proof.Machine.execVcmpeq slot vd vs1 vs2 vm s
  | .vcmpltu slot vd vs1 vs2 vm => Sys2Proof.Machine.execVcmpltu slot vd vs1 vs2 vm s
  | .vcmplt slot vd vs1 vs2 vm => Sys2Proof.Machine.execVcmplt slot vd vs1 vs2 vm s
  | .vblend slot vd vs1 vs2 vm => Sys2Proof.Machine.execVblend slot vd vs1 vs2 vm s
  | .vaddVs slot vd vs1 vs2 vm => Sys2Proof.Machine.execVaddVs slot vd vs1 vs2 vm s
  | .vsubVs slot vd vs1 vs2 vm => Sys2Proof.Machine.execVsubVs slot vd vs1 vs2 vm s
  | .vandVs slot vd vs1 vs2 vm => Sys2Proof.Machine.execVandVs slot vd vs1 vs2 vm s
  | .vorVs slot vd vs1 vs2 vm => Sys2Proof.Machine.execVorVs slot vd vs1 vs2 vm s
  | .vxorVs slot vd vs1 vs2 vm => Sys2Proof.Machine.execVxorVs slot vd vs1 vs2 vm s
  | .vshlVs slot vd vs1 vs2 vm => Sys2Proof.Machine.execVshlVs slot vd vs1 vs2 vm s
  | .vshruVs slot vd vs1 vs2 vm => Sys2Proof.Machine.execVshruVs slot vd vs1 vs2 vm s
  | .vshrsVs slot vd vs1 vs2 vm => Sys2Proof.Machine.execVshrsVs slot vd vs1 vs2 vm s
  | .vminuVs slot vd vs1 vs2 vm => Sys2Proof.Machine.execVminuVs slot vd vs1 vs2 vm s
  | .vmaxuVs slot vd vs1 vs2 vm => Sys2Proof.Machine.execVmaxuVs slot vd vs1 vs2 vm s
  | .vmulVs slot vd vs1 vs2 vm => Sys2Proof.Machine.execVmulVs slot vd vs1 vs2 vm s
  | .vmulhuVs slot vd vs1 vs2 vm => Sys2Proof.Machine.execVmulhuVs slot vd vs1 vs2 vm s
  | .vcmpeqVs slot vd vs1 vs2 vm => Sys2Proof.Machine.execVcmpeqVs slot vd vs1 vs2 vm s
  | .vcmpltuVs slot vd vs1 vs2 vm => Sys2Proof.Machine.execVcmpltuVs slot vd vs1 vs2 vm s
  | .vcmpltVs slot vd vs1 vs2 vm => Sys2Proof.Machine.execVcmpltVs slot vd vs1 vs2 vm s
  | .vblendVs slot vd vs1 vs2 vm => Sys2Proof.Machine.execVblendVs slot vd vs1 vs2 vm s
  | .vmadd slot vd vs1 vs2 vm => Sys2Proof.Machine.execVmadd slot vd vs1 vs2 vm s
  | .vmsub slot vd vs1 vs2 vm => Sys2Proof.Machine.execVmsub slot vd vs1 vs2 vm s
  | .vmneg slot vd vs1 vs2 vm => Sys2Proof.Machine.execVmneg slot vd vs1 vs2 vm s
  | .vmred slot vd vs1 vs2 vm => Sys2Proof.Machine.execVmred slot vd vs1 vs2 vm s
  | .vmmul slot vd vs1 vs2 vm => Sys2Proof.Machine.execVmmul slot vd vs1 vs2 vm s
  | .vmmulx slot vd vs1 vs2 vm => Sys2Proof.Machine.execVmmulx slot vd vs1 vs2 vm s
  | .vfadd slot vd vs1 vs2 vm => Sys2Proof.Machine.execVfadd slot vd vs1 vs2 vm s
  | .vfsub slot vd vs1 vs2 vm => Sys2Proof.Machine.execVfsub slot vd vs1 vs2 vm s
  | .vfmul slot vd vs1 vs2 vm => Sys2Proof.Machine.execVfmul slot vd vs1 vs2 vm s
  | .vfmin slot vd vs1 vs2 vm => Sys2Proof.Machine.execVfmin slot vd vs1 vs2 vm s
  | .vfmax slot vd vs1 vs2 vm => Sys2Proof.Machine.execVfmax slot vd vs1 vs2 vm s
  | .vftoi slot vd vs1 vs2 vm => Sys2Proof.Machine.execVftoi slot vd vs1 vs2 vm s
  | .vitof slot vd vs1 vs2 vm => Sys2Proof.Machine.execVitof slot vd vs1 vs2 vm s
  | .vfdiv slot vd vs1 vs2 vm => Sys2Proof.Machine.execVfdiv slot vd vs1 vs2 vm s
  | .vfsqrt slot vd vs1 vs2 vm => Sys2Proof.Machine.execVfsqrt slot vd vs1 vs2 vm s
  | .vsplat slot vd vs1 vs2 vm => Sys2Proof.Machine.execVsplat slot vd vs1 vs2 vm s
  | .vextract slot vd vs1 vs2 vm => Sys2Proof.Machine.execVextract slot vd vs1 vs2 vm s
  | .vshiftdn slot vd vs1 vs2 vm => Sys2Proof.Machine.execVshiftdn slot vd vs1 vs2 vm s
  | .vshiftup slot vd vs1 vs2 vm => Sys2Proof.Machine.execVshiftup slot vd vs1 vs2 vm s
  | .vperm slot vd vs1 vs2 vm => Sys2Proof.Machine.execVperm slot vd vs1 vs2 vm s
  | .vindex slot vd vs1 vs2 vm => Sys2Proof.Machine.execVindex slot vd vs1 vs2 vm s
  | .vfoldadd slot vd vs1 vs2 vm => Sys2Proof.Machine.execVfoldadd slot vd vs1 vs2 vm s
  | .vfoldxor slot vd vs1 vs2 vm => Sys2Proof.Machine.execVfoldxor slot vd vs1 vs2 vm s
  | .vmcount slot vd vs1 vs2 vm => Sys2Proof.Machine.execVmcount slot vd vs1 vs2 vm s
  | .claim port win value => Sys2Proof.Machine.execClaim port win value s
  | .release port win value => Sys2Proof.Machine.execRelease port win value s
  | .digestStart port win value => Sys2Proof.Machine.execDigestStart port win value s
  | .data port win size value poisoned => Sys2Proof.Machine.execData port win size value poisoned s
  | .dataLast port win size value poisoned => Sys2Proof.Machine.execDataLast port win size value poisoned s
  | .digestRead port win word => Sys2Proof.Machine.execDigestRead port win word s
  | .digestWindowIdle win => Sys2Proof.Machine.execDigestWindowIdle win s
  | .noiseSourceSample src bit => Sys2Proof.Machine.execNoiseSourceSample src bit s
  | .maskGeneratorReseed => Sys2Proof.Machine.execMaskGeneratorReseed s
  | .tempoWindow ps => Sys2Proof.Machine.execTempoWindow ps s
  | .governorTick mw waiting inletMc => Sys2Proof.Machine.execGovernorTick mw waiting inletMc s
  | .selfTestVisit unit pass duration fixed => Sys2Proof.Machine.execSelfTestVisit unit pass duration fixed s
  | .scrub loc err => Sys2Proof.Machine.execScrub loc err s
  | .watchdogExpiry stage cleared => Sys2Proof.Machine.execWatchdogExpiry stage cleared s
  | .graceTimerExpiry id => Sys2Proof.Machine.execGraceTimerExpiry id s
  | .retry z id pass => Sys2Proof.Machine.execRetry z id pass s
  | .retire z id => Sys2Proof.Machine.execRetire z id s
  | .resetInstance z id => Sys2Proof.Machine.execResetInstance z id s
  | .accept z id => Sys2Proof.Machine.execAccept z id s
  | .spareVisitDone unit pass => Sys2Proof.Machine.execSpareVisitDone unit pass s
  | .retiringUnitIdle unit => Sys2Proof.Machine.execRetiringUnitIdle unit s
  | .idcode => Sys2Proof.Machine.execIdcode s
  | .bypass => Sys2Proof.Machine.execBypass s
  | .dbgStatus => Sys2Proof.Machine.execDbgStatus s
  | .dbgChallenge => Sys2Proof.Machine.execDbgChallenge s
  | .dbgResponse sig => Sys2Proof.Machine.execDbgResponse sig s
  | .dbgLcRequest target token => Sys2Proof.Machine.execDbgLcRequest target token s
  | .dbgChallengeExpiry => Sys2Proof.Machine.execDbgChallengeExpiry s
  | .cardDetectClose => Sys2Proof.Machine.execCardDetectClose s
  | .cardDetectDebounced => Sys2Proof.Machine.execCardDetectDebounced s
  | .cardReadyPoll ready s18a => Sys2Proof.Machine.execCardReadyPoll ready s18a s
  | .cardAuthenticated cert => Sys2Proof.Machine.execCardAuthenticated cert s
  | .cardDetectOpen => Sys2Proof.Machine.execCardDetectOpen s
  | .cardRest => Sys2Proof.Machine.execCardRest s
  | .approve z arg => Sys2Proof.Machine.execApprove z arg s
  | .configSave z arg => Sys2Proof.Machine.execConfigSave z arg s
  | .configLoad z arg => Sys2Proof.Machine.execConfigLoad z arg s
  | .backup z arg => Sys2Proof.Machine.execBackup z arg s
  | .cardSegmentCommitted => Sys2Proof.Machine.execCardSegmentCommitted s
  | .backupResumeExpiry => Sys2Proof.Machine.execBackupResumeExpiry s
  | .restore z arg image => Sys2Proof.Machine.execRestore z arg image s
  | .restoreReadPassDone ok => Sys2Proof.Machine.execRestoreReadPassDone ok s
  | .protect z arg => Sys2Proof.Machine.execProtect z arg s
  | .unprotect z arg => Sys2Proof.Machine.execUnprotect z arg s
  | .cancel z arg => Sys2Proof.Machine.execCancel z arg s
  | .approvalExpiry which => Sys2Proof.Machine.execApprovalExpiry which s
  | .ptpSourceLost => Sys2Proof.Machine.execPtpSourceLost s
  | .linkStateChange state => Sys2Proof.Machine.execLinkStateChange state s
  | .ptmDisabled port => Sys2Proof.Machine.execPtmDisabled port s
  | .auxRailChange up => Sys2Proof.Machine.execAuxRailChange up s
  | .instanceDestroyDone inst => Sys2Proof.Machine.execInstanceDestroyDone inst s
  | .migSaveDone inst => Sys2Proof.Machine.execMigSaveDone inst s
  | .migRestoreDone inst image => Sys2Proof.Machine.execMigRestoreDone inst image s
  | .cardOpDone reply => Sys2Proof.Machine.execCardOpDone reply s
  | .ecmd slot rs1 rs2 funct => Sys2Proof.Machine.execEcmd slot rs1 rs2 funct s
  | .undefinedInstruction slot word => Sys2Proof.Machine.execUndefinedInstruction slot word s
  | .undefinedOpcode slot => Sys2Proof.Machine.execUndefinedOpcode slot s
  | .unknownService req => Sys2Proof.Machine.execUnknownService req s
  | .replayDiscard session seq tagOk => Sys2Proof.Machine.execReplayDiscard session seq tagOk s

end Sys2Proof.Machine
end

