-- ==== Sys2Proof/Machine/Step.lean ====
section
/-! DEFINITION. One step: the command at the front of the queue, or 8 ns of idling. -/

namespace Sys2Proof.Machine

/-- With no command waiting, one tick of 8 ns passes and what the control blocks do by themselves is done
(log entry 3). -/
def State.idle (s : State) : State := (s.advance 8).dispatch

/-- One step: the command at the front of the queue is executed on the state with the queue's rest. -/
def step (s : State) : Host.Outcome State Fault Refusal :=
  match s.pending with
  | [] => .next s.idle
  | c :: rest => exec c { s with pending := rest }

/-- The command that a word spells, put at the front of the queue; the state itself where it spells none. -/
def State.withFetchWord (s : State) (nbits w : Nat) : State :=
  match decodeTableWord nbits w with
  | none => s
  | some c => { s with pending := c :: s.pending }

end Sys2Proof.Machine
end

