-- ==== Sys2Proof/Safety.lean ====
section
/-! DEFINITION. What counts as a safe run, in the terms the statements use: the shape that every state of the block
has, and what no step takes back. -/

namespace Sys2Proof.Machine

open Sys2Proof

/-- Every operand memory is there and holds its canonical form (R246; log entry 6). -/
def cloveOk (l : List Mem) : Prop := l.length = 72 ∧ ∀ m ∈ l, Mem.wf m = true

/-- The shape of the block: four host ports (R129), 387 units (R487), 72 operand memories (R246), 18 wide
multiply-accumulate units (R317), 18 noise sources (R423), 16 internal DRBG instances (R427), four digest windows
(R289), 40 measurement registers (R294), three copies of the life-cycle state and eight intent slots in OTP (R457,
R459), and a generation within the 4,096 bits that count it (R419). -/
structure Inv (s : State) : Prop where
  clove : cloveOk s.clove
  ports : s.ports.length = 4
  units : s.units.length = 387
  saffron : s.saffron.length = 18
  sources : s.rng.sources.length = 18
  internal : s.rng.internal.length = 16
  windows : s.meas.windows.length = 4
  mr : s.meas.mr.length = 40
  copies : s.otp.copies.length = 3
  intents : s.otp.intents.length = 8
  gen : s.otp.genBits ≤ 4096

/-- What no step takes back: time (R125), the sequence numbers of events (R501), the programmed bits of the archive
generation (R419) and of the retirement map (R490). -/
structure Onward (s t : State) : Prop where
  time : s.now ≤ t.now
  seq : s.warden.nextSeq ≤ t.warden.nextSeq
  gen : s.otp.genBits ≤ t.otp.genBits
  retired : ∀ u ∈ s.otp.retired, u ∈ t.otp.retired

end Sys2Proof.Machine
end

