-- ==== Sys2Proof/Certificates/Slice0/Obligations.lean ====
section
/-! DEFINITION. What is claimed of the model: one `def Obligations.<Name> : Prop` for each statement, after the
vocabulary the statements share. -/

namespace Sys2Proof.Claims

open Sys2Proof Sys2Proof.Machine

/-- A command completes: it answers a next state, of which `P` holds. -/
def Gives (c : Instr) (s : State) (P : State → Prop) : Prop := ∃ t : State, exec c s = .next t ∧ P t

/-! ### Recipe instructions -/

/-- What an instruction still has to be charged: nothing where it restarts after a placement trap (R381). -/
def due (r : Run) (charge : Nat) : Nat := if r.baseCharged then 0 else charge

/-- The recipe of a slot stands at an instruction word, waits for no page, and its budget allows the charge. -/
structure At (s : State) (k : Nat) (j : Job) (r : Run) (w charge : Nat) : Prop where
  running : s.running k = some (j, r)
  noPage : r.trapPage = none
  word : r.word = some w
  budget : r.used + due r charge ≤ r.budget

/-- The run with an instruction's charge added to what it has used. -/
def paid (r : Run) (charge : Nat) : Run := { r with used := r.used + due r charge }

/-- The run after an instruction that writes a g register and goes on to the next word. -/
def wrote (r : Run) (charge rd : Nat) (v : BitVec 64) : Run := ((paid r charge).setReg rd v).next

/-- An instruction of major 0x00: its constructor, FUNCT, charge and function. -/
structure RegOp where
  cmd : Fin 16384 → Fin 32 → Fin 32 → Fin 32 → Instr
  funct : Nat
  charge : Nat
  f : BitVec 64 → BitVec 64 → BitVec 64

/-- Table - Integer instructions, the divisions apart. -/
def regOps : List RegOp := [
  ⟨.add, 0x000, 1, fun a b => a + b⟩, ⟨.sub, 0x001, 1, fun a b => a - b⟩,
  ⟨.and, 0x002, 1, fun a b => a &&& b⟩, ⟨.or, 0x003, 1, fun a b => a ||| b⟩,
  ⟨.xor, 0x004, 1, fun a b => a ^^^ b⟩,
  ⟨.shl, 0x005, 1, fun a b => a <<< (b &&& 63)⟩, ⟨.shru, 0x006, 1, fun a b => a >>> (b &&& 63)⟩,
  ⟨.shrs, 0x007, 1, fun a b => a.sshiftRight (b.toNat % 64)⟩,
  ⟨.cmplt, 0x008, 1, fun a b => if a.slt b then 1 else 0⟩,
  ⟨.cmpltu, 0x009, 1, fun a b => if a.ult b then 1 else 0⟩,
  ⟨.rotl, 0x00A, 1, fun a b => a <<< (b.toNat % 64) ||| a >>> (64 - b.toNat % 64)⟩,
  ⟨.rotr, 0x00B, 1, fun a b => a >>> (b.toNat % 64) ||| a <<< (64 - b.toNat % 64)⟩,
  ⟨.clz, 0x00C, 1, fun a _ => BitVec.ofNat 64 (((List.range 64).find? fun i => a.getMsbD i).getD 64)⟩,
  ⟨.popc, 0x00D, 1, fun a _ => BitVec.ofNat 64 ((List.range 64).countP fun i => a.getLsbD i)⟩,
  ⟨.mul, 0x010, 2, fun a b => a * b⟩,
  ⟨.mulhs, 0x011, 2, fun a b => BitVec.ofInt 64 (a.toInt * b.toInt / 2 ^ 64)⟩,
  ⟨.mulhu, 0x012, 2, fun a b => BitVec.ofNat 64 (a.toNat * b.toNat / 2 ^ 64)⟩]

/-- The divisions of major 0x00, for a divisor that is not zero. -/
def divOps : List RegOp := [
  ⟨.div, 0x018, 8, fun a b => a.sdiv b⟩, ⟨.divu, 0x019, 8, fun a b => a.udiv b⟩,
  ⟨.rem, 0x01A, 8, fun a b => a.srem b⟩, ⟨.remu, 0x01B, 8, fun a b => a.umod b⟩]

/-- An instruction of format I on a register and an immediate. -/
structure ImmOp where
  cmd : Fin 16384 → Fin 32 → Fin 32 → BitVec 16 → Instr
  major : Nat
  ok : BitVec 16 → Bool
  f : BitVec 64 → BitVec 16 → BitVec 64

/-- Table - Immediate instructions. Shifts stand in one major: IMM16 [7:6] names the shift, [5:0] its amount. -/
def immOps : List ImmOp := [
  ⟨.addi, 0x01, fun _ => true, fun a i => a + i.signExtend 64⟩,
  ⟨.andi, 0x02, fun _ => true, fun a i => a &&& i.signExtend 64⟩,
  ⟨.ori, 0x03, fun _ => true, fun a i => a ||| i.signExtend 64⟩,
  ⟨.xori, 0x04, fun _ => true, fun a i => a ^^^ i.signExtend 64⟩,
  ⟨.shli, 0x05, fun i => i.extractLsb 7 6 == 0, fun a i => a <<< (i.toNat % 64)⟩,
  ⟨.shrui, 0x05, fun i => i.extractLsb 7 6 == 1, fun a i => a >>> (i.toNat % 64)⟩,
  ⟨.shrsi, 0x05, fun i => i.extractLsb 7 6 == 2, fun a i => a.sshiftRight (i.toNat % 64)⟩,
  ⟨.rotli, 0x05, fun i => i.extractLsb 7 6 == 3, fun a i => a <<< (i.toNat % 64) ||| a >>> (64 - i.toNat % 64)⟩]

/-- A load: its constructor, MAJOR and width. -/
structure LoadOp where
  cmd : Fin 16384 → Fin 32 → Fin 32 → BitVec 16 → Instr
  major : Nat
  bytes : Nat

/-- The loads into g registers. -/
def loadOps : List LoadOp := [⟨.ldd, 0x08, 8⟩, ⟨.ldw, 0x09, 4⟩, ⟨.ldh, 0x0A, 2⟩, ⟨.ldb, 0x0B, 1⟩]

/-- The stores of g registers: the constructor takes the base register, then the register stored. -/
def storeOps : List LoadOp := [⟨.std, 0x0C, 8⟩, ⟨.stw, 0x0D, 4⟩, ⟨.sth, 0x0E, 2⟩, ⟨.stb, 0x0F, 1⟩]

/-- A branch: its constructor, MAJOR and condition. -/
structure BranchOp where
  cmd : Fin 16384 → Fin 32 → Fin 32 → BitVec 16 → Instr
  major : Nat
  taken : BitVec 64 → BitVec 64 → Bool

/-- Table - Branches. -/
def branchOps : List BranchOp := [
  ⟨.beq, 0x10, fun a b => a == b⟩, ⟨.bne, 0x11, fun a b => a != b⟩,
  ⟨.blt, 0x12, fun a b => a.slt b⟩, ⟨.bge, 0x13, fun a b => !a.slt b⟩,
  ⟨.bltu, 0x14, fun a b => a.ult b⟩, ⟨.bgeu, 0x15, fun a b => !a.ult b⟩]

/-- The address of a load or store: rs1 + IMM16, sign-extended (R354). -/
def addr (r : Run) (rs1 : Fin 32) (imm : BitVec 16) : Nat := (r.reg rs1 + imm.signExtend 64).toNat

/-- An access of `n` bytes meets the checks, and every page it needs is in the page cache. -/
def reachable (s : State) (j : Job) (r : Run) (write : Bool) (a n : Nat) (w : Win) (o : Nat) : Prop :=
  s.access j r write a n = .ok w o ∧ missing r w a n = []

/-- The windows that stand in the run's own memory. -/
def ownWindow (w : Win) : Bool := w == .data || w == .scratch || w == .out || w == .vscratch

/-- A trap of a scalar instruction at a run: RECIPE_FAULT, with the cause, element index 0xFFFF and the byte offset
of the instruction in DETAIL (R360, R382). -/
def trapResult (cause elem : Nat) (r : Run) : JobResult :=
  { status := .recipeFault, detail := BitVec.ofNat 64 (cause + 65536 * elem + 2 ^ 32 * r.pc.toNat) }

/-! ### Floating point -/

/-- A floating-point instruction on f registers: FUNCT, charge, and value and flags at a rounding mode. -/
structure FloatOp where
  cmd : Fin 16384 → Fin 32 → Fin 32 → Fin 32 → Instr
  funct : Nat
  charge : Nat
  f : Nat → BitVec 64 → BitVec 64 → FRes

/-- The floating-point instructions of major 0x18 from f registers to an f register. -/
noncomputable def floatOps : List FloatOp := [
  ⟨.fadd, 0x000, 2, fadd⟩, ⟨.fsub, 0x001, 2, fsub⟩, ⟨.fmul, 0x002, 2, fmul⟩,
  ⟨.fmin, 0x003, 2, fun _ a b => fminmax false a b⟩, ⟨.fmax, 0x004, 2, fun _ a b => fminmax true a b⟩,
  ⟨.fcopysign, 0x005, 2, fun _ a b => ⟨(a &&& 0x7FFFFFFFFFFFFFFF) ||| (b &&& 0x8000000000000000), 0⟩⟩,
  ⟨.fdiv, 0x008, 12, fdiv⟩, ⟨.fsqrt, 0x009, 12, fun m a _ => fsqrt m a⟩]

/-! ### Vector instructions -/

/-- A vector instruction: its constructor and the parts of its word. -/
structure VecOp where
  cmd : Fin 16384 → Fin 32 → Fin 32 → Fin 32 → Bool → Instr
  major : Nat
  vfunct : Nat
  charge : Nat

/-- The word of a vector instruction. -/
def vecWord (v : VecOp) (vd vs1 vs2 : Fin 32) (vm : Bool) (sub : Nat) : Nat :=
  wordA v.major vd vs1 vs2 (1024 * (if vm then 1 else 0) + 256 * sub + v.vfunct)

/-- The run after a vector instruction: charged, VRESUME 0, the next word (R371). -/
def vecDone (charge : Nat) (r : Run) (f : Run → Run) : Run := { f (paid r charge) with vresume := 0 }.next

/-- An integer vector instruction: VFUNCT, charge and function of two elements at EW bits. -/
structure VecInt where
  cmdV : Fin 16384 → Fin 32 → Fin 32 → Fin 32 → Bool → Instr
  cmdS : Fin 16384 → Fin 32 → Fin 32 → Fin 32 → Bool → Instr
  vfunct : Nat
  charge : Nat
  f : (w : Nat) → BitVec w → BitVec w → BitVec w

/-- Table - Vector integer functions: the constructor of major 0x33, that of major 0x34. -/
noncomputable def vecInts : List VecInt := [
  ⟨.vadd, .vaddVs, 0x00, 2, fun _ a b => a + b⟩, ⟨.vsub, .vsubVs, 0x01, 2, fun _ a b => a - b⟩,
  ⟨.vand, .vandVs, 0x02, 2, fun _ a b => a &&& b⟩, ⟨.vor, .vorVs, 0x03, 2, fun _ a b => a ||| b⟩,
  ⟨.vxor, .vxorVs, 0x04, 2, fun _ a b => a ^^^ b⟩, ⟨.vshl, .vshlVs, 0x05, 2, fun w a b => a <<< (b.toNat % w)⟩,
  ⟨.vshru, .vshruVs, 0x06, 2, fun w a b => a >>> (b.toNat % w)⟩,
  ⟨.vshrs, .vshrsVs, 0x07, 2, fun w a b => a.sshiftRight (b.toNat % w)⟩,
  ⟨.vmul, .vmulVs, 0x08, 3, fun _ a b => a * b⟩,
  ⟨.vmulhu, .vmulhuVs, 0x09, 3, fun w a b => BitVec.ofNat w (a.toNat * b.toNat / 2 ^ w)⟩,
  ⟨.vminu, .vminuVs, 0x0A, 2, fun _ a b => if a.ult b then a else b⟩,
  ⟨.vmaxu, .vmaxuVs, 0x0B, 2, fun _ a b => if a.ult b then b else a⟩]

/-- A vector comparison. -/
structure VecCmp where
  cmdV : Fin 16384 → Fin 32 → Fin 32 → Fin 32 → Bool → Instr
  cmdS : Fin 16384 → Fin 32 → Fin 32 → Fin 32 → Bool → Instr
  vfunct : Nat
  f : (w : Nat) → BitVec w → BitVec w → Bool

/-- The comparisons of the same table. -/
noncomputable def vecCmps : List VecCmp := [
  ⟨.vcmpeq, .vcmpeqVs, 0x10, fun _ a b => a == b⟩, ⟨.vcmpltu, .vcmpltuVs, 0x11, fun _ a b => a.ult b⟩,
  ⟨.vcmplt, .vcmpltVs, 0x12, fun _ a b => a.slt b⟩]

/-- Element `i` of a vector register at EW `ew`, as its bits. -/
def el (r : Run) (n i : Nat) : BitVec (8 * 2 ^ r.ew) := BitVec.ofNat _ ((r.vreg n).toNat / 2 ^ (8 * 2 ^ r.ew * i))

/-- The second source of majors 0x33 and 0x34 at element `i`. -/
def second (r : Run) (scalar : Bool) (n i : Nat) : BitVec (8 * 2 ^ r.ew) :=
  if scalar then (r.reg n).setWidth _ else el r n i

/-- A modular vector instruction (R375). -/
structure VecMod where
  cmd : Fin 16384 → Fin 32 → Fin 32 → Fin 32 → Bool → Instr
  vfunct : Nat
  charge : Nat
  scalar : Bool
  f : Nat → Nat → Nat → Nat

/-- Major 0x35, for sources reduced below q. -/
noncomputable def vecMods : List VecMod := [
  ⟨.vmadd, 0, 2, false, fun q a b => (a + b) % q⟩, ⟨.vmsub, 1, 2, false, fun q a b => (a + q - b) % q⟩,
  ⟨.vmneg, 2, 2, false, fun q a _ => (q - a) % q⟩, ⟨.vmred, 3, 2, false, fun q a _ => a % q⟩,
  ⟨.vmmul, 4, 4, false, fun q a b => a * b % q⟩, ⟨.vmmulx, 5, 4, true, fun q a b => a * b % q⟩]

/-- A floating-point vector instruction. -/
structure VecFloat where
  cmd : Fin 16384 → Fin 32 → Fin 32 → Fin 32 → Bool → Instr
  vfunct : Nat
  charge : Nat
  f : Nat → BitVec 64 → BitVec 64 → FRes

/-- Major 0x36. -/
noncomputable def vecFloats : List VecFloat := [
  ⟨.vfadd, 0x00, 4, fadd⟩, ⟨.vfsub, 0x01, 4, fsub⟩, ⟨.vfmul, 0x02, 4, fmul⟩,
  ⟨.vfmin, 0x03, 4, fun _ a b => fminmax false a b⟩, ⟨.vfmax, 0x04, 4, fun _ a b => fminmax true a b⟩,
  ⟨.vftoi, 0x10, 4, fun m a _ => ftoi m a⟩, ⟨.vitof, 0x11, 4, fun m a _ => itof m a⟩,
  ⟨.vfdiv, 0x08, 24, fdiv⟩, ⟨.vfsqrt, 0x09, 24, fun m a _ => fsqrt m a⟩]

/-- Element `i` of a vector register as 64 bits at EW 3. -/
def el64 (r : Run) (n i : Nat) : BitVec 64 := BitVec.ofNat 64 ((r.vreg n).toNat / 2 ^ (64 * i))

/-- A vector instruction that permutes: what it writes to element `i`, and when it is ILLEGAL. -/
structure VecPerm where
  cmd : Fin 16384 → Fin 32 → Fin 32 → Fin 32 → Bool → Instr
  vfunct : Nat
  charge : Nat
  illegal : Fin 32 → Fin 32 → Fin 32 → Bool
  f : Run → Fin 32 → Fin 32 → Fin 32 → Nat → Nat

/-- Element `i` of a register as a number, 0 at and above VCAP. -/
def elN (r : Run) (n i : Nat) : Nat :=
  if i < 128 / 2 ^ r.ew then (r.vreg n).toNat / 2 ^ (8 * 2 ^ r.ew * i) % 2 ^ (8 * 2 ^ r.ew) else 0

/-- The instructions of major 0x37 that write elements. -/
noncomputable def vecPerms : List VecPerm := [
  ⟨.vsplat, 0x00, 2, fun _ _ _ => false, fun r _ vs1 _ _ => (r.reg vs1).toNat⟩,
  ⟨.vshiftdn, 0x02, 2, fun vd _ vs2 => vd == vs2, fun r _ vs1 vs2 i => elN r vs2 (i + (r.reg vs1).toNat)⟩,
  ⟨.vshiftup, 0x03, 2, fun vd _ vs2 => vd == vs2, fun r vd vs1 vs2 i =>
    if (r.reg vs1).toNat ≤ i then elN r vs2 (i - (r.reg vs1).toNat) else elN r vd i⟩,
  ⟨.vperm, 0x04, 4, fun vd vs1 vs2 => vd == vs1 || vd == vs2, fun r _ vs1 vs2 i => elN r vs1 (elN r vs2 i)⟩,
  ⟨.vindex, 0x05, 2, fun _ _ _ => false, fun _ _ _ _ i => i⟩]

/-- A vector load or store: its constructor and addressing mode. -/
structure VecMem where
  cmd : Fin 16384 → Fin 32 → Fin 32 → Fin 32 → Bool → Instr
  mode : Nat

/-- Major 0x31. -/
noncomputable def vecLoads : List VecMem := [⟨.vldUnit, 0⟩, ⟨.vldStrided, 1⟩, ⟨.vldIndexed, 2⟩]
/-- Major 0x32. -/
noncomputable def vecStores : List VecMem := [⟨.vstUnit, 0⟩, ⟨.vstStrided, 1⟩, ⟨.vstIndexed, 2⟩]

/-- The address of element `i` of a vector load or store (R377). -/
def elemAddress (r : Run) (mode : Nat) (vs1 vs2 : Fin 32) (i : Nat) : Nat :=
  (match mode with
    | 0 => r.reg vs1 + BitVec.ofNat 64 (i * 2 ^ r.ew)
    | 1 => r.reg vs1 + BitVec.ofNat 64 i * r.reg vs2
    | _ => r.reg vs1 + BitVec.ofNat 64 (elN r vs2 i)).toNat

/-! ### Engine commands -/

/-- The word is an ECMD of a kind whose registers hold a command word and a parameter word. -/
def EcmdAt (r : Run) (w kind : Nat) (cmd prm : BitVec 64) : Prop :=
  majorOf w = 0x20 ∧ functOf w % 16 = kind ∧ r.reg (rs1Of w) = cmd ∧ r.reg (rs2Of w) = prm

/-- A Keccak or SHA-2 command: kind, OP, state bytes, message bytes for a COUNT, charge for each, and the function
of state and message. -/
structure HashCmd where
  cmd : Fin 16384 → BitVec 64 → BitVec 64 → Instr
  kind : Nat
  op : Nat
  bytes : Nat
  message : Nat → BitVec 64 → Nat
  perCount : Nat
  f : Nat → BitVec 64 → Bytes → Bytes → Bytes

/-- Table - Keccak and SHA-2 commands. -/
noncomputable def hashCmds : List HashCmd := [
  ⟨.permute, 3, 1, 200, fun _ _ => 0, 24, fun n _ st _ => permutes n st⟩,
  ⟨.absorb, 3, 2, 200, fun n p => n * prmHigh p, 26, fun n p st m => absorbs (prmHigh p) n st m⟩,
  ⟨.sha256, 4, 1, 32, fun n _ => 64 * n, 66, fun n _ st m => compresses 32 n st m⟩,
  ⟨.sha512, 4, 2, 64, fun n _ => 128 * n, 82, fun n _ st m => compresses 64 n st m⟩]

/-- The run stands after an instruction that issued a command: what it has paid, the next word, one more result
outstanding. -/
def issued (r t : Run) (charge kind : Nat) (ready : Bool) : Prop :=
  t.pc = r.pc + 4 ∧ t.used = r.used + due r charge ∧ t.g = r.g ∧
    t.results = r.results ++ [{ kind := kind, word := 0, ready := ready }]

/-- A job's run in a state. -/
def runOf (t : State) (k : Nat) : Option Run := (t.job k).bind (·.run)

/-! ### Clove commands -/

/-- A row of Table - Clove commands: OP, modes, the lines of its operands, their forms, its VALUE and cost. -/
structure CloveRow where
  cmd : Fin 16384 → Issuer → BitVec 64 → BitVec 64 → Instr
  op : Nat
  modes : List Nat
  a : CloveCmd → Nat := fun _ => 0
  b : CloveCmd → Nat := fun _ => 0
  d : CloveCmd → Nat := fun _ => 0
  flag : Nat := 0
  aForm : Form := .ring
  bForm : Form := .ring
  dForm : Form := .ring
  value : CloveCmd → Bool := fun _ => true
  cost : CloveCmd → Nat

/-- The rows of Table - Clove commands, each with its cost where no operand is sealed; STREAM_MATVEC, whose operand
lengths stand in memory, apart. -/
noncomputable def cloveRows : List CloveRow := [
  { cmd := .cloveNtt, op := 0x01, modes := [1, 2, 3, 4], a := CloveCmd.span, d := CloveCmd.span
    cost := fun c => c.count * nttCost c.mode },
  { cmd := .cloveIntt, op := 0x02, modes := [1, 2, 3, 4], a := CloveCmd.span, d := CloveCmd.span
    cost := fun c => c.count * nttCost c.mode },
  { cmd := .clovePmul, op := 0x03, modes := [1, 2, 3, 4], a := CloveCmd.span, b := CloveCmd.spanB
    d := CloveCmd.span, cost := fun c => c.span * 3 },
  { cmd := .cloveDot, op := 0x04, modes := [1, 2, 3, 4], a := CloveCmd.span, b := CloveCmd.spanB
    d := CloveCmd.lines, cost := fun c => (2 * c.count + 1) * c.lines },
  { cmd := .cloveAdd, op := 0x05, modes := [1, 2, 3, 4], a := CloveCmd.span, b := CloveCmd.spanB
    d := CloveCmd.span, cost := fun c => c.span * 3 },
  { cmd := .cloveSub, op := 0x06, modes := [1, 2, 3, 4], a := CloveCmd.span, b := CloveCmd.spanB
    d := CloveCmd.span, cost := fun c => c.span * 3 },
  { cmd := .cloveCmul, op := 0x07, modes := [1, 2, 3, 4], a := CloveCmd.span, d := CloveCmd.span
    cost := fun c => c.span * 3 },
  { cmd := .cloveSampleSmall, op := 0x08, modes := [1, 2], a := fun c => c.source * c.count, b := fun _ => 1
    d := CloveCmd.span, aForm := .bytes, bForm := .bytes, cost := fun c => c.count * (c.source + c.lines) },
  { cmd := .cloveSampleUniform, op := 0x09, modes := [1, 2], a := fun c => c.source * c.count
    d := CloveCmd.span, aForm := .bytes, cost := fun c => c.count * (c.source + c.lines) },
  { cmd := .cloveCompress, op := 0x0A, modes := [1], a := CloveCmd.span, d := CloveCmd.span
    value := fun c => within 1 c.value 12, cost := fun c => c.span * 2 },
  { cmd := .cloveDecompress, op := 0x0B, modes := [1], a := CloveCmd.span, d := CloveCmd.span
    value := fun c => within 1 c.value 12, cost := fun c => c.span * 2 },
  { cmd := .clovePower2round, op := 0x0C, modes := [2], a := CloveCmd.span, d := fun c => 2 * c.span
    cost := fun c => c.span * 3 },
  { cmd := .cloveDecompose, op := 0x0D, modes := [2], a := CloveCmd.span, d := fun c => 2 * c.span
    value := fun c => decide (c.value ≤ 1), cost := fun c => c.span * 3 },
  { cmd := .cloveMakehint, op := 0x0E, modes := [2], a := CloveCmd.span, b := CloveCmd.spanB
    d := CloveCmd.span, value := fun c => decide (c.value ≤ 1), cost := fun c => c.span * 3 },
  { cmd := .cloveUsehint, op := 0x0F, modes := [2], a := CloveCmd.span, b := CloveCmd.spanB
    d := CloveCmd.span, value := fun c => decide (c.value ≤ 1), cost := fun c => c.span * 3 },
  { cmd := .cloveNormchk, op := 0x10, modes := [1, 2, 3, 4], a := CloveCmd.span, cost := fun c => c.span },
  { cmd := .cloveA2b, op := 0x11, modes := [1, 2, 3, 4], a := CloveCmd.span, d := CloveCmd.span
    dForm := .bool, cost := fun c => c.span * 6 },
  { cmd := .cloveB2a, op := 0x12, modes := [1, 2, 3, 4], a := CloveCmd.span, d := CloveCmd.span
    aForm := .bool, cost := fun c => c.span * 6 },
  { cmd := .clovePack, op := 0x13, modes := [1, 2, 3, 4], a := CloveCmd.span, d := CloveCmd.packed
    dForm := .bytes, value := fun c => within 1 c.value 24, cost := fun c => c.span * 2 },
  { cmd := .cloveUnpack, op := 0x14, modes := [1, 2, 3, 4], a := CloveCmd.packed, d := CloveCmd.span
    aForm := .bytes, value := fun c => within 1 c.value 24, cost := fun c => c.span * 2 },
  { cmd := .cloveClmulmod, op := 0x20, modes := [5], a := CloveCmd.span, b := CloveCmd.spanB
    d := CloveCmd.span, cost := fun c => c.count * (c.lines * c.lines + 2 * c.lines + 2) },
  { cmd := .cloveXor, op := 0x21, modes := [5, 6, 7], a := CloveCmd.span, b := CloveCmd.spanB
    d := CloveCmd.span, cost := fun c => c.span * 3 },
  { cmd := .cloveGfmul, op := 0x22, modes := [6, 7], a := CloveCmd.span, b := CloveCmd.spanB
    d := CloveCmd.span, cost := fun c => c.span * 3 },
  { cmd := .cloveGfsqr, op := 0x23, modes := [6, 7], a := CloveCmd.span, d := CloveCmd.span
    cost := fun c => c.span * 2 },
  { cmd := .cloveGfinv, op := 0x24, modes := [6, 7], a := CloveCmd.span, d := CloveCmd.span
    cost := fun c => c.span * (if c.mode = 6 then 12 else 13) * 2 },
  { cmd := .cloveGfeval, op := 0x25, modes := [6, 7], a := fun c => ceilDiv (c.value + 1) 256
    b := CloveCmd.spanB, d := CloveCmd.span, cost := fun c => c.span * (c.value + 1) },
  { cmd := .cloveCopy, op := 0x30, modes := [1, 2, 3, 4, 5, 6, 7], a := CloveCmd.span, d := CloveCmd.span
    cost := fun c => c.span * 2 },
  { cmd := .cloveZero, op := 0x31, modes := [1, 2, 3, 4, 5, 6, 7], d := CloveCmd.span
    cost := fun c => c.span },
  { cmd := .cloveMaskedEq, op := 0x32, modes := [1, 2, 3, 4, 5, 6, 7], a := CloveCmd.count
    b := CloveCmd.count, d := fun _ => 1, dForm := .bytes, cost := fun c => c.count * 4 },
  { cmd := .cloveSelect, op := 0x33, modes := [1, 2, 3, 4, 5, 6, 7], a := CloveCmd.span
    b := CloveCmd.spanB, d := CloveCmd.span, flag := 1, cost := fun c => c.span * 4 },
  { cmd := .cloveUnmask, op := 0x3E, modes := [1, 2, 3, 4, 5, 6, 7], a := CloveCmd.span, d := CloveCmd.span
    cost := fun c => c.span * 2 }]

/-- A built-in operation's job issues a Clove command of an OP on its region (R252 to R254). -/
structure Issues (s : State) (k : Nat) (j : Job) (g : Region) (op : Nat) (cmd : BitVec 64) : Prop where
  job : s.job k = some j
  region : j.region = some g
  running : j.phase = .running
  firmware : j.run = none
  op : cmdOp cmd = op
  room : (s.sched.waiting.filter fun w => w.slot == k && w.kind == 2).length < 4
  engine : g.engine < s.clove.length

/-- The operands of a row lie in the region outside its sealed area, DST in the public or the unstaged matrix
allocation, and its mode, shares,
COUNT and VALUE are ones it takes (R255). -/
structure Accepts (row : CloveRow) (c : CloveCmd) (g : Region) : Prop where
  mode : c.mode ∈ row.modes
  shares : c.shares ≠ 1
  count : c.count ≠ 0
  value : row.value c = true
  a : row.a c ≠ 0 → sealedAt c.a = false ∧ g.holds c.a (row.a c) = true
  b : row.b c ≠ 0 → sealedAt c.b = false ∧ g.holds c.b (row.b c) = true
  f : row.flag ≠ 0 → sealedAt c.flag = false ∧ g.holds c.flag row.flag = true
  d : row.d c ≠ 0 → (c.dst / 256 = 0 ∨ c.dst / 256 = 2 ∧ g.staged = false) ∧ g.holds c.dst (row.d c) = true

end Sys2Proof.Claims

open Sys2Proof Sys2Proof.Machine Sys2Proof.Claims

/-! ### The recipe instructions -/

/-- R347, R348, R353: ADD to MULHU charge the job, write rd with their function of rs1 and rs2, and go on, every other
part of the state staying; the divisions do so where the divisor is not zero, and trap with DIVIDE before rd is
written where it is; the immediate instructions work on rs1 and IMM16; g0 reads as zero and ignores writes. -/
def Obligations.IntegerInstructionsWriteTheirFunction : Prop :=
  (∀ o ∈ regOps, ∀ (slot : Fin 16384) (rd rs1 rs2 : Fin 32) (s : State) (j : Job) (r : Run),
    At s slot j r (wordA 0x00 rd rs1 rs2 o.funct) o.charge →
    exec (o.cmd slot rd rs1 rs2) s = .next (s.setRun slot (wrote r o.charge rd (o.f (r.reg rs1) (r.reg rs2))))) ∧
  (∀ o ∈ divOps, ∀ (slot : Fin 16384) (rd rs1 rs2 : Fin 32) (s : State) (j : Job) (r : Run),
    At s slot j r (wordA 0x00 rd rs1 rs2 o.funct) o.charge →
    (r.reg rs2 ≠ 0 →
      exec (o.cmd slot rd rs1 rs2) s = .next (s.setRun slot (wrote r o.charge rd (o.f (r.reg rs1) (r.reg rs2))))) ∧
    (r.reg rs2 = 0 →
      exec (o.cmd slot rd rs1 rs2) s =
        .next ((s.setRun slot (paid r o.charge)).conclude slot (trapResult 0x000A 0xFFFF r)))) ∧
  ((∀ o ∈ immOps, ∀ (slot : Fin 16384) (rd rs1 : Fin 32) (imm : BitVec 16) (s : State) (j : Job) (r : Run),
    o.ok imm = true → At s slot j r (wordI o.major rd rs1 imm) 1 →
    exec (o.cmd slot rd rs1 imm) s = .next (s.setRun slot (wrote r 1 rd (o.f (r.reg rs1) imm)))) ∧
  (∀ (slot : Fin 16384) (rd rs1 : Fin 32) (imm : BitVec 16) (s : State) (j : Job) (r : Run),
    At s slot j r (wordI 0x06 rd rs1 imm) 1 →
    exec (.ldhi slot rd imm) s = .next (s.setRun slot (wrote r 1 rd ((imm ++ 0#16).signExtend 64))))) ∧
  (∀ (r : Run) (n m : Nat) (v : BitVec 64), r.g.length = 32 → n < 32 →
    r.reg 0 = 0 ∧ r.setReg 0 v = r ∧ (n ≠ 0 → (r.setReg n v).reg n = v) ∧ (m ≠ n → (r.setReg n v).reg m = r.reg m))

/-- R255, R349, R354: a store into a window of the run's own memory goes on with every byte of the range the byte of
the register stored, least significant first, every other byte of that memory and the rest of the state as before;
a store into CLOVE_PUB or CLOVE_MAT does so in the operand memory of the engine that holds the job's region. -/
def Obligations.StoresWriteTheirBytes : Prop :=
  ((∀ o ∈ storeOps, ∀ (slot : Fin 16384) (rs1 rs2 : Fin 32) (imm : BitVec 16) (s : State) (j : Job) (r : Run)
      (w : Win) (off : Nat),
    At s slot j r (wordI o.major rs2 rs1 imm) 2 →
    reachable s j r true (addr r rs1 imm) o.bytes w off → ownWindow w = true →
    ∃ m : Mem, exec (o.cmd slot rs1 rs2 imm) s = .next (s.setRun slot { (paid r 2).next with mem := m }) ∧
      (∀ i : Nat, i < o.bytes →
        Mem.read (addr r rs1 imm + i) m = BitVec.ofNat 8 ((r.reg rs2).toNat / 256 ^ i)) ∧
      (∀ a : Nat, a < addr r rs1 imm ∨ addr r rs1 imm + o.bytes ≤ a → Mem.read a m = Mem.read a r.mem)) ∧
  (∀ (slot : Fin 16384) (rs1 rs2 : Fin 32) (imm : BitVec 16) (s : State) (j : Job) (r : Run) (w : Win) (off : Nat),
    At s slot j r (wordI 0x1A rs2 rs1 imm) 2 →
    reachable s j r true (addr r rs1 imm) 8 w off → ownWindow w = true →
    ∃ m : Mem, exec (.fstd slot rs1 rs2 imm) s = .next (s.setRun slot { (paid r 2).next with mem := m }) ∧
      (∀ i : Nat, i < 8 → Mem.read (addr r rs1 imm + i) m = BitVec.ofNat 8 ((r.freg rs2).toNat / 256 ^ i)) ∧
      (∀ a : Nat, a < addr r rs1 imm ∨ addr r rs1 imm + 8 ≤ a → Mem.read a m = Mem.read a r.mem))) ∧
  (∀ o ∈ storeOps, ∀ (slot : Fin 16384) (rs1 rs2 : Fin 32) (imm : BitVec 16) (s : State) (j : Job) (r : Run)
      (w : Win) (off : Nat),
    At s slot j r (wordI o.major rs2 rs1 imm) 2 →
    reachable s j r true (addr r rs1 imm) o.bytes w off → w = .pub ∨ w = .mat →
    (regionAt j (w == .mat)).1 < s.clove.length →
    Gives (o.cmd slot rs1 rs2 imm) s fun t =>
      (∀ i : Nat, i < o.bytes →
        Mem.read ((regionAt j (w == .mat)).2 + off + i) (t.opMem (regionAt j (w == .mat)).1) =
          BitVec.ofNat 8 ((r.reg rs2).toNat / 256 ^ i)) ∧
      (∀ e a : Nat, e ≠ (regionAt j (w == .mat)).1 ∨ a < (regionAt j (w == .mat)).2 + off ∨
          (regionAt j (w == .mat)).2 + off + o.bytes ≤ a →
        Mem.read a (t.opMem e) = Mem.read a (s.opMem e)) ∧
      t.running slot = some ({ j with run := some (paid r 2).next }, (paid r 2).next))

/-- R349, R350, R354: a load whose range meets the checks writes rd with the little-endian value of its bytes, zeros
above it; it changes no byte of any memory.
R350, R354: a load or store whose range fails a check traps with that check's cause and stores nothing. -/
def Obligations.LoadsReadTheirWindowOrTrap : Prop :=
  ((∀ o ∈ loadOps, ∀ (slot : Fin 16384) (rd rs1 : Fin 32) (imm : BitVec 16) (s : State) (j : Job) (r : Run)
      (w : Win) (off : Nat),
    At s slot j r (wordI o.major rd rs1 imm) (if w = .input then 16 else 2) →
    reachable s j r false (addr r rs1 imm) o.bytes w off →
    ∃ b : Bytes, b = s.winRead j (paid r (if w = .input then 16 else 2)) w off (addr r rs1 imm) o.bytes ∧
      exec (o.cmd slot rd rs1 imm) s = .next (s.setRun slot
        (wrote r (if w = .input then 16 else 2) rd (BitVec.ofNat 64 (ofLe b))))) ∧
  (∀ (slot : Fin 16384) (rd rs1 : Fin 32) (imm : BitVec 16) (s : State) (j : Job) (r : Run) (w : Win) (off : Nat),
    At s slot j r (wordI 0x19 rd rs1 imm) (if w = .input then 16 else 2) →
    reachable s j r false (addr r rs1 imm) 8 w off →
    ∃ b : Bytes, b = s.winRead j (paid r (if w = .input then 16 else 2)) w off (addr r rs1 imm) 8 ∧
      exec (.fldd slot rd rs1 imm) s = .next (s.setRun slot
        ((paid r (if w = .input then 16 else 2)).setFreg rd (BitVec.ofNat 64 (ofLe b))).next))) ∧
  (∀ (o : LoadOp) (write : Bool), (o ∈ loadOps ∧ write = false) ∨ (o ∈ storeOps ∧ write = true) →
    ∀ (slot : Fin 16384) (rd rs1 : Fin 32) (imm : BitVec 16) (s : State) (j : Job) (r : Run) (cause : Nat),
    s.access j r write (addr r rs1 imm) o.bytes = .trap cause →
    At s slot j r (wordI o.major rd rs1 imm) (if write then 2 else loadCharge o.bytes rs1 imm j r) →
    exec (if write then o.cmd slot rs1 rd imm else o.cmd slot rd rs1 imm) s =
      .next ((s.setRun slot (paid r (if write then 2 else loadCharge o.bytes rs1 imm j r))).conclude slot
        (trapResult cause 0xFFFF r)))

/-- R353: a branch goes to the instruction OFFSET16 places away when its condition holds and else to the next;
JMPL and JMPR write the return address into rd and go to their target. -/
def Obligations.BranchesMoveTheProgramCounter : Prop :=
  (∀ o ∈ branchOps, ∀ (slot : Fin 16384) (rs1 rs2 : Fin 32) (imm : BitVec 16) (s : State) (j : Job) (r : Run),
    At s slot j r (wordI o.major rs1 rs2 imm) 1 →
    exec (o.cmd slot rs1 rs2 imm) s = .next (s.setRun slot
      (if o.taken (r.reg rs1) (r.reg rs2) then { paid r 1 with pc := r.pc + 4 * imm.signExtend 64 }
       else (paid r 1).next))) ∧
  (∀ (slot : Fin 16384) (rd : Fin 32) (off : BitVec 21) (s : State) (j : Job) (r : Run),
    At s slot j r (0x16 * 2 ^ 26 + rd.val * 2 ^ 21 + off.toNat) 1 →
    exec (.jmpl slot rd off) s = .next (s.setRun slot
      { (paid r 1).setReg rd (r.pc + 4) with pc := r.pc + 4 * off.signExtend 64 })) ∧
  (∀ (slot : Fin 16384) (rd rs1 : Fin 32) (imm : BitVec 16) (s : State) (j : Job) (r : Run),
    At s slot j r (wordI 0x17 rd rs1 imm) 1 →
    exec (.jmpr slot rd rs1 imm) s = .next (s.setRun slot
      { (paid r 1).setReg rd (r.pc + 4) with pc := (r.reg rs1 + imm.signExtend 64) &&& 0xFFFFFFFFFFFFFFFC#64 }))

/-- R348, R368: a floating-point instruction writes its value and adds its exceptions to FPCTL.FLAGS, and the upper
bits of the vector register under an f register stay; FTOI, ITOF, FBITS, GBITS and FCMP go between the two files. -/
def Obligations.FloatInstructionsWriteValueAndFlags : Prop :=
  (∀ o ∈ floatOps, ∀ (slot : Fin 16384) (rd rs1 rs2 : Fin 32) (s : State) (j : Job) (r : Run),
    At s slot j r (wordA 0x18 rd rs1 rs2 o.funct) o.charge →
    exec (o.cmd slot rd rs1 rs2) s = .next (s.setRun slot
      (((paid r o.charge).setFreg rd (o.f r.rm (r.freg rs1) (r.freg rs2)).v).raiseF
        (o.f r.rm (r.freg rs1) (r.freg rs2)).flags).next)) ∧
  (∀ (slot : Fin 16384) (rd rs1 rs2 : Fin 32) (s : State) (j : Job) (r : Run),
    At s slot j r (wordA 0x18 rd rs1 rs2 0x010) 2 →
    exec (.ftoi slot rd rs1 rs2) s = .next (s.setRun slot
      (((paid r 2).setReg rd (ftoi r.rm (r.freg rs1)).v).raiseF (ftoi r.rm (r.freg rs1)).flags).next)) ∧
  (∀ (slot : Fin 16384) (rd rs1 rs2 : Fin 32) (s : State) (j : Job) (r : Run),
    At s slot j r (wordA 0x18 rd rs1 rs2 0x011) 2 →
    exec (.itof slot rd rs1 rs2) s = .next (s.setRun slot
      (((paid r 2).setFreg rd (itof r.rm (r.reg rs1)).v).raiseF (itof r.rm (r.reg rs1)).flags).next)) ∧
  (∀ (slot : Fin 16384) (rd rs1 rs2 : Fin 32) (s : State) (j : Job) (r : Run),
    At s slot j r (wordA 0x18 rd rs1 rs2 0x012) 2 →
    exec (.fbits slot rd rs1 rs2) s = .next (s.setRun slot (wrote r 2 rd ((r.vreg rs1).setWidth 64)))) ∧
  (∀ (slot : Fin 16384) (rd rs1 rs2 : Fin 32) (s : State) (j : Job) (r : Run),
    At s slot j r (wordA 0x18 rd rs1 rs2 0x013) 2 →
    exec (.gbits slot rd rs1 rs2) s = .next (s.setRun slot ((paid r 2).setFreg rd (r.reg rs1)).next)) ∧
  (∀ (rel : Fin 3) (slot : Fin 16384) (rd rs1 rs2 : Fin 32) (s : State) (j : Job) (r : Run),
    At s slot j r (wordA 0x1B rd rs1 rs2 rel) 2 →
    exec (.fcmp slot rd rs1 rs2) s = .next (s.setRun slot
      (((paid r 2).setReg rd (fcmp rel (r.freg rs1) (r.freg rs2)).v).raiseF
        (fcmp rel (r.freg rs1) (r.freg rs2)).flags).next))

/-- Table - Control registers, R348, R370: CTLR reads a control register of the table into rd; CTLW writes VRESUME, FPCTL
and OUTLEN, and traps with PRIVILEGE on a register marked RO. -/
def Obligations.ControlRegistersReadAndWrite : Prop :=
  (∀ (slot : Fin 16384) (rd rs1 : Fin 32) (imm : BitVec 16) (s : State) (j : Job) (r : Run),
    At s slot j r (wordI 0x22 rd rs1 imm) 1 →
    ∀ p ∈ [(0x001, r.vl), (0x002, r.ew), (0x003, r.vresume), (0x004, 1024), (0x010, 256 * r.rm + r.fflags.toNat),
      (0x020, r.budget - (paid r 1).used), (0x021, (paid r 1).used), (0x022, r.outlen.toNat)],
    imm.toNat % 4096 = p.1 →
    exec (.ctlr slot rd rs1 imm) s = .next (s.setRun slot (wrote r 1 rd (BitVec.ofNat 64 p.2)))) ∧
  (∀ (slot : Fin 16384) (rd rs1 : Fin 32) (imm : BitVec 16) (s : State) (j : Job) (r : Run),
    At s slot j r (wordI 0x23 rd rs1 imm) 1 → imm.toNat % 4096 = 3 →
    exec (.ctlw slot rd rs1 imm) s = .next (s.setRun slot
      { paid r 1 with vresume := (r.reg rs1).toNat % 65536 }.next)) ∧
  (∀ (slot : Fin 16384) (rd rs1 : Fin 32) (imm : BitVec 16) (s : State) (j : Job) (r : Run),
    At s slot j r (wordI 0x23 rd rs1 imm) 1 → imm.toNat % 4096 = 0x10 →
    exec (.ctlw slot rd rs1 imm) s = .next (s.setRun slot
      { paid r 1 with 
        rm := ((r.reg rs1).extractLsb 10 8).toNat, fflags := (r.reg rs1).extractLsb 4 0 }.next)) ∧
  (∀ (slot : Fin 16384) (rd rs1 : Fin 32) (imm : BitVec 16) (s : State) (j : Job) (r : Run),
    At s slot j r (wordI 0x23 rd rs1 imm) 1 → imm.toNat % 4096 = 0x22 →
    exec (.ctlw slot rd rs1 imm) s = .next (s.setRun slot
      { paid r 1 with outlen := r.reg rs1 }.next)) ∧
  (∀ (slot : Fin 16384) (rd rs1 : Fin 32) (imm : BitVec 16) (s : State) (j : Job) (r : Run),
    At s slot j r (wordI 0x23 rd rs1 imm) 1 → imm.toNat % 4096 ∈ [0x004, 0x020, 0x021, 0x030] →
    exec (.ctlw slot rd rs1 imm) s =
      .next ((s.setRun slot (paid r 1)).conclude slot (trapResult 0x0006 0xFFFF r)))

/-! ### The vector instructions -/

/-- R370: a CTLW of VL writes min(value, VCAP); a CTLW of VTYPE writes the new width and then sets VL to min(VL, new
VCAP); VCFG and VCFGX set both at once, VL to the lesser of the request and VCAP, and write the elements that remain into
rd; CTLR reads both. -/
def Obligations.VectorConfigurationSetsLengthAndWidth : Prop :=
  (∀ (ew : Fin 4) (slot : Fin 16384) (vd vs1 vs2 : Fin 32) (vm : Bool) (s : State) (j : Job) (r : Run),
    At s slot j r (wordA 0x30 vd vs1 vs2 (1024 * (if vm then 1 else 0) + 256 * ew.val + 0x00)) 1 →
    exec (.vcfg slot vd vs1 vs2 vm) s = .next (s.setRun slot
      (({ paid r 1 with ew := ew, vl := min (r.reg vs1).toNat (128 / 2 ^ ew.val) }).setReg vd
        (BitVec.ofNat 64 ((r.reg vs1).toNat - min (r.reg vs1).toNat (128 / 2 ^ ew.val)))).next)) ∧
  (∀ (slot : Fin 16384) (vd vs1 vs2 : Fin 32) (vm : Bool) (s : State) (j : Job) (r : Run),
    At s slot j r (wordA 0x30 vd vs1 vs2 (1024 * (if vm then 1 else 0) + 0x01)) 1 →
    exec (.vcfgx slot vd vs1 vs2 vm) s = .next (s.setRun slot
      (({ paid r 1 with
          ew := (r.reg vs2).toNat % 4
          vl := min (r.reg vs1).toNat (128 / 2 ^ ((r.reg vs2).toNat % 4)) }).setReg vd
        (BitVec.ofNat 64
          ((r.reg vs1).toNat - min (r.reg vs1).toNat (128 / 2 ^ ((r.reg vs2).toNat % 4))))).next)) ∧
  (∀ (slot : Fin 16384) (rd rs1 : Fin 32) (imm : BitVec 16) (s : State) (j : Job) (r : Run),
    At s slot j r (wordI 0x23 rd rs1 imm) 1 → imm.toNat % 4096 = 1 →
    exec (.ctlw slot rd rs1 imm) s = .next (s.setRun slot
      { paid r 1 with vl := min (r.reg rs1).toNat (1024 / (8 * 2 ^ r.ew)) }.next)) ∧
  (∀ (slot : Fin 16384) (rd rs1 : Fin 32) (imm : BitVec 16) (s : State) (j : Job) (r : Run),
    At s slot j r (wordI 0x23 rd rs1 imm) 1 → imm.toNat % 4096 = 2 →
    exec (.ctlw slot rd rs1 imm) s = .next (s.setRun slot
      { paid r 1 with 
        ew := (r.reg rs1).toNat % 4
        vl := min r.vl (1024 / (8 * 2 ^ ((r.reg rs1).toNat % 4))) }.next)) ∧
  (∀ (slot : Fin 16384) (rd rs1 : Fin 32) (imm : BitVec 16) (s : State) (j : Job) (r : Run),
    At s slot j r (wordI 0x22 rd rs1 imm) 1 →
    (imm.toNat % 4096 = 1 → exec (.ctlr slot rd rs1 imm) s = .next (s.setRun slot (wrote r 1 rd (BitVec.ofNat 64 r.vl)))) ∧
    (imm.toNat % 4096 = 2 → exec (.ctlr slot rd rs1 imm) s = .next (s.setRun slot (wrote r 1 rd (BitVec.ofNat 64 r.ew)))))

/-- R374: an integer vector instruction writes to each active element its function of the elements of vs1 and vs2,
or of vs1 and the low EW bits of g[rs2]; a comparison writes mask bits; BLEND chooses by v31. -/
def Obligations.VectorIntegerInstructionsWriteElements : Prop :=
  (∀ o ∈ vecInts, ∀ (scalar : Bool) (slot : Fin 16384) (vd vs1 vs2 : Fin 32) (vm : Bool) (s : State) (j : Job)
      (r : Run),
    At s slot j r (wordA (if scalar then 0x34 else 0x33) vd vs1 vs2 (1024 * (if vm then 1 else 0) + o.vfunct))
      o.charge →
    r.ew < 4 → ¬(vm = true ∧ vd = 31) →
    exec (if scalar then o.cmdS slot vd vs1 vs2 vm else o.cmdV slot vd vs1 vs2 vm) s = .next (s.setRun slot
      (vecDone o.charge r fun q => q.setElems vm vd fun i =>
        (o.f (8 * 2 ^ r.ew) (el r vs1 i) (second r scalar vs2 i)).toNat))) ∧
  (∀ o ∈ vecCmps, ∀ (scalar : Bool) (slot : Fin 16384) (vd vs1 vs2 : Fin 32) (vm : Bool) (s : State) (j : Job)
      (r : Run),
    At s slot j r (wordA (if scalar then 0x34 else 0x33) vd vs1 vs2 (1024 * (if vm then 1 else 0) + o.vfunct)) 2 →
    r.ew < 4 → ¬(vm = true ∧ vd = 31) →
    exec (if scalar then o.cmdS slot vd vs1 vs2 vm else o.cmdV slot vd vs1 vs2 vm) s = .next (s.setRun slot
      (vecDone 2 r fun q => q.setMask vm vd fun i =>
        o.f (8 * 2 ^ r.ew) (el r vs1 i) (second r scalar vs2 i)))) ∧
  (∀ (scalar : Bool) (slot : Fin 16384) (vd vs1 vs2 : Fin 32) (s : State) (j : Job) (r : Run),
    At s slot j r (wordA (if scalar then 0x34 else 0x33) vd vs1 vs2 0x18) 2 → r.ew < 4 →
    exec (if scalar then .vblendVs slot vd vs1 vs2 false else .vblend slot vd vs1 vs2 false) s = .next (s.setRun slot
      (vecDone 2 r fun q => q.setElems false vd fun i =>
        if (r.vreg 31).getLsbD i then (second r scalar vs2 i).toNat else (el r vs1 i).toNat)))

/-- R375: a modular instruction whose SUB selects a modulus q with the EW in force writes to each active element
its function modulo q of elements below q.
R374, R376: at EW 64 a floating-point vector instruction writes each active element's value, and FPCTL.FLAGS
takes the exceptions of all active elements. -/
def Obligations.ModularAndFloatLanes : Prop :=
  (∀ o ∈ vecMods, ∀ (sub : Fin 3) (slot : Fin 16384) (vd vs1 vs2 : Fin 32) (vm : Bool) (s : State) (j : Job) (r : Run)
      (q ew : Nat),
    (q, ew) = [(3329, 1), (8380417, 2), (12289, 2)].getD sub (0, 0) →
    At s slot j r (wordA 0x35 vd vs1 vs2 (1024 * (if vm then 1 else 0) + 256 * sub.val + o.vfunct)) o.charge →
    r.ew = ew → ¬(vm = true ∧ vd = 31) →
    (∀ i < 128 / 2 ^ r.ew, (el r vs1 i).toNat < q ∧ (second r o.scalar vs2 i).toNat < q) →
    exec (o.cmd slot vd vs1 vs2 vm) s = .next (s.setRun slot
      (vecDone o.charge r fun t => t.setElems vm vd fun i =>
        if i < 128 / 2 ^ r.ew then o.f q (el r vs1 i).toNat (second r o.scalar vs2 i).toNat else 0))) ∧
  (∀ o ∈ vecFloats, ∀ (slot : Fin 16384) (vd vs1 vs2 : Fin 32) (vm : Bool) (s : State) (j : Job) (r : Run),
    At s slot j r (wordA 0x36 vd vs1 vs2 (1024 * (if vm then 1 else 0) + o.vfunct)) o.charge →
    r.ew = 3 → ¬(vm = true ∧ vd = 31) →
    exec (o.cmd slot vd vs1 vs2 vm) s = .next (s.setRun slot (vecDone o.charge r fun q =>
      (q.setElems vm vd fun i => (o.f r.rm (el64 r vs1 i) (el64 r vs2 i)).v.toNat).raiseF
        ((r.actives vm).foldl (fun x i => x ||| (o.f r.rm (el64 r vs1 i) (el64 r vs2 i)).flags) 0))))

/-- R374: the permutations write elements of vd; EXTRACT, the folds and MCOUNT write a g register. -/
def Obligations.VectorPermutationsMoveElements : Prop :=
  (∀ o ∈ vecPerms, ∀ (slot : Fin 16384) (vd vs1 vs2 : Fin 32) (vm : Bool) (s : State) (j : Job) (r : Run),
    At s slot j r (wordA 0x37 vd vs1 vs2 (1024 * (if vm then 1 else 0) + o.vfunct)) o.charge →
    r.ew < 4 → ¬(vm = true ∧ vd = 31) → o.illegal vd vs1 vs2 = false →
    exec (o.cmd slot vd vs1 vs2 vm) s = .next (s.setRun slot
      (vecDone o.charge r fun q => q.setElems vm vd (o.f r vd vs1 vs2)))) ∧
  (∀ (slot : Fin 16384) (vd vs1 vs2 : Fin 32) (vm : Bool) (s : State) (j : Job) (r : Run),
    At s slot j r (wordA 0x37 vd vs1 vs2 (1024 * (if vm then 1 else 0) + 0x01)) 2 → r.ew < 4 →
    exec (.vextract slot vd vs1 vs2 vm) s = .next (s.setRun slot (vecDone 2 r fun q =>
      q.setReg vd (BitVec.ofNat 64 (elN r vs2 (r.reg vs1).toNat))))) ∧
  (∀ (slot : Fin 16384) (vd vs1 vs2 : Fin 32) (vm : Bool) (s : State) (j : Job) (r : Run),
    At s slot j r (wordA 0x37 vd vs1 vs2 (1024 * (if vm then 1 else 0) + 0x08)) 4 → r.ew < 4 →
    exec (.vfoldadd slot vd vs1 vs2 vm) s = .next (s.setRun slot (vecDone 4 r fun q =>
      q.setReg vd (BitVec.ofNat 64 (((r.actives vm).map fun i => elN r vs2 i).sum))))) ∧
  (∀ (slot : Fin 16384) (vd vs1 vs2 : Fin 32) (vm : Bool) (s : State) (j : Job) (r : Run),
    At s slot j r (wordA 0x37 vd vs1 vs2 (1024 * (if vm then 1 else 0) + 0x09)) 4 → r.ew < 4 →
    exec (.vfoldxor slot vd vs1 vs2 vm) s = .next (s.setRun slot (vecDone 4 r fun q =>
      q.setReg vd (BitVec.ofNat 64 (((r.actives vm).map fun i => elN r vs2 i).foldl (· ^^^ ·) 0))))) ∧
  (∀ (slot : Fin 16384) (vd vs1 vs2 : Fin 32) (vm : Bool) (s : State) (j : Job) (r : Run),
    At s slot j r (wordA 0x37 vd vs1 vs2 (1024 * (if vm then 1 else 0) + 0x0A)) 4 →
    exec (.vmcount slot vd vs1 vs2 vm) s = .next (s.setRun slot (vecDone 4 r fun q =>
      q.setReg vd (BitVec.ofNat 64 ((r.actives vm).countP fun i => (r.vreg vs2).getLsbD i)))))

/-- R371, R377, R379: a vector load whose active elements all meet the checks in the run's own windows gives each active
element the bytes at its address and changes no memory; a store stores each active element at its address and leaves
every byte outside their ranges; both set VRESUME to 0. -/
def Obligations.VectorLoadsAndStoresMoveActiveElements : Prop :=
  (∀ o ∈ vecLoads, ∀ (slot : Fin 16384) (vd vs1 vs2 : Fin 32) (vm : Bool) (s : State) (j : Job) (r : Run),
    At s slot j r (wordA 0x31 vd vs1 vs2 (1024 * (if vm then 1 else 0) + 256 * o.mode)) 2 →
    r.used + 2 + 4 * r.vl ≤ r.budget → r.ew < 4 → ¬(vm = true ∧ vd = 31) → ¬(o.mode = 2 ∧ vd = vs2) →
    (∀ i ∈ r.actives vm, ∃ w off, ownWindow w = true ∧
      reachable s j r false (elemAddress r o.mode vs1 vs2 i) (2 ^ r.ew) w off) →
    ∃ u : Nat, exec (o.cmd slot vd vs1 vs2 vm) s = .next (s.setRun slot
      ({ (r.setElems vm vd fun i => ofLe (r.mem.readN (elemAddress r o.mode vs1 vs2 i) (2 ^ r.ew))) with
          used := u, vresume := 0, lastBlock := none }.next))) ∧
  (∀ o ∈ vecStores, ∀ (slot : Fin 16384) (vd vs1 vs2 : Fin 32) (vm : Bool) (s : State) (j : Job) (r : Run),
    At s slot j r (wordA 0x32 vd vs1 vs2 (1024 * (if vm then 1 else 0) + 256 * o.mode)) 2 →
    r.used + 2 + 4 * r.vl ≤ r.budget → r.ew < 4 →
    (∀ i ∈ r.actives vm, ∃ w off, ownWindow w = true ∧
      reachable s j r true (elemAddress r o.mode vs1 vs2 i) (2 ^ r.ew) w off) →
    ∃ (u : Nat) (m : Mem), exec (o.cmd slot vd vs1 vs2 vm) s = .next (s.setRun slot
        ({ r with mem := m, used := u, vresume := 0, lastBlock := none }.next)) ∧
      (∀ a : Nat, (∀ i ∈ r.actives vm, a < elemAddress r o.mode vs1 vs2 i ∨
          elemAddress r o.mode vs1 vs2 i + 2 ^ r.ew ≤ a) → Mem.read a m = Mem.read a r.mem) ∧
      (∀ i ∈ r.actives vm,
        (∀ i' ∈ r.actives vm, i < i' → elemAddress r o.mode vs1 vs2 i' + 2 ^ r.ew ≤ elemAddress r o.mode vs1 vs2 i ∨
          elemAddress r o.mode vs1 vs2 i + 2 ^ r.ew ≤ elemAddress r o.mode vs1 vs2 i') →
        ∀ b < 2 ^ r.ew, Mem.read (elemAddress r o.mode vs1 vs2 i + b) m =
          BitVec.ofNat 8 (elN r vd i / 256 ^ b)))

/-- R372: writing elements gives each active element its new value at EW bits and leaves every other element;
writing a mask gives each active element's bit and leaves every other bit.
R374, R376: VM 1 on an instruction that writes v31 traps with ILLEGAL at the element VRESUME, uncharged.
R377 to R382: where the first active element of a vector load or store fails a check of its address, the job
ends with that cause and the element's index, VRESUME naming the element. -/
def Obligations.VectorTrapsNameTheElement : Prop :=
  (∀ (r : Run) (vm : Bool) (vd i : Nat), r.v.length = 32 → vd < 32 → r.ew < 4 →
    (∀ f : Nat → Nat, i < vcap r.ew →
      elemAt ((r.setElems vm vd f).els vd) i =
        if r.active vm i then f i % 2 ^ (8 * 2 ^ r.ew) else elemAt (r.els vd) i) ∧
    (∀ f : Nat → Bool, i < 1024 →
      ((r.setMask vm vd f).vreg vd).getLsbD i = if r.active vm i then f i else (r.vreg vd).getLsbD i) ∧
    (∀ (f : Nat → Nat) (n : Nat), n ≠ vd → (r.setElems vm vd f).vreg n = r.vreg n)) ∧
  ((∀ o ∈ vecInts, ∀ (slot : Fin 16384) (vs1 vs2 : Fin 32) (s : State) (j : Job) (r : Run),
    At s slot j r (wordA 0x33 31 vs1 vs2 (1024 + o.vfunct)) 0 →
    exec (o.cmdV slot 31 vs1 vs2 true) s =
      .next ((s.setRun slot r).conclude slot (trapResult 2 r.vresume r))) ∧
  (∀ o ∈ vecLoads, ∀ (slot : Fin 16384) (vs1 vs2 : Fin 32) (s : State) (j : Job) (r : Run),
    At s slot j r (wordA 0x31 31 vs1 vs2 (1024 + 256 * o.mode)) 0 →
    exec (o.cmd slot 31 vs1 vs2 true) s =
      .next ((s.setRun slot r).conclude slot (trapResult 2 r.vresume r)))) ∧
  (∀ (o : VecMem) (store : Bool), (o ∈ vecLoads ∧ store = false) ∨ (o ∈ vecStores ∧ store = true) →
    ∀ (slot : Fin 16384) (vd vs1 vs2 : Fin 32) (vm : Bool) (s : State) (j : Job) (r : Run) (i cause : Nat),
    At s slot j r (wordA (if store then 0x32 else 0x31) vd vs1 vs2
      (1024 * (if vm then 1 else 0) + 256 * o.mode)) 2 →
    r.ew < 4 → (store = true ∨ ¬(vm = true ∧ vd = 31) ∧ ¬(o.mode = 2 ∧ vd = vs2)) →
    (r.actives vm).head? = some i →
    s.access j r store (elemAddress r o.mode vs1 vs2 i) (2 ^ r.ew) = .trap cause → cause ≠ 1 →
    exec (o.cmd slot vd vs1 vs2 vm) s =
      .next ((s.setRun slot { paid r 2 with vresume := i }).conclude slot (trapResult cause i r)))

/-! ### The engine commands of a recipe -/

/-- R355, R356: a Keccak or SHA-2 command on aligned ranges of DATA and SCRATCH, its COUNT not 0, leaves its
function of state and message in the state's bytes, adds one outstanding result and joins the queue of its engines.
R355, R356: a DMA command between the run's own windows copies its LEN bytes and adds one result that can be
returned at once. -/
def Obligations.HashAndDmaCommandsWriteTheirResult : Prop :=
  (∀ o ∈ hashCmds, ∀ (slot : Fin 16384) (cmd prm : BitVec 64) (w : Nat) (s : State) (j : Job) (r : Run)
      (x y : Win × Nat),
    At s slot j r w (1 + (2 + o.perCount * cmdCount cmd)) → EcmdAt r w o.kind cmd prm → cmdOp cmd = o.op →
    r.outstanding o.kind < 4 → cmdCount cmd ≠ 0 → (o.op = 2 → o.kind = 3 → rateOk (prmHigh prm) = true) →
    cmdA cmd % 8 = 0 → s.engineWin j r (cmdA cmd) o.bytes = some x → x.1 = .data ∨ x.1 = .scratch →
    (o.message (cmdCount cmd) prm = 0 ∨ cmdA prm % 8 = 0 ∧
      s.engineWin j r (cmdA prm) (o.message (cmdCount cmd) prm) = some y ∧ (y.1 = .data ∨ y.1 = .scratch)) →
    Gives (o.cmd slot cmd prm) s fun t => ∃ r' : Run, runOf t slot = some r' ∧
      issued r r' (1 + (2 + o.perCount * cmdCount cmd)) o.kind false ∧
      r'.mem = r.mem.writeN (cmdA cmd) (o.f (cmdCount cmd) prm (r.mem.readN (cmdA cmd) o.bytes)
        (r.mem.readN (cmdA prm) (o.message (cmdCount cmd) prm))) ∧
      (t.sched.waiting.getLast?.map fun q => (q.kind, q.slot)) = some (o.kind, slot.val) ∧ t.clove = s.clove) ∧
  (∀ (slot : Fin 16384) (cmd prm : BitVec 64) (w : Nat) (s : State) (j : Job) (r : Run) (x y : Win × Nat),
    At s slot j r w (1 + (2 + ceilDiv (prmHigh prm) 64)) → EcmdAt r w 8 cmd prm →
    r.outstanding 8 < 4 → prmHigh prm ≠ 0 →
    s.dmaWin j r false (cmdA cmd) (prmHigh prm) = some x → ownWindow x.1 = true →
    s.dmaWin j r true (cmdA prm) (prmHigh prm) = some y → ownWindow y.1 = true →
    missing r x.1 (cmdA cmd) (prmHigh prm) = [] → missing r y.1 (cmdA prm) (prmHigh prm) = [] →
    Gives (.dma slot cmd prm) s fun t => ∃ r' : Run, runOf t slot = some r' ∧
      issued r r' (1 + (2 + ceilDiv (prmHigh prm) 64)) 8 true ∧
      (∀ i < prmHigh prm, Mem.read (cmdA prm + i) r'.mem = Mem.read (cmdA cmd + i) r.mem) ∧
      (∀ a, a < cmdA prm ∨ cmdA prm + prmHigh prm ≤ a → Mem.read a r'.mem = Mem.read a r.mem))

/-- R355, R358: EWAIT returns the first outstanding result of its kind once it is there and takes it from those
outstanding; RESULT 1, 2 and 3 trap with BAD_COMMAND, REGION and PRIVILEGE, and no outstanding result with
WAIT_UNMATCHED; RETAIN marks a job-scoped record of the run for keeping, and of any other handle traps with PRIVILEGE. -/
def Obligations.EngineResultsAndRetainedRecords : Prop :=
  (∀ (slot : Fin 16384) (rd : Fin 32) (funct : BitVec 11) (w : Nat) (s : State) (j : Job) (r : Run),
    At s slot j r w 1 → majorOf w = 0x21 → rdOf w = rd.val → functOf w = funct.toNat →
    (∀ x : EngineResult, r.results.find? (·.kind == funct.toNat % 16) = some x → x.ready = true →
      (bits x.word.toNat 3 0 ∉ [1, 2, 3] → exec (.ewait slot rd funct) s = .next (s.setRun slot
        (({ paid r 1 with results := r.results.erase x }).setReg rd x.word).next)) ∧
      (∀ p ∈ [(1, 0x0007), (2, 0x0008), (3, 0x0006)], bits x.word.toNat 3 0 = p.1 →
        exec (.ewait slot rd funct) s =
          .next ((s.setRun slot (paid r 1)).conclude slot (trapResult p.2 0xFFFF r)))) ∧
    (r.results.find? (·.kind == funct.toNat % 16) = none → exec (.ewait slot rd funct) s =
      .next ((s.setRun slot (paid r 1)).conclude slot (trapResult 0x0009 0xFFFF r)))) ∧
  (∀ (slot : Fin 16384) (rs1 : Fin 32) (w : Nat) (s : State) (j : Job) (r : Run),
    At s slot j r w 5 → majorOf w = 0x20 → functOf w % 16 = 10 → rs1Of w = rs1.val → r.outstanding 10 < 4 →
    (j.runKeys.contains (r.reg rs1) = true → (s.viewIn j.runKeys j.inst (r.reg rs1)).isSome = true →
      Gives (.retain slot rs1) s fun t => ∃ j' : Job, t.job slot = some j' ∧
        j'.keepKeys = j.keepKeys ++ [r.reg rs1] ∧ ∃ r', j'.run = some r' ∧ issued r r' 5 10 true) ∧
    (j.runKeys.contains (r.reg rs1) = false → exec (.retain slot rs1) s =
      .next ((s.setRun slot (paid r 5)).conclude slot (trapResult 0x0006 0xFFFF r))))

/-- R357: an INVOKE of HASH whose checks pass writes the digest that HASH computes at DST, STATUS and OUT_LEN at
offset 56 of the block, and adds its result. -/
def Obligations.InvokeRunsAHash : Prop :=
  ∀ (slot : Fin 16384) (rs1 : Fin 32) (w a : Nat) (blk : Bytes) (s s1 : State) (j q : Job) (r : Run)
      (y : Win × Nat) (out : Bytes) (en : Nat),
    At s slot j r w (1 + s.invokeCharge (blockEntry blk)) →
    majorOf w = 0x20 → functOf w % 16 = 9 → rs1Of w = rs1.val → r.outstanding 9 < 4 →
    a = (r.reg rs1).toNat % 2 ^ 48 → s.invokeBlock j r a = some blk →
    s1 = s.setRun slot (paid r (1 + s.invokeCharge (blockEntry blk))) →
    (entryOpc (blockEntry blk)).fam = 0x0B → (entryOpc (blockEntry blk)).op = 1 →
    bit r.families 0x0B = true → (blockEntry blk).key0 = 0 → (blockEntry blk).key1 = 0 →
    (blockEntry blk).srcLen = 0 → s1.invokeFails j (blockEntry blk) = none →
    s1.invokePages j (paid r (1 + s.invokeCharge (blockEntry blk))) (blockEntry blk) = some [] →
    q = s1.invokedJob j (blockEntry blk) [] [] none → hashOp s1 q = { res := { output := out }, engine := en } →
    s1.dmaWin { j with run := some (paid r (1 + s.invokeCharge (blockEntry blk))) }
      (paid r (1 + s.invokeCharge (blockEntry blk))) true (blockEntry blk).dst.toNat
      (min (blockEntry blk).dstLen.toNat (dstBytes (blockEntry blk))) = some y → ownWindow y.1 = true →
    Gives (.invoke slot rs1) s fun t => ∃ r' : Run, runOf t slot = some r' ∧
      r'.mem = (r.mem.writeN (blockEntry blk).dst.toNat out).writeN (a + 56) (fields [(2, 0), (2, 0), (4, out.length)]) ∧
      issued r r' (1 + s.invokeCharge (blockEntry blk)) 9 true

/-- R354, R358, R360, R381: a word outside CODE traps with ACCESS, an undefined word with ILLEGAL, an instruction whose
charge exceeds what is left of the budget with BUDGET, with no other effect; HALT with exit value 0 concludes the
job with the first min(OUTLEN, OUT size) bytes of the OUT window, another exit value v with RECIPE_FAULT and cause
0x8000 + v mod 0x8000; once a page that a placement trap waits for is resident, the access may start again. -/
def Obligations.FetchBudgetHaltAndPlacement : Prop :=
  ((∀ (slot : Fin 16384) (rd rs1 rs2 : Fin 32) (s : State) (j : Job) (r : Run),
    s.running slot = some (j, r) → r.trapPage = none → r.word = none →
    exec (.add slot rd rs1 rs2) s = .next (s.conclude slot (trapResult 5 0xFFFF r))) ∧
  (∀ o ∈ regOps ++ divOps, ∀ (slot : Fin 16384) (rd rs1 rs2 : Fin 32) (s : State) (j : Job) (r : Run),
    s.running slot = some (j, r) → r.trapPage = none → r.word = some (wordA 0x00 rd rs1 rs2 o.funct) →
    r.budget < r.used + due r o.charge →
    exec (o.cmd slot rd rs1 rs2) s =
      .next ((s.bump 0x2A0009 3 1).conclude slot (trapResult 1 0xFFFF r))) ∧
  (∀ (slot : Fin 16384) (w : BitVec 32) (s : State) (j : Job) (r : Run),
    s.running slot = some (j, r) → r.trapPage = none → r.word = some w.toNat → knownWord w.toNat = false →
    majorOf w.toNat < 0x30 → r.used ≤ r.budget →
    exec (.undefinedInstruction slot w) s =
      .next ((s.setRun slot r).conclude slot (trapResult 2 0xFFFF r)))) ∧
  (∀ (slot : Fin 16384) (rs1 : Fin 32) (w : Nat) (s : State) (j : Job) (r : Run),
    At s slot j r w 1 → majorOf w = 0x25 → rs1Of w = rs1.val →
    exec (.halt slot rs1) s = .next ((s.setRun slot (paid r 1)).conclude slot
      (if r.reg rs1 = 0 then
        { output := r.mem.readN 0x400000 (min r.outlen.toNat (outSize j r)), acts := [.retainKeys j.keepKeys] }
      else
        { status := .recipeFault
          detail := BitVec.ofNat 64
            (0x8000 + (r.reg rs1).toNat % 0x8000 + 65536 * 0xFFFF + 2 ^ 32 * r.pc.toNat) }))) ∧
  (∀ (slot : Fin 16384) (s : State) (j : Job) (r : Run) (p : Nat),
    s.running slot = some (j, r) → r.trapPage = some p →
    exec (.placementTrapResolved slot) s =
      .next (s.setRun slot { r with trapPage := none, resident := r.resident ++ [p] }))

/-! ### The ring arithmetic and wide multiply-accumulate engines -/

/-- R247, R253 to R257: for every command of Table - Clove commands there is one function of its operands such that
the command, its public operands within the region, writes that function's values at DST in canonical containers
(zeros after them), leaves every byte outside DST's lines in every operand memory, is counted with its cost, and
waits for the engine. -/
def Obligations.CloveCommandsWriteTheirDestination : Prop :=
  ∀ row ∈ cloveRows, ∃ f : CloveCmd → List Nat → List Nat → List Nat → (Nat → Nat) → List Nat,
    ∀ (slot : Fin 16384) (cmd prm : BitVec 64) (s : State) (j : Job) (g : Region),
    Issues s slot j g row.op cmd → Accepts row (cloveCmd cmd prm) g →
    Gives (row.cmd slot .firmware cmd prm) s fun t =>
      (row.d (cloveCmd cmd prm) ≠ 0 →
        (t.opMem g.engine).readN (g.byteOf (cloveCmd cmd prm).dst) (512 * row.d (cloveCmd cmd prm)) =
          fit (512 * row.d (cloveCmd cmd prm)) (writeElems (cloveCmd cmd prm).mode row.dForm
            (f (cloveCmd cmd prm)
              (if row.a (cloveCmd cmd prm) = 0 then []
                else s.operand g (cloveCmd cmd prm) row.aForm (cloveCmd cmd prm).a (row.a (cloveCmd cmd prm)))
              (if row.b (cloveCmd cmd prm) = 0 then []
                else s.operand g (cloveCmd cmd prm) row.bForm (cloveCmd cmd prm).b (row.b (cloveCmd cmd prm)))
              (if row.flag = 0 then []
                else s.operand g (cloveCmd cmd prm) .bytes (cloveCmd cmd prm).flag row.flag)
              fun i => ofLe (freeBytes (s.free + 4 * i) 4)))) ∧
      (∀ e a : Nat, e ≠ g.engine ∨ a < g.byteOf (cloveCmd cmd prm).dst ∨
          g.byteOf (cloveCmd cmd prm).dst + 512 * row.d (cloveCmd cmd prm) ≤ a →
        Mem.read a (t.opMem e) = Mem.read a (s.opMem e)) ∧
      t.counter 0x510001 g.engine = s.counter 0x510001 g.engine + 1 ∧
      t.counter 0x510002 g.engine = s.counter 0x510002 g.engine + 2 + row.cost (cloveCmd cmd prm) ∧
      (t.sched.waiting.getLast?.map fun q => (q.kind, q.slot, q.cost)) =
        some (2, slot.val, 2 + row.cost (cloveCmd cmd prm))

/-- Table - Clove commands, R248, R308, R314: the elementwise commands on public operands leave at DST the sum,
difference, multiple, copy, zeros, exclusive-or or field product of the elements read; STREAM_MATVEC writes, as bit i
of DST, the parity of the conjunction of row i and SRC_A, and leaves every byte outside DST's lines. -/
def Obligations.CloveResultsOfElements : Prop :=
  (∀ p ∈ ([
    (.cloveAdd, 0x05, [1, 2, 3, 4], fun c x y => (x + y) % c.q), (.cloveSub, 0x06, [1, 2, 3, 4], fun c x y => (x + c.q - y) % c.q),
    (.cloveXor, 0x21, [5, 6, 7], fun _ x y => x ^^^ y), (.cloveGfmul, 0x22, [6, 7], fun c x y => gfMul c.mode x y)] :
      List ((Fin 16384 → Issuer → BitVec 64 → BitVec 64 → Instr) × Nat × List Nat × (CloveCmd → Nat → Nat → Nat))),
    ∀ (slot : Fin 16384) (cmd prm : BitVec 64) (s : State) (j : Job) (g : Region),
    Issues s slot j g p.2.1 cmd →
    Accepts { cmd := p.1, op := p.2.1, modes := p.2.2.1, a := CloveCmd.span, b := CloveCmd.spanB
              d := CloveCmd.span, cost := fun _ => 0 } (cloveCmd cmd prm) g →
    (cloveCmd cmd prm).bcast = false →
    Gives (p.1 slot .firmware cmd prm) s fun t =>
      t.operand g (cloveCmd cmd prm) .ring (cloveCmd cmd prm).dst (cloveCmd cmd prm).span =
        List.zipWith (p.2.2.2 (cloveCmd cmd prm))
          (s.operand g (cloveCmd cmd prm) .ring (cloveCmd cmd prm).a (cloveCmd cmd prm).span)
          (s.operand g (cloveCmd cmd prm) .ring (cloveCmd cmd prm).b (cloveCmd cmd prm).span)) ∧
  (∀ (slot : Fin 16384) (cmd prm : BitVec 64) (s : State) (j : Job) (g : Region) (n : Nat),
    Issues s slot j g 0x26 cmd → n = s.rowBits j (cloveCmd cmd prm) →
    Accepts { cmd := .cloveStreamMatvec, op := 0x26, modes := [5], a := fun _ => ceilDiv n 4096, b := fun _ => 1
              d := CloveCmd.lines, cost := fun _ => 0 } (cloveCmd cmd prm) g →
    Gives (.cloveStreamMatvec slot .firmware cmd prm) s fun t =>
      (∀ i < min (cloveCmd cmd prm).value (4096 * (cloveCmd cmd prm).lines),
        (Mem.read (g.byteOf (cloveCmd cmd prm).dst + i / 8) (t.opMem g.engine)).getLsbD (i % 8) =
          (parity (s.streamRow j g n i &&& ofByteList
            (if n = 0 then [] else
              s.operand g (cloveCmd cmd prm) .ring (cloveCmd cmd prm).a (ceilDiv n 4096))) n == 1)) ∧
      (∀ e a : Nat, e ≠ g.engine ∨ a < g.byteOf (cloveCmd cmd prm).dst ∨
          g.byteOf (cloveCmd cmd prm).dst + 512 * (cloveCmd cmd prm).lines ≤ a →
        Mem.read a (t.opMem e) = Mem.read a (s.opMem e)))

/-- R356: an ECMD of kind 3 or 4 whose OP no table defines adds an outstanding result BAD_COMMAND; one of kind 5,
6 or an undefined kind traps with PRIVILEGE.
R254, R255: a firmware Clove command with a mode its row does not have, SHARES 1 or COUNT 0 is BAD_COMMAND: it
is counted, and its job ends with ENGINE_FAULT, DETAIL naming the engine. -/
def Obligations.UndefinedEngineCommandsAreRefused : Prop :=
  ((∀ (kind : Nat), kind ∈ [3, 4] → ∀ (slot : Fin 16384) (rs1 rs2 rd : Fin 32) (funct : BitVec 11) (s : State)
      (j : Job) (r : Run),
    At s slot j r (wordA 0x20 rd rs1 rs2 funct.toNat) 3 → funct.toNat % 16 = kind → r.outstanding kind < 4 →
    cmdOp (r.reg rs1) ∉ [1, 2] →
    Gives (.ecmd slot rs1 rs2 funct) s fun t => ∃ r' : Run, runOf t slot = some r' ∧
      r'.pc = r.pc + 4 ∧ r'.used = r.used + due r 3 ∧
      r'.results = r.results ++ [{ kind := kind, word := 1, ready := false }]) ∧
  (∀ (slot : Fin 16384) (rs1 rs2 rd : Fin 32) (funct : BitVec 11) (s : State) (j : Job) (r : Run),
    At s slot j r (wordA 0x20 rd rs1 rs2 funct.toNat) 1 →
    funct.toNat % 16 ∈ [0, 1, 5, 6, 7, 11, 12, 13, 14, 15] → r.outstanding (funct.toNat % 16) < 4 →
    exec (.ecmd slot rs1 rs2 funct) s =
      .next ((s.setRun slot (paid r 1)).conclude slot (trapResult 0x0006 0xFFFF r)))) ∧
  (∀ row ∈ cloveRows, ∀ (slot : Fin 16384) (cmd prm : BitVec 64) (s : State) (j : Job) (g : Region),
    Issues s slot j g row.op cmd →
    (cloveCmd cmd prm).mode ∉ row.modes ∨ (cloveCmd cmd prm).shares = 1 ∨ (cloveCmd cmd prm).count = 0 →
    exec (row.cmd slot .firmware cmd prm) s =
      .next ((s.bump 0x510007 0 1).endJob slot .engineFault (2 + 256 * g.engine)))

/-- R317 to R320, Table - Saffron commands: each command of a wide multiply-accumulate unit whose operands lie in its
stores leaves its value, RESULT 0, and every other unit as it was; one with a sealed source and a DST outside the
sealed bank answers RESULT 3 and changes no store of the unit, as does UNSEAL outside the release routine. -/
def Obligations.SaffronCommandsComputeAndStaySealed : Prop :=
  (∀ (n : Fin 18) (cmd : BitVec 64) (rel : Bool) (s : State) (u : Saffron) (c : SaffronCmd),
    s.saffron.length = 18 → s.saffron[n.val]? = some u → c = saffronCmd cmd →
    u.bank.length = 32 → u.file.length = 128 →
    (bits cmd.toNat 63 56 = 0x01 → operandOk c.a 1 = true → operandOk c.b 1 = true →
      c.leaks [c.a, c.b] = false → u.acc.toNat + (u.limb c.a).toNat * (u.limb c.b).toNat < 2 ^ 640 →
      Gives (.saffronMac n cmd rel) s fun t => ∃ v, t.saffron[n.val]? = some v ∧ v.result = 0 ∧
        v.acc.toNat = u.acc.toNat + (u.limb c.a).toNat * (u.limb c.b).toNat ∧
        v.bank = u.bank ∧ v.file = u.file ∧ ∀ m, m ≠ n.val → t.saffron[m]? = s.saffron[m]?) ∧
    (bits cmd.toNat 63 56 = 0x02 → operandOk c.a 1 = true → operandOk c.b 1 = true →
      c.leaks [c.a, c.b] = false → u.acc.toNat + (u.limb c.a).toNat * (u.limb c.b).toNat < 2 ^ 640 →
      Gives (.macShift n cmd rel) s fun t => ∃ v, t.saffron[n.val]? = some v ∧ v.result = 0 ∧
        v.acc.toNat = (u.acc.toNat + (u.limb c.a).toNat * (u.limb c.b).toNat) / 2 ^ 256 ∧
        ∀ m, m ≠ n.val → t.saffron[m]? = s.saffron[m]?) ∧
    (bits cmd.toNat 63 56 = 0x03 → operandOk c.dst 1 = true →
      Gives (.accOut n cmd rel) s fun t => ∃ v, t.saffron[n.val]? = some v ∧ v.result = 0 ∧
        v.limb c.dst = u.acc.setWidth 256 ∧ v.acc = u.acc >>> 256 ∧
        (∀ x, x ≠ c.dst → operandOk x 1 = true → v.limb x = u.limb x) ∧
        ∀ m, m ≠ n.val → t.saffron[m]? = s.saffron[m]?) ∧
    (bits cmd.toNat 63 56 = 0x04 →
      Gives (.accClear n cmd rel) s fun t => t.saffron[n.val]? = some { u with acc := 0, result := 0 } ∧
        ∀ m, m ≠ n.val → t.saffron[m]? = s.saffron[m]?) ∧
    (bits cmd.toNat 63 56 = 0x10 → ∀ w, c.w = some w → c.field ≠ 14 → operandOk c.dst w = true →
      operandOk c.a w = true → operandOk c.b w = true → c.leaks [c.a, c.b] = false →
      Gives (.saffronFmul n cmd rel) s fun t => ∃ v, t.saffron[n.val]? = some v ∧ v.result = 0 ∧ v.acc = u.acc ∧
        v.operand c.dst w = u.operand c.a w * u.operand c.b w % fieldModulus c.field ∧
        (∀ x, (x < c.dst ∨ c.dst + w ≤ x) → operandOk x 1 = true → v.limb x = u.limb x) ∧
        ∀ m, m ≠ n.val → t.saffron[m]? = s.saffron[m]?) ∧
    (bits cmd.toNat 63 56 = 0x11 → ∀ w, c.w = some w → c.field ≠ 14 → within 1 c.win 5 = true →
      operandOk c.dst w = true → operandOk c.a w = true → operandOk c.b (2 ^ c.win * w) = true →
      inBank c.exp = true → operandOk c.exp ((c.pos + c.win - 1) / 256 + 1) = true →
      c.leaks [c.a, c.b, c.exp] = false →
      Gives (.fmulSel n cmd rel) s fun t => ∃ v, t.saffron[n.val]? = some v ∧ v.result = 0 ∧
        v.operand c.dst w = u.operand c.a w * u.operand (c.b + w * c.selected u) w % fieldModulus c.field) ∧
    (bits cmd.toNat 63 56 = 0x20 → ∀ w, c.w = some w → operandOk c.dst w = true → operandOk c.a w = true →
      inBank c.a = true → inBank c.dst = false →
      Gives (.unseal n cmd true) s fun t => ∃ v, t.saffron[n.val]? = some v ∧ v.result = 0 ∧
        v.operand c.dst w = u.operand c.a w) ∧
    (bits cmd.toNat 63 56 = 0x21 → ∀ w, c.w = some w → operandOk c.dst w = true →
      Gives (.saffronZero n cmd rel) s fun t => ∃ v, t.saffron[n.val]? = some v ∧ v.result = 0 ∧
        v.operand c.dst w = 0 ∧ ∀ x, (x < c.dst ∨ c.dst + w ≤ x) → operandOk x 1 = true → v.limb x = u.limb x)) ∧
  (∀ (n : Fin 18) (cmd : BitVec 64) (rel : Bool) (s : State) (u : Saffron) (c : SaffronCmd),
    s.saffron.length = 18 → s.saffron[n.val]? = some u → c = saffronCmd cmd →
    (bits cmd.toNat 63 56 = 0x10 → ∀ w, c.w = some w → operandOk c.dst w = true →
      operandOk c.a w = true → operandOk c.b w = true → c.leaks [c.a, c.b] = true →
      Gives (.saffronFmul n cmd rel) s fun t => t.saffron[n.val]? = some { u with result := 3 }) ∧
    (bits cmd.toNat 63 56 = 0x20 → ∀ w, c.w = some w → operandOk c.dst w = true → operandOk c.a w = true →
      inBank c.a = true → inBank c.dst = false →
      Gives (.unseal n cmd false) s fun t => t.saffron[n.val]? = some { u with result := 3 }))

namespace Sys2Proof.Claims

open Sys2Proof Sys2Proof.Machine

/-! ### Built-in operations -/

/-- The slot's job has its input and carries an opcode of one operation (R24 step 8, R168). -/
structure OpAt (s : State) (k : Nat) (j : Job) (fam op : Nat) : Prop where
  job : s.job k = some j
  phase : j.phase = .running
  opcode : entryOpc j.entry = ⟨fam, (entryOpc j.entry).set, op⟩
  defined : (entryOpc j.entry).defined = true

/-- The SET of a job's opcode. -/
def setOf (j : Job) : Nat := (entryOpc j.entry).set

/-- The operation's result stands in its job, which waits for an engine of a kind; nothing is written, created or
deleted yet (R24 step 8, R175, R199). -/
structure Computed (s t : State) (k kind : Nat) (res : JobResult) : Prop where
  job : (t.job k).map (fun j => (j.phase, j.issued, j.result)) = some (.computed, true, res)
  waits : (t.sched.waiting.getLast?.map fun q => (q.kind, q.slot)) = some (kind, k)
  records : t.keys.records = s.keys.records
  contexts : t.ctxs = s.ctxs
  output : t.out = s.out
  others : ∀ x, x ≠ k → t.job x = s.job x

/-- The job's result stands, held by the shield or with the collector. -/
def Stands (t : State) (k : Nat) (P : JobResult → Prop) : Prop :=
  ∃ j, t.job k = some j ∧ (j.phase = .ready ∨ j.phase = .finished) ∧ P j.result

/-- Check 9 has rejected the job's input (R172, R174). -/
def Rejected (t : State) (k : Nat) : Prop := Stands t k fun r => r.status = .inputRejected

/-- Table - PARAM for a new record: PERSISTENT, EXPORTABLE, MIGRATABLE. -/
def asked (j : Job) : Nat := bits j.entry.param.toNat 2 0

/-- An operation of a family on some of its sets. -/
structure OpRow where
  cmd : Fin 16384 → Instr
  fam : Nat
  sets : List Nat

/-- A key generation: its class, its engines and the lengths of its public key and private part. -/
structure PairRow extends OpRow where
  cls : Job → Nat
  kind : Nat → Nat
  pk : Nat → Nat
  sk : Nat → Nat

/-- The key generations whose work runs on engines. -/
noncomputable def pairRows : List PairRow := [
  { cmd := .mlkemKeygen, fam := 1, sets := [1, 2, 3], cls := fun _ => 9, kind := fun _ => 2
    pk := fun n => [800, 1184, 1568].getD (n - 1) 0, sk := fun n => [1632, 2400, 3168].getD (n - 1) 0 },
  { cmd := .mldsaKeygen, fam := 2, sets := [1, 2, 3], cls := fun _ => 7, kind := fun _ => 2
    pk := fun n => [1312, 1952, 2592].getD (n - 1) 0, sk := fun n => [2560, 4032, 4896].getD (n - 1) 0 },
  { cmd := .slhdsaKeygen, fam := 4, sets := [1, 2, 3, 4, 5, 6, 7, 8, 9, 10, 11, 12], cls := fun _ => 7
    kind := fun n => if n ≤ 6 then 4 else 3
    pk := fun n => [32, 32, 48, 48, 64, 64].getD ((n - 1) % 6) 0
    sk := fun n => [64, 64, 96, 96, 128, 128].getD ((n - 1) % 6) 0 },
  { cmd := .hqcKeygen, fam := 6, sets := [1, 2, 3], cls := fun _ => 9, kind := fun _ => 2
    pk := fun n => [2249, 4522, 7245].getD (n - 1) 0, sk := fun n => [2289, 4562, 7285].getD (n - 1) 0 },
  { cmd := .mceKeygen, fam := 7, sets := [1, 2, 3, 4, 5, 6, 7, 8, 9, 10], cls := fun _ => 9, kind := fun _ => 2
    pk := fun n => [261120, 524160, 1044992, 1047319, 1357824].getD ((n - 1) % 5) 0
    sk := fun n => [6492, 13608, 13932, 13948, 14120].getD ((n - 1) % 5) 0 },
  { cmd := .ecKeygen, fam := 8, sets := [1, 2, 3, 4, 5, 6, 7]
    cls := fun j => if setOf j ≤ 3 then (if bit j.entry.param.toNat 4 then 4 else 7)
      else if setOf j ≤ 5 then 7 else 4
    kind := fun _ => 5, pk := fun n => [65, 97, 133, 32, 57, 32, 56].getD (n - 1) 0
    sk := fun n => [32, 48, 66, 32, 57, 32, 56].getD (n - 1) 0 },
  { cmd := .rsaKeygen, fam := 9, sets := [1, 2, 3], cls := fun j => if bit j.entry.param.toNat 4 then 2 else 7
    kind := fun _ => 5, pk := fun n => 128 * (n + 1) + 4, sk := fun n => [900, 1348, 1796].getD (n - 1) 0 },
  { cmd := .hybKeygen, fam := 0x0C, sets := [8, 9], cls := fun _ => 9, kind := fun _ => 2
    pk := fun n => if n = 8 then 1216 else 1665, sk := fun n => if n = 8 then 2432 else 3216 },
  { cmd := .hybKeygen, fam := 0x0C, sets := [10, 11], cls := fun _ => 7, kind := fun _ => 2
    pk := fun n => if n = 10 then 2017 else 2689, sk := fun n => if n = 10 then 4064 else 4944 }]

/-- A record as a key generation makes it for its job. -/
structure Generated (j : Job) (fam set cls flags : Nat) (r : KeyRecord) : Prop where
  owner : r.owner = j.inst
  cls : r.cls = cls
  binding : r.binding = BitVec.ofNat 16 (256 * fam + 16 * set)
  flags : r.flags = BitVec.ofNat 32 flags
  origin : r.origin = 1
  pairwise : Config.check (.pairwise fam (setOf j)) [r.pub, r.secret] = true

/-- The KEM families: the four operations after key generation, and the lengths of ciphertext and secret. -/
structure KemRow where
  fam : Nat
  sets : List Nat
  encaps : Fin 16384 → Instr
  encapsKeep : Fin 16384 → Instr
  decaps : Fin 16384 → Instr
  decapsKeep : Fin 16384 → Instr
  ct : Nat → Nat
  ss : Nat

/-- ML-KEM, HQC, Classic McEliece and the hybrid KEMs. -/
noncomputable def kemRows : List KemRow := [
  ⟨1, [1, 2, 3], .mlkemEncaps, .mlkemEncapsKeep, .mlkemDecaps, .mlkemDecapsKeep,
    fun n => [768, 1088, 1568].getD (n - 1) 0, 32⟩,
  ⟨6, [1, 2, 3], .hqcEncaps, .hqcEncapsKeep, .hqcDecaps, .hqcDecapsKeep,
    fun n => [4433, 8978, 14421].getD (n - 1) 0, 64⟩,
  ⟨7, [1, 2, 3, 4, 5], .mceEncaps, .mceEncapsKeep, .mceDecaps, .mceDecapsKeep,
    fun n => [96, 156, 208, 194, 208].getD (n - 1) 0, 32⟩,
  ⟨0x0C, [8, 9], .hybEncaps, .hybEncapsKeep, .hybDecaps, .hybDecapsKeep,
    fun n => if n = 8 then 1120 else 1665, 32⟩]

/-- A record that keeps a shared secret: DERIVE_ONLY, under its operation's binding (R225, R230). -/
structure Keeps (j : Job) (fam : Nat) (ss : Bytes) (r : KeyRecord) : Prop where
  owner : r.owner = j.inst
  cls : r.cls = 4
  binding : r.binding = BitVec.ofNat 16 (256 * fam + 16 * setOf j)
  flags : r.flags.toNat % 8 = asked j
  parent : r.parent = j.entry.key0
  secret : r.secret = ss

/-- A sequencer may enter sealed decode mode (R310). -/
def decodeRoom (s : State) : Prop := (s.jobs.filter fun k => k.2.decodeMode).length < s.odNum 0x220032

/-- A signing operation: its OP, engines, signature length, the length of the context before the body, the
parameters that check 9 allows, and the computation that verifies. -/
structure SignRow extends OpRow where
  op : Nat
  kind : Nat → Nat
  len : Nat → Nat
  ctx : SqEntry → Nat
  ok : SqEntry → Bool
  verify : State → Job → Done

/-- A pre-hash function, where one is asked for, is one that the set accepts. -/
def prehashOk (e : SqEntry) : Bool := !prehash e || phAllowed (entryOpc e) (phAlg e)

/-- Signature lengths of SLH-DSA (Table - SLH-DSA sets). -/
def slhLen (n : Nat) : Nat := [7856, 17088, 16224, 35664, 29792, 49856].getD ((n - 1) % 6) 0

/-- The signing operations whose work runs on engines, the stateful ones apart. -/
noncomputable def signRows : List SignRow := [
  { cmd := .mldsaSign, fam := 2, op := 2, sets := [1, 2, 3], kind := fun _ => 2
    len := fun n => [2420, 3309, 4627].getD (n - 1) 0, ctx := ctxLen, ok := prehashOk, verify := mldsaVerify },
  { cmd := .mldsaSignDeterministic, fam := 2, op := 3, sets := [1, 2, 3], kind := fun _ => 2
    len := fun n => [2420, 3309, 4627].getD (n - 1) 0, ctx := ctxLen, ok := prehashOk, verify := mldsaVerify },
  { cmd := .slhdsaSign, fam := 4, op := 2, sets := [1, 2, 3, 4, 5, 6, 7, 8, 9, 10, 11, 12]
    kind := fun n => if n ≤ 6 then 4 else 3, len := slhLen, ctx := ctxLen, ok := prehashOk
    verify := slhdsaVerify },
  { cmd := .slhdsaSignDeterministic, fam := 4, op := 3, sets := [1, 2, 3, 4, 5, 6, 7, 8, 9, 10, 11, 12]
    kind := fun n => if n ≤ 6 then 4 else 3, len := slhLen, ctx := ctxLen, ok := prehashOk
    verify := slhdsaVerify },
  { cmd := .ecSign, fam := 8, op := 2, sets := [1, 2, 3, 4, 5], kind := fun _ => 5
    len := fun n => [64, 96, 132, 64, 114].getD (n - 1) 0, ctx := ecCtxLen, ok := ecParamOk, verify := ecVerify },
  { cmd := .rsaSignPss, fam := 9, op := 2, sets := [1, 2, 3], kind := fun _ => 5, len := fun n => 128 * (n + 1)
    ctx := fun _ => 0, ok := fun e => rsaHashOk e && saltOk e
    verify := fun _ j => rsaVerifyWith (.rsaVerifyPss (setOf j)) true j },
  { cmd := .rsaSignPkcs1, fam := 9, op := 3, sets := [1, 2, 3], kind := fun _ => 5, len := fun n => 128 * (n + 1)
    ctx := fun _ => 0, ok := rsaHashOk
    verify := fun _ j => rsaVerifyWith (.rsaVerifyPkcs1 (setOf j)) false j },
  { cmd := .hybSign, fam := 0x0C, op := 2, sets := [10, 11], kind := fun _ => 2
    len := fun n => if n = 10 then 3373 else 4723, ctx := ctxLen, ok := fun _ => true, verify := hybVerify }]

/-- A verification: its OP, engine kind, the lengths of public key and signature, the inputs that check 9 allows,
and when a signature of a body under a context verifies. -/
structure VerifyRow extends OpRow where
  op : Nat
  kind : Nat → Nat
  pk : Nat → Nat
  sig : Nat → Nat
  ctx : SqEntry → Nat
  ok : SqEntry → Bytes → Bool
  accepts : SqEntry → SigInput → Bool

/-- The verifications of a signature over a context and a body. -/
noncomputable def verifyRows : List VerifyRow := [
  { cmd := .mldsaVerify, fam := 2, op := 4, sets := [1, 2, 3], kind := fun _ => 2
    pk := fun n => [1312, 1952, 2592].getD (n - 1) 0, sig := fun n => [2420, 3309, 4627].getD (n - 1) 0
    ctx := ctxLen, ok := fun e _ => prehashOk e
    accepts := fun e x => ((dsaMsg e x.ctx x.body).map fun m =>
      mldsaOk (entryOpc e).set x.pk m x.sig).getD false },
  { cmd := .fndsaVerify, fam := 3, op := 4, sets := [1, 2], kind := fun _ => 2
    pk := fun n => [897, 1793].getD (n - 1) 0, sig := fun n => [666, 1280].getD (n - 1) 0
    ctx := ctxLen, ok := fun _ _ => true
    accepts := fun e x => Config.check (.fndsaVerify (entryOpc e).set) [x.pk, pureMsg x.ctx x.body, x.sig] },
  { cmd := .slhdsaVerify, fam := 4, op := 4, sets := [1, 2, 3, 4, 5, 6, 7, 8, 9, 10, 11, 12]
    kind := fun n => if n ≤ 6 then 4 else 3
    pk := fun n => [32, 32, 48, 48, 64, 64].getD ((n - 1) % 6) 0, sig := slhLen
    ctx := ctxLen, ok := fun e _ => prehashOk e
    accepts := fun e x => ((dsaMsg e x.ctx x.body).map fun m =>
      Config.check (.slhdsaVerify (entryOpc e).set) [x.pk, m, x.sig]).getD false },
  { cmd := .ecVerify, fam := 8, op := 4, sets := [1, 2, 3, 4, 5], kind := fun _ => 5
    pk := fun n => [65, 97, 133, 32, 57].getD (n - 1) 0, sig := fun n => [64, 96, 132, 64, 114].getD (n - 1) 0
    ctx := ecCtxLen, ok := fun e pk => ecParamOk e && (e.key0 != 0 || ecKeyOk (entryOpc e).set pk)
    accepts := ecSigOk },
  { cmd := .rsaVerifyPss, fam := 9, op := 4, sets := [1, 2, 3], kind := fun _ => 5
    pk := fun n => 128 * (n + 1) + 4, sig := fun n => 128 * (n + 1), ctx := fun _ => 0
    ok := fun e pk => rsaHashOk e && saltOk e && (e.key0 != 0 || rsaKeyOk (entryOpc e).set pk)
    accepts := fun e x => rsaSigOk (.rsaVerifyPss (entryOpc e).set) true e x },
  { cmd := .rsaVerifyPkcs1, fam := 9, op := 5, sets := [1, 2, 3], kind := fun _ => 5
    pk := fun n => 128 * (n + 1) + 4, sig := fun n => 128 * (n + 1), ctx := fun _ => 0
    ok := fun e pk => rsaHashOk e && (e.key0 != 0 || rsaKeyOk (entryOpc e).set pk)
    accepts := fun e x => rsaSigOk (.rsaVerifyPkcs1 (entryOpc e).set) false e x },
  { cmd := .hybVerify, fam := 0x0C, op := 4, sets := [10, 11], kind := fun _ => 2
    pk := fun n => if n = 10 then 2017 else 2689, sig := fun n => if n = 10 then 3373 else 4723
    ctx := ctxLen, ok := fun e pk => e.key0 != 0 || publicOk 0x0C (entryOpc e).set pk
    accepts := fun e x => hybSigOk (entryOpc e).set x.pk (pureMsg x.ctx x.body) x.sig }]

end Sys2Proof.Claims

/-! ### Keys, secrets and signatures -/

/-- R225, R226, R302, R323, R329, R333: a key generation on engines ends with a pair of its set that has passed the
pairwise test, its record the job's last act, or with ENGINE_FAULT and no record; nothing is stored before that.
R237, R239: FN-DSA key generation and signing run on the sequencer alone: a pair that passes the pairwise test
is held with FLOAT_SIGN_ENABLE for its record, a signature that verifies is the job's output; a generation that does
not ask for FLOAT_SIGN_ENABLE is rejected. -/
def Obligations.KeyGenerationsAndFndsaPrepare : Prop :=
  (∀ o ∈ pairRows, ∀ (slot : Fin 16384) (s : State) (j : Job),
    OpAt s slot j o.fam 1 → setOf j ∈ o.sets →
    Gives (o.cmd slot) s fun t => ∃ res, Computed s t slot (o.kind (setOf j)) res ∧
      ((∃ r, res = { output := r.pub, acts := [.createRecord r] } ∧ r.pub.length = o.pk (setOf j) ∧
          r.secret.length = o.sk (setOf j) ∧
          Generated j o.fam (if o.fam = 7 ∧ 5 < setOf j then setOf j - 5 else setOf j) (o.cls j) (asked j) r) ∨
        res.status = .engineFault ∧ res.acts = [] ∧ res.output = [])) ∧
  ((∀ (slot : Fin 16384) (s : State) (j : Job) (p : KeyPair),
    OpAt s slot j 3 1 → s.shields j = true →
    p = pairOf (if setOf j = 1 then 897 else 1793) (if setOf j = 1 then 1281 else 2305)
      (Config.algorithm (.fndsaKeyGen (setOf j)) [j.random]) →
    Config.check (.pairwise 3 (setOf j)) [p.pk, p.sk] = true →
    Gives (.fndsaKeygen slot) s fun t =>
      (bit j.entry.param.toNat 3 = true → Stands t slot fun res => ∃ r,
        res = { output := p.pk, acts := [.createRecord r] } ∧ r.pub = p.pk ∧ r.secret = p.sk ∧
        Generated j 3 (setOf j) 7 (asked j + 8) r) ∧
      (bit j.entry.param.toNat 3 = false → Rejected t slot)) ∧
  (∀ (slot : Fin 16384) (s : State) (j : Job) (ctx body sig : Bytes),
    OpAt s slot j 3 2 → j.input = ctx ++ body → ctx.length = ctxLen j.entry →
    sig = fit (if setOf j = 1 then 666 else 1280)
      (Config.algorithm (.fndsaSign (setOf j)) [j.key0, pureMsg ctx body, j.random]) →
    Config.check (.fndsaVerify (setOf j)) [j.pub0, pureMsg ctx body, sig] = true →
    Gives (.fndsaSign slot) s fun t => Stands t slot fun res => res.status = .ok ∧ res.output = sig))

/-- R227 to R230, R303, R305, R310, R334: an encapsulation that is not rejected ends with ciphertext and shared secret
as the output, or with the secret in a DERIVE_ONLY record and the ciphertext as the output; one to a key that its
checks refuse is rejected; a decapsulation ends with the secret as the output, or in a DERIVE_ONLY record with
DOMAIN_BOUND clear; only a hybrid ciphertext can be rejected for its contents. -/
def Obligations.KemOperationsReturnOrKeepTheirSecret : Prop :=
  (∀ o ∈ kemRows, ∀ (slot : Fin 16384) (s : State) (j : Job), setOf j ∈ o.sets →
    (OpAt s slot j o.fam 2 → ∀ c, j.encapsulate = some c → c.ct.length = o.ct (setOf j) ∧
      (o.fam ≠ 0x0C → c.ss.length = o.ss) ∧
      Gives (o.encaps slot) s fun t => Computed s t slot 2 { output := c.ct ++ c.ss }) ∧
    (OpAt s slot j o.fam 3 → ∀ c, j.encapsulate = some c → j.carries (asked j) = true →
      Gives (o.encapsKeep slot) s fun t => ∃ r, Keeps j o.fam c.ss r ∧ r.flag 7 = j.domainParent ∧
        Computed s t slot 2 { output := c.ct, acts := [.createRecord r] }) ∧
    (OpAt s slot j o.fam 2 → j.entry.key0 = 0 → publicOk o.fam (setOf j) j.input = false →
      Gives (o.encaps slot) s fun t => Rejected t slot) ∧
    (o.fam ≠ 0x0C → (j.entry.key0 ≠ 0 ∨ publicOk o.fam (setOf j) j.input = true) →
      (entryOpc j.entry).fam = o.fam → j.encapsulate.isSome = true)) ∧
  (∀ o ∈ kemRows, ∀ (slot : Fin 16384) (s : State) (j : Job), setOf j ∈ o.sets →
    (o.fam = 6 → decodeRoom s) →
    (OpAt s slot j o.fam 4 → ∀ ss, kemShared (entryOpc j.entry) j.key0 j.pub0 j.input = some ss →
      Gives (o.decaps slot) s fun t => Computed s t slot 2 { output := ss }) ∧
    (OpAt s slot j o.fam 5 → ∀ ss, kemShared (entryOpc j.entry) j.key0 j.pub0 j.input = some ss →
      j.carries (asked j) = true →
      Gives (o.decapsKeep slot) s fun t => ∃ r, Keeps j o.fam ss r ∧ r.flag 7 = false ∧
        Computed s t slot 2 { acts := [.createRecord r] }) ∧
    (o.fam ≠ 0x0C → (entryOpc j.entry).fam = o.fam →
      ∃ ss, kemShared (entryOpc j.entry) j.key0 j.pub0 j.input = some ss ∧ ss.length = o.ss))

/-- R30: a signing operation ends with a signature of its set's length that its own verification accepts for the
same message, key and context, or with ENGINE_FAULT and no signature.
R233, R234, R239, R270, R324, R326, R331, R335: a verification reads the public key where KEY0 is 0, then the
context, the signature and the body, and answers OK where the signature verifies and VERIFY_FAIL where it does
not, writing nothing. -/
def Obligations.SignaturesAreReleasedAndVerified : Prop :=
  (∀ o ∈ signRows, ∀ (slot : Fin 16384) (s : State) (j : Job) (ctx body : Bytes),
    OpAt s slot j o.fam o.op → setOf j ∈ o.sets → j.entry.key0 ≠ 0 → o.ok j.entry = true →
    j.input = ctx ++ body → ctx.length = o.ctx j.entry →
    Gives (o.cmd slot) s fun t => ∃ res, Computed s t slot (o.kind (setOf j)) res ∧ res.acts = [] ∧
      ((res.status = .ok ∧ res.output.length = o.len (setOf j) ∧
          (o.verify s { j with input := ctx ++ res.output ++ body }).res.status = .ok) ∨
        res.status = .engineFault ∧ res.output = [])) ∧
  (∀ o ∈ verifyRows, ∀ (slot : Fin 16384) (s : State) (j : Job) (x : SigInput),
    OpAt s slot j o.fam o.op → setOf j ∈ o.sets →
    j.input = (if j.entry.key0 = 0 then x.pk else []) ++ x.ctx ++ x.sig ++ x.body →
    (j.entry.key0 ≠ 0 → x.pk = j.pub0) → (j.entry.key0 = 0 → x.pk.length = o.pk (setOf j)) →
    x.ctx.length = o.ctx j.entry → x.sig.length = o.sig (setOf j) → o.ok j.entry x.pk = true →
    Gives (o.cmd slot) s fun t => Computed s t slot (o.kind (setOf j))
      { status := if o.accepts j.entry x then .ok else .verifyFail })

/-- R272 to R275, R280, R281: stateful key generation holds a BUILDING record of class 7, PERSISTENT alone, whose
leaves its parameter block gives; signing uses the leaf assigned to the job and releases only what verifies;
verification reads key, signature and message; STATEFUL_STATUS returns the bytes of the record. -/
def Obligations.StatefulSignaturesUseTheirLeaf : Prop :=
  (∀ (slot : Fin 16384) (s : State) (j : Job) (ts : List Tree),
    OpAt s slot j 5 1 → statefulTrees (setOf j) j.input = some ts → asked j = 1 →
    Gives (.statefulKeygen slot) s fun t => ∃ r x, Computed s t slot 4 { acts := [.createRecord r] } ∧
      r.owner = j.inst ∧ r.cls = 7 ∧ r.state = 1 ∧ r.flag 0 = true ∧ r.flag 1 = false ∧ r.flag 2 = false ∧
      r.stateful = some x ∧ x.params = j.input ∧ x.total = 2 ^ (ts.map (·.h)).sum ∧ x.nextLeaf = 0) ∧
  (∀ (slot : Fin 16384) (s : State) (j : Job), OpAt s slot j 5 1 →
    (statefulTrees (setOf j) j.input = none ∨ asked j ≠ 1) →
    Gives (.statefulKeygen slot) s fun t => Rejected t slot) ∧
  (∀ (slot : Fin 16384) (s : State) (j : Job) (ts : List Tree) (n : Nat),
    OpAt s slot j 5 2 → statefulTrees (setOf j) j.params0 = some ts → j.leaf = some n →
    Gives (.statefulSign slot) s fun t => ∃ res, Computed s t slot 4 res ∧
      ((res.status = .ok ∧ res.output = fit (statefulSig (setOf j) ts) (Config.algorithm (.statefulSign (setOf j))
          [j.key0, j.params0, le 8 n, j.input]) ∧
        Config.check (.statefulVerify (setOf j)) [j.pub0, j.input, res.output] = true) ∨
        res.status = .engineFault ∧ res.output = [])) ∧
  (∀ (slot : Fin 16384) (s : State) (j : Job) (x : SigInput),
    OpAt s slot j 5 4 → j.input = (if j.entry.key0 = 0 then x.pk else []) ++ x.sig ++ x.body →
    (j.entry.key0 ≠ 0 → x.pk = j.pub0) →
    (j.entry.key0 = 0 → x.pk.length = bits j.entry.param.toNat 39 32 ∧ statefulKeyOk (setOf j) x.pk = true) →
    x.sig.length = bits j.entry.param.toNat 31 0 →
    Gives (.statefulVerify slot) s fun t => Computed s t slot 4
      { status := if Config.check (.statefulVerify (setOf j)) [x.pk, x.body, x.sig] then .ok else .verifyFail }) ∧
  (∀ (slot : Fin 16384) (s : State) (j : Job), OpAt s slot j 5 5 → s.shields j = false →
    Gives (.statefulStatus slot) s fun t => Stands t slot fun r => r.status = .ok ∧ r.output = j.attrs0 ∧
      r.outLen = j.attrs0.length)

/-- R325, R326, R330 to R332: elliptic-curve agreement returns or keeps the shared secret and rejects a peer's key
that R326 refuses; RSA-OAEP encryption writes a ciphertext as long as the modulus, and decryption writes a
plaintext, every decoding error being the one status INPUT_REJECTED. -/
def Obligations.AgreementAndOaepAnswer : Prop :=
  (∀ (slot : Fin 16384) (s : State) (j : Job), setOf j ∈ [1, 2, 3, 6, 7] →
    (OpAt s slot j 8 6 → ∀ ss, j.agreed = some ss → ss.length = [32, 48, 66, 0, 0, 32, 56].getD (setOf j - 1) 0 ∧
      Gives (.ecAgree slot) s fun t => Computed s t slot 5 { output := ss }) ∧
    (OpAt s slot j 8 7 → ∀ ss, j.agreed = some ss → j.carries (asked j) = true →
      Gives (.ecAgreeKeep slot) s fun t => ∃ r, Keeps j 8 ss r ∧ r.flag 7 = false ∧
        Computed s t slot 5 { acts := [.createRecord r] }) ∧
    (OpAt s slot j 8 6 → ecKeyOk (setOf j) j.input = false →
      Gives (.ecAgree slot) s fun t => Rejected t slot)) ∧
  (∀ (slot : Fin 16384) (s : State) (j : Job), OpAt s slot j 9 6 → rsaHashOk j.entry = true →
    (j.entry.key0 = 0 → rsaKeyOk (setOf j) (j.input.take (128 * (setOf j + 1) + 4)) = true) →
    Gives (.rsaOaepEncrypt slot) s fun t => ∃ res, Computed s t slot 5 res ∧ res.status = .ok ∧
      res.output.length = 128 * (setOf j + 1)) ∧
  (∀ (slot : Fin 16384) (s : State) (j : Job) (label ct : Bytes) (a : List Bytes), OpAt s slot j 9 7 →
    rsaHashOk j.entry = true → j.input = label ++ ct → label.length = ctxLen j.entry →
    a = [j.key0, [BitVec.ofNat 8 (phAlg j.entry)], label, ct] →
    (ofBe ct < ofBe (j.pub0.take (128 * (setOf j + 1))) → Config.check (.rsaOaepValid (setOf j)) a = true →
      Gives (.rsaOaepDecrypt slot) s fun t => ∃ res, Computed s t slot 5 res ∧ res.status = .ok ∧
        res.output <+: Config.algorithm (.rsaOaepDecrypt (setOf j)) a ∧
        res.output.length ≤ 128 * (setOf j + 1) - 2 * phLen (phAlg j.entry) - 2) ∧
    ((ofBe (j.pub0.take (128 * (setOf j + 1))) ≤ ofBe ct ∨
        Config.check (.rsaOaepValid (setOf j)) a = false) →
      Gives (.rsaOaepDecrypt slot) s fun t => Rejected t slot))

/-! ### Symmetric operations, digests and contexts -/

/-- R336, R337, R340: GCM_ENCRYPT writes a drawn IV, the ciphertext and the tag cut to TAG_LEN; GCM_DECRYPT of what it
wrote, with the same key, IV and additional data, returns the plaintext, and with any other tag answers VERIFY_FAIL
and writes nothing, up to 65,536 bytes. -/
def Obligations.GcmDecryptUndoesGcmEncrypt : Prop :=
  ∀ (slot other : Fin 16384) (s s' : State) (j j' : Job) (iv aad pt : Bytes) (n : Nat),
    OpAt s slot j 0x0A 1 → OpAt s' other j' 0x0A 2 → aesTag j.entry = some n → aesTag j'.entry = some n →
    j.key0.length ∈ [16, 32] → j'.key0 = j.key0 → iv.length = 12 →
    aad.length = aadLen j.entry → aadLen j'.entry = aadLen j.entry → pt.length ≤ 65536 →
    (ivIn j.entry = 12 → j.input = iv ++ aad ++ pt) →
    (ivIn j.entry ≠ 12 → j.random = iv ∧ j.input = aad ++ pt) →
    ∃ ct tag, ct.length = pt.length ∧ tag.length = n ∧
      (Gives (.gcmEncrypt slot) s fun t => Computed s t slot 6
        { output := (if ivIn j.entry = 12 then [] else iv) ++ ct ++ tag }) ∧
      (j'.input = iv ++ aad ++ ct ++ tag → Gives (.gcmDecrypt other) s' fun t =>
        Computed s' t other 6 { output := pt }) ∧
      (∀ bad : Bytes, bad.length = n → bad ≠ tag → j'.input = iv ++ aad ++ ct ++ bad →
        Gives (.gcmDecrypt other) s' fun t => Computed s' t other 6 { status := .verifyFail })

/-- R337, R338, R340, R342 to R344: GMAC, key wrap, XTS and the frame batches: an unwrap whose check fails and a GMAC
that differs answer VERIFY_FAIL with nothing written, XTS works unit by unit, FRAME_TAG writes 16 bytes for each
frame, and FRAME_CHECK sets one bit of MISMATCH for each frame whose tag differs, which FRAME_MISMATCHES counts. -/
def Obligations.AesAndFrameOperationsAnswer : Prop :=
  (∀ (slot : Fin 16384) (s : State) (j : Job) (iv aad : Bytes) (n : Nat), OpAt s slot j 0x0A 3 →
    aesTag j.entry = some n → ivIn j.entry = 12 → iv.length = 12 → j.input = iv ++ aad →
    Gives (.gmacGenerate slot) s fun t =>
      Computed s t slot 6 { output := (gcmTag j.key0 iv aad []).take n }) ∧
  (∀ (slot : Fin 16384) (s : State) (j : Job) (iv aad tag : Bytes) (n : Nat), OpAt s slot j 0x0A 4 →
    aesTag j.entry = some n → ivIn j.entry = 12 → iv.length = 12 → j.input = iv ++ aad ++ tag → tag.length = n →
    Gives (.gmacVerify slot) s fun t => Computed s t slot 6
      { status := if tag = (gcmTag j.key0 iv aad []).take n then .ok else .verifyFail }) ∧
  (∀ (slot : Fin 16384) (s : State) (j : Job), OpAt s slot j 0x0A 5 →
    Gives (.kwWrap slot) s fun t => Computed s t slot 6
      { output := (if bit j.entry.param.toNat 0 then aesKwp else aesKw) j.key0 j.input }) ∧
  (∀ (slot : Fin 16384) (s : State) (j : Job), OpAt s slot j 0x0A 6 → j.input.length % 8 = 0 →
    24 ≤ j.input.length → Gives (.kwUnwrap slot) s fun t => Computed s t slot 6
      (match (if bit j.entry.param.toNat 0 then aesKwpInv else aesKwInv) j.key0 j.input with
        | some b => { output := b }
        | none => { status := .verifyFail })) ∧
  (∀ (slot : Fin 16384) (s : State) (j : Job) (tweak data : Bytes) (u : Nat), tweak.length = 16 →
    j.input = tweak ++ data → u = bits j.entry.param.toNat 23 0 → 16 ≤ u →
    (OpAt s slot j 0x0A 7 → Gives (.xtsEncrypt slot) s fun t => Computed s t slot 6
      { output := (List.range ((data.length + u - 1) / u)).flatMap fun i =>
          xtsUnit false j.key0 ((ofLe tweak + i) % 2 ^ 128) ((data.drop (u * i)).take u) }) ∧
    (OpAt s slot j 0x0A 8 → Gives (.xtsDecrypt slot) s fun t => Computed s t slot 6
      { output := (List.range ((data.length + u - 1) / u)).flatMap fun i =>
          xtsUnit true j.key0 ((ofLe tweak + i) % 2 ^ 128) ((data.drop (u * i)).take u) })) ∧
  (∀ (slot : Fin 16384) (s : State) (j : Job) (fs : List Frame), j.frames = some fs →
    (OpAt s slot j 0x0F 1 → Gives (.frameTag slot) s fun t => ∃ res,
      Computed s t slot (if setOf j ≤ 2 then 4 else 6) res ∧ res.status = .ok ∧
        res.output = fs.flatMap fun f => fit 16 (frameTag (setOf j) f)) ∧
    (OpAt s slot j 0x0F 2 → Gives (.frameCheck slot) s fun t => ∃ res,
      Computed s t slot (if setOf j ≤ 2 then 4 else 6) res ∧ res.status = .ok ∧ res.output.length = 8 ∧
      t.counter 0x220048 0 = s.counter 0x220048 0 + (mismatches (setOf j) fs).length ∧
      (fs.length ≤ 64 → ∀ i f, fs[i]? = some f → (bit (ofLe res.output) i = true ↔
        frameTag (setOf j) f ≠ f.tag.take (frameTagLen (setOf j)))))) ∧
  (∀ (slot : Fin 16384) (s : State) (j : Job), j.frames = none →
    (OpAt s slot j 0x0F 1 → Gives (.frameTag slot) s fun t => Rejected t slot) ∧
    (OpAt s slot j 0x0F 2 → Gives (.frameCheck slot) s fun t => Rejected t slot))

/-- R283 to R287: MAC writes the HMAC or KMAC tag, in one job or over a context; MAC_VERIFY answers OK where the tag
before the message is that tag and VERIFY_FAIL where not; CTX_CLOSE discards its context; CTX_EXPIRED closes a
context that no job names. -/
def Obligations.MacsAndContextsAnswer : Prop :=
  (∀ (slot : Fin 16384) (s : State) (j : Job) (sb m : Bytes) (n : Nat),
    macTag (entryOpc j.entry) j.entry = some n → bits j.entry.param.toNat 63 62 = 0 →
    sb.length = (if 11 ≤ setOf j then bits j.entry.param.toNat 47 40 else 0) →
    (OpAt s slot j 0x0B 2 → j.input = sb ++ m → Gives (.mac slot) s fun t =>
      Computed s t slot (hashEngine (setOf j))
        { output := macOf (setOf j) j.key0 ⟨sb, m, j.entry.param.toNat⟩ n }) ∧
    (OpAt s slot j 0x0B 3 → ∀ tag : Bytes, tag.length = n → j.input = sb ++ tag ++ m →
      Gives (.macVerify slot) s fun t => Computed s t slot (hashEngine (setOf j))
        { status := if macOf (setOf j) j.key0 ⟨sb, m, j.entry.param.toNat⟩ n = tag then .ok else .verifyFail })) ∧
  (∀ (slot : Fin 16384) (s : State) (j : Job) (c : Ctx) (n : Nat),
    macTag (entryOpc j.entry) j.entry = some n → bits j.entry.param.toNat 63 62 = 3 →
    look (4096 * j.inst + j.entry.ctx.toNat) s.ctxs = some c →
    (OpAt s slot j 0x0B 2 → Gives (.mac slot) s fun t => Computed s t slot (hashEngine (setOf j))
      { output := macOf (setOf j) j.key0 ⟨c.sBytes, c.message ++ j.input, c.param.toNat⟩ n
        acts := [.closeCtx (4096 * j.inst + j.entry.ctx.toNat)] }) ∧
    (OpAt s slot j 0x0B 3 → ∀ m, j.input =
        macOf (setOf j) j.key0 ⟨c.sBytes, c.message ++ m, c.param.toNat⟩ n ++ m →
      (macOf (setOf j) j.key0 ⟨c.sBytes, c.message ++ m, c.param.toNat⟩ n).length = n →
      Gives (.macVerify slot) s fun t => Computed s t slot (hashEngine (setOf j))
        { acts := [.closeCtx (4096 * j.inst + j.entry.ctx.toNat)] })) ∧
  (∀ (slot : Fin 16384) (s : State) (j : Job), OpAt s slot j 0x0B 4 → s.shields j = false →
    j.runKeys = [] → Gives (.ctxClose slot) s fun t => (Stands t slot fun r => r.status = .ok) ∧
      look (4096 * j.inst + j.entry.ctx.toNat) t.ctxs = none ∧
      ∀ x, x ≠ 4096 * j.inst + j.entry.ctx.toNat → look x t.ctxs = look x s.ctxs) ∧
  (∀ (i : Fin 1024) (c : Fin 4096) (s : State) (x : Ctx), look (4096 * i.val + c.val) s.ctxs = some x →
    (∀ k ∈ s.jobs, k.2.inst = i.val → namesCtx k.2.entry = true → k.2.entry.ctx.toNat = c.val →
      k.2.phase = .finished) →
    Gives (.ctxExpired i c) s fun t => look (4096 * i.val + c.val) t.ctxs = none ∧
      x.lastUse + 1000000000 * s.odNum 0x220023 ≤ t.now)

/-- R283, R285, R287: HASH of a whole message writes its digest; FIRST and MORE keep their bytes in the context, and
LAST writes the digest of all of them with its own and closes the context.
R294 to R297: MEASURE asks for an extension of its port's register with its input, or with the SHA-384 digest of
it where PARAM bit 8 is set, and answers STATE_CONFLICT while the measurement log has no room; QUOTE ends with
its body and the two identity signatures, or with ENGINE_FAULT. -/
def Obligations.HashesDigestTheirMessage : Prop :=
  (∀ (slot : Fin 16384) (s : State) (j : Job), OpAt s slot j 0x0B 1 →
    (bits j.entry.param.toNat 63 62 = 0 → ∀ n, hashOut (entryOpc j.entry) j.entry = some n →
      Gives (.hash slot) s fun t => Computed s t slot (hashEngine (setOf j))
        { output := hashOf (setOf j) j.input n }) ∧
    (bits j.entry.param.toNat 63 62 = 1 → Gives (.hash slot) s fun t => ∃ c,
      Computed s t slot (hashEngine (setOf j)) { acts := [.storeCtx (4096 * j.inst + j.entry.ctx.toNat) c] } ∧
      c.opcode = j.entry.opcode ∧ c.key0 = j.entry.key0 ∧ c.param = j.entry.param ∧ c.message = j.input) ∧
    (bits j.entry.param.toNat 63 62 = 2 → ∀ c, look (4096 * j.inst + j.entry.ctx.toNat) s.ctxs = some c →
      Gives (.hash slot) s fun t => Computed s t slot (hashEngine (setOf j))
        { acts := [.storeCtx (4096 * j.inst + j.entry.ctx.toNat) { c with message := c.message ++ j.input }] }) ∧
    (bits j.entry.param.toNat 63 62 = 3 → ∀ c n, look (4096 * j.inst + j.entry.ctx.toNat) s.ctxs = some c →
      hashOut (entryOpc j.entry) j.entry = some n →
      Gives (.hash slot) s fun t => Computed s t slot (hashEngine (setOf j))
        { output := hashOf (setOf j) (c.message ++ j.input) n
          acts := [.closeCtx (4096 * j.inst + j.entry.ctx.toNat)] })) ∧
  ((∀ (slot : Fin 16384) (s : State) (j : Job), OpAt s slot j 0x10 2 →
    (s.meas.mlog.length + 65536 ≤ 131072 → Gives (.measure slot) s fun t => Computed s t slot 4
      { acts := [.extendMeasure (8 + 8 * j.inst + bits j.entry.param.toNat 2 0) 2 j.inst
          (if bit j.entry.param.toNat 8 then sha384 j.input else j.input)] }) ∧
    (131072 < s.meas.mlog.length + 65536 → Gives (.measure slot) s fun t =>
      Stands t slot fun r => r.status = .stateConflict)) ∧
  (∀ (slot : Fin 16384) (s : State) (j : Job), OpAt s slot j 0x10 3 →
    Gives (.quote slot) s fun t => ∃ res, Computed s t slot 5 res ∧
      ((res.status = .ok ∧ j.attrs1 <+: res.output) ∨ res.status = .engineFault ∧ res.output = [])))

/-! ### Key management, utility and recipes -/

namespace Sys2Proof.Claims

open Sys2Proof Sys2Proof.Machine

/-- CLASS and BINDING that PARAM asks of a key management record (R397). -/
structure Asked (j : Job) (origin : Nat) (r : KeyRecord) : Prop where
  owner : r.owner = j.inst
  cls : r.cls = bits j.entry.param.toNat 15 8
  binding : r.binding = BitVec.ofNat 16 (bits j.entry.param.toNat 31 16)
  flags : r.flags.toNat % 8 = asked j
  origin : r.origin = origin

/-- The record at the index that the job's reservation takes, and its handle in the output (R225). -/
def CreatedNow (s t : State) (k : Nat) (P : KeyRecord → Prop) : Prop :=
  ∃ x r, s.freeIndex = some x ∧ t.record x = some r ∧ P r ∧
    Stands t k fun res => res.status = .ok ∧ res.outLen = 8 + res.output.length

end Sys2Proof.Claims

/-- R393, R397, R400 to R405, R415: key management operations on engines hold the record or the bytes that their
table gives them, and reject a CLASS and BINDING pair outside R397, a flag KEY0 does not have, or a blob that does
not open. -/
def Obligations.KeyManagementComputesItsResult : Prop :=
  ∀ (slot : Fin 16384) (s : State) (j : Job),
    (OpAt s slot j 0x0C 3 → setOf j = 0 → kmPair j.entry = true → j.carries (asked j) = true →
      Gives (.kmDerive slot) s fun t => ∃ r, Computed s t slot 3 { acts := [.createRecord r] } ∧
        Asked j 2 r ∧ r.parent = j.entry.key0 ∧ r.flag 7 = j.domainParent ∧
        r.secret = kmac256 j.key0 (le 2 r.binding.toNat ++ j.input) (ascii "KQ9-DERIVE") (symLen r.binding)) ∧
    (OpAt s slot j 0x0C 3 → setOf j = 0 → (kmPair j.entry = false ∨ j.carries (asked j) = false) →
      Gives (.kmDerive slot) s fun t => Rejected t slot) ∧
    (OpAt s slot j 0x0C 4 → setOf j = 0 → ∀ n, n = bits j.entry.param.toNat 7 0 → 16 ≤ n → n ≤ 64 →
      Gives (.kmDeriveRelease slot) s fun t => Computed s t slot 3
        { output := kmac256 j.key0 (le 2 0xFFFF ++ j.input) (ascii "KQ9-DERIVE") n }) ∧
    (OpAt s slot j 0x0C 5 → setOf j = 0 → Gives (.kmWrap slot) s fun t => Computed s t slot 6
      { output := aesKwp j.key0 j.key1 }) ∧
    (OpAt s slot j 0x0C 6 → setOf j = 0 → kmPair j.entry = true → j.input.length % 8 = 0 → 16 ≤ j.input.length →
      Gives (.kmUnwrap slot) s fun t =>
        match (aesKwpInv j.key0 j.input).filter fun b =>
            symLenOk (BitVec.ofNat 16 (bits j.entry.param.toNat 31 16)) b.length with
        | some b => ∃ r, Computed s t slot 6 { acts := [.createRecord r] } ∧ Asked j 6 r ∧ r.secret = b ∧
          r.parent = j.entry.key0
        | none => Computed s t slot 6 { status := .verifyFail }) ∧
    (OpAt s slot j 0x0C 7 → setOf j = 0 → Gives (.kmExport slot) s fun t => ∃ head ct tag,
      Computed s t slot 6 { output := head ++ ct ++ tag } ∧ ascii "KQ9KEXPT" <+: head ∧
      (ct, tag) = gcmSeal (s.exportKey (j.random.take 16)) ((j.random.drop 16).take 12) head (j.key0 ++ j.pub0)) ∧
    (OpAt s slot j 0x0C 8 → setOf j = 0 → s.blobBody j.input = none →
      Gives (.kmImport slot) s fun t => Rejected t slot) ∧
    (OpAt s slot j 0x0C 8 → setOf j = 0 → ∀ body a n, s.blobBody j.input = some body →
      a = (j.input.drop 96).take 64 → n = fieldLe 16 4 a →
      floatFlagOk (fieldLe 8 1 a) (BitVec.ofNat 16 (fieldLe 10 2 a)) (fieldLe 12 4 a &&& 0x8F) = true →
      Gives (.kmImport slot) s fun t => ∃ r, Computed s t slot 6 { acts := [.createRecord r] } ∧
        r.owner = j.inst ∧ r.origin = 7 ∧ r.cls = fieldLe 8 1 a ∧ r.secret = body.take n ∧ r.pub = body.drop n) ∧
    (OpAt s slot j 0x0C 12 → setOf j = 0 → Gives (.kmProve slot) s fun t => Computed s t slot 3
      { output := kmac256 j.key0 (s.identityDigest ++ (if j.entry.key1 = 0 then j.attrs0 else j.attrs1) ++ j.input)
          (ascii "KQ9-PROVE") 32 })

/-- R23, R394, R396 to R399, R416 to R418: the key management operations without engine commands take effect as the
job ends, where no shield holds it: KM_GENERATE and KM_IMPORT_PUBLIC create their record, KM_DELETE removes the
record it pinned, PEER_SET_SECRET and PEER_REVOKE change their peer record, KM_UPDATE moves its counter to the
message's sequence number, KM_INFO and PEER_INFO return what was pinned; one whose record has changed since it was pinned ends with KEY_REFUSED and changes nothing. -/
def Obligations.KeyManagementChangesItsRecords : Prop :=
  ∀ (slot : Fin 16384) (s : State) (j : Job), s.shields j = false → j.runKeys = [] → j.region = none →
    (OpAt s slot j 0x0C 2 → setOf j = 0 → kmPair j.entry = true → s.freeIndex.isSome = true →
      Gives (.kmGenerate slot) s fun t => CreatedNow s t slot fun r => Asked j 1 r ∧
        r.secret = fit (symLen r.binding) j.random) ∧
    (OpAt s slot j 0x0C 9 → setOf j = 0 → kmPair j.entry = true → s.freeIndex.isSome = true →
      bindingPublicOk (BitVec.ofNat 16 (bits j.entry.param.toNat 31 16)) j.input = true →
      Gives (.kmImportPublic slot) s fun t => CreatedNow s t slot fun r => Asked j 8 r ∧
        r.secret = [] ∧ r.pub = j.input) ∧
    (OpAt s slot j 0x0C 10 → setOf j = 0 → ∀ r, s.record (handleIndex j.entry.key0) = some r →
      (r.gen = handleGen j.entry.key0 → Gives (.kmDelete slot) s fun t =>
        (Stands t slot fun res => res.status = .ok) ∧ t.record (handleIndex j.entry.key0) = none ∧
        ∀ x, x ≠ handleIndex j.entry.key0 → t.record x = s.record x) ∧
      (r.gen ≠ handleGen j.entry.key0 → Gives (.kmDelete slot) s fun t =>
        (Stands t slot fun res => res.status = .keyRefused ∧ res.detail = 0) ∧
        t.keys.records = s.keys.records)) ∧
    (OpAt s slot j 0x0C 11 → setOf j = 0 → Gives (.kmInfo slot) s fun t =>
      Stands t slot fun res => res.status = .ok ∧ res.output = j.attrs0 ++ j.pub0) ∧
    (OpAt s slot j 0x0C 13 → setOf j = 0 → ∀ p r,
      look (handleIndex j.entry.key0 - peerBase) s.keys.peers = some p → p.gen = handleGen j.entry.key0 →
      s.record (handleIndex j.entry.key1) = some r → r.gen = handleGen j.entry.key1 →
      Gives (.peerSetSecret slot) s fun t => (Stands t slot fun res => res.status = .ok) ∧
        look (handleIndex j.entry.key0 - peerBase) t.keys.peers =
          some { p with secret := j.key1, secretPresent := true } ∧
        t.record (handleIndex j.entry.key1) = none) ∧
    (OpAt s slot j 0x0C 14 → setOf j = 0 → ∀ p,
      look (handleIndex j.entry.key0 - peerBase) s.keys.peers = some p → p.gen = handleGen j.entry.key0 →
      Gives (.peerRevoke slot) s fun t => (Stands t slot fun res => res.status = .ok) ∧
        look (handleIndex j.entry.key0 - peerBase) t.keys.peers = some { p with revoked := true }) ∧
    (OpAt s slot j 0x0C 15 → setOf j = 0 → Gives (.peerInfo slot) s fun t =>
      Stands t slot fun res => res.status = .ok ∧ res.output = j.attrs0) ∧
    (OpAt s slot j 0x0C 1 → setOf j = 0 →
      (∀ xs, s.judgeUpdate j.input = .ok xs → Gives (.kmUpdate slot) s fun t =>
        (Stands t slot fun res => res.status = .ok) ∧ (fieldLe 10 1 j.input < s.keys.counters.length →
          t.keys.counters.getD (fieldLe 10 1 j.input) 0 = fieldLe 16 8 j.input)) ∧
      (∀ c st, s.judgeUpdate j.input = .error (c, st) → Gives (.kmUpdate slot) s fun t =>
        (Stands t slot fun res => res.status = st) ∧ t.keys.records = s.keys.records))

/-- R168, R172, R361 to R365, R437, R438, R538: NOP and FENCE end with OK and touch nothing; RANDOM_GENERATE draws
OUT_BYTES bytes, one to 16,777,216 of them; RANDOM_RESEED ends with OK; the recipe opcodes load, unload, describe
and begin a recipe; an opcode that no chapter defines ends with BAD_OPCODE and the opcode in DETAIL. -/
def Obligations.UtilityRandomAndRecipeOperations : Prop :=
  ∀ (slot : Fin 16384) (s : State) (j : Job),
    (OpAt s slot j 0x10 0 → setOf j = 0 → Gives (.nop slot) s fun t =>
      (Stands t slot fun r => r.status = .ok ∧ r.output = []) ∧ t.out = s.out) ∧
    (OpAt s slot j 0x10 1 → setOf j = 0 → Gives (.fence slot) s fun t =>
      (Stands t slot fun r => r.status = .ok ∧ r.output = []) ∧ t.out = s.out) ∧
    (OpAt s slot j 0x0D 1 → ∀ n, n = bits j.entry.param.toNat 31 0 → 1 ≤ n → n ≤ 16777216 →
      Gives (.randomGenerate slot) s fun t => ∃ res, Computed s t slot 6 res ∧ res.status = .ok ∧
        res.output = (List.range n).map (fun i => Config.freeByte (s.free + i)) ∧ t.free = s.free + n ∧
        (t.inst j.inst).drbg.requests = (s.inst j.inst).drbg.requests + (n + 65535) / 65536) ∧
    (OpAt s slot j 0x0D 1 → (bits j.entry.param.toNat 31 0 = 0 ∨ 16777216 < bits j.entry.param.toNat 31 0) →
      Gives (.randomGenerate slot) s fun t => Rejected t slot ∧ t.free = s.free) ∧
    (OpAt s slot j 0x0D 2 → Gives (.randomReseed slot) s fun t => Stands t slot fun r => r.status = .ok) ∧
    (OpAt s slot j 0x0E 1 → j.told.contains 9 = false → ∀ r, j.run = some r → Gives (.recipeRun slot) s fun t =>
      runOf t slot = some { r with mem := r.mem.writeN 0x100000 r.dataSection }) ∧
    (OpAt s slot j 0x0E 2 → s.shields j = false → j.runKeys = [] → Gives (.recipeLoad slot) s fun t =>
      (s.packageOk j.input = true → (Stands t slot fun r => r.status = .ok) ∧
        t.recipe j.inst (recipeSlot j.entry) = some { package := j.input }) ∧
      (s.packageOk j.input = false → Rejected t slot ∧
        t.recipe j.inst (recipeSlot j.entry) = s.recipe j.inst (recipeSlot j.entry))) ∧
    (OpAt s slot j 0x0E 3 → s.shields j = false → Gives (.recipeUnload slot) s fun t =>
      (Stands t slot fun r => r.status = .ok) ∧ t.recipe j.inst (recipeSlot j.entry) = none) ∧
    (OpAt s slot j 0x0E 4 → Gives (.recipeInfo slot) s fun t =>
      Stands t slot fun r => r.status = .ok ∧ r.output = j.attrs0) ∧
    (s.job slot = some j → j.phase = .dispatched → (entryOpc j.entry).defined = false →
      Gives (.undefinedOpcode slot) s fun t => Stands t slot fun r =>
        r.status = .badOpcode ∧ r.detail = j.entry.opcode.setWidth 64)

/-! ### Power, tamper and start -/

namespace Sys2Proof.Claims

open Sys2Proof Sys2Proof.Machine

/-- A main rail counts as present. -/
def railOf (s : State) : Rail → Bool
  | .v12 => s.pwr.rail12
  | .v3v3 => s.pwr.rail3v3

/-- The log takes a record of a severity: its buffer has a place and the log is not full (R505, R506). -/
def logTakes (s : State) (severity : Nat) : Prop := s.log.hasPlace severity = true ∧ s.log.full = false

/-- An event of a code waits in the log buffer with the next sequence number (R501, R505). -/
def Logged (s t : State) (c : EventCode) : Prop :=
  ∃ e, t.log.buffer = s.log.buffer ++ [e] ∧ e.code = BitVec.ofNat 16 c.code ∧ e.severity = c.severity ∧
    e.seq = s.warden.nextSeq

/-- The words decode to a life-cycle state and no intent slot is written or interrupted. -/
def settledWords (s : State) (v : Nat) : Prop :=
  lcDecode s.otp = some v ∧ ∀ x ∈ s.otp.intents, slotContent x = .closed ∨ slotContent x = .unused

end Sys2Proof.Claims

/-- R60 to R65, R72: the power-fail sequence: the loss of a main rail begins ride-through, 10 ms and 20 ms where the
bank carries them; its end stops fetching and opens the contacts; the end of the in-flight window stops every job
unless the rails are back; the flush ends in service with the rails present, and with the die off without them;
a rail that returns during ride-through ends the sequence; a bank below 1.0 J at full charge is a fault. -/
def Obligations.PowerFailsInItsStages : Prop :=
  (∀ (rail : Rail) (load stored : Nat) (s : State), s.pwr.stage = .normal → s.pwr.dieOn = true →
    s.start.phase = .ready → 0 < load → 30000000 * load ≤ (stored - 600) * 1000000000 →
    Gives (.mainRailLoss rail load stored) s fun t => t.pwr.stage = .rideThrough ∧ t.pwr.stageSince = s.now ∧
      t.pwr.rideNs = 10000000 ∧ t.pwr.windowNs = 20000000 ∧ railOf t rail = false ∧ t.jobs = s.jobs) ∧
  (∀ (rail : Rail) (load stored : Nat) (s : State), s.pwr.stage ≠ .normal →
    Gives (.mainRailLoss rail load stored) s fun t => railOf t rail = false ∧ t.pwr.stage = s.pwr.stage) ∧
  (∀ s : State, s.pwr.stage = .rideThrough → s.lc.transition = none →
    Gives .rideThroughEnd s fun t => t.pwr.stage = .inFlight ∧ t.start.fetchStopped = true ∧ t.pwr.alive = false ∧
      t.pwr.alive1k = false ∧ s.pwr.stageSince + s.pwr.rideNs ≤ t.now ∧ t.jobs = s.jobs) ∧
  (∀ s : State, s.pwr.stage = .inFlight → (s.jobs.map (·.1)).Nodup →
    Gives .inFlightWindowEnd s fun t => t.pwr.stage = .flushing ∧
      (s.pwr.rail12 = false ∨ s.pwr.rail3v3 = false → ∀ x ∈ t.jobs, x.2.phase = .finished)) ∧
  (∀ s : State, s.pwr.stage = .flushing → s.pwr.rail12 = true → s.pwr.rail3v3 = true → s.start.phase = .ready →
    s.faults.deferred = [] →
    Gives .flushDone s fun t => t.pwr.stage = .normal ∧ t.start.fetchStopped = false ∧ t.start.phase = .ready) ∧
  (∀ s : State, s.pwr.stage = .flushing → s.pwr.rail12 = false ∨ s.pwr.rail3v3 = false →
    Gives .flushDone s fun t => t.pwr.stage = .off ∧ t.pwr.dieOn = false ∧ t.pwr.alive = false ∧
      t.clk.devTime = none ∧ t.start.vmek = none ∧ t.log.buffer = [] ∧ t.jobs = [] ∧ t.otp = s.otp) ∧
  (∀ (rail : Rail) (s : State), Gives (.mainRailReturn rail) s fun t => railOf t rail = true ∧
    (t.pwr.rail12 = true → t.pwr.rail3v3 = true → s.pwr.stage = .rideThrough → t.pwr.stage = .normal) ∧
    (s.pwr.stage ≠ .rideThrough → t.pwr.stage = s.pwr.stage) ∧ t.jobs = s.jobs ∧ t.keys = s.keys) ∧
  (∀ (full stored : Nat) (s : State), s.faults.open_.length < 64 →
    Gives (.holdupMeasure full stored) s fun t => t.pwr.holdupMj = stored ∧
      (2400 ≤ full → t.faults = s.faults ∧ t.log = s.log) ∧
      (1000 ≤ full → full < 2400 → logTakes s 2 → Logged s t .holdupLow ∧ t.faults = s.faults) ∧
      (full < 1000 → ∃ r ∈ t.faults.open_, r.source = 0x11)) ∧
  (∀ (up : Bool) (s : State), exec (.auxRailChange up) s = .next { s with pwr := { s.pwr with aux := up } })

/-- R36, R37, R39, R43, R46, R47, R49, R52, R71, R485: a broken mesh, a loop whose third pulse in a row finds its
condition and a can temperature beyond its limits set the tamper latch with its cause, and halt a die that has
started; ALIVE and ALIVE_1K change in DEVICE_READY in TEST, FACTORY or DEPLOYED without warning or debug and else
open; an overcurrent of VDD turns it off; dispatch pauses at 100 °C and 0.65 V and resumes at 95 °C. -/
def Obligations.WardenActsOnTamperAndLimits : Prop :=
  (∀ s : State, exec (.tamperMeshCheck true) s = .next s) ∧
  (∀ s : State, Gives (.tamperMeshCheck false) s fun t => t.warden.latch = true ∧ t.warden.causeMesh = true ∧
    (s.pwr.dieOn = true → s.start.began = true → s.start.phase ≠ .halted → s.lc.transition = none →
      t.start.phase = .halted ∧ t.start.vmek = none ∧ t.jobs = []) ∧
    (s.pwr.dieOn = false → t.start = s.start ∧ t.keys = s.keys)) ∧
  (∀ (ohm : Nat) (s : State), s.warden.loopMode = 2 → 3000 ≤ ohm → s.warden.loopRun = 2 →
    s.warden.loopCondition = false →
    Gives (.tamperLoopPulse ohm) s fun t => t.warden.latch = true ∧ t.warden.causeLoop = true) ∧
  (∀ (ohm : Nat) (s : State), s.warden.loopMode = 3 → (ohm < 3900 ∨ 5600 < ohm) → s.warden.loopRun = 2 →
    s.warden.loopCondition = false →
    Gives (.tamperLoopPulse ohm) s fun t => t.warden.latch = true ∧ t.warden.causeLoop = true) ∧
  (∀ (ohm : Nat) (s : State), (s.warden.loopMode ≤ 1 ∨ s.warden.loopRun < 2) →
    Gives (.tamperLoopPulse ohm) s fun t => t.warden.latch = s.warden.latch ∧ t.warden.loopOhm = ohm ∧
      t.start = s.start) ∧
  (∀ (mc : Int) (s : State), Gives (.canTemperatureLimit mc) s fun t =>
    (mc < -40000 ∨ 120000 < mc → t.warden.latch = true ∧ t.warden.causeTemp = true) ∧
    (-40000 ≤ mc → mc ≤ 120000 → t = s)) ∧
  (∀ s : State,
    let runs := s.start.phase = .ready ∧ (s.lcState = 1 ∨ s.lcState = 2 ∨ s.lcState = 3) ∧
      s.pwr.stage ≠ .inFlight ∧ s.pwr.stage ≠ .flushing ∧ s.warden.debugFlag = false
    Gives .aliveToggle s (fun t => (runs → t.pwr.alive = !s.pwr.alive) ∧ (¬runs → t.pwr.alive = false) ∧
      t = { s with pwr := { s.pwr with alive := t.pwr.alive } }) ∧
    Gives .alive1kToggle s (fun t => (runs → t.pwr.alive1k = !s.pwr.alive1k) ∧ (¬runs → t.pwr.alive1k = false) ∧
      t = { s with pwr := { s.pwr with alive1k := t.pwr.alive1k } })) ∧
  (∀ s : State, s.card.vdd = true → Gives .cardVddOvercurrent s fun t => t.card.vdd = false ∧
    t.card.state = .empty ∧ (s.card.op.state = 1 → t.card.op.state = 3)) ∧
  (∀ (mc : Int) (s : State), 100000 ≤ mc → s.gov.vcore = 650 → s.pwr.thermalPaused = false →
    Gives (.thermalPause mc) s fun t => t.pwr.thermalPaused = true ∧ t.pwr.dieMc = mc ∧
      t.mayDispatch = false ∧ t.jobs = s.jobs ∧ t.insts = s.insts ∧
      (logTakes s 3 → Logged s t .thermalPause)) ∧
  (∀ (mc : Int) (s : State), mc ≤ 95000 → s.pwr.thermalPaused = true →
    Gives (.thermalResume mc) s fun t => t.pwr.thermalPaused = false ∧ t.pwr.dieMc = mc)

/-- R50, R73 to R85, R420, R431, R490: a start from its first step to DEVICE_READY or HALTED: a cold or warm start
clears what is volatile and begins the known-answer tests, but a cold one in BLANK or SCRAP stays with the warden and
shows that the retained register has lost the tamper latch; units that fail the tests are retired; an internal DRBG
instance takes its first seed; 50 ms without one halt the start; the preferred firmware slot runs where its image
is accepted, and the start halts where none is; the archive mounts, or halts the start on the tamper latch, on its
loss, or on an archive generation below the OTP one. -/
def Obligations.StartsReachReadyOrHalted : Prop :=
  (∀ (coin stored full v : Nat) (lost : Bool) (s : State), s.pwr.rail12 = true → s.pwr.rail3v3 = true →
    (s.port 0).perst = false → s.pwr.stage = .off → s.shelf = none → 2600 ≤ coin → 2400 ≤ full →
    settledWords s v → v ∈ [1, 2, 3, 4] →
    Gives (.startCold coin stored full lost) s fun t => t.start.phase = .selfTest ∧ t.start.began = true ∧
      t.start.warm = false ∧ t.start.cause = (if s.start.powerFailed then 1 else 0) ∧ t.start.t0 = s.now ∧
      t.pwr.dieOn = true ∧ t.pwr.stage = .normal ∧ t.jobs = [] ∧ t.mgmt.sessions = [] ∧ t.ctxs = [] ∧
      t.clove = List.replicate 72 [] ∧ t.saffron = List.replicate 18 {} ∧ t.start.vmek = none ∧
      s.warden.nextSeq ≤ t.warden.nextSeq) ∧
  (∀ (coin stored full v : Nat) (lost : Bool) (s : State), s.pwr.rail12 = true → s.pwr.rail3v3 = true →
    (s.port 0).perst = false → s.pwr.stage = .off → s.shelf = none → 2600 ≤ coin → 2400 ≤ full →
    settledWords s v → v ∈ [0, 5] →
    Gives (.startCold coin stored full lost) s fun t => t.start.phase = .warden ∧ t.start.began = true ∧
      t.pwr.dieOn = true ∧ t.pwr.stage = .normal ∧ t.pwr.coinMv = coin ∧
      t.warden.cellLost = (s.warden.cellLost || lost) ∧ t.warden.latch = (s.warden.latch && !lost) ∧
      t.warden.nextSeq = s.warden.nextSeq ∧ t.keys = s.keys ∧ t.insts = s.insts ∧ t.log = s.log) ∧
  (∀ (coin stored full v : Nat) (s : State), s.start.draining = some .restart → s.jobs = [] →
    s.pwr.stage = .normal → 2600 ≤ coin → 2400 ≤ full → s.warden.debugFlag = false →
    settledWords s v → v ∈ [1, 2, 3, 4] →
    Gives (.startWarm coin stored full) s fun t => t.start.phase = .selfTest ∧ t.start.warm = true ∧
      t.start.cause = (if s.start.phase = .halted then 3 else 2) ∧ t.jobs = [] ∧ t.mgmt.sessions = [] ∧
      t.clove = List.replicate 72 []) ∧
  (∀ (failed : List Nat) (s : State), s.start.phase = .selfTest → s.start.katDone = false →
    Gives (.katComplete failed) s fun t => t.start.katDone = true ∧
      (t.start.phase = .firmware ∨ t.start.phase = .halted) ∧
      ∀ u ∈ failed, u < 387 → u < s.units.length → (t.units.getD u {}).state = .retired) ∧
  (∀ (j : Fin 16) (s : State), s.rng.internal.length = 16 → (s.rng.internal.getD j {}).instantiated = false →
    (∀ i < j.val, (s.rng.internal.getD i {}).instantiated = true) → 2 ≤ s.rng.internalBlocks →
    Gives (.drbgFirstSeed j) s fun t => (t.rng.internal.getD j {}).instantiated = true ∧
      t.rng.masksSeeded = true ∧ t.start.seedDone = true) ∧
  (∀ s : State, s.start.seedDone = false → s.start.phase = .selfTest →
    Gives .entropyStartFail s fun t => t.start.phase = .halted ∧ t.start.haltCause = 0x0205 ∧
      s.start.fabricAt + 50000000 ≤ t.now) ∧
  (∀ (a b c : FwImage) (s : State), s.start.phase = .firmware → s.start.katDone = true →
    (s.odNum 0x130007 = 0 → a.present = true → a.mldsaOk = true → a.ecdsaOk = true → s.otp.fwMin ≤ a.version →
      Gives (.firmwareAuthenticated a b c) s fun t => t.start.phase = .archive ∧ t.start.fwDone = true ∧
        t.start.fwSlot = 0 ∧ t.start.fwVersion = a.version ∧
        (s.meas.mlog.length < 131072 → 0 < s.meas.mr.length →
          t.meas.mr.getD 0 [] = sha384 (s.meas.mr.getD 0 [] ++ fit 48 a.digest))) ∧
    (s.accepts a = false → s.accepts b = false → s.card.detect = false →
      Gives (.firmwareAuthenticated a b c) s fun t => t.start.phase = .halted ∧ t.start.haltCause = 0x0204)) ∧
  (∀ s : State, s.start.phase = .archive → s.start.fwDone = true → s.start.seedDone = true →
    (s.warden.latch = true ∨ s.warden.cellLost = true → Gives .archiveMount s fun t =>
      t.start.phase = .halted ∧ t.start.haltCause = 0x0105 ∧ t.start.mounted = s.start.mounted) ∧
    (s.warden.latch = false → s.warden.cellLost = false → (deviceRoot s.otp).isSome = true →
      s.card.markerSet = false → s.start.readOnly = false →
      (s.keys.archiveGen < s.otp.genBits → Gives .archiveMount s fun t =>
        t.start.phase = .halted ∧ t.start.haltCause = 0x0206) ∧
      (s.otp.genBits ≤ s.keys.archiveGen → Gives .archiveMount s fun t =>
        t.start.phase = .ready ∧ t.start.mounted = true ∧ t.start.vmek.isSome = true)))

/-! ### Entropy and tempo -/

/-- R424 to R426, R429, R433: a sample that passes its tests goes into the pool at the next position while credit is
wanted; one that fails a test drops its source; a reseed gives the mask generators their seed.
R441, R442, R444, R446: a tempo window sets TEMPO_PS and moves the voltage floor 10 mV, up above 2,150 ps, down
after 1,000 calm windows, within 650 to 900 mV; power above 98 % of the effective cap lowers the core supply by
10 mV, and at the floor gates one sixteenth more, at most fifteen. -/
def Obligations.NoiseTempoAndPowerAreGoverned : Prop :=
  ((∀ (i : Fin 18) (b : Bool) (s : State) (n : Source), s.sourcesRun = true → s.sourceEnabled i = true →
    s.rng.sources[i.val]? = some n → n.retired = false →
    ((n.sample (sourceKind i) b).2 = 0 → n.admitted = true → s.rng.running = true → s.rng.ready = none →
      s.rng.credit + (cutOffs (sourceKind i) n.vonNeumann).1 < 32000 →
      Gives (.noiseSourceSample i b) s fun t =>
        t.rng.pool = s.rng.pool ^^^ BitVec.ofNat 512 ((if b then 1 else 0) * 2 ^ s.rng.poolPos) ∧
        t.rng.poolPos = (s.rng.poolPos + 1) % 512 ∧
        t.rng.credit = s.rng.credit + (cutOffs (sourceKind i) n.vonNeumann).1 ∧ t.rng.taken = s.rng.taken + 1) ∧
    ((n.sample (sourceKind i) b).2 ≠ 0 → s.faults.open_.length < 62 →
      Gives (.noiseSourceSample i b) s fun t => ∃ m, t.rng.sources[i.val]? = some m ∧ m.admitted = false ∧
        m.failed = true)) ∧
  (∀ s : State, s.internalServes = true → Gives .maskGeneratorReseed s fun t => t.rng.masksSeeded = true ∧
    t.free = s.free + 32)) ∧
  ((∀ (ps : Nat) (s : State), s.pwr.dieOn = true → ps ≠ 0 → Gives (.tempoWindow ps) s fun t =>
    t.gov.tempo = ps ∧
    (2150 < ps → t.gov.floor = min 900 (s.gov.floor + 10)) ∧
    (ps ≤ 2000 → 999 ≤ s.gov.calmWindows → t.gov.floor = max 650 (s.gov.floor - 10)) ∧
    (ps ≤ 2000 → s.gov.calmWindows < 999 → t.gov.floor = s.gov.floor ∧
      t.gov.calmWindows = s.gov.calmWindows + 1) ∧
    (950 ≤ ps → s.gov.vcore < t.gov.floor → t.gov.vcore = s.gov.vcore + 10) ∧
    (950 ≤ ps → t.gov.floor ≤ s.gov.vcore → t.gov.vcore = s.gov.vcore)) ∧
  (∀ (mw waiting cap : Nat) (mc : Int) (s : State), s.pwr.dieOn = true →
    cap = min (s.odNum 0x120006) (capLimit mc (s.odNum 0x11000D)) → 98 * (1000 * cap) < 100 * mw →
    Gives (.governorTick mw waiting mc) s fun t => t.gov.effCap = cap ∧ t.pwr.inputMw = mw ∧
      t.gov.energyNj = s.gov.energyNj + 100 * mw ∧
      (s.gov.floor + 10 ≤ s.gov.vcore → t.gov.vcore = s.gov.vcore - 10 ∧ t.gov.gated = s.gov.gated) ∧
      (s.gov.vcore < s.gov.floor + 10 → t.gov.vcore = s.gov.vcore ∧ t.gov.gated = min 15 (s.gov.gated + 1))))

/-! ### Management sessions and the dictionary -/

namespace Sys2Proof.Claims

open Sys2Proof Sys2Proof.Machine

/-- A new request of an open session: its frame is taken, its SEQ fresh and not at its end, its REQUEST_ID not among
the last 16 (R100, R109, R112). -/
structure Requests (s : State) (z : ZReq) (x : Session) : Prop where
  session : s.session z.session = some x
  serves : s.zynboServes = true
  datagram : (s.takeDatagram x.inBand).isSome = true
  opened : x.opened = true
  fresh : x.fresh z.seq = true
  room : z.seq < 0xFFFFFFFF ∧ x.rxHigh < 0xFFFFFFFF ∧ x.txSeq + 1 < 0xFFFFFFFF
  new : x.responses.find? (·.1 == z.requestId) = none

/-- The block has sent the response of a service: its code, RESULT and VALUE (Table - Service header). -/
def Answered (s t : State) (z : ZReq) (x : Session) (svc : Nat) (st : Status) (v : Bytes) : Prop :=
  ∃ pre post, t.out = s.out ++ pre ++
    [.frame x.inBand 0x11 z.session (responsePayload svc z.requestId { status := st, value := v })] ++ post

/-- The number of an entry's key. -/
abbrev keyNum (k : OdKey) : Nat := OdKey.num k

end Sys2Proof.Claims

/-- R102, R105, R109, R110, R112, R117, R124: openings, requests and the ends of sessions: OPEN_1 begins an opening,
is answered OPEN_BUSY beyond the limits, or is refused and counted; OPEN_3 opens the session or ends it; KEEPALIVE,
CLOSE, SUBSCRIBE, UNSUBSCRIBE and RESTART answer and take effect; timeouts end what they time; a frame that is old or
does not verify is counted and discarded; a service no table names is answered BAD_SERVICE. -/
def Obligations.SessionsOpenAnswerAndClose : Prop :=
  (∀ (chan : Option (Fin 4)) (id : BitVec 64) (role : Nat) (nonce x25519 ek c : Bytes) (s : State),
    s.zynboServes = true → (s.takeDatagram (chan.map (·.val))).isSome = true →
    (s.mgmt.sessions.length < 16 → (s.mgmt.sessions.filter fun x => !x.opened).length < 4 →
      s.internalServes = true → s.credential id = some c → s.openingRefused (chan.map (·.val)) id role = false →
      Gives (.open1 chan id role nonce x25519 ek) s fun t => t.mgmt.nextSession = s.mgmt.nextSession + 1 ∧
        ∃ x, t.mgmt.sessions = s.mgmt.sessions ++ [x] ∧ x.id = BitVec.ofNat 32 s.mgmt.nextSession ∧
          x.credId = id ∧ x.opened = false ∧ x.inBand = chan.map (·.val) ∧ x.startedAt = s.now ∧
          x.role = if role = 0 then credRole c else role) ∧
    (16 ≤ s.mgmt.sessions.length → Gives (.open1 chan id role nonce x25519 ek) s fun t =>
      t.mgmt.sessions = s.mgmt.sessions ∧
      ∃ post, t.out = s.out ++ [.frame (chan.map (·.val)) 0x0E 0 []] ++ post) ∧
    (s.mgmt.sessions.length < 16 → (s.mgmt.sessions.filter fun x => !x.opened).length < 4 →
      s.internalServes = true → s.openingRefused (chan.map (·.val)) id role = true →
      Gives (.open1 chan id role nonce x25519 ek) s fun t => t.mgmt.sessions = s.mgmt.sessions ∧
        t.out = s.out ∧ t.counter 0x290011 0 = s.counter 0x290011 0 + 1)) ∧
  (∀ (id : BitVec 32) (sig : Bytes) (s : State) (x : Session), s.session id = some x → x.opened = false →
    s.zynboServes = true → s.now < x.startedAt + 10000000000 →
    (Config.check (.mldsaVerify 2) [x.pk, pureMsg (ascii "ZYNBO-OPEN") x.transcript, sig] = true →
      Gives (.open3 id sig) s fun t => ∃ y, t.session id = some y ∧ y.opened = true ∧ y.rxHigh = 3 ∧
        y.lastFrame = s.now ∧ ∃ pre post, t.out = s.out ++ pre ++
          [.frame x.inBand 0x04 id (s.open4Payload x.role)] ++ post) ∧
    (Config.check (.mldsaVerify 2) [x.pk, pureMsg (ascii "ZYNBO-OPEN") x.transcript, sig] = false →
      Gives (.open3 id sig) s fun t => t.session id = none ∧
        t.counter 0x290011 0 = s.counter 0x290011 0 + 1)) ∧
  (∀ (id : BitVec 32) (s : State) (x : Session), s.session id = some x →
    (x.opened = false → Gives (.openingTimeout id) s fun t => t.session id = none ∧
      x.startedAt + 10000000000 ≤ t.now) ∧
    (x.opened = true → Gives (.sessionIdleTimeout id) s fun t => t.session id = none ∧
      x.lastFrame + 1000000000 * s.odNum 0x29000E ≤ t.now)) ∧
  (∀ (id : BitVec 64) (s : State) (r : CredRefusal) (b : Nat), s.mgmt.refusals.find? (·.credId == id) = some r →
    r.blockedAt = some b → Gives (.credentialBlockEnd id) s fun t =>
      t.mgmt.refusals.find? (·.credId == id) = none ∧ b + 60000000000 ≤ t.now) ∧
  (∀ (z : ZReq) (s : State) (x : Session), Requests s z x →
    Gives (.keepalive z) s (fun t => Answered s t z x 0x41 .ok [] ∧ ∃ y, t.session z.session = some y ∧
      y.lastFrame = s.now ∧ y.rxHigh = max x.rxHigh z.seq) ∧
    Gives (.close z) s (fun t => Answered s t z x 0x42 .ok [] ∧ t.session z.session = none) ∧
    (∀ min inst, min ≤ 5 → inst ≤ 0xFFFF → Gives (.subscribe z min inst) s fun t =>
      Answered s t z x 0x30 .ok (le 8 s.warden.nextSeq) ∧ ∃ y, t.session z.session = some y ∧
        y.subSeverity = some min ∧ y.subInst = inst) ∧
    Gives (.unsubscribe z) s (fun t => Answered s t z x 0x31 .ok [] ∧ ∃ y, t.session z.session = some y ∧
      y.subSeverity = none) ∧
    (∀ nonce : BitVec 32, 3 ≤ x.role → nonce = s.start.restartNonce → s.lc.transition = none → s.warning = false →
      Gives (.restart z nonce) s fun t => Answered s t z x 0x40 .ok [] ∧ t.start.draining.isSome = true) ∧
    (∀ nonce : BitVec 32, 3 ≤ x.role → nonce ≠ s.start.restartNonce → Gives (.restart z nonce) s fun t =>
      Answered s t z x 0x40 .stateConflict [] ∧ t.start.draining = s.start.draining) ∧
    (∀ nonce : BitVec 32, x.role < 3 → Gives (.restart z nonce) s fun t =>
      Answered s t z x 0x40 .roleDenied [] ∧ t.start.draining = s.start.draining) ∧
    (∀ code : BitVec 8, knownService code.toNat = false → Gives (.unknownService (.zynbo z code)) s fun t =>
      Answered s t z x code.toNat .badService [])) ∧
  (∀ (id : BitVec 32) (seq : Nat) (ok : Bool) (s : State),
    (s.session id = none → Gives (.replayDiscard id seq ok) s fun t =>
      t.counter 0x290012 0 = s.counter 0x290012 0 + 1) ∧
    (∀ x, s.session id = some x → (ok = false ∨ x.fresh seq = false) → Gives (.replayDiscard id seq ok) s fun t =>
      t.mgmt = s.mgmt ∧ t.counter (if x.opened then 0x290012 else 0x290011) 0 =
        s.counter (if x.opened then 0x290012 else 0x290011) 0 + 1))

/-- R93 to R97, R113, R118 to R122: READ, DESCRIBE, NEXT and WRITE answer the checks of Table - Zynbo results in their
order and then the entry's value or its change; a transaction stages, commits all of its values at one point, or
rolls back. -/
def Obligations.EntriesAreReadWrittenAndCommitted : Prop :=
  (∀ (z : ZReq) (k : OdKey) (s : State) (x : Session), Requests s z x →
    (entryDef k = none → Gives (.read z k) s (fun t => Answered s t z x 0x01 .noSuchEntry []) ∧
      Gives (.describe z k) s (fun t => Answered s t z x 0x03 .noSuchEntry []) ∧
      ∀ v, Gives (.write z k v) s fun t => Answered s t z x 0x02 .noSuchEntry [] ∧ t.od = s.od) ∧
    (∀ d, entryDef k = some d → s.hidden x k = false → keyNum k ≠ 0x230005 → x.role < d.role →
      Gives (.read z k) s (fun t => Answered s t z x 0x01 .roleDenied []) ∧
      ∀ v, Gives (.write z k v) s fun t => Answered s t z x 0x02 .roleDenied [] ∧ t.od = s.od) ∧
    (∀ d, s.entryCheck x k true = .ok d → d.access ≠ .wo → d.ty.isDomain = false →
      Gives (.read z k) s fun t => ∃ m, m.txn = s.mgmt.txn ∧
        Answered s t z x 0x01 .ok (({ s with mgmt := m } : State).valueFor x (keyNum k)) ∧ t.od = s.od) ∧
    (∀ d, s.entryCheck x k false = .ok d →
      Gives (.describe z k) s fun t => Answered s t z x 0x03 .ok d.describe) ∧
    (∀ e, s.nextSeen x 1025 k = some e → Gives (.next z k) s fun t =>
      Answered s t z x 0x04 .ok (fields [(2, e.index.toNat), (1, e.sub.toNat), (1, 0)])) ∧
    (∀ d v, s.entryCheck x k false = .ok d → d.access = .ro → Gives (.write z k v) s fun t =>
      Answered s t z x 0x02 .accessDenied [] ∧ t.od = s.od) ∧
    (∀ d v, s.entryCheck x k false = .ok d → d.access = .rwt → d.ty.isDomain = false →
      d.ty.sizeOk v.length = true → lengthOk (keyNum k) v.length = true → rangeOk (keyNum k) d v = true →
      (s.ownsTxn x = false → Gives (.write z k v) s fun t => Answered s t z x 0x02 .stateConflict [] ∧
        t.od = s.od ∧ t.counter 0x100106 0 = s.counter 0x100106 0 + 1) ∧
      (s.ownsTxn x = true → s.halted = false → stageFits (stage (keyNum k) v s.mgmt.txn.staged) = true →
        Gives (.write z k v) s fun t => Answered s t z x 0x02 .ok [] ∧ t.od = s.od ∧
          look (keyNum k) t.mgmt.txn.staged = some v))) ∧
  (∀ (z : ZReq) (s : State) (x : Session), Requests s z x → s.halted = false →
    (s.mgmt.txn.open_ = false → Gives (.txnBegin z) s fun t =>
      Answered s t z x 0x10 .ok (le 4 ((s.mgmt.txn.id + 1) % 2 ^ 32)) ∧ t.mgmt.txn.open_ = true ∧
      t.mgmt.txn.id = (s.mgmt.txn.id + 1) % 2 ^ 32 ∧ t.mgmt.txn.session = z.session ∧ t.mgmt.txn.staged = []) ∧
    (s.mgmt.txn.open_ = true → Gives (.txnBegin z) s fun t => Answered s t z x 0x10 .stateConflict [] ∧
      t.mgmt.txn = s.mgmt.txn) ∧
    (∀ id : BitVec 32, s.ownsTxn x = true → s.mgmt.txn.id = id.toNat →
      (s.warning = false → s.lc.transition = none → s.firstRefused s.mgmt.txn.staged = none →
        (s.mgmt.txn.staged.map (·.1)).Nodup →
        Gives (.txnCommit z id) s fun t => Answered s t z x 0x11 .ok [] ∧ t.mgmt.txn.open_ = false ∧
          ∀ p ∈ s.mgmt.txn.staged, p.1 ≠ 0x230005 → p.1 ≠ 0x1F0007 → t.odBytes p.1 = p.2) ∧
      (∀ k, s.warning = false → s.lc.transition = none → s.firstRefused s.mgmt.txn.staged = some k →
        Gives (.txnCommit z id) s fun t => Answered s t z x 0x11 .stateConflict
          (fields [(2, k / 256), (1, k % 256), (1, 0), (2, 0x0105)]) ∧ t.od = s.od ∧
          t.mgmt.txn = s.mgmt.txn) ∧
      Gives (.txnRollback z id) s fun t => Answered s t z x 0x12 .ok [] ∧ t.mgmt.txn.open_ = false ∧
        t.mgmt.txn.staged = [] ∧ t.od = s.od) ∧
    (∀ id : BitVec 32, s.ownsTxn x = false →
      Gives (.txnCommit z id) s (fun t => Answered s t z x 0x11 .stateConflict [] ∧ t.mgmt.txn = s.mgmt.txn ∧ t.od = s.od) ∧
      Gives (.txnRollback z id) s fun t => Answered s t z x 0x12 .stateConflict [] ∧ t.mgmt.txn = s.mgmt.txn ∧
        t.od = s.od)) ∧
  (∀ (s : State) (x : Session), s.mgmt.txn.open_ = true → s.session s.mgmt.txn.session = some x →
    Gives .txnTimeout s fun t => t.mgmt.txn.open_ = false ∧ t.mgmt.txn.staged = [] ∧ t.od = s.od ∧
      x.lastService + 30000000000 ≤ t.now)

/-- R115, R116: a block transfer carries a value in segments of 1,024 bytes: it opens on one entry of one session,
keeps the segments of a write, answers those of a read from its snapshot, closes against the digest of the whole,
and ends when it is aborted or 10 s have passed without a segment. -/
def Obligations.BlockTransfersCarryLongValues : Prop :=
  (∀ (z : ZReq) (k : OdKey) (s : State) (x : Session), Requests s z x →
    (∀ d, s.entryCheck x k true = .ok d → d.access ≠ .wo → s.blockBusy x (keyNum k) d = false → x.block = none →
      Gives (.blockOpen z k 0 0) s fun t => ∃ y b, t.session z.session = some y ∧ y.block = some b ∧
        b.key = keyNum k ∧ b.write = false ∧ b.total = b.snapshot.length ∧ b.lastData = s.now ∧
        Answered s t z x 0x20 .ok (fields [(4, b.snapshot.length), (2, 1024)])) ∧
    (∀ d total, s.entryCheck x k false = .ok d → d.access ≠ .ro → d.ty.sizeOk total = true →
      lengthOk (keyNum k) total = true → s.blockBusy x (keyNum k) d = false → x.block = none → s.halted = false →
      Gives (.blockOpen z k 1 total) s fun t => ∃ y b, t.session z.session = some y ∧ y.block = some b ∧
        b.key = keyNum k ∧ b.write = true ∧ b.total = total ∧ b.segs = [] ∧
        Answered s t z x 0x20 .ok (fields [(4, total), (2, 1024)])) ∧
    (∀ b d seg data, x.block = some b → b.key = keyNum k → s.entryCheck x k (!b.write) = .ok d →
      (1024 * seg < b.total → b.write = true → data.length = min 1024 (b.total - 1024 * seg) →
        Gives (.blockData z k seg data) s fun t => Answered s t z x 0x21 .ok (fields [(2, seg), (2, 0)]) ∧
          ∃ y c, t.session z.session = some y ∧ y.block = some c ∧ look seg c.segs = some data ∧
            c.lastData = s.now) ∧
      (1024 * seg < b.total → b.write = false → Gives (.blockData z k seg data) s fun t =>
        Answered s t z x 0x21 .ok (fields [(2, seg), (2, 0)] ++
          (b.snapshot.drop (1024 * seg)).take (min 1024 (b.total - 1024 * seg)))) ∧
      (b.total ≤ 1024 * seg → Gives (.blockData z k seg data) s fun t =>
        Answered s t z x 0x21 .lengthMismatch [])) ∧
    (∀ b d digest, x.block = some b → b.key = keyNum k → s.entryCheck x k (!b.write) = .ok d →
      (b.write = false → Gives (.blockClose z k digest) s fun t =>
        Answered s t z x 0x22 .ok (sha3_256 b.snapshot) ∧
        ∃ y, t.session z.session = some y ∧ y.block = none) ∧
      (∀ v, b.write = true → isCredential b.key = false → b.content = some v → sha3_256 v ≠ digest →
        Gives (.blockClose z k digest) s fun t => Answered s t z x 0x22 .digestMismatch [] ∧ t.od = s.od) ∧
      (b.write = true → isCredential b.key = false → b.content = none →
        Gives (.blockClose z k digest) s fun t => Answered s t z x 0x22 .lengthMismatch [] ∧ t.od = s.od)) ∧
    (∀ b, x.block = some b → Gives (.blockAbort z) s fun t => Answered s t z x 0x23 .ok [] ∧
      ∃ y, t.session z.session = some y ∧ y.block = none)) ∧
  (∀ (id : BitVec 32) (s : State) (x : Session) (b : BlockTransfer), s.session id = some x → x.block = some b →
    Gives (.blockTransferTimeout id) s fun t => b.lastData + 10000000000 ≤ t.now ∧
      ∃ y, t.session id = some y ∧ y.block = none)

/-! ### Life cycle, debug and the event log -/

namespace Sys2Proof.Claims

open Sys2Proof Sys2Proof.Machine

/-- A request that writes an entry whose access is WO, past the checks of R113 up to LENGTH_MISMATCH. -/
structure WritesOnce (s : State) (z : ZReq) (x : Session) (key n : Nat) : Prop where
  request : Requests s z x
  entry : ∃ d, s.entryCheck x (keyOf key) false = .ok d ∧ d.access = .wo ∧ d.ty.isDomain = false ∧
    d.ty.sizeOk n = true
  length : lengthOk key n = true

end Sys2Proof.Claims

/-- R51, R128, R419, R462 to R465, R469, R510, R512: the writes that act: TAMPER_ACK clears the latch in HALTED;
TIME_SET sets device time while TIME_STATE is FREE_RUN; DEBUG_ALLOW grants its allowance in DEPLOYED; ARCHIVE_RATCHET
advances the generation; LOG_CLEAR leaves LOG_CLEARED as the log's only record; LOG_CHECK_RUN checks every record;
LC_REQUEST begins the transition its checks allow, and no other. -/
def Obligations.ActingWritesTakeEffect : Prop :=
  (∀ (z : ZReq) (s : State) (x : Session), WritesOnce s z x 0x11000B 4 →
    (s.halted = true → Gives (.tamperAck z (le 4 1)) s fun t => Answered s t z x 0x02 .ok [] ∧ t.warden.latch = false ∧
      t.warden.causeMesh = false ∧ t.warden.causeLoop = false ∧ t.warden.causeTemp = false) ∧
    (s.halted = false → Gives (.tamperAck z (le 4 1)) s fun t => Answered s t z x 0x02 .stateConflict [] ∧
      t.warden.latch = s.warden.latch)) ∧
  (∀ (z : ZReq) (s : State) (x : Session) (v : Bytes), WritesOnce s z x 0x290026 v.length → s.halted = false →
    (s.timeState = 0 → Gives (.timeSet z v) s fun t => Answered s t z x 0x02 .ok [] ∧
      t.clk.devTime = some (ofLe v)) ∧
    (s.timeState ≠ 0 → Gives (.timeSet z v) s fun t => Answered s t z x 0x02 .stateConflict [] ∧
      t.clk = s.clk)) ∧
  (∀ (z : ZReq) (s : State) (x : Session), WritesOnce s z x 0x250006 4 → s.halted = false →
    (s.lcState = 3 → s.lc.transition = none → Gives (.debugAllow z (le 4 1)) s fun t =>
      Answered s t z x 0x02 .ok [] ∧ t.lc.allowance = true) ∧
    (s.lcState ≠ 3 → Gives (.debugAllow z (le 4 1)) s fun t =>
      Answered s t z x 0x02 .stateConflict [] ∧ t.lc = s.lc)) ∧
  (∀ (z : ZReq) (s : State) (x : Session), WritesOnce s z x 0x23000D 4 → s.halted = false → s.otp.genBits < 4096 →
    s.start.readOnly = false → s.lc.transition = none →
    Gives (.archiveRatchet z (le 4 1)) s fun t => Answered s t z x 0x02 .ok [] ∧
      t.otp.genBits = s.otp.genBits + 1 ∧ t.keys.archiveGen = s.keys.archiveGen + 1) ∧
  (∀ (z : ZReq) (s : State) (x : Session), WritesOnce s z x 0x270003 4 → s.halted = false →
    s.warning = false → s.lc.transition = none → s.canCommit = true →
    Gives (.logClear z (le 4 1)) s fun t => Answered s t z x 0x02 .ok [] ∧ t.log.buffer = [] ∧
      ∃ e, t.log.log = [e] ∧ e.code = BitVec.ofNat 16 EventCode.logCleared.code) ∧
  (∀ (z : ZReq) (s : State) (x : Session), WritesOnce s z x 0x270007 4 → s.halted = false →
    Gives (.logCheckRun z (le 4 1)) s fun t => Answered s t z x 0x02 .ok [] ∧ t.log.log = s.log.log ∧
      ∃ a b c, t.log.check = [s.log.log.length, a, b, c]) ∧
  (∀ (z : ZReq) (target : Nat) (token : Bytes) (s : State) (x : Session), WritesOnce s z x 0x250001 36 →
    s.halted = false → target < 256 → token.length = 32 →
    (∀ i, s.lcRefusal (.session x.role) target token = none → s.freeIntent = some i →
      Gives (.lcRequest z target token) s fun t => Answered s t z x 0x02 .ok [] ∧
        t.lc.transition = some { target := target, source := s.lcState, slot := i, wiping := false } ∧
        t.start.draining = some .transition ∧ t.otp.copies = s.otp.copies) ∧
    (∀ n, s.lcRefusal (.session x.role) target token = some n →
      Gives (.lcRequest z target token) s fun t => Answered s t z x 0x02 .stateConflict [] ∧
        t.lc.transition = s.lc.transition ∧ t.otp = s.otp ∧
        t.lc.tokenFails = s.lc.tokenFails + (if n = 6 then 1 else 0)))

/-- R457, R464, R465, R468 to R470, R505: the end of a transition's wipe programs the state copies and forgets what the
transition wipes; the debug port shifts out its registers, takes a challenge, accepts or refuses a response to it and
requests transitions; the oldest waiting record is committed. -/
def Obligations.TransitionsDebugAndCommits : Prop :=
  (∀ (s : State) (t0 : Transition), s.lc.transition = some t0 → t0.wiping = true → s.warning = false →
    s.otp.copies.length = 3 → Gives (.lcWipeDone [true, true, true]) s fun t => t.lc.transition = none ∧
      t.otp.copies = List.replicate 3 (BitVec.ofNat 64 (2 ^ (8 * t0.target) - 1)) ∧
      (t0.target ∈ [2, 4, 5] → t.keys.records = [])) ∧
  (∀ s : State, s.pwr.dieOn = true →
    Gives .idcode s (fun t => t.lc.tdo = fit 4 (Config.moduleValue 0x1000000)) ∧
    Gives .bypass s (fun t => t.lc.tdo = [0]) ∧
    Gives .dbgStatus s (fun t => t.lc.tdo = if s.lcState = 5 then [0] else
      fields [(1, s.lcState), (1, s.debugState), (1, if s.lc.dbgLastRefused then 1 else 0),
        (1, min 255 s.lc.dbgRefusals)]) ∧
    (s.lcState ≠ 5 → s.internalServes = true → Gives .dbgChallenge s fun t => ∃ c,
      t.lc.challenge = some (c, t.now) ∧ t.lc.tdo = c ∧ ascii "KQ9DBGCH" <+: c) ∧
    (s.lcState = 5 → Gives .dbgChallenge s fun t => t.lc.tdo = [0] ∧ t.lc.challenge = s.lc.challenge)) ∧
  (∀ (sig : Bytes) (s : State), s.pwr.dieOn = true → s.lcState ≠ 5 →
    (s.responseRefused sig = true → Gives (.dbgResponse sig) s fun t => t.lc.dbgRefusals = s.lc.dbgRefusals + 1 ∧
      t.lc.dbgLastRefused = true ∧ t.lc.debugOpen = s.lc.debugOpen ∧ t.warden.debugFlag = s.warden.debugFlag) ∧
    (s.responseRefused sig = false → Gives (.dbgResponse sig) s fun t => t.lc.challenge = none ∧
      t.warden.debugAuths = s.warden.debugAuths + 1 ∧
      (s.halted = true ∨ s.lcState = 4 → t.lc.debugOpen = true ∧ t.warden.debugFlag = true) ∧
      (s.halted = false → s.lcState ≠ 4 → t.start.draining = some .debugReset ∧
        t.lc.debugOpen = s.lc.debugOpen))) ∧
  (∀ (target : Nat) (token : Bytes) (s : State), s.pwr.dieOn = true → s.lcState ≠ 5 →
    (∀ i, s.lcRefusal .debug target token = none → s.freeIntent = some i →
      Gives (.dbgLcRequest target token) s fun t => t.lc.dbgLastRefused = false ∧
        t.lc.transition = some { target := target, source := s.lcState, slot := i, wiping := false }) ∧
    (∀ n, s.lcRefusal .debug target token = some n → Gives (.dbgLcRequest target token) s fun t =>
      t.lc.dbgLastRefused = true ∧ t.lc.transition = s.lc.transition ∧ t.otp = s.otp)) ∧
  (∀ (s : State) (c : Bytes) (n : Nat), s.lc.challenge = some (c, n) →
    Gives .dbgChallengeExpiry s fun t => t.lc.challenge = none ∧ n + 60000000000 ≤ t.now) ∧
  (∀ (s : State) (e : Event) (rest : List Event), s.log.buffer = e :: rest → s.canCommit = true →
    Gives .eventCommit s fun t => t.log.buffer = rest ∧ ∃ x, t.log.log.getLast? = some x ∧ x.seq = e.seq ∧
      x.code = e.code ∧ x.time = e.time ∧ x.detail = e.detail)

/-! ### Ports, the translation cache, device time and the management port -/

namespace Sys2Proof.Claims

open Sys2Proof Sys2Proof.Machine

/-- What a port reset leaves (R84, R144, R145, R290, R414, R537). -/
structure PortResetDone (s t : State) (p : Nat) : Prop where
  counted : (t.port p).resets = (s.port p).resets + 1
  window : (t.port p).base = s.portOd p 1 ∧ (t.port p).count = s.portOd p 2
  registers : (t.port p).evStatus = 0 ∧ (t.port p).evEnable = 0 ∧ (t.port p).mbxResp = zeros 256 ∧
    (t.port p).rxFrame = none ∧ (t.port p).rxQueue = []
  jobs : ∀ x ∈ t.jobs, x.2.inst ≠ p
  slots : ∀ x ∈ t.keys.slots, x.1 / 1024 ≠ p
  windows : ∀ w, w < 4 → (t.window w).owner ≠ some p
  others : ∀ q, q ≠ p → (t.port q).resets = (s.port q).resets ∧ (t.port q).linkUp = (s.port q).linkUp
  otp : t.otp = s.otp ∧ t.start = s.start

end Sys2Proof.Claims

/-- R76, R83, R84, R130, R133, R147: PERST# rising brings a port's link up; each cause of a port reset squashes and
wipes what the port holds and sets its registers to their reset values, PERST# and a link-down taking the link; a
function-level reset and a return from D3hot of a virtual function begin a squash reset of its instance, and of the
physical function are a port reset; a configuration request is left unanswered during PERST# and for 100 ms after,
answered with Retry Status until the start has ended, and answered after. -/
def Obligations.PortsResetAndAnswer : Prop :=
  (∀ (p : Fin 4) (s : State), s.ports.length = 4 → (s.port p).perst = true →
    Gives (.perstDeassert p) s fun t => (t.port p).perst = false ∧ (t.port p).perstAt = s.now ∧
      (t.port p).linkUp = s.portLives p ∧ (t.port p).bootCount = ((s.port p).bootCount + 1) % 65536 ∧
      t.jobs = s.jobs ∧ t.keys = s.keys) ∧
  (∀ (p : Fin 4) (s : State), (s.port p).perst = false → exec (.perstDeassert p) s = .next s) ∧
  (∀ (p : Fin 4) (c : PortResetCause) (s : State), s.ports.length = 4 → s.portLives p = true →
    Gives (.portReset p c) s fun t => PortResetDone s t p ∧
      (c = .perst → (t.port p).perst = true ∧ (t.port p).linkUp = false) ∧
      (c = .linkDown → (t.port p).perst = (s.port p).perst ∧ (t.port p).linkUp = false) ∧
      (c ≠ .perst → c ≠ .linkDown → (t.port p).linkUp = (s.port p).linkUp)) ∧
  (∀ (p : Fin 4) (c : PortResetCause) (s : State), s.portLives p = false → exec (.portReset p c) s = .next s) ∧
  (∀ (i : Fin 1024) (s : State), 4 ≤ i.val → (s.inst i).state ∈ [.created, .enabled, .frozen] →
    ∀ c ∈ [Instr.vfFlr i, .vfD3hotToD0 i], Gives c s fun t => (t.inst i).state = .resetting ∧
      (t.inst i).drain = some .reset ∧ (t.inst i).resets = (s.inst i).resets + 1 ∧ t.jobsOf i = [] ∧
      ((t.inst i).wasEnabled = true ↔ (s.inst i).state = .enabled) ∧
      (t.inst i).qps = List.replicate (s.qpCountOf i) {} ∧ (t.inst i).msix = [] ∧ t.otp = s.otp) ∧
  (∀ (i : Fin 1024) (h : i.val < 4) (s : State),
    exec (.vfFlr i) s = exec (.portReset ⟨i, h⟩ .pfFlr) s ∧
    exec (.vfD3hotToD0 i) s = exec (.portReset ⟨i, h⟩ .wake) s) ∧
  (∀ (p : Fin 4) (s : State), s.portLives p = true →
    ((s.port p).perst = true ∨ s.now < (s.port p).perstAt + 100000000 → exec (.configRequest p) s = .next s) ∧
    ((s.port p).perst = false → (s.port p).perstAt + 100000000 ≤ s.now →
      (s.start.phase = .ready → Gives (.configRequest p) s fun t => t.out = s.out ++ [.configAnswer p false]) ∧
      (s.start.phase ≠ .ready → s.start.phase ≠ .halted → s.lcState ∈ [1, 2, 3, 4] →
        Gives (.configRequest p) s fun t => t.out = s.out ++ [.configAnswer p true] ∧ t.insts = s.insts)))

/-- R100, R127, R128, R135, R141, R152, R180: an Invalidate Request removes the cached translations it meets and is
answered; a Translation Completion is cached, or denies the job that waits for it; a cached translation lasts 1 s; the
time source sets device time and its state, its loss begins HOLDOVER, whose limit ends in FREE_RUN; frames of another
VLAN are discarded and counted, the port's own addresses are answered; the management window takes a frame and frees
the next. -/
def Obligations.TranslationsAndTimeFollowTheirSources : Prop :=
  (∀ (i : Fin 1024) (a n : BitVec 64) (s : State), Gives (.atsInvalidateRequest i a n) s fun t =>
    (∀ e, e ∈ t.trans.atc ↔ e ∈ s.trans.atc ∧ ¬(e.inst = i.val ∧ e.base < a.toNat + n.toNat ∧ a.toNat < e.base + e.len)) ∧
    t.out = s.out ++ [.invalidateDone i] ∧ t.jobs = s.jobs) ∧
  (∀ (k : Fin 16384) (a n : BitVec 64) (r w : Bool) (s : State) (j : Job), s.job k = some j →
    (r = true ∨ w = true → Gives (.atsTranslationCompletion k a n r w) s fun t => t.jobs = s.jobs ∧
      ∃ e ∈ t.trans.atc, e.inst = j.inst ∧ e.base = a.toNat ∧ e.len = n.toNat ∧ e.read = r ∧ e.write = w ∧
        e.since = s.now) ∧
    (r = false → w = false →
      (j.phase = .dispatched ∨ j.phase = .pinned → Gives (.atsTranslationCompletion k a n r w) s fun t =>
        Stands t k fun x => x.status = .translationFault ∧ x.detail = BitVec.ofNat 64 (a.toNat % 2 ^ 48)) ∧
      (j.phase = .running ∨ j.phase = .computed → Gives (.atsTranslationCompletion k a n r w) s fun t =>
        Stands t k fun x => x.status = .aborted ∧
          x.detail = BitVec.ofNat 64 (3 + 256 * (a.toNat % 2 ^ 48))))) ∧
  (∀ (i : Fin 1024) (a : BitVec 64) (s : State) (e : AtcEntry),
    s.trans.atc.find? (fun e => e.inst == i.val && e.meets a.toNat 1) = some e →
    Gives (.atsTranslationExpiry i a) s fun t => e.since + 1000000000 ≤ t.now ∧
      ∀ x ∈ t.trans.atc, x ∈ s.trans.atc ∧ (x.inst ≠ i.val ∨ a.toNat < x.base ∨ x.base + x.len ≤ a.toNat)) ∧
  (∀ (p : Fin 4) (offset : Int) (time : Nat) (locked : Bool) (s : State), p.val < s.ports.length →
    Gives (.ptmDialogue p offset time locked) s fun t => (t.port p).ptm = (s.port p).linkUp ∧
      (s.odNum 0x290020 = p.val + 2 → (s.port p).linkUp = true → t.clk.offsetNs = offset ∧
        (locked = true → t.clk.timeState = 2 ∧ t.clk.devTime = some (time % 2 ^ 64)) ∧
        (locked = false → t.clk.devTime = s.clk.devTime)) ∧
      (s.odNum 0x290020 ≠ p.val + 2 → t.clk = s.clk)) ∧
  (∀ (gm : BitVec 64) (domain vlan time : Nat) (offset : Int) (locked : Bool) (s : State),
    (vlan ≠ s.odNum 0x290009 → Gives (.ptpMessage gm domain vlan time offset locked) s fun t => t.clk = s.clk ∧
      t.counter 0x290010 0 = s.counter 0x290010 0 + 1) ∧
    (vlan = s.odNum 0x290009 → s.odNum 0x290020 = 1 → domain = s.odNum 0x290023 →
      Gives (.ptpMessage gm domain vlan time offset locked) s fun t => t.clk.gmIdentity = gm ∧
        t.clk.offsetNs = offset ∧ (locked = true → t.clk.timeState = 2 ∧ t.clk.devTime = some (time % 2 ^ 64))) ∧
    (vlan = s.odNum 0x290009 → s.odNum 0x290020 ≠ 1 →
      exec (.ptpMessage gm domain vlan time offset locked) s = .next s)) ∧
  (∀ s : State, s.odNum 0x290020 = 1 → s.clk.devTime.isSome = true → s.clk.timeState = 2 →
    Gives .ptpSourceLost s fun t => t.clk = { s.clk with timeState := 3, holdoverSince := s.now }) ∧
  (∀ (p : Fin 4) (s : State), p.val < s.ports.length → Gives (.ptmDisabled p) s fun t => (t.port p).ptm = false ∧
    (s.odNum 0x290020 = p.val + 2 → s.clk.devTime.isSome = true → t.clk.timeState = 3) ∧
    (s.odNum 0x290020 ≠ p.val + 2 → t.clk = s.clk)) ∧
  (∀ s : State, s.clk.devTime.isSome = true → s.clk.timeState = 3 → Gives .holdoverLimit s fun t =>
    t.clk.timeState = 0 ∧ s.clk.holdoverSince + 1000000000 * s.odNum 0x290024 ≤ t.now ∧
    (logTakes s 2 → Logged s t .timeFreeRun)) ∧
  (∀ (v6 : Bool) (a : Bytes) (vlan : Nat) (s : State),
    (vlan ≠ s.odNum 0x290009 → Gives (.addressResolution v6 a vlan) s fun t => t.out = s.out ∧
      t.counter 0x290010 0 = s.counter 0x290010 0 + 1) ∧
    (vlan = s.odNum 0x290009 → s.ownAddress v6 a = true →
      Gives (.addressResolution v6 a vlan) s fun t => t.out = s.out ++ [.resolved v6 a]) ∧
    (vlan = s.odNum 0x290009 → s.ownAddress v6 a = false → exec (.addressResolution v6 a vlan) s = .next s)) ∧
  (∀ s : State, Gives .frameDiscard s fun t => t.counter 0x290010 0 = s.counter 0x290010 0 + 1 ∧
    t = { s with cnt := t.cnt }) ∧
  (∀ (n : Nat) (s : State), Gives (.linkStateChange n) s fun t => t.mgmt.link = n % 4 ∧
    t = { s with mgmt := { s.mgmt with link := t.mgmt.link } }) ∧
  (∀ (p : Fin 4) (n : BitVec 32) (s : State), p.val < s.ports.length →
    Gives (.mgmtTxSubmit p n) s fun t => (t.port p).txLen = n ∧ (t.port p).txBusy = false ∧
      (t.port p).rxFrame = (s.port p).rxFrame) ∧
  (∀ (p : Fin 4) (s : State), p.val < s.ports.length →
    Gives (.mgmtRxAck p 1) s fun t => (t.port p).rxFrame = (s.port p).rxQueue.head? ∧
      (t.port p).rxQueue = (s.port p).rxQueue.tail) ∧
  (∀ (p : Fin 4) (v : BitVec 32) (s : State), v ≠ 1 → exec (.mgmtRxAck p v) s = .next s)

/-! ### The mailbox -/

namespace Sys2Proof.Claims

open Sys2Proof Sys2Proof.Machine

/-- The mailbox of a port serves commands, and refuses none for the state of the block (R114, R147, R466). -/
structure MailOpen (s : State) (p : Fin 4) : Prop where
  ports : s.ports.length = 4
  served : s.mailServed p = true
  open_ : s.mailClosed = false

/-- The mailbox of a port holds a response: code, status, SEQ and data, with BUSY clear and DONE set (R149). -/
def Replied (t : State) (p : Fin 4) (code : Nat) (seq : BitVec 32) (st : Status) (data : Bytes) : Prop :=
  (t.port p).mbxResp = fit 256 (fields [(2, code), (2, st.code), (4, seq.toNat)] ++ data) ∧
    (t.port p).mbxBusy = false ∧ (t.port p).mbxDone = true ∧ (t.port p).evStatus.getLsbD 5 = true

/-- A command about an instance: its code, its constructor, and the states of the instance it takes. -/
structure MailRow where
  code : Nat
  cmd : Fin 4 → BitVec 32 → BitVec 16 → Instr
  states : List InstState

/-- Table - Mailbox commands, INST_STATUS apart: the commands that name an instance, their other arguments given. -/
noncomputable def mailRows (a : CreateArgs) (flags : BitVec 32) (x y : BitVec 64) : List MailRow := [
  ⟨1, fun p q n => .instCreate p q { a with n := n }, [.unallocated]⟩, ⟨2, .instEnable, [.created]⟩,
  ⟨3, fun p q n => .instSet p q { a with n := n }, [.created, .enabled, .frozen]⟩,
  ⟨4, fun p q n => .instReset p q n 0, [.created, .enabled, .frozen]⟩,
  ⟨4, fun p q n => .instReset p q n 1, [.created, .enabled, .frozen]⟩, ⟨5, .instFreeze, [.enabled]⟩,
  ⟨6, .instThaw, [.frozen]⟩, ⟨7, .instDestroy, [.created, .enabled, .frozen]⟩,
  ⟨9, fun p q n => .setTranslation p q n x, [.created, .frozen]⟩,
  ⟨0xA, fun p q n => .invalidate p q n x y, [.created, .enabled, .frozen]⟩,
  ⟨0x10, fun p q n => .migSave p q n flags x y, [.frozen]⟩,
  ⟨0x11, fun p q n => .migRestore p q n flags x y, [.unallocated]⟩]

/-- The command names a VF instance of the port in a state. -/
def Names (s : State) (p : Fin 4) (n : BitVec 16) (l : List InstState) : Prop :=
  s.mailRange p n.toNat = true ∧ (s.inst n.toNat).state ∈ l

/-- The configuration an instance holds. -/
def Configured (n : Inst) (c : InstConfig) : Prop :=
  n.qpCount = c.qpCount ∧ n.vecCount = c.vecCount ∧ n.weight = c.weight ∧ n.slotQuota = c.slotQuota ∧
    n.recQuota = c.recQuota ∧ n.tierSKib = c.tierSKib

end Sys2Proof.Claims

/-- R146 to R149, R153, R154, R156, R159: what each accepted command about an instance does, and how resets, freezes
and destructions end. -/
def Obligations.MailboxRunsTheInstanceStates : Prop :=
  (∀ (p : Fin 4) (seq : BitVec 32) (a : CreateArgs) (s : State), MailOpen s p →
    (Names s p a.n [.unallocated] → (s.inst a.n.toNat).migBusy = none → s.configOk p (configOf a) = true →
      s.shareTakes p (configOf a) (0, 0) = true → Gives (.instCreate p seq a) s fun t =>
        Replied t p 1 seq .ok [] ∧ (t.inst a.n.toNat).state = .created ∧
        Configured (t.inst a.n.toNat) (configOf a) ∧
        (t.inst a.n.toNat).qps = List.replicate a.qpCount.toNat {} ∧ t.keys = s.keys) ∧
    (s.mailRange p a.n.toNat = true → s.configOk p (configOf a) = false →
      Gives (.instCreate p seq a) s fun t => Replied t p 1 seq .lengthMismatch [] ∧ t.insts = s.insts) ∧
    (Names s p a.n [.created, .frozen] → s.setOk p a = true →
      s.shareTakes p (configOver a (s.inst a.n.toNat)) ((s.inst a.n.toNat).qpCount, (s.inst a.n.toNat).vecCount) = true →
      Gives (.instSet p seq a) s fun t => Replied t p 3 seq .ok [] ∧
        Configured (t.inst a.n.toNat) (configOver a (s.inst a.n.toNat)) ∧
        (t.inst a.n.toNat).state = (s.inst a.n.toNat).state)) ∧
  (∀ (p : Fin 4) (seq : BitVec 32) (n : BitVec 16) (s : State), MailOpen s p →
    (Names s p n [.created] → Gives (.instEnable p seq n) s fun t => Replied t p 2 seq .ok [] ∧
      (t.inst n.toNat).state = .enabled ∧ t.keys = s.keys ∧
      ∀ q ∈ (t.inst n.toNat).qps, q.enable = true → q.state ≠ .disabled) ∧
    (Names s p n [.created, .enabled, .frozen] →
      Gives (.instReset p seq n 0) s (fun t => Replied t p 4 seq .ok [] ∧ (t.inst n.toNat).state = .resetting ∧
        (t.inst n.toNat).drain = some .reset ∧ (t.inst n.toNat).resets = (s.inst n.toNat).resets + 1 ∧
        t.jobs = s.jobs ∧ t.keys = s.keys) ∧
      Gives (.instReset p seq n 1) s (fun t => Replied t p 4 seq .ok [] ∧ (t.inst n.toNat).state = .resetting ∧
        t.jobsOf n.toNat = [])) ∧
    (∀ mode, 2 ≤ mode → s.mailRange p n.toNat = true → Gives (.instReset p seq n mode) s fun t =>
      Replied t p 4 seq .lengthMismatch [] ∧ t.insts = s.insts) ∧
    (Names s p n [.enabled] → Gives (.instFreeze p seq n) s fun t => Replied t p 5 seq .ok [] ∧
      (t.inst n.toNat).drain = some .freeze ∧ (t.inst n.toNat).state = .enabled ∧
      (∀ q ∈ (t.inst n.toNat).qps, q.cache = [] ∧ q.fetching = 0) ∧ t.jobs = s.jobs) ∧
    (Names s p n [.frozen] → (s.inst n.toNat).migBusy = none → Gives (.instThaw p seq n) s fun t =>
      Replied t p 6 seq .ok [] ∧ (t.inst n.toNat).state = .enabled ∧ (t.inst n.toNat).squashed = [] ∧
      t.keys = s.keys ∧ t.jobs = s.jobs) ∧
    (Names s p n [.created, .enabled, .frozen] → Gives (.instDestroy p seq n) s fun t =>
      Replied t p 7 seq .ok [] ∧ (t.inst n.toNat).state = .destroying ∧ t.jobsOf n.toNat = []) ∧
    (∀ root : BitVec 64, Names s p n [.created, .frozen] → Gives (.setTranslation p seq n root) s fun t =>
      Replied t p 9 seq .ok [] ∧ (t.inst n.toNat).root = some root ∧ t.trans.atc = s.trans.atc ∧
      t.trans.table = s.trans.table.filter fun e => e.1 != n.toNat) ∧
    (∀ iova len : BitVec 64, Names s p n [.created, .enabled, .frozen] →
      Gives (.invalidate p seq n iova len) s fun t => Replied t p 0xA seq .ok [] ∧ t.keys = s.keys ∧
        (∀ e, e ∈ t.trans.table ↔ e ∈ s.trans.table ∧ e.1 ≠ n.toNat) ∧
        (∀ e, e ∈ t.trans.atc ↔ e ∈ s.trans.atc ∧ ¬(e.inst = n.toNat ∧ (len = 0 ∨
          e.base < iova.toNat + len.toNat ∧ iova.toNat < e.base + e.len))))) ∧
  (∀ (p : Fin 4) (seq : BitVec 32) (n : BitVec 16) (s : State), s.ports.length = 4 → s.mailServed p = true →
    s.mailRange p n.toNat = true → Gives (.instStatus p seq n) s fun t => t.insts = s.insts ∧ t.keys = s.keys ∧
      let x := s.inst n.toNat
      Replied t p 8 seq .ok (fields [(1, x.state.code), (1, 0), (2, x.qpCount), (4, s.slotsOf n.toNat),
        (4, s.recordsOf n.toNat), (4, (s.tierSBytes n.toNat + 1023) / 1024), (2, x.migResult.toNat), (2, 0),
        (8, x.imageLen)])) ∧
  (∀ (i : Fin 1024) (s : State), (s.inst i).drain = some .freeze →
    (s.jobsOf i = [] → Gives (.freezeDone i) s fun t => (t.inst i).state = .frozen ∧ (t.inst i).drain = none ∧
      t.keys = s.keys) ∧
    (s.jobsOf i ≠ [] → exec (.freezeDone i) s = .next s)) ∧
  (∀ (i : Fin 1024) (s : State), 4 ≤ i.val → (s.inst i).state = .resetting → s.jobsOf i = [] →
    ((s.inst i).wasEnabled = false → Gives (.instanceResetDone i) s fun t => (t.inst i).state = .created ∧
      (t.inst i).drain = none ∧ (∀ q ∈ (t.inst i).qps, q.state = .disabled ∧ q.enable = false) ∧
      (t.inst i).errStatus.getLsbD 3 = true ∧
      ((s.inst i).reseeding = false → ∀ r ∈ t.keys.records, r.2.owner = i.val → r.2.persistent = true)) ∧
    ((s.inst i).wasEnabled = true → (s.inst i).reseeding = true → (s.inst i).drbg.seeded = true →
      Gives (.instanceResetDone i) s fun t => (t.inst i).state = .enabled ∧ (t.inst i).drain = none ∧
        (∀ q ∈ (t.inst i).qps, q.state = .disabled ∧ q.enable = false) ∧
        (t.inst i).errStatus.getLsbD 3 = true ∧ t.keys = s.keys)) ∧
  (∀ (i : Fin 1024) (s : State), (s.inst i).state = .destroying → s.jobsOf i = [] →
    Gives (.instanceDestroyDone i) s fun t => (t.inst i).state = .unallocated ∧
      (∀ r ∈ t.keys.records, r.2.owner ≠ i.val) ∧ (∀ r ∈ t.keys.peers, r.2.owner ≠ i.val) ∧
      (∀ r ∈ t.keys.slots, r.2.user ≠ i.val) ∧ (t.inst i).recipes = [])

/-- R157, R158: MIG_SAVE and MIG_RESTORE begin their work; a save ends with STATE_CONFLICT without a domain, with
KEY_REFUSED where records would stay behind and OMIT is clear, with OUTPUT_TOO_SMALL and nothing written where the
buffer is shorter than the image, else with OK; a restore whose image fails a check ends with that check's status and
creates nothing, and one whose image is accepted leaves the instance FROZEN with the image's configuration. -/
def Obligations.MigrationSavesAndRestores : Prop :=
  (∀ (p : Fin 4) (seq : BitVec 32) (n : BitVec 16) (flags : BitVec 32) (iova len : BitVec 64) (s : State),
    MailOpen s p → (s.inst n.toNat).migBusy = none →
    (Names s p n [.frozen] → Gives (.migSave p seq n flags iova len) s fun t => Replied t p 0x10 seq .ok [] ∧
      (t.inst n.toNat).migBusy = some { save := true, omitOthers := flags.getLsbD 0, iova := iova, len := len }) ∧
    (Names s p n [.unallocated] → Gives (.migRestore p seq n flags iova len) s fun t =>
      Replied t p 0x11 seq .ok [] ∧
      (t.inst n.toNat).migBusy = some { save := false, omitOthers := false, iova := iova, len := len })) ∧
  (∀ (i : Fin 1024) (w : MigWork) (s : State), (s.inst i).migBusy = some w → w.save = true →
    let left := ∃ r ∈ s.keys.records, r.2.owner = i.val ∧ (r.2.flag 2 = false ∨ r.2.flag 4 = true)
    (s.keys.domainSecret = none → Gives (.migSaveDone i) s fun t => (t.inst i).migBusy = none ∧
      (t.inst i).migResult = BitVec.ofNat 16 Status.stateConflict.code ∧ t.out = s.out) ∧
    (s.keys.domainSecret ≠ none → left → w.omitOthers = false → Gives (.migSaveDone i) s fun t =>
      (t.inst i).migBusy = none ∧ (t.inst i).migResult = BitVec.ofNat 16 Status.keyRefused.code ∧ t.out = s.out) ∧
    (s.keys.domainSecret ≠ none → ¬left ∨ w.omitOthers = true → Gives (.migSaveDone i) s fun t =>
      (t.inst i).migBusy = none ∧ t.keys.records = s.keys.records ∧
      ((t.inst i).migResult = BitVec.ofNat 16 Status.outputTooSmall.code ∧ w.len.toNat < (t.inst i).imageLen ∧
          t.out = s.out ∨
        (t.inst i).migResult = 0 ∧ (t.inst i).imageLen ≤ w.len.toNat ∧ ∃ p b,
          t.out = s.out ++ [.memWrite p w.iova.toNat b] ∧ ascii "KQ9IMAGE" <+: b))) ∧
  (∀ (i : Fin 1024) (m : MigImage) (p : Nat) (w : MigWork) (s : State), (s.inst i).migBusy = some w →
    w.save = false → s.portOf i = some p →
    (m.readFault = true → Gives (.migRestoreDone i m) s fun t => (t.inst i).migBusy = none ∧
      (t.inst i).migResult = BitVec.ofNat 16 Status.translationFault.code ∧ t.keys = s.keys) ∧
    (m.readFault = false → s.keys.domainSecret ≠ none →
      m.tagOk = false ∨ m.domain ≠ s.keys.domainId ∨ m.inst.toNat ≠ i.val ∨ m.imageId ∈ s.keys.restoredIds →
      Gives (.migRestoreDone i m) s fun t => (t.inst i).migBusy = none ∧
        (t.inst i).migResult = BitVec.ofNat 16 Status.inputRejected.code ∧ t.keys = s.keys) ∧
    (s.imageCheck i p m = .ok → Gives (.migRestoreDone i m) s fun t => (t.inst i).state = .frozen ∧
      (t.inst i).migBusy = none ∧ (t.inst i).migResult = 0 ∧ Configured (t.inst i) (configOf m.config) ∧
      m.imageId ∈ t.keys.restoredIds ∧ t.jobs = s.jobs))

/-- R149, R150: every command that names an instance outside the port's range is answered with ACCESS_DENIED, and one
whose instance is not in a state the command takes with STATE_CONFLICT, no instance and no key changing.
R149, R390, R412 to R414: OPEN_SLOT_WRITE blanks its request, puts the key under a new handle into the slot and
answers the handle; its refusals change no key; OPEN_SLOT_CLEAR empties the slot; OPEN_SLOT_READ answers what it holds
but the key. -/
def Obligations.MailboxRefusesAndHoldsOpenSlots : Prop :=
  (∀ (a : CreateArgs) (flags : BitVec 32) (x y : BitVec 64) (row : MailRow), row ∈ mailRows a flags x y →
    ∀ (p : Fin 4) (seq : BitVec 32) (n : BitVec 16) (s : State), s.ports.length = 4 → s.mailServed p = true →
    (s.mailRange p n.toNat = false → Gives (row.cmd p seq n) s fun t =>
      Replied t p row.code seq .accessDenied [] ∧ t.insts = s.insts ∧ t.keys = s.keys ∧ t.jobs = s.jobs) ∧
    (s.mailRange p n.toNat = true → (s.inst n.toNat).state ∉ row.states →
      (row.code = 1 → s.configOk p (configOf a) = true) → (row.code = 3 → s.setOk p a = true) →
      Gives (row.cmd p seq n) s fun t => Replied t p row.code seq .stateConflict [] ∧ t.insts = s.insts ∧
        t.keys = s.keys ∧ t.jobs = s.jobs)) ∧
  ((∀ (p : Fin 4) (seq : BitVec 32) (a : OpenSlotArgs) (s : State), s.ports.length = 4 → s.mailServed p = true →
    let k := 1024 * p.val + a.slotNo.toNat
    (s.portOf a.user.toNat ≠ some p.val → Gives (.openSlotWrite p seq a) s fun t =>
      Replied t p 0x20 seq .accessDenied [] ∧ (t.port p).mbxReq.drop 8 = zeros 248 ∧ t.keys = s.keys) ∧
    (s.portOf a.user.toNat = some p.val → openSlotOk a = false → Gives (.openSlotWrite p seq a) s fun t =>
      Replied t p 0x20 seq .lengthMismatch [] ∧ (t.port p).mbxReq.drop 8 = zeros 248 ∧ t.keys = s.keys) ∧
    (s.portOf a.user.toNat = some p.val → openSlotOk a = true → s.mailClosed = false →
      Gives (.openSlotWrite p seq a) s fun t => (t.port p).mbxReq.drop 8 = zeros 248 ∧
        ∃ r, look k t.keys.slots = some r ∧ r.user = a.user.toNat ∧ r.cls = a.cls.toNat ∧ r.binding = a.binding ∧
          r.secret = fit a.keyLen.toNat a.key ∧ (look k s.keys.slots = none → r.gen = s.genOf (slotBase + k)) ∧
          (look k s.keys.slots ≠ none → r.gen ≠ s.genOf (slotBase + k)) ∧
          Replied t p 0x20 seq .ok (le 8 (r.handle k).toNat))) ∧
  (∀ (p : Fin 4) (seq : BitVec 32) (n : BitVec 16) (s : State), MailOpen s p →
    let k := 1024 * p.val + n.toNat
    (1023 < n.toNat → ∀ row ∈ [(0x21, Instr.openSlotClear p seq n), (0x22, .openSlotRead p seq n)],
      Gives row.2 s fun t => Replied t p row.1 seq .lengthMismatch [] ∧ t.keys = s.keys) ∧
    (n.toNat ≤ 1023 →
      Gives (.openSlotClear p seq n) s (fun t => Replied t p 0x21 seq .ok [] ∧ look k t.keys.slots = none ∧
        (∀ j, j ≠ k → look j t.keys.slots = look j s.keys.slots) ∧ t.keys.records = s.keys.records) ∧
      (look k s.keys.slots = none →
        Gives (.openSlotRead p seq n) s fun t => Replied t p 0x22 seq .ok (zeros 16) ∧ t.keys = s.keys) ∧
      (∀ r, look k s.keys.slots = some r → Gives (.openSlotRead p seq n) s fun t => t.keys = s.keys ∧
        Replied t p 0x22 seq .ok (fields [(2, r.user), (1, r.cls), (1, 0), (2, r.binding.toNat), (2, 0),
          (8, (r.handle k).toNat)])))))

/-! ### Rings, registers and the job path -/

namespace Sys2Proof.Claims

open Sys2Proof Sys2Proof.Machine

/-- The queue pair has an error (R192): ERROR with a cause, nothing cached, QP_ERROR set. -/
def InError (t : State) (i : Fin 1024) (q : Fin 1023) (cause : Nat) : Prop :=
  ∃ y, t.qp i q = some y ∧ y.state = .error ∧ y.errCode = BitVec.ofNat 16 cause ∧ y.cache = [] ∧ y.fetching = 0 ∧
    (t.inst i).errStatus.getLsbD 0 = true

/-- A queue pair that works: ACTIVE with ENABLE set in an ENABLED instance, and room for a fault record. -/
structure Works (s : State) (i : Fin 1024) (q : Fin 1023) (x : Qp) : Prop where
  here : s.qp i q = some x
  active : x.state = .active
  enable : x.enable = true
  inst : s.instState i = .enabled
  room : s.faults.open_.length < 64

/-- A finished job whose turn it is to post on a working queue pair (R186, R187). -/
structure Posts (s : State) (k : Nat) (j : Job) (x : Qp) : Prop where
  job : s.job k = some j
  finished : j.phase = .finished
  qp : s.qp j.inst j.qp = some x
  first : ∀ h ∈ (s.inst j.inst).held, h.qp ≠ j.qp
  turn : s.postTurn j x = true
  active : x.state = .active
  enable : x.enable = true
  noFault : x.errCode ≠ 7

/-- Table - Completion entry without PHASE, for a job that no fault was corrected in, at SQ_HEAD `c`. -/
def entryOf (s : State) (j : Job) (c : Nat) : Bytes :=
  fields [(4, j.entry.tag.toNat), (2, j.result.status.code), (2, j.qp), (4, j.result.outLen), (2, c), (2, 0),
    (8, j.result.detail.toNat), (6, s.stamp), (1, (if j.shielded then 1 else 0) + (if j.waited then 2 else 0) +
      (if j.fenced then 4 else 0) + (if c.testBit 16 then 128 else 0))]

/-- A job that waits in step 5 and needs none of what it could wait for but a sequencer: no key, context, tree, space,
region or randomness. -/
structure Plain (s : State) (k : Nat) (j : Job) : Prop where
  job : s.job k = some j
  phase : j.phase = .dispatched
  defined : (entryOpc j.entry).defined = true
  told : j.told = []
  run : j.run = none
  ctx : namesCtx j.entry = false
  keys : s.keyFails [] j.inst j.entry = none
  views : s.entryViews [] j.inst j.entry = (none, none)
  lengths : lengthFails j.entry = none
  space : outputShort j.entry none none = none
  fits : s.pinsFit j.inst [] = true
  recipe : (entryOpc j.entry).fam ≠ 0x0E
  stateful : (entryOpc j.entry).fam ≠ 5
  data : dataNeed j.entry [] = 0
  region : regionNeed j.entry [] = none
  draws : drawsOf j.entry = {}
  matrix : jobMatrix j.entry = none
  floats : floats j.entry = false

/-- The command an engine takes next belongs to an operation whose only command it is. -/
structure LastCommand (s : State) (u : Fin 387) (w : Waiting) (j : Job) : Prop where
  kind : 2 ≤ unitKind u
  serves : s.unitServes u = true
  next : s.nextCommand u = some w
  job : s.job w.slot = some j
  firmware : j.run = none
  phase : j.phase = .computed
  only : ∀ v ∈ s.sched.waiting.erase w, v.slot ≠ w.slot

end Sys2Proof.Claims

/-- R138, R139, R182, R183, R190, R192: QP_CTRL enables and disables a queue pair, its size and order only while it is
DISABLED; a submission doorbell announces entries or is a ring error; a withdrawal takes back what is not dispatched; a
completion doorbell frees entries; one that says more than the ring holds is a ring error. -/
def Obligations.QueuePairsFollowTheirDoorbells : Prop :=
  (∀ (i : Fin 1024) (q : Fin 1023) (v : BitVec 32) (s : State) (x : Qp), s.qp i q = some x →
    let size := v.toNat / 16 % 16
    (x.state = .disabled → s.instState i = .enabled → 4 ≤ size → Gives (.qpEnable i q v) s fun t =>
      ∃ y, t.qp i q = some y ∧ y.enable = true ∧ y.state = .active ∧ y.ordered = v.getLsbD 1 ∧ y.log2 = size ∧
        y.vector = v.toNat / 2 ^ 16 % 2 ^ 12) ∧
    (x.state = .disabled → s.instState i = .created → 4 ≤ size → Gives (.qpEnable i q v) s fun t =>
      ∃ y, t.qp i q = some y ∧ y.enable = true ∧ y.state = .disabled) ∧
    (x.state = .active → size ≠ x.log2 ∨ v.getLsbD 1 ≠ x.ordered → Gives (.qpEnable i q v) s fun t =>
      (t.inst i).errStatus.getLsbD 4 = true ∧ ∃ y, t.qp i q = some y ∧
        (size ≠ x.log2 → y.log2 = x.log2) ∧ (v.getLsbD 1 ≠ x.ordered → y.ordered = x.ordered)) ∧
    (x.state = .active → x.errCode ≠ 7 → s.jobsOfQp i q = [] → Gives (.qpDisable i q v) s fun t =>
      ∃ y, t.qp i q = some y ∧ y.enable = false ∧ y.state = .disabled ∧ y.p = 0 ∧ y.c = 0 ∧ y.q = 0 ∧ y.d = 0 ∧
        y.cache = []) ∧
    (x.state = .active → x.errCode ≠ 7 → s.jobsOfQp i q ≠ [] → Gives (.qpDisable i q v) s fun t =>
      ∃ y, t.qp i q = some y ∧ y.enable = false ∧ y.state = .stopping ∧ y.cache = [] ∧ y.p = x.p)) ∧
  (∀ (i : Fin 1024) (q : Fin 1023) (index : BitVec 17) (s : State) (x : Qp), Works s i q x →
    let n := 2 ^ x.log2
    let added := (index.toNat + 2 * n - x.p) % (2 * n)
    (index.toNat < 2 * n → x.held + added ≤ n → Gives (.sqDoorbell i q index) s fun t =>
      t.jobs = s.jobs ∧ t.keys = s.keys ∧ ∃ y, t.qp i q = some y ∧ y.p = index.toNat ∧ y.c = x.c ∧
        y.state = .active ∧ y.cache = x.cache ∧ x.fetching ≤ y.fetching) ∧
    (index.toNat < 2 * n → n < x.held + added → Gives (.sqDoorbell i q index) s fun t => InError t i q 1) ∧
    (2 * n ≤ index.toNat → Gives (.sqDoorbell i q index) s (InError · i q 2) ∧
      Gives (.sqWithdraw i q index) s (InError · i q 2)) ∧
    let back := (x.p + 2 * n - index.toNat) % (2 * n)
    (index.toNat < 2 * n → back ≤ x.held → Gives (.sqWithdraw i q index) s fun t => t.jobs = s.jobs ∧
      ∃ y, t.qp i q = some y ∧ y.p = index.toNat ∧ y.c = x.c ∧
        y.cache = x.cache.take ((index.toNat + 2 * n - x.c) % (2 * n))) ∧
    (index.toNat < 2 * n → n < back → x.held ≤ n → Gives (.sqWithdraw i q index) s (InError · i q 4))) ∧
  (∀ (i : Fin 1024) (q : Fin 1023) (index : BitVec 17) (s : State) (x : Qp), s.qp i q = some x →
    x.state = .disabled → exec (.sqDoorbell i q index) s = .next s ∧ exec (.sqWithdraw i q index) s = .next s) ∧
  (∀ (i : Fin 1024) (q : Fin 1023) (index : BitVec 17) (s : State) (x : Qp), Works s i q x →
    let n := 2 ^ x.log2
    let unread := (x.q + 2 * n - index.toNat) % (2 * n)
    (index.toNat < 2 * n → unread ≤ n → (s.inst i).held = [] → Gives (.cqDoorbell i q index) s fun t =>
      t.keys = s.keys ∧ ∃ y, t.qp i q = some y ∧ y.d = index.toNat ∧ y.q = x.q ∧ y.state = .active) ∧
    (index.toNat < 2 * n → n < unread → Gives (.cqDoorbell i q index) s (InError · i q 3)) ∧
    (2 * n ≤ index.toNat → Gives (.cqDoorbell i q index) s (InError · i q 5)))

/-- R24, R164, R172, R174 to R177, R184, R186 to R193, R204 to R206: an entry that arrives joins the prefetch cache, one
that cannot be read is a ring error; a job in step 5 whose keys fail, or whose lengths or space fall short, ends with
the check's status; one that needs only a sequencer goes on; the input starts the operation or fails its check; a
completion is written at the producer index where the ring has room, waits where it has none, and is kept where the
ring cannot be written. -/
def Obligations.JobsTravelTheirPath : Prop :=
  (∀ (i : Fin 1024) (q : Fin 1023) (s : State) (x : Qp), Works s i q x → x.fetching ≠ 0 →
    Gives (.descriptorArrival i q none) s (fun t => InError t i q 6 ∧ t.jobs = s.jobs) ∧
    ∀ e, s.ringBlocked i (x.sqBase.toNat + 64 * ((x.c + x.cache.length) % (2 * x.n) % x.n)) false = false →
      exec (.descriptorArrival i q (some e)) s =
        .next (s.modQp i q fun y => { y with cache := y.cache ++ [e], fetching := y.fetching - 1 }).dispatch) ∧
  (∀ (k : Fin 16384) (sealOk : Bool) (s : State) (j : Job), s.job k = some j → j.phase = .dispatched →
    (entryOpc j.entry).defined = true → j.told = [] → namesCtx j.entry = false →
    (∀ n, s.keyFails [] j.inst j.entry = some n → Gives (.recordsPinned k sealOk) s fun t =>
      Stands t k fun r => r.status = .keyRefused ∧ r.detail = BitVec.ofNat 64 n) ∧
    (∀ d, s.keyFails [] j.inst j.entry = none → s.entryViews [] j.inst j.entry = (none, none) →
      lengthFails j.entry = some d → Gives (.recordsPinned k sealOk) s fun t =>
      Stands t k fun r => r.status = .lengthMismatch ∧ r.detail = BitVec.ofNat 64 d) ∧
    (∀ n, s.keyFails [] j.inst j.entry = none → s.entryViews [] j.inst j.entry = (none, none) →
      lengthFails j.entry = none → outputShort j.entry none none = some n →
      Gives (.recordsPinned k sealOk) s fun t =>
        Stands t k fun r => r.status = .outputTooSmall ∧ r.outLen = n)) ∧
  (∀ (k : Fin 16384) (sealOk : Bool) (s : State) (j : Job), Plain s k j → s.openSequencers ≠ [] →
    Gives (.recordsPinned k sealOk) s fun t => ∃ j', t.job k = some j' ∧ j'.sequencer ∈ s.openSequencers ∧
      (needsBus j.entry = true → j'.phase = .pinned) ∧ (needsBus j.entry = false → j'.phase = .running) ∧
      (j.entry.srcLen = 0 → j'.origin = some s.gov.refCount)) ∧
  (∀ (k : Fin 16384) (input : JobInput) (s : State) (j : Job), s.job k = some j → j.phase = .pinned →
    let a := s.tablesFail j.inst j.entry input.ptes
    (∀ x, a.1 = some x → Gives (.jobInputArrived k input) s fun t =>
      Stands t k fun r => r.status = .translationFault ∧ r.detail = BitVec.ofNat 64 (x % 2 ^ 48)) ∧
    (∀ d, a.1 = none → badTable j.entry input = some d → Gives (.jobInputArrived k input) s fun t =>
      Stands t k fun r => r.status = .lengthMismatch ∧ r.detail = BitVec.ofNat 64 d) ∧
    (a.1 = none → badTable j.entry input = none →
      let b := a.2.sidesFail j.inst j.entry input
      (∀ d, b.1 = some d → Gives (.jobInputArrived k input) s fun t =>
        Stands t k fun r => r.status = .translationFault ∧ r.detail = BitVec.ofNat 64 d) ∧
      (b.1 = none → updateLengths j.entry (fit j.entry.srcLen.toNat input.data) = none →
        (entryOpc j.entry).fam ≠ 5 → usesSrc j.entry = true → Gives (.jobInputArrived k input) s fun t =>
          ∃ j', t.job k = some j' ∧ j'.phase = .running ∧ j'.input = fit j.entry.srcLen.toNat input.data ∧
            j'.dst = dstPieces j.entry input ∧ j'.origin = some s.gov.refCount))) ∧
  (∀ (k : Fin 16384) (s : State) (j : Job) (x : Qp), Posts s k j x →
    s.ringBlocked j.inst (x.cqBase.toNat + 32 * (x.q % x.n)) true = false →
    (j.posts = true → x.full = false → j.corrected = none → Gives (.completionPost k false) s fun t =>
      s.out ++ [.completion j.inst j.qp x.q (entryOf s j x.c ++ [if x.q < 2 ^ x.log2 then 1 else 0])] <+: t.out ∧
      (∃ y, t.qp j.inst j.qp = some y ∧ y.q = (x.q + 1) % (2 * 2 ^ x.log2)) ∧
      (t.inst j.inst).posted = (s.inst j.inst).posted + 1) ∧
    (j.posts = false → ∀ f, Gives (.completionPost k f) s fun t => s.out <+: t.out ∧
      (∃ y, t.qp j.inst j.qp = some y ∧ y.q = x.q) ∧ (t.inst j.inst).posted = (s.inst j.inst).posted + 1) ∧
    (j.posts = true → x.full = true → ∀ f, Gives (.completionPost k f) s fun t => t.out = s.out ∧
      (∃ j', t.job k = some j' ∧ j'.phase = .finished ∧ j'.waited = true) ∧
      ∃ y, t.qp j.inst j.qp = some y ∧ y.q = x.q ∧ y.waitSince = some (x.waitSince.getD s.now)) ∧
    (j.posts = true → x.full = false → s.faults.open_.length < 64 → Gives (.completionPost k true) s fun t =>
      t.jobs = s.jobs ∧ ∃ y, t.qp j.inst j.qp = some y ∧ y.state = .error ∧ y.errCode = 7 ∧ y.q = x.q))

/-- R34, R148, R156, R191, R199, R200, R205, R206, R217, R258, R432: the end of an operation's last engine command lets
its result stand, corrected where one retry removed a fault, and ENGINE_FAULT with the unit quarantined where it did
not; a held job's output is written at its boundary, the least multiple of its quantum that its time allows; the waits
for room, for jobs to drain and for randomness end at their times. -/
def Obligations.EnginesBoundariesAndWaitsEnd : Prop :=
  (∀ (u : Fin 387) (w : Waiting) (count : Nat) (s : State) (j : Job), LastCommand s u w j →
    (j.result.status = .ok → j.result.acts = [] → j.result.streamed = 0 →
      Gives (.engineCommandDone (unitKind u) u .done count) s (fun t =>
        (∀ v ∈ t.sched.waiting, v.slot ≠ w.slot) ∧
        Stands t w.slot fun r => r.status = .ok ∧ r.output = j.result.output) ∧
      ((s.units.getD u {}).corrected.length < 15 → Gives (.engineCommandDone (unitKind u) u .corrected count) s fun t =>
        ∃ j', t.job w.slot = some j' ∧ (j'.phase = .ready ∨ j'.phase = .finished) ∧ j'.result.status = .ok ∧
          j'.corrected = some (unitKind u, unitNumber u))) ∧
    (s.faults.open_.length < 64 → s.units.length = 387 → (s.units.getD u {}).state = .active →
      Gives (.engineCommandDone (unitKind u) u .failed count) s fun t =>
        (Stands t w.slot fun r => r.status = .engineFault ∧
          r.detail = BitVec.ofNat 64 (unitKind u + 256 * unitNumber u)) ∧
        (t.units.getD u {}).state = .quarantined ∧ ∃ r ∈ t.faults.open_, r.source = 0x02)) ∧
  (∀ (k : Fin 16384) (s : State) (j : Job) (o : Nat), s.job k = some j → j.phase = .ready → j.shielded = true →
    j.origin = some o → 0 < j.quantum → j.result.status = .ok → j.result.acts = [] → j.result.streamed = 0 →
    Gives (.shieldBoundary k) s fun t =>
      (∃ b, j.quantum ∣ b ∧ j.quantum ≤ b ∧ j.ready ≤ b ∧ (b = j.quantum ∨ b < j.ready + j.quantum) ∧
        o + b ≤ t.gov.refCount) ∧
      t.out = s.out ++ pieceWrites j.inst j.dst j.result.output ∧
      ∃ j', t.job k = some j' ∧ j'.phase = .finished ∧ j'.result.outLen = j.result.output.length) ∧
  (∀ (i : Fin 1024) (q : Fin 1023) (s : State) (x : Qp) (since : Nat), s.qp i q = some x →
    x.waitSince = some since → x.waitTold = false → Gives (.cqWait i q) s fun t => since + 10000000 ≤ t.now ∧
      t.jobs = s.jobs ∧ (∃ y, t.qp i q = some y ∧ y.waitTold = true) ∧ (logTakes s 2 → Logged s t .cqWait)) ∧
  (∀ s : State, s.start.draining ≠ none → Gives (.drainTimeout .device) s fun t => t.jobs = [] ∧
    s.start.drainSince + 1000000 * s.odNum 0x13000D ≤ t.now) ∧
  (∀ (n : Nat) (i : Fin 1024) (s : State), (s.inst i).drainSince + 1000000 * s.odNum 0x13000D = n →
    ((s.inst i).drain = some .reset → Gives (.drainTimeout (.inst i)) s fun t => t.jobsOf i = [] ∧ n ≤ t.now) ∧
    ((s.inst i).drain = some .freeze → Gives (.drainTimeout (.inst i)) s fun t => t.jobsOf i = [] ∧ n ≤ t.now ∧
      (t.inst i).squashed = (s.inst i).squashed ++
        ((s.jobsOf i).filter (·.2.phase != .finished)).map fun k => (k.2.qp, k.2.entry.tag))) ∧
  (∀ (k : Fin 16384) (s : State) (j : Job) (since : Nat), s.job k = some j → j.phase = .dispatched →
    j.waitSince = some since → Gives (.entropyWaitTimeout k) s fun t => since + 50000000 ≤ t.now ∧
      Stands t k fun r => r.status = .entropyUnavailable ∧ r.detail = if j.waitDue then 2 else 1)

/-- R136, R137, R139, R140, R149, R182, R273, R274, R276: host writes reach the registers their addresses name; the spill
area is granted, revoked and read back; a stateful key is built block by block and its leaves are reserved. -/
def Obligations.RegistersSpillAndBuilds : Prop :=
  (∀ (i : Fin 1024) (q : Fin 1023) (v : BitVec 64) (s : State) (p : Nat), s.portOf i = some p →
    s.mailServed p = true → s.hasRegs i = true →
    let page := 0x1000 * (q.val + 1)
    exec (.registerWrite (.vf i) page 4 v) s =
      (if v.getLsbD 31 then exec (.sqWithdraw i q (v.setWidth 17)) s else exec (.sqDoorbell i q (v.setWidth 17)) s) ∧
    exec (.registerWrite (.vf i) (page + 8) 4 v) s = exec (.cqDoorbell i q (v.setWidth 17)) s ∧
    exec (.registerWrite (.vf i) (page + 0x40) 4 v) s =
      (if v.getLsbD 0 then exec (.qpEnable i q (v.setWidth 32)) s else exec (.qpDisable i q (v.setWidth 32)) s) ∧
    (∀ x, s.qp i q = some x → x.state = .disabled →
      Gives (.registerWrite (.vf i) (page + 0x48) 8 v) s fun t => ∃ y, t.qp i q = some y ∧
        y.sqBase = v &&& 0xFFFFFFFFFFFFF000 ∧ y.cqBase = x.cqBase) ∧
    (∀ x, s.qp i q = some x → x.state = .active → v &&& 0xFFFFF000 ≠ x.sqBase &&& 0xFFFFFFFF →
      Gives (.registerWrite (.vf i) (page + 0x48) 4 v) s fun t => (t.inst i).errStatus.getLsbD 4 = true ∧
        t.qp i q = some x) ∧
    Gives (.registerWrite (.vf i) 0x0C 4 v) s (fun t =>
      (t.inst i).errStatus = (s.inst i).errStatus &&& ~~~(v.setWidth 32) ∧ t.jobs = s.jobs) ∧
    (∀ off size, size ≠ 4 → size ≠ 8 → exec (.registerWrite (.vf i) off size v) s = .next s)) ∧
  (∀ (p : Fin 4) (v : BitVec 64) (s : State), s.ports.length = 4 → s.mailServed p = true →
    Gives (.registerWrite (.ctrl p) 0x18 4 v) s (fun t =>
      (t.port p).evStatus = (s.port p).evStatus &&& ~~~(v.setWidth 32) ∧ t.insts = s.insts) ∧
    Gives (.registerWrite (.ctrl p) 0x1C 4 v) s (fun t => (t.port p).evEnable = v.setWidth 32 &&& 0x7F) ∧
    (∀ n, (s.port p).mbxBusy = false → (s.port p).mbxReq.length = 256 → slice 0 2 (s.port p).mbxReq = le 2 2 →
      n = BitVec.ofNat 16 (fieldLe 8 2 (s.port p).mbxReq) →
      exec (.registerWrite (.ctrl p) 0x1200 4 1) s =
        exec (.instEnable p (BitVec.ofNat 32 (fieldLe 4 4 (s.port p).mbxReq)) n) s)) ∧
  (∀ (i : Fin 1024) (s : State), s.hasRegs i = true →
    Gives (.spillGrant i) s (fun t => (t.inst i).spillEnable = true ∧ t.keys = s.keys) ∧
    ((s.inst i).spillEnable = true → Gives (.spillRevoke i) s fun t => (t.inst i).spillEnable = false ∧
      (t.inst i).spillBusy = true ∧ t.keys = s.keys) ∧
    ((s.inst i).spillEnable = false → exec (.spillRevoke i) s = .next s)) ∧
  (∀ (i : Fin 1024) (s : State), (s.inst i).spillBusy = true → (s.inst i).spillEnable = false →
    Gives (.spillRevokeDone i) s fun t => (t.inst i).spillBusy = false ∧
      ∀ r ∈ t.keys.records, r.2.owner = i.val → r.2.inH = false) ∧
  (∀ (k : Nat) (s : State) (r : KeyRecord) (b : Stateful), s.record k = some r → r.stateful = some b →
    s.instState r.owner = .enabled → s.start.phase = .ready →
    (r.state = 1 → b.buildDone + 1 < b.buildTotal → Gives (.statefulBuildBlock k) s fun t =>
      t.record k = some { r with stateful := some { b with buildDone := b.buildDone + 1 } }) ∧
    (r.state = 1 → b.buildTotal ≤ b.buildDone + 1 → Gives (.statefulBuildBlock k) s fun t =>
      ∃ r', t.record k = some r' ∧ r'.state = 0 ∧ r'.secret = r.secret ∧
        r'.stateful = some { b with buildDone := b.buildDone + 1 } ∧
        (logTakes s 0 → Logged s t .statefulReady)) ∧
    (r.state ≠ 1 → Gives (.statefulBuildBlock k) s fun t => ∃ b', t.record k = some { r with stateful := some b' } ∧
      b'.nextLeaf = b.nextLeaf ∧ b'.reservedTo = b.reservedTo ∧ b'.buildDone = b.buildDone)) ∧
  (∀ (k : Nat) (s : State) (r : KeyRecord) (b : Stateful), s.record k = some r → r.stateful = some b →
    (b.journalDue = true → s.start.readOnly = false → Gives (.leafBlockJournaled k) s fun t =>
      t.record k = some { r with stateful := some { b with
        reservedTo := min (b.reservedTo + 1024) b.total, journalDue := false } }) ∧
    (b.journalDue = false → exec (.leafBlockJournaled k) s = .next s))

/-! ### Digest windows, care of units and faults -/

namespace Sys2Proof.Claims

open Sys2Proof Sys2Proof.Machine

/-- A window of a port that works for it (R289, R290). -/
structure Owns (s : State) (p w : Fin 4) (x : Window) : Prop where
  works : s.windowsWork p = true
  here : s.meas.windows[w.val]? = some x
  owner : x.owner = some p.val

/-- A unit with its state in the table of units. -/
def UnitIs (s : State) (u : Nat) (x : UnitInfo) : Prop := s.units[u]? = some x

/-- A fault record of a source stands open. -/
def FaultOpen (t : State) (source : Nat) : Prop := ∃ r ∈ t.faults.open_, r.source = source

/-- A session asks for a disposition of an open record that it may give (R482, R483). -/
structure Disposes (s : State) (z : ZReq) (x : Session) (id : BitVec 32) (code : Nat) (r : FaultRecord) : Prop where
  request : Requests s z x
  entry : ∃ d, s.entryCheck x (keyOf 0x260003) false = .ok d
  record : s.faultRecord id.toNat = some r
  own : ∀ p, x.inBand = some p → s.portOf r.inst = some p
  quiet : s.warning = false ∧ s.lc.transition = none ∧ s.halted = false
  allowed : r.allowed.testBit (code - 1) = true

end Sys2Proof.Claims

/-- R289 to R296: a port claims a free window and sees BUSY on another's; its owner's token frees it; START begins a
digest or is refused; DATA takes 8 bytes, DATA_LAST the last ones, and the digest stands, extended into a measurement
register where EXTEND asks for it; a length that disagrees and a bus error clear the state; DIGEST reads as zero before
DONE; 10 s without a write free the window. -/
def Obligations.DigestWindowsHashWhatTheyTake : Prop :=
  (∀ (p w : Fin 4) (v : BitVec 32) (s : State) (x : Window), s.windowsWork p = true → v ≠ 0 →
    s.meas.windows[w.val]? = some x →
    (x.owner = none → Gives (.claim p w v) s fun t => t.window w = { owner := some p.val, token := v, lastWrite := s.now } ∧
      ∀ k, k ≠ w.val → t.window k = s.window k) ∧
    (∀ q, x.owner = some q → q ≠ p.val → Gives (.claim p w v) s fun t => p.val ∈ (t.window w).busyFor ∧
      (t.window w).owner = x.owner ∧ (t.window w).token = x.token ∧ (t.window w).message = x.message)) ∧
  (∀ (p w : Fin 4) (v : BitVec 32) (s : State) (x : Window), Owns s p w x →
    (x.token = v → Gives (.release p w v) s fun t => t.window w = {}) ∧
    (x.token ≠ v → Gives (.release p w v) s fun t => (t.window w).owner = some p.val)) ∧
  (∀ (p w : Fin 4) (v : BitVec 32) (s : State) (x : Window), s.meas.windows[w.val]? = some x →
    x.owner ≠ some p.val → ∀ c ∈ [Instr.release p w v, .digestStart p w v, .data p w 8 0 false,
      .dataLast p w 8 0 false], exec c s = .next s) ∧
  (∀ (p w : Fin 4) (v : BitVec 32) (s : State) (x : Window), Owns s p w x →
    let alg := v.toNat % 16
    (1 ≤ alg → alg ≤ 10 → v.getLsbD 22 = false ∨ alg = 3 → Gives (.digestStart p w v) s fun t =>
      (t.window w).active = true ∧ (t.window w).done = false ∧ (t.window w).message = [] ∧
      (t.window w).alg = alg ∧ (t.window w).limit = x.declared ∧ (t.window w).lengthError = false) ∧
    (alg = 0 ∨ 10 < alg ∨ v.getLsbD 22 = true ∧ alg ≠ 3 → Gives (.digestStart p w v) s fun t =>
      (t.window w).configError = true ∧ (t.window w).active = x.active ∧ (t.window w).message = x.message)) ∧
  (∀ (p w : Fin 4) (size : Nat) (v : BitVec 64) (poisoned : Bool) (s : State) (x : Window), Owns s p w x →
    (x.active = true → x.message.length + 8 ≤ x.limit → Gives (.data p w 8 v false) s fun t =>
      (t.window w).message = x.message ++ le 8 v.toNat ∧ (t.window w).active = true) ∧
    (x.active = true → x.limit < x.message.length + 8 → Gives (.data p w 8 v false) s fun t =>
      (t.window w).lengthError = true ∧ (t.window w).message = [] ∧ (t.window w).active = false ∧
      (t.window w).owner = some p.val) ∧
    (poisoned = true ∨ size ≠ 8 → ∀ c ∈ [Instr.data p w size v poisoned, .dataLast p w size v poisoned],
      Gives c s fun t => (t.window w).busError = true ∧ (t.window w).message = [] ∧
        (t.window w).active = false ∧ (t.window w).owner = some p.val ∧ (t.window w).token = x.token) ∧
    let whole := x.message ++ (le 8 v.toNat).take (x.wctrl.toNat / 256 % 16)
    (x.active = true → whole.length = x.limit → Gives (.dataLast p w 8 v false) s fun t =>
      (t.window w).done = true ∧ (t.window w).active = false ∧ (t.window w).digest = hashOf x.alg whole 0 ∧
      (x.wctrl.getLsbD 22 = false → t.meas.mr = s.meas.mr) ∧
      (x.wctrl.getLsbD 22 = true → x.alg = 3 → s.meas.mlog.length + 65536 ≤ 131072 → s.meas.mr.length = 40 →
        let n := 8 + 8 * p.val + x.wctrl.toNat / 2 ^ 16 % 8
        (t.window w).extended = true ∧
          t.meas.mr.getD n [] = sha384 (s.meas.mr.getD n [] ++ fit 48 (hashOf x.alg whole 0)) ∧
          ∀ k, k ≠ n → t.meas.mr.getD k [] = s.meas.mr.getD k [])) ∧
    (x.active = true → whole.length ≠ x.limit → Gives (.dataLast p w 8 v false) s fun t =>
      (t.window w).lengthError = true ∧ (t.window w).done = false ∧ (t.window w).message = [] ∧
      t.meas.mr = s.meas.mr)) ∧
  (∀ (p w : Fin 4) (word : Fin 8) (s : State) (x : Window), s.windowsWork p = true →
    s.meas.windows[w.val]? = some x →
    let at_ := 0x8000 + 0x1000 * w.val + 0x40 + 8 * word.val
    (x.done = true → Gives (.digestRead p w word) s fun t => t.meas = s.meas ∧ t.out = s.out ++
      [.registerRead p at_ (BitVec.ofNat 64 (ofLe (((fit 64 x.digest).drop (8 * word.val)).take 8)))]) ∧
    (x.done = false → Gives (.digestRead p w word) s fun t => (t.window w).earlyRead = true ∧
      t.out = s.out ++ [.registerRead p at_ 0])) ∧
  (∀ (w : Fin 4) (s : State) (x : Window), s.meas.windows[w.val]? = some x → x.owner ≠ none →
    Gives (.digestWindowIdle w) s fun t => t.window w = {} ∧ x.lastWrite + 10000000000 ≤ t.now ∧
      (logTakes s 0 → Logged s t .digestWindowFreed))

/-- R34, R474 to R479, R481 to R494: a self-test visit that fails quarantines its unit; one that passes keeps its ratio,
whose drift warns and retires; a scrub's finding is counted, or drops what it hit and opens a record; a watchdog that
clears its stage quarantines the unit, one that does not is fatal; a promotion visit that passes makes its spare
ACTIVE, one that fails retires it; a retiring unit without work is RETIRED. -/
def Obligations.UnitsAreTestedScrubbedAndReplaced : Prop :=
  (∀ (u : Fin 387) (pass : Bool) (duration fixed : Nat) (s : State) (x : UnitInfo), s.start.phase = .ready →
    s.odNum 0x130020 = 1 → UnitIs s u x → s.visited u = true →
    let bound := if unitKind u = 2 then 2048 else 512
    (pass = false ∨ bound < duration → x.state = .active → s.faults.open_.length < 64 →
      Gives (.selfTestVisit u pass duration fixed) s fun t => FaultOpen t 5 ∧
        ∃ y, UnitIs t u y ∧ y.state = .quarantined ∧ y.lastPass = false) ∧
    (pass = true → duration ≤ bound → fixed ≠ 0 →
      let last := (x.ratios ++ [10000 * duration / fixed]).drop (x.ratios.length + 1 - 16)
      let drift := driftOf last (s.otp.birthRatios.getD u 10000)
      (drift < s.odNum 0x210006 → drift < s.odNum 0x210007 →
        Gives (.selfTestVisit u pass duration fixed) s fun t => UnitIs t u { x with
          lastVisit := s.now, lastPass := true, ratios := last, drift := drift }) ∧
      ((s.odNum 0x210006 : Int) ≤ drift → drift < s.odNum 0x210007 → x.warned = false →
        Gives (.selfTestVisit u pass duration fixed) s fun t => (∃ y, UnitIs t u y ∧ y.warned = true ∧
          y.state = x.state) ∧ (logTakes s 1 → Logged s t .wearWarning)) ∧
      ((s.odNum 0x210007 : Int) ≤ drift → x.state = .active →
        s.minActive (unitKind u) ≤ ((s.unitsIn (unitKind u) .active).filter (· != u.val)).length →
        Gives (.selfTestVisit u pass duration fixed) s fun t => u.val ∈ t.otp.retired ∧
          ∃ y, UnitIs t u y ∧ (y.state = .retired ∨ y.state = .retiring)))) ∧
  (∀ s : State, s.start.phase = .ready →
    (∀ l, exec (.scrub l .none) s = .next s.dispatch) ∧
    (∀ u line, Gives (.scrub (.cloveLine u line) .single) s fun t =>
      t.counter 0x260004 0 = s.counter 0x260004 0 + 1) ∧
    (∀ (line k : Nat), k < peerBase → Gives (.scrub (.keyCacheLine line (some k)) .double) s fun t =>
      ∀ r, t.record k = some r → r.inS = false) ∧
    (∀ k r, s.record k = some r → r.inS = false → r.inA = false → s.faults.open_.length < 64 →
      Gives (.scrub (.vaultRecord k) .double) s fun t => t.record k = none ∧
        ∃ f ∈ t.faults.open_, f.source = 0x0A ∧ f.inst = r.owner) ∧
    (∀ (u line k : Nat) (j : Job), s.job k = some j → j.phase = .running → s.faults.open_.length < 64 →
      Gives (.scrub (.sequencerBank u line (some k)) .double) s fun t => FaultOpen t 8 ∧
        lineNumber 1 u line ∈ t.faults.mappedOut ∧
        Stands t k fun r => r.status = .engineFault ∧ r.detail = BitVec.ofNat 64 (1 + 256 * u))) ∧
  (∀ s : State, s.pwr.dieOn = true → s.halted = false →
    (∀ stage, s.lc.transition = none → Gives (.watchdogExpiry stage false) s fun t => t.start.phase = .halted ∧
      t.start.haltCause = BitVec.ofNat 16 EventCode.fatal.code ∧ t.jobs = [] ∧ t.clove = List.replicate 72 [] ∧
      t.faults.lastFatal.take 2 = le 2 0x20) ∧
    (∀ (u : Fin 387) (x : UnitInfo), UnitIs s u x → x.state = .active → s.faults.open_.length < 64 →
      Gives (.watchdogExpiry (.unit u) true) s fun t => FaultOpen t 4 ∧
        ∃ y, UnitIs t u y ∧ y.state = .quarantined) ∧
    (∀ (w : Fin 4) (x : Window), s.meas.windows[w.val]? = some x → s.faults.open_.length < 64 →
      Gives (.watchdogExpiry (.window w) true) s fun t => FaultOpen t 6 ∧ (t.window w).active = false ∧
        (t.window w).message = [] ∧ (t.window w).owner = x.owner)) ∧
  (∀ (u : Fin 387) (s : State) (x : UnitInfo), UnitIs s u x → x.state = .spare → u.val ∈ s.faults.pendingVisits →
    Gives (.spareVisitDone u true) s (fun t => (∃ y, UnitIs t u y ∧ y.state = .active) ∧
      u.val ∉ t.faults.pendingVisits ∧ (unitKind u = 2 → t.clove.getD (unitNumber u) [] = []) ∧
      (logTakes s 1 → ∃ e, s.log.buffer ++ [e] <+: t.log.buffer ∧
        e.code = BitVec.ofNat 16 EventCode.sparePromoted.code)) ∧
    Gives (.spareVisitDone u false) s (fun t => (∃ y, UnitIs t u y ∧ y.state = .retired) ∧
      u.val ∉ t.faults.pendingVisits ∧ u.val ∈ t.otp.retired)) ∧
  (∀ (u : Fin 387) (s : State) (x : UnitInfo), UnitIs s u x → x.state = .retiring →
    (s.unitBusy u = false → Gives (.retiringUnitIdle u) s fun t => UnitIs t u { x with state := .retired } ∧
      t = { s with units := t.units }) ∧
    (s.unitBusy u = true → exec (.retiringUnitIdle u) s = .next s))

/-- R476, R481 to R483: a record closes with the disposition it allows, which takes effect: RETRY returns a unit that
passes and retires one that fails, RETIRE retires, RESET_INSTANCE begins a drain reset, ACCEPT leaves all as it is; a
write that names no open record is refused; the grace timer's end applies the default escalation, or waits while a
power-fail warning lasts. -/
def Obligations.FaultRecordsAreDisposed : Prop :=
  (∀ (z : ZReq) (id : BitVec 32) (s : State) (x : Session) (r : FaultRecord) (v : UnitInfo),
    let u := unitIndex r.kind r.number
    (Disposes s z x id 1 r → r.kind ≠ 0 → r.source ≠ 0x0F → r.source ≠ 0x12 → UnitIs s u v → v.retried = false →
      v.state = .quarantined →
      Gives (.retry z id true) s (fun t => Answered s t z x 0x02 .ok [] ∧ t.faultRecord id.toNat = none ∧
        ∃ y, UnitIs t u y ∧ y.retried = true ∧ y.state = if v.wasSpare then .spare else .active) ∧
      (unitKind u = r.kind → s.minActive r.kind ≤ ((s.unitsIn r.kind .active).filter (· != u)).length →
        Gives (.retry z id false) s fun t => Answered s t z x 0x02 .ok [] ∧ t.faultRecord id.toNat = none ∧
          u ∈ t.otp.retired ∧ ∃ y, UnitIs t u y ∧ y.state = .retired)) ∧
    (Disposes s z x id 1 r → r.kind ≠ 0 → UnitIs s u v → v.retried = true → ∀ pass, Gives (.retry z id pass) s fun t =>
      Answered s t z x 0x02 .stateConflict [] ∧ t.faultRecord id.toNat = some r) ∧
    (Disposes s z x id 2 r → r.kind ≠ 0 → r.source ≠ 0x0F → r.source ≠ 0x12 → UnitIs s u v →
      v.state = .quarantined → unitKind u = r.kind →
      s.minActive r.kind ≤ ((s.unitsIn r.kind .active).filter (· != u)).length →
      Gives (.retire z id) s fun t => Answered s t z x 0x02 .ok [] ∧ t.faultRecord id.toNat = none ∧
        u ∈ t.otp.retired ∧ ∃ y, UnitIs t u y ∧ y.state = .retired) ∧
    (Disposes s z x id 3 r → 4 ≤ r.inst → r.inst ≠ 0xFFFF → (s.inst r.inst).state ∈ [.created, .enabled, .frozen] →
      Gives (.resetInstance z id) s fun t => Answered s t z x 0x02 .ok [] ∧ t.faultRecord id.toNat = none ∧
        (t.inst r.inst).state = .resetting ∧ (t.inst r.inst).drain = some .reset) ∧
    (Disposes s z x id 4 r → Gives (.accept z id) s fun t => Answered s t z x 0x02 .ok [] ∧
      t.faultRecord id.toNat = none ∧ t.units = s.units ∧ t.otp = s.otp)) ∧
  (∀ (z : ZReq) (id : BitVec 32) (s : State) (x : Session), Requests s z x →
    (∃ d, s.entryCheck x (keyOf 0x260003) false = .ok d) → s.faultRecord id.toNat = none →
    ∀ c ∈ [Instr.retry z id true, .retire z id, .resetInstance z id, .accept z id], Gives c s fun t =>
      Answered s t z x 0x02 .stateConflict [] ∧ t.faults = s.faults ∧ t.units = s.units) ∧
  (∀ (id : Nat) (s : State) (r : FaultRecord), s.faultRecord id = some r →
    (s.warning = false → r.escalation = 0 → Gives (.graceTimerExpiry id) s fun t => r.deadline ≤ t.now ∧
      t.faultRecord id = none ∧ t.units = s.units ∧ t.otp = s.otp) ∧
    (∀ v, s.warning = false → r.escalation = 1 → r.kind ≠ 0 → r.source ≠ 0x0F → r.source ≠ 0x12 →
      UnitIs s (unitIndex r.kind r.number) v → v.state = .quarantined → unitKind (unitIndex r.kind r.number) = r.kind →
      s.minActive r.kind ≤ ((s.unitsIn r.kind .active).filter (· != unitIndex r.kind r.number)).length →
      Gives (.graceTimerExpiry id) s fun t => r.deadline ≤ t.now ∧ t.faultRecord id = none ∧
        unitIndex r.kind r.number ∈ t.otp.retired ∧
        ∃ y, UnitIs t (unitIndex r.kind r.number) y ∧ y.state = .retired) ∧
    (s.warning = true → Gives (.graceTimerExpiry id) s fun t => r.deadline ≤ t.now ∧ id ∈ t.faults.deferred ∧
      t.faultRecord id = some r ∧ t.units = s.units))

/-! ### Custody cards -/

namespace Sys2Proof.Claims

open Sys2Proof Sys2Proof.Machine

/-- A custodian's session writes CARD_OP with a card seated, in a state that takes card operations (R97, R525). -/
structure WritesCardOp (s : State) (z : ZReq) (x : Session) : Prop where
  request : Requests s z x
  entry : ∃ d, s.entryCheck x (keyOf 0x280003) false = .ok d
  notHalted : s.halted = false
  quiet : s.warning = false ∧ s.lc.transition = none ∧ s.lc.debugOpen = false ∧ s.warden.debugFlag = false

/-- A card operation runs on the identified card of the port. -/
structure RunsCardOp (s : State) (code : Nat) : Prop where
  running : s.card.op.state = 1
  step : s.card.step = 8
  code : s.card.op.op = code

/-- The operation is entered on the seated card (R525, R533). -/
def Entered (s t : State) (x : Session) (code arg : Nat) : Prop :=
  t.card.op.state = 1 ∧ t.card.op.op = code ∧ t.card.op.arg = arg ∧ t.card.op.serial = s.card.serial ∧
    t.card.op.session = x.id.toNat ∧ t.card.state = .busy

/-- The operation has ended with a status, and the identified card is READY again (R525, R533). -/
def EndedCardOp (t : State) (st : Status) : Prop :=
  t.card.op.state = 3 ∧ t.card.op.status = BitVec.ofNat 16 st.code ∧ t.card.state = .ready

end Sys2Proof.Claims

/-- R516 to R518, R520 to R523, R533: a card that is inserted is powered after 10 ms, polled until it is ready or
refused after 1 s, challenged, and identified where its certificate and its signature hold, else refused; one that
rests or is taken out leaves the port as the rules say, suspending a backup and ending any other operation. -/
def Obligations.CardsAreIdentifiedAndRemoved : Prop :=
  (∀ s : State, s.card.detect = false → Gives .cardDetectClose s fun t => t.card.detect = true ∧
    t.card.detectAt = s.now ∧ t.card.vdd = s.card.vdd ∧ t.keys = s.keys) ∧
  (∀ s : State, s.cardServes = true → s.card.detect = true → s.card.state = .empty →
    Gives .cardDetectDebounced s fun t => s.card.detectAt + 10000000 ≤ t.now ∧ t.card.vdd = true ∧
      t.card.step = 4 ∧ t.card.vddAt = t.now ∧ t.counter 0x280011 0 = s.counter 0x280011 0 + 1 ∧
      (s.card.op.state ≠ 1 → t.card.state = .identifying)) ∧
  (∀ (s18a : Bool) (s : State), s.cardServes = true → s.card.step = 4 →
    (s.recoveryWanted = false → s.internalServes = true → Gives (.cardReadyPoll true s18a) s fun t =>
      t.card.step = 7 ∧ t.card.recovery = false ∧ t.card.challenge.length = 32) ∧
    (s.recoveryWanted = true → s.card.fallback = false → Gives (.cardReadyPoll true false) s fun t =>
      t.card.step = 4 ∧ t.card.fallback = true ∧ t.card.vddAt = t.now ∧ t.card.op = s.card.op) ∧
    (s.now + 10000000 < s.card.vddAt + 1000000000 → Gives (.cardReadyPoll false s18a) s fun t =>
      t.now = s.now + 10000000 ∧ t.card = s.card) ∧
    (s.card.vddAt + 1000000000 ≤ s.now + 10000000 → s.recoveryWanted = false →
      Gives (.cardReadyPoll false s18a) s fun t => t.card.state = .refused ∧ t.card.vdd = false ∧
        t.counter 0x280011 1 = s.counter 0x280011 1 + 1)) ∧
  (∀ (cert : CardCert) (s : State), s.cardServes = true → s.card.step = 7 →
    (cert.certOk = true → cert.sigOk = true → cert.role = 1 ∨ cert.role = 2 → s.card.op.state = 0 →
      Gives (.cardAuthenticated cert) s fun t => t.card.state = .ready ∧ t.card.step = 8 ∧
        t.card.serial = cert.serial ∧ t.card.role = cert.role ∧ t.card.protPerm = cert.protPerm ∧
        t.card.protTemp = cert.protTemp ∧
        t.card.enrolled = (cert.role == 2 && s.cardEnrolled cert.serial cert.keyDigest) ∧
        (logTakes s 0 → Logged s t .cardIdentified)) ∧
    (cert.certOk = false ∨ cert.sigOk = false ∨ cert.role ≠ 1 ∧ cert.role ≠ 2 →
      Gives (.cardAuthenticated cert) s fun t => t.card.state = .refused ∧ t.card.vdd = false ∧
        t.card.serial = 0 ∧ (s.card.op.state = 1 → t.card.op.state = 3))) ∧
  (∀ s : State, s.card.detect = true → Gives .cardDetectOpen s fun t => t.card.detect = false ∧
    t.card.state = .empty ∧ t.card.vdd = false ∧ t.card.serial = 0 ∧ t.card.role = 0 ∧
    (s.card.op.state = 1 → s.card.op.op = 4 → t.card.op.state = 2 ∧ t.card.op.suspendedAt = s.now ∧
      t.card.image = s.card.image) ∧
    (s.card.op.state = 1 → s.card.op.op ≠ 4 → t.card.op.state = 3 ∧
      t.card.op.status = BitVec.ofNat 16 Status.cardRemoved.code) ∧
    (s.card.op.state ≠ 1 → t.card.op = s.card.op)) ∧
  (∀ s : State, s.card.state = .ready → s.card.step = 8 → Gives .cardRest s fun t => t.card.state = .rest ∧
    t.card.serial = s.card.serial ∧ s.card.lastCmd + 1000000000 * s.odNum 0x280007 ≤ t.now) ∧
  (∀ s : State, s.card.op.state = 2 → Gives .backupResumeExpiry s fun t => t.card.op.state = 3 ∧
    t.card.op.status = BitVec.ofNat 16 Status.cardRemoved.code ∧ t.card.image = none ∧
    s.card.op.suspendedAt + 1000000000 * s.odNum 0x280008 ≤ t.now)

/-- R518, R519, R523, R525 to R531: each card operation is entered on the seated card, or refused with STATE_CONFLICT
while another runs or where the card's protection or the approval's target forbids it; the card's answer ends it:
approvals join the list, a configuration set is staged, protection is set or cleared, a backup's image stands, a
restore's read pass sets the marker and restarts; approvals expire after 600 s. -/
def Obligations.CardOperationsRunAndEnd : Prop :=
  (∀ (z : ZReq) (arg : Nat) (m : CardImage) (s : State) (x : Session), WritesCardOp s z x →
    (s.card.op.state = 0 ∨ s.card.op.state = 3 →
      Gives (.approve z 4) s (fun t => Answered s t z x 0x02 .ok [] ∧ Entered s t x 1 4) ∧
      Gives (.configLoad z arg) s (fun t => Answered s t z x 0x02 .ok [] ∧ Entered s t x 3 (arg % 256)) ∧
      Gives (.protect z arg) s (fun t => Answered s t z x 0x02 .ok [] ∧ Entered s t x 6 (arg % 256)) ∧
      Gives (.unprotect z arg) s (fun t => Answered s t z x 0x02 .ok [] ∧ Entered s t x 7 (arg % 256)) ∧
      (s.card.protPerm = false → s.card.protTemp = false →
        (s.configFits = true → Gives (.configSave z arg) s fun t => Answered s t z x 0x02 .ok [] ∧
          Entered s t x 2 (arg % 256)) ∧
        (s.testRootInUse = false → Gives (.backup z arg) s fun t => Answered s t z x 0x02 .ok [] ∧
          Entered s t x 4 (arg % 256) ∧ t.card.op.imageId.length = 16 ∧ 1 ≤ t.card.op.total ∧
          ∃ v, t.card.image = some v ∧ v.keys = s.keys ∧ v.od = s.od ∧ v.insts = s.insts)) ∧
      (s.card.protPerm = true ∨ s.card.protTemp = true → ∀ c ∈ [Instr.configSave z arg, .backup z arg],
        Gives c s fun t => Answered s t z x 0x02 .stateConflict [] ∧ t.card = s.card) ∧
      (s.testRootInUse = false → m.found = true → m.manifestOk = true → s.otp.genBits ≤ m.generation →
        Gives (.restore z arg m) s fun t => Answered s t z x 0x02 .ok [] ∧ Entered s t x 5 (arg % 256) ∧
          t.card.op.total = m.segments) ∧
      (s.testRootInUse = false → m.found = false ∨ m.manifestOk = false ∨ m.generation < s.otp.genBits →
        Gives (.restore z arg m) s fun t => Answered s t z x 0x02 .ok [] ∧ t.card.op.state = 3 ∧
          t.card.op.status = BitVec.ofNat 16 Status.inputRejected.code ∧ t.card.markerSet = s.card.markerSet) ∧
      Gives (.cancel z arg) s (fun t => Answered s t z x 0x02 .stateConflict [] ∧ t.card = s.card)) ∧
    (s.card.op.state = 1 ∨ s.card.op.state = 2 → ∀ c ∈ [Instr.approve z 4, .configSave z arg, .configLoad z arg,
      .backup z arg, .restore z arg m, .protect z arg, .unprotect z arg],
      Gives c s fun t => Answered s t z x 0x02 .stateConflict [] ∧ t.card = s.card) ∧
    (arg % 256 ≠ 4 → Gives (.approve z arg) s fun t => Answered s t z x 0x02 .stateConflict [] ∧ t.card = s.card) ∧
    (s.card.op.state = 2 → Gives (.cancel z arg) s fun t => Answered s t z x 0x02 .ok [] ∧ t.card.op.state = 3 ∧
      t.card.op.status = BitVec.ofNat 16 Status.cardRemoved.code ∧ t.card.image = none)) ∧
  (∀ s : State, RunsCardOp s 1 → Gives (.cardOpDone { ok := true, valid := true }) s fun t => EndedCardOp t .ok ∧
    t.card.approvals.length ≤ 8) ∧
  (∀ s : State, RunsCardOp s 1 → s.card.approvals.length < 8 →
    (∀ a ∈ s.card.approvals, a.serial ≠ s.card.serial) → Gives (.cardOpDone { ok := true, valid := true }) s fun t =>
      EndedCardOp t .ok ∧ t.card.approvals = s.card.approvals ++
        [{ serial := s.card.serial, target := s.card.op.arg, at_ := s.now }]) ∧
  (∀ s : State, RunsCardOp s 2 → Gives (.cardOpDone { ok := true }) s (EndedCardOp · .ok)) ∧
  (∀ (content : Bytes) (s : State), RunsCardOp s 3 →
    Gives (.cardOpDone { ok := true, valid := false, content := content }) s (fun t =>
      EndedCardOp t .inputRejected ∧ t.mgmt.txn = s.mgmt.txn) ∧
    (s.mgmt.txn.open_ = false → Gives (.cardOpDone { ok := true, valid := true, content := content }) s fun t =>
      EndedCardOp t .stateConflict ∧ t.mgmt.txn = s.mgmt.txn) ∧
    (∀ l staged, s.mgmt.txn.open_ = true → s.mgmt.txn.session.toNat = s.card.op.session →
      parseConfig 256 content = some l → stageAll s.mgmt.txn.staged l = some staged →
      Gives (.cardOpDone { ok := true, valid := true, content := content }) s fun t => EndedCardOp t .ok ∧
        t.mgmt.txn.staged = staged)) ∧
  (∀ s : State, RunsCardOp s 4 → (s.card.op.done < s.card.op.total → Gives .cardSegmentCommitted s fun t =>
      t.card.op.done = s.card.op.done + 1 ∧ t.card.op.state = 1 ∧ t.card.image = s.card.image) ∧
    (∀ v, s.card.op.total ≤ s.card.op.done → s.card.image = some v → s.card.recovery = false →
      Gives (.cardOpDone { ok := true }) s fun t => EndedCardOp t .ok ∧
        t.counter 0x280011 3 = s.counter 0x280011 3 + 1 ∧ (s.card.op.imageId, v) ∈ t.card.images)) ∧
  (∀ s : State, RunsCardOp s 5 →
    Gives (.restoreReadPassDone true) s (fun t => EndedCardOp t .ok ∧ t.card.markerSet = true ∧ t.card.markerDone = 0 ∧
      t.card.markerImage = fit 16 s.card.op.imageId ∧ t.start.draining = some .restart ∧ t.keys = s.keys) ∧
    (s.card.recovery = false → Gives (.restoreReadPassDone false) s fun t => EndedCardOp t .inputRejected ∧
      t.card.markerSet = s.card.markerSet ∧ t.start = s.start)) ∧
  (∀ s : State,
    (RunsCardOp s 6 → Gives (.cardOpDone { ok := true }) s fun t => EndedCardOp t .ok ∧ t.card.protTemp = true ∧
      t.card.protPerm = s.card.protPerm) ∧
    (RunsCardOp s 7 → Gives (.cardOpDone { ok := true }) s fun t => EndedCardOp t .ok ∧ t.card.protTemp = false ∧
      t.card.protPerm = s.card.protPerm)) ∧
  (∀ (n : Fin 8) (s : State) (a : Approval), s.card.approvals[n.val]? = some a →
    Gives (.approvalExpiry n) s fun t => a.at_ + 600000000000 ≤ t.now ∧
      t.card.approvals = s.card.approvals.eraseIdx n.val)

/-! ### The whole block -/

/-- A step takes the command at the front of the queue and gives what `exec` gives on the state with the queue's rest.
On an empty queue 8 ns pass and the dispatcher runs. The queue and the idling are the model's own choices (log entries
15 and 3). -/
def Obligations.StepRunsTheFrontCommand : Prop :=
  (∀ (c : Instr) (rest : List Instr) (s : State), step { s with pending := c :: rest } = exec c { s with pending := rest }) ∧
  (∀ s : State, s.pending = [] → ∃ t, step s = .next t ∧ t.now = s.now + 8 ∧ t.pending = [] ∧ t.otp = s.otp)

/-- R16, R84, R118, R145, R195, R289, R290, R294, R480, R501: after reset the operand memories read as zero, no job holds
a slot, every VF instance is UNALLOCATED, no session and no transaction is open, the digest windows are free, the
measurement registers are zero, no fault record is open, the log is empty and the next SEQ is 1. That the queue is empty
and the shape of the state are the model's (log entries 5 and 15). -/
def Obligations.ResetHoldsItsValues : Prop :=
  Inv State.reset ∧ State.reset.pending = [] ∧
  (∀ e a, Mem.read a (State.reset.clove.getD e []) = 0) ∧ State.reset.jobs = [] ∧
  (∀ i, 4 ≤ i → State.reset.instState i = .unallocated) ∧ State.reset.mgmt.sessions = [] ∧
  State.reset.mgmt.txn.open_ = false ∧ (∀ w, (State.reset.window w).owner = none) ∧
  (∀ m ∈ State.reset.meas.mr, m = zeros 48) ∧ State.reset.faults.open_ = [] ∧ State.reset.log.log = [] ∧
  State.reset.log.buffer = [] ∧ State.reset.warden.nextSeq = 1 ∧ State.reset.start.phase = .warden

/-- R125, R129, R246, R289, R294, R317, R419, R423, R427, R457, R459, R487: every step from a state of the block's shape
gives a state of that shape, whatever the command. -/
def Obligations.EveryStepKeepsTheShape : Prop :=
  ∀ s t : State, Inv s → step s = .next t → Inv t

/-- R125, R419, R490, R501: no step takes back time, an event sequence number, a programmed bit of the archive generation
or a unit's retirement. -/
def Obligations.NoStepGoesBack : Prop :=
  ∀ s t : State, Inv s → step s = .next t → Onward s t

/-- R24: every command completes in every state, and leaves the commands behind it in the queue as they are. The queue is
the model's own (log entry 15). -/
def Obligations.EveryCommandCompletes : Prop :=
  ∀ (c : Instr) (s : State), ∃ t, exec c s = .next t ∧ t.pending = s.pending
end

