-- ==== Sys2Proof/Laws/Memory.lean ====
section
/-! SUPPORT. The laws of a byte memory: what a read gives after a write, and that every operation keeps the canonical
form. -/

namespace Sys2Proof.Machine

open Sys2Proof

/-- The canonical form, said of the whole list. -/
theorem Mem.wf_iff (m : Mem) :
    Mem.wf m = true ↔ m.Pairwise (fun c d => c.1 < d.1) ∧ ∀ c ∈ m, c.2 ≠ 0 := by
  induction m with
  | nil => simp [Mem.wf]
  | cons c r ih =>
    obtain ⟨a, v⟩ := c
    cases r with
    | nil => simp [Mem.wf]
    | cons d r =>
      obtain ⟨b, w⟩ := d
      simp only [Mem.wf, Bool.and_eq_true, bne_iff_ne, decide_eq_true_eq, ih]
      constructor
      · rintro ⟨⟨hv, hab⟩, hp, hz⟩
        refine ⟨List.pairwise_cons.2 ⟨?_, hp⟩, ?_⟩
        · intro c hc
          rcases List.mem_cons.1 hc with rfl | hc
          · exact hab
          · exact lt_trans hab ((List.pairwise_cons.1 hp).1 c hc)
        · intro c hc
          rcases List.mem_cons.1 hc with rfl | hc
          · exact hv
          · exact hz c hc
      · rintro ⟨hp, hz⟩
        have h := List.pairwise_cons.1 hp
        exact ⟨⟨hz (a, v) (by simp), h.1 (b, w) (by simp)⟩, h.2, fun c hc => hz c (by simp [hc])⟩

/-- Any choice of entries of a canonical list is canonical. -/
theorem Mem.filter_wf {m : Mem} (h : Mem.wf m = true) (f : Nat × Byte → Bool) : Mem.wf (m.filter f) = true := by
  rw [Mem.wf_iff] at *
  exact ⟨h.1.filter f, fun c hc => h.2 c (List.mem_filter.1 hc).1⟩

/-- What an insertion lists is the new entry and entries that were there. -/
theorem Mem.mem_insert {m : Mem} {a : Nat} {v : Byte} {c : Nat × Byte} (h : c ∈ Mem.insert a v m) :
    c = (a, v) ∨ c ∈ m := by
  induction m with
  | nil => simpa [Mem.insert] using h
  | cons d r ih =>
    obtain ⟨b, w⟩ := d
    rw [Mem.insert] at h
    split_ifs at h with h1 h2
    · rcases List.mem_cons.1 h with e | e
      · exact Or.inl e
      · exact Or.inr e
    · rcases List.mem_cons.1 h with e | e
      · exact Or.inl e
      · exact Or.inr (by simp [e])
    · rcases List.mem_cons.1 h with e | e
      · exact Or.inr (by simp [e])
      · exact (ih e).imp id fun e => by simp [e]

/-- Inserting a byte that is not zero keeps the canonical form. -/
theorem Mem.insert_wf {m : Mem} (h : Mem.wf m = true) (a : Nat) {v : Byte} (hv : v ≠ 0) :
    Mem.wf (Mem.insert a v m) = true := by
  rw [Mem.wf_iff] at *
  refine ⟨?_, fun c hc => (Mem.mem_insert hc).elim (fun e => e ▸ hv) (h.2 c)⟩
  obtain ⟨h, -⟩ := h
  induction m with
  | nil => simp [Mem.insert]
  | cons d r ih =>
    obtain ⟨b, w⟩ := d
    have hp := List.pairwise_cons.1 h
    rw [Mem.insert]
    split_ifs with h1 h2
    · exact List.pairwise_cons.2 ⟨fun c hc => (List.mem_cons.1 hc).elim (fun e => e ▸ h1)
        fun hc => lt_trans h1 (hp.1 c hc), h⟩
    · exact List.pairwise_cons.2 ⟨fun c hc => h2 ▸ hp.1 c hc, hp.2⟩
    · refine List.pairwise_cons.2 ⟨fun c hc => ?_, ih hp.2⟩
      rcases Mem.mem_insert hc with e | hc
      · simp only [e]
        omega
      · exact hp.1 c hc

/-- A write keeps the canonical form. -/
theorem Mem.write_wf {m : Mem} (h : Mem.wf m = true) (a : Nat) (v : Byte) : Mem.wf (Mem.write a v m) = true := by
  rw [Mem.write]
  split_ifs with hv
  · exact Mem.filter_wf h _
  · exact Mem.insert_wf h a hv

/-- Writing a byte string keeps the canonical form. -/
theorem Mem.writeN_wf (bs : Bytes) {m : Mem} (h : Mem.wf m = true) (a : Nat) : Mem.wf (Mem.writeN m a bs) = true := by
  induction bs generalizing m a with
  | nil => exact h
  | cons b bs ih => exact ih (Mem.write_wf h a b) (a + 1)

/-- Clearing a range keeps the canonical form. -/
theorem Mem.clear_wf {m : Mem} (h : Mem.wf m = true) (a n : Nat) : Mem.wf (Mem.clear m a n) = true :=
  Mem.filter_wf h _

/-- A choice of entries reads as before where the address is chosen, and as zero where it is not. -/
theorem Mem.read_filter (m : Mem) (a : Nat) (f : Nat → Bool) :
    Mem.read a (m.filter fun c => f c.1) = if f a then Mem.read a m else 0 := by
  induction m with
  | nil => simp [Mem.read]
  | cons c r ih =>
    obtain ⟨b, w⟩ := c
    rw [List.filter_cons]
    by_cases hb : b = a
    · subst hb
      cases hf : f b <;> simp_all [Mem.read]
    · split
      · rw [Mem.read, if_neg hb, ih, Mem.read, if_neg hb]
      · rw [ih, Mem.read, if_neg hb]

/-- An insertion is read back, and no other address is touched. -/
theorem Mem.read_insert (m : Mem) (a b : Nat) (v : Byte) :
    Mem.read a (Mem.insert b v m) = if a = b then v else Mem.read a m := by
  induction m with
  | nil => simp [Mem.insert, Mem.read, eq_comm]
  | cons c r ih =>
    obtain ⟨x, w⟩ := c
    rw [Mem.insert]
    split_ifs <;> simp only [Mem.read] <;> grind

/-- A read after a write to the same address gives the byte written. -/
@[simp] theorem Mem.read_write_same (m : Mem) (a : Nat) (v : Byte) : Mem.read a (Mem.write a v m) = v := by
  rw [Mem.write]
  split_ifs with hv
  · rw [Mem.read_filter m a fun k => k != a]
    simp [hv]
  · rw [Mem.read_insert, if_pos rfl]

/-- A write leaves every other address as it was. -/
theorem Mem.read_write_other {a b : Nat} (hab : a ≠ b) (m : Mem) (v : Byte) :
    Mem.read a (Mem.write b v m) = Mem.read a m := by
  rw [Mem.write]
  split_ifs with hv
  · rw [Mem.read_filter m a fun k => k != b]
    simp [hab]
  · rw [Mem.read_insert, if_neg hab]

/-- Writing a byte string leaves every address outside it as it was. -/
theorem Mem.read_writeN_other (bs : Bytes) (m : Mem) {a b : Nat} (hab : a < b ∨ b + bs.length ≤ a) :
    Mem.read a (Mem.writeN m b bs) = Mem.read a m := by
  induction bs generalizing m b with
  | nil => rfl
  | cons v bs ih =>
    simp only [List.length_cons] at hab
    rw [Mem.writeN, ih _ (by omega), Mem.read_write_other (by omega)]

/-- A read after a byte string was written gives its bytes. -/
theorem Mem.read_writeN (bs : Bytes) (m : Mem) (a i : Nat) (hi : i < bs.length) :
    Mem.read (a + i) (Mem.writeN m a bs) = bs[i] := by
  induction bs generalizing m a i with
  | nil => simp at hi
  | cons v bs ih =>
    rw [Mem.writeN]
    cases i with
    | zero =>
      rw [Mem.read_writeN_other bs _ (by omega)]
      exact Mem.read_write_same m a v
    | succ i =>
      have := ih (Mem.write a v m) (a + 1) i (by simpa using hi)
      rw [show a + (i + 1) = a + 1 + i by omega, this]
      rfl

/-- Reading back the bytes just written. -/
theorem Mem.readN_writeN (bs : Bytes) (m : Mem) (a : Nat) : Mem.readN (Mem.writeN m a bs) a bs.length = bs := by
  apply List.ext_getElem
  · simp [Mem.readN]
  · intro i h1 h2
    simp only [Mem.readN, List.getElem_map, List.getElem_range]
    exact Mem.read_writeN bs m a i h2

/-- A cleared range reads as zero, everything else as before. -/
theorem Mem.read_clear (m : Mem) (a b n : Nat) :
    Mem.read a (Mem.clear m b n) = if b ≤ a ∧ a < b + n then 0 else Mem.read a m := by
  rw [Mem.clear, Mem.read_filter m a fun k => decide (k < b) || decide (b + n ≤ k)]
  by_cases h : b ≤ a ∧ a < b + n
  · rw [if_pos h, if_neg (by simp; omega)]
  · rw [if_neg h, if_pos (by simp; omega)]

end Sys2Proof.Machine
end

