-- ==== Sys2Proof/Laws/Kept.lean ====
section
/-! SUPPORT. What every operation of the model keeps: the queue, the shape of the state, and what never goes back. One
relation between the state before and the state after, and the lemmas by which the lemmas on single operations go. -/

namespace Sys2Proof.Machine

open Sys2Proof

/-- Between a state and a later one the queue is the same, nothing has gone back, and the shape has been kept. -/
structure Kept (s t : State) : Prop where
  pending : t.pending = s.pending
  time : s.clk.uptimeNs ≤ t.clk.uptimeNs
  seq : s.warden.nextSeq ≤ t.warden.nextSeq
  gen : Inv s → s.otp.genBits ≤ t.otp.genBits
  retired : ∀ u ∈ s.otp.retired, u ∈ t.otp.retired
  shape : Inv s → Inv t

/-- The same of every state an option may hold. -/
def KeptO (s : State) (o : Option State) : Prop := ∀ t, o = some t → Kept s t

/-- The same of every state an option may hold beside another value. -/
def KeptP {α : Type} (s : State) (o : Option (α × State)) : Prop := ∀ a t, o = some (a, t) → Kept s t

theorem Kept.refl (s : State) : Kept s s := ⟨rfl, le_rfl, le_rfl, fun _ => le_rfl, fun _ h => h, id⟩

theorem Kept.trans {s t u : State} (a : Kept s t) (b : Kept t u) : Kept s u :=
  ⟨b.pending.trans a.pending, a.time.trans b.time, a.seq.trans b.seq, fun i => (a.gen i).trans (b.gen (a.shape i)),
    fun x h => b.retired x (a.retired x h), fun h => b.shape (a.shape h)⟩

/-- The same, said of the few parts of the later state that it speaks of. -/
structure KeptBy (s : State) (pending : List Instr) (time seq : Nat) (otp : Otp) (ports units : Nat) (clove : List Mem)
    (saffron sources internal windows mr : Nat) : Prop where
  pending : pending = s.pending
  time : s.clk.uptimeNs ≤ time
  seq : s.warden.nextSeq ≤ seq
  gen : Inv s → s.otp.genBits ≤ otp.genBits
  retired : ∀ u ∈ s.otp.retired, u ∈ otp.retired
  shape : Inv s → (cloveOk clove ∧ ports = 4 ∧ units = 387 ∧ saffron = 18) ∧
    (sources = 18 ∧ internal = 16 ∧ windows = 4 ∧ mr = 40) ∧
    otp.copies.length = 3 ∧ otp.intents.length = 8 ∧ otp.genBits ≤ 4096

theorem Kept.lit {s0 : State} {pending : List Instr}
    {free : Nat}
    {out : List Outbound}
    {clk : Clock}
    {pwr : Power}
    {warden : Warden}
    {otp : Otp}
    {lc : LifeCycle}
    {start : Start}
    {ports : List Port}
    {insts : List (Nat × Inst)}
    {jobs : List (Nat × Job)}
    {keys : KeyStore}
    {ctxs : List (Nat × Ctx)}
    {units : List UnitInfo}
    {sched : Sched}
    {clove : List Mem}
    {saffron : List Saffron}
    {rng : Rng}
    {gov : Governor}
    {log : Recorder}
    {faults : Faults}
    {card : Card}
    {meas : Measure}
    {mgmt : Mgmt}
    {trans : Translation}
    {shelf : Option Snapshot}
    {od : List (Nat × Bytes)}
    {cnt : List (Nat × Nat)} :
    Kept s0 (State.mk pending free out clk pwr warden otp lc start ports insts jobs keys ctxs units sched clove saffron rng gov log faults card meas mgmt trans shelf od cnt) ↔ KeptBy s0 pending clk.uptimeNs warden.nextSeq otp ports.length units.length clove
      saffron.length rng.sources.length rng.internal.length meas.windows.length meas.mr.length := by
  constructor
  · rintro ⟨h1, h2, h3, h4, h5, h6⟩
    refine ⟨h1, h2, h3, h4, h5, fun i => ?_⟩
    obtain ⟨a, b, c, d, e, f, g, h, j, k, l⟩ := h6 i
    exact ⟨⟨a, b, c, d⟩, ⟨e, f, g, h⟩, j, k, l⟩
  · rintro ⟨h1, h2, h3, h4, h5, h6⟩
    refine ⟨h1, h2, h3, h4, h5, fun i => ?_⟩
    obtain ⟨⟨a, b, c, d⟩, ⟨e, f, g, h⟩, j, k, l⟩ := h6 i
    exact ⟨a, b, c, d, e, f, g, h, j, k, l⟩

theorem Kept.parts {s0 s : State} (h : Kept s0 s) :
    KeptBy s0 s.pending s.clk.uptimeNs s.warden.nextSeq s.otp s.ports.length s.units.length s.clove s.saffron.length
      s.rng.sources.length s.rng.internal.length s.meas.windows.length s.meas.mr.length := by
  cases s
  exact Kept.lit.1 h

/-- A count is as it was, or the number the shape demands. -/
theorem Kept.partsOr {s0 s : State} (h : Kept s0 s) {otp : Otp} {ports units saffron sources internal windows mr : Nat}
    {clove : List Mem} (ho : otp = s.otp) (hp : ports = s.ports.length ∨ ports = 4)
    (hu : units = s.units.length ∨ units = 387) (hs : saffron = s.saffron.length ∨ saffron = 18)
    (hc : clove = s.clove ∨ cloveOk clove) (h1 : sources = s.rng.sources.length ∨ sources = 18)
    (h2 : internal = s.rng.internal.length ∨ internal = 16) (h3 : windows = s.meas.windows.length ∨ windows = 4)
    (h4 : mr = s.meas.mr.length ∨ mr = 40) :
    KeptBy s0 s.pending s.clk.uptimeNs s.warden.nextSeq otp ports units clove saffron sources internal windows mr := by
  subst ho
  refine ⟨h.pending, h.time, h.seq, h.gen, h.retired, fun i => ?_⟩
  have j := h.shape i
  have := j.ports
  have := j.units
  have := j.saffron
  have := j.sources
  have := j.internal
  have := j.windows
  have := j.mr
  exact ⟨⟨hc.elim (fun e => e ▸ j.clove) id, by omega, by omega, by omega⟩,
    ⟨by omega, by omega, by omega, by omega⟩, j.copies, j.intents, j.gen⟩

/-- OTP with the same copies and slots in number, and no fewer bits programmed. -/
theorem Kept.partsOtp {s0 s : State} (h : Kept s0 s) {otp : Otp} (hc : otp.copies.length = s.otp.copies.length)
    (hi : otp.intents.length = s.otp.intents.length)
    (hg : s.otp.genBits ≤ 4096 → s.otp.genBits ≤ otp.genBits ∧ otp.genBits ≤ 4096)
    (hr : ∀ u ∈ s.otp.retired, u ∈ otp.retired) :
    KeptBy s0 s.pending s.clk.uptimeNs s.warden.nextSeq otp s.ports.length s.units.length s.clove s.saffron.length
      s.rng.sources.length s.rng.internal.length s.meas.windows.length s.meas.mr.length := by
  refine ⟨h.pending, h.time, h.seq, fun i => (h.gen i).trans (hg (h.shape i).gen).1, fun u m => hr u (h.retired u m),
    fun i => ?_⟩
  have j := h.shape i
  exact ⟨⟨j.clove, j.ports, j.units, j.saffron⟩, ⟨j.sources, j.internal, j.windows, j.mr⟩, hc.trans j.copies,
    hi.trans j.intents, (hg j.gen).2⟩

theorem cloveOk_blank : cloveOk (List.replicate 72 []) :=
  ⟨List.length_replicate, fun m h => by rw [List.eq_of_mem_replicate h]; rfl⟩

theorem Kept.snd {α : Type} {s t : State} {p : α × State} {a : α} (e : p = (a, t)) (h : Kept s p.2) : Kept s t := by
  subst e
  exact h

theorem Kept.fst {α : Type} {s t : State} {p : State × α} {a : α} (e : p = (t, a)) (h : Kept s p.1) : Kept s t := by
  subst e
  exact h

theorem Kept.ofO {s t : State} {o : Option State} (e : o = some t) (h : KeptO s o) : Kept s t := h t e

theorem Kept.ofP {α : Type} {s t : State} {o : Option (α × State)} {a : α} (e : o = some (a, t)) (h : KeptP s o) :
    Kept s t := h a t e

theorem KeptO.none (s : State) : KeptO s none := fun _ h => by cases h

theorem KeptO.some {s t : State} (h : Kept s t) : KeptO s (some t) := fun _ e => by cases e; exact h

theorem KeptP.none {α : Type} (s : State) : KeptP (α := α) s none := fun _ _ h => by cases h

theorem KeptP.some {α : Type} {s t : State} {a : α} (h : Kept s t) : KeptP s (some (a, t)) :=
  fun _ _ e => by cases e; exact h

theorem Kept.ite {s0 s t : State} {c : Prop} [Decidable c] (a : c → Kept s0 s) (b : ¬c → Kept s0 t) :
    Kept s0 (if c then s else t) := by
  split
  · exact a ‹_›
  · exact b ‹_›

theorem Kept.iteSnd {α : Type} {s0 : State} {x y : α × State} {c : Prop} [Decidable c] (a : c → Kept s0 x.2)
    (b : ¬c → Kept s0 y.2) : Kept s0 (if c then x else y).2 := by
  split
  · exact a ‹_›
  · exact b ‹_›

theorem Kept.iteFst {α : Type} {s0 : State} {x y : State × α} {c : Prop} [Decidable c] (a : c → Kept s0 x.1)
    (b : ¬c → Kept s0 y.1) : Kept s0 (if c then x else y).1 := by
  split
  · exact a ‹_›
  · exact b ‹_›

theorem Kept.foldl {α : Type} {s0 s : State} {f : State → α → State} (h : Kept s0 s) (l : List α)
    (hf : ∀ s x, Kept s0 s → Kept s0 (f s x)) : Kept s0 (l.foldl f s) := by
  induction l generalizing s with
  | nil => exact h
  | cons x l ih => exact ih (hf s x h)

theorem Kept.forEach {α : Type} {s0 s : State} {f : State → α → State} {l : List α} (h : Kept s0 s)
    (hf : ∀ s x, Kept s0 s → Kept s0 (f s x)) : Kept s0 (s.forEach l f) := Kept.foldl h l hf

theorem Kept.when {s0 s : State} {c : Bool} {f : State → State} (h : Kept s0 s)
    (hf : Kept s0 s → Kept s0 (f s)) : Kept s0 (s.when c f) := by
  unfold State.when
  split
  · exact hf h
  · exact h

end Sys2Proof.Machine
end

