-- ==== Sys2Proof/Laws/KeptParts.lean ====
section
/-! SUPPORT. What each operation of these files of Machine/ keeps: Ops, Recorder, Measures, Dictionary, Operands, Saffron, Placement, Jobs, Records, Entropy, Bus, Endings, EventLog, Utility, DigestWindows, Cards, Dispatching. -/

namespace Sys2Proof.Machine

open Sys2Proof

/-! ### Machine/Ops.lean -/

theorem State.bump_kept {s0 s : State} (h : Kept s0 s) (key : Nat) (pos : Nat) (n : Nat) :
    Kept s0 (State.bump s key pos n) := by
  unfold State.bump
  try dsimp only
  repeat' first
    | with_reducible assumption
    | with_reducible apply Kept.parts
    | simp only [Kept.lit]

theorem State.modPort_kept {s0 s : State} (h : Kept s0 s) (p : Nat) (f : Port → Port) :
    Kept s0 (State.modPort s p f) := by
  unfold State.modPort
  try dsimp only
  repeat' first
    | with_reducible assumption
    | with_reducible apply Kept.parts
    | simp only [Kept.lit, List.length_modify]

theorem State.send_kept {s0 s : State} (h : Kept s0 s) (o : Outbound) :
    Kept s0 (State.send s o) := by
  unfold State.send
  try dsimp only
  repeat' first
    | with_reducible assumption
    | with_reducible apply Kept.parts
    | simp only [Kept.lit]

theorem State.setInst_kept {s0 s : State} (h : Kept s0 s) (i : Nat) (v : Inst) :
    Kept s0 (State.setInst s i v) := by
  unfold State.setInst
  try dsimp only
  repeat' first
    | with_reducible assumption
    | with_reducible apply Kept.parts
    | simp only [Kept.lit]

theorem State.modInst_kept {s0 s : State} (h : Kept s0 s) (i : Nat) (f : Inst → Inst) :
    Kept s0 (State.modInst s i f) := by
  unfold State.modInst
  try dsimp only
  repeat' first
    | with_reducible assumption
    | with_reducible apply State.setInst_kept

theorem State.modQp_kept {s0 s : State} (h : Kept s0 s) (i : Nat) (q : Nat) (f : Qp → Qp) :
    Kept s0 (State.modQp s i q f) := by
  unfold State.modQp
  try dsimp only
  repeat' first
    | with_reducible assumption
    | with_reducible apply State.modInst_kept

theorem State.setJob_kept {s0 s : State} (h : Kept s0 s) (k : Nat) (j : Job) :
    Kept s0 (State.setJob s k j) := by
  unfold State.setJob
  try dsimp only
  repeat' first
    | with_reducible assumption
    | with_reducible apply Kept.parts
    | simp only [Kept.lit]

theorem State.sendAll_kept {s0 s : State} (h : Kept s0 s) (os : List Outbound) :
    Kept s0 (State.sendAll s os) := by
  unfold State.sendAll
  try dsimp only
  repeat' first
    | with_reducible assumption
    | with_reducible apply Kept.parts
    | simp only [Kept.lit]

theorem State.modJob_kept {s0 s : State} (h : Kept s0 s) (k : Nat) (f : Job → Job) :
    Kept s0 (State.modJob s k f) := by
  unfold State.modJob
  try dsimp only
  repeat' first
    | with_reducible assumption
    | with_reducible apply Kept.parts
    | simp only [Kept.lit]

theorem State.take_kept {s0 s : State} (h : Kept s0 s) (n : Nat) :
    Kept s0 (State.take s n).2 := by
  unfold State.take
  try dsimp only
  repeat' first
    | with_reducible assumption
    | with_reducible apply Kept.parts
    | simp only [Kept.lit]

theorem State.measureRails_kept {s0 s : State} (h : Kept s0 s) : Kept s0 s.measureRails := by
  unfold State.measureRails
  have h := State.take_kept h 6
  rw [Kept.lit]
  exact Kept.parts h

theorem State.setCounter_kept {s0 s : State} (h : Kept s0 s) (key : Nat) (pos : Nat) (n : Nat) :
    Kept s0 (State.setCounter s key pos n) := by
  unfold State.setCounter
  try dsimp only
  repeat' first
    | with_reducible assumption
    | with_reducible apply Kept.parts
    | simp only [Kept.lit]

theorem State.modOpMem_kept {s0 s : State} (h : Kept s0 s) (e : Nat) (f : Mem → Mem)
    (hf : ∀ m, Mem.wf m = true → Mem.wf (f m) = true) : Kept s0 (State.modOpMem s e f) := by
  refine ⟨h.pending, h.time, h.seq, h.gen, h.retired, fun i => ?_⟩
  have j := h.shape i
  refine { j with clove := ⟨by simp [State.modOpMem, j.clove.1], fun m hm => ?_⟩ }
  obtain ⟨n, hn, rfl⟩ := List.getElem_of_mem hm
  simp only [State.modOpMem, List.getElem_modify]
  split
  · exact hf _ (j.clove.2 _ (List.getElem_mem _))
  · exact j.clove.2 _ (List.getElem_mem _)

theorem State.modRecord_kept {s0 s : State} (h : Kept s0 s) (k : Nat) (f : KeyRecord → KeyRecord) :
    Kept s0 (State.modRecord s k f) := by
  unfold State.modRecord
  try dsimp only
  repeat' first
    | with_reducible assumption
    | with_reducible apply Kept.parts
    | simp only [Kept.lit]

theorem State.freeJob_kept {s0 s : State} (h : Kept s0 s) (k : Nat) :
    Kept s0 (State.freeJob s k) := by
  unfold State.freeJob
  try dsimp only
  repeat' first
    | with_reducible assumption
    | with_reducible apply Kept.parts
    | simp only [Kept.lit]

theorem State.modUnit_kept {s0 s : State} (h : Kept s0 s) (u : Nat) (f : UnitInfo → UnitInfo) :
    Kept s0 (State.modUnit s u f) := by
  unfold State.modUnit
  try dsimp only
  repeat' first
    | with_reducible assumption
    | with_reducible apply Kept.parts
    | simp only [Kept.lit, List.length_modify]

theorem State.setRecord_kept {s0 s : State} (h : Kept s0 s) (k : Nat) (r : KeyRecord) :
    Kept s0 (State.setRecord s k r) := by
  unfold State.setRecord
  try dsimp only
  repeat' first
    | with_reducible assumption
    | with_reducible apply Kept.parts
    | simp only [Kept.lit]

theorem Rng.endSeconds_sources (r : Rng) (k : Nat) : (r.endSeconds k).sources = r.sources := by
  unfold Rng.endSeconds
  split <;> rfl

theorem Rng.endSeconds_internal (r : Rng) (k : Nat) : (r.endSeconds k).internal = r.internal := by
  unfold Rng.endSeconds
  split <;> rfl

theorem State.advance_kept {s0 s : State} (h : Kept s0 s) (ns : Nat) : Kept s0 (State.advance s ns) := by
  refine ⟨h.pending, Nat.le_add_right_of_le h.time, h.seq, h.gen, h.retired, fun i => ?_⟩
  have j := h.shape i
  exact { j with
    sources := by simp only [State.advance, Rng.endSeconds_sources, j.sources]
    internal := by simp only [State.advance, Rng.endSeconds_internal, j.internal] }

theorem State.until_kept {s0 s : State} (h : Kept s0 s) (t : Nat) :
    Kept s0 (State.until s t) := by
  unfold State.until
  try dsimp only
  repeat' first
    | with_reducible assumption
    | with_reducible apply State.advance_kept

theorem State.untilCount_kept {s0 s : State} (h : Kept s0 s) (n : Nat) :
    Kept s0 (State.untilCount s n) := by
  unfold State.untilCount
  try dsimp only
  repeat' first
    | with_reducible assumption
    | with_reducible apply State.advance_kept
    | with_reducible apply Kept.parts
    | simp only [Kept.lit]

/-! ### Machine/Recorder.lean -/

theorem State.dropRecord_kept {s0 s : State} (h : Kept s0 s) :
    Kept s0 (State.dropRecord s) := by
  unfold State.dropRecord
  try dsimp only
  repeat' first
    | with_reducible assumption
    | with_reducible apply State.bump_kept
    | with_reducible apply Kept.parts
    | simp only [Kept.lit]

theorem State.raise_kept {s0 s : State} (h : Kept s0 s) (c : EventCode) (severity : Nat) (inst : Nat) (detail : Bytes) :
    Kept s0 (State.raise s c severity inst detail) := by
  have accept : ∀ l : Recorder, Kept s0 { s with
      warden := { s.warden with nextSeq := s.warden.nextSeq + 1, lostRecords := 0 }, log := l } := fun l =>
    ⟨h.pending, h.time, Nat.le_succ_of_le h.seq, h.gen, h.retired, fun i => { h.shape i with }⟩
  unfold State.raise
  dsimp only
  split
  · exact State.dropRecord_kept h
  · split
    · split
      · exact accept _
      · exact State.dropRecord_kept h
    · exact accept _

theorem State.eventOf_kept {s0 s : State} (h : Kept s0 s) (c : EventCode) (inst : Nat) (detail : Bytes) :
    Kept s0 (State.eventOf s c inst detail) := by
  unfold State.eventOf
  try dsimp only
  repeat' first
    | with_reducible assumption
    | with_reducible apply State.raise_kept

theorem State.conflict_kept {s0 s : State} (h : Kept s0 s) (kind : Nat) (ident : Nat) (inst : Nat) (who : Bytes) :
    Kept s0 (State.conflict s kind ident inst who) := by
  unfold State.conflict
  try dsimp only
  repeat' first
    | with_reducible assumption
    | with_reducible apply Kept.ite
    | with_reducible apply State.bump_kept
    | with_reducible apply State.eventOf_kept
    | with_reducible apply Kept.parts
    | simp only [Kept.lit]
    | intro _

theorem State.event_kept {s0 s : State} (h : Kept s0 s) (c : EventCode) (detail : Bytes) :
    Kept s0 (State.event s c detail) := by
  unfold State.event
  try dsimp only
  repeat' first
    | with_reducible assumption
    | with_reducible apply State.raise_kept

/-! ### Machine/Measures.lean -/

theorem State.extendMr_kept {s0 s : State} (h : Kept s0 s) (mr : Nat) (source : Nat) (v : Bytes) :
    Kept s0 (State.extendMr s mr source v) := by
  unfold State.extendMr
  try dsimp only
  repeat' first
    | with_reducible assumption
    | with_reducible apply Kept.ite
    | with_reducible apply Kept.parts
    | simp only [Kept.lit, List.length_modify]
    | intro _

/-! ### Machine/Dictionary.lean -/

theorem State.setOd_kept {s0 s : State} (h : Kept s0 s) (key : Nat) (v : Bytes) :
    Kept s0 (State.setOd s key v) := by
  unfold State.setOd
  try dsimp only
  repeat' first
    | with_reducible assumption
    | with_reducible apply Kept.parts
    | simp only [Kept.lit]

/-! ### Machine/Operands.lean -/

theorem State.winWrite_kept {s0 s : State} (h : Kept s0 s) (k : Nat) (j : Job) (w : Win) (o : Nat) (a : Nat) (b : Bytes) :
    Kept s0 (State.winWrite s k j w o a b) := by
  unfold State.winWrite
  split
  · exact State.modOpMem_kept h _ _ fun m hm => Mem.writeN_wf b hm _
  · exact State.modOpMem_kept h _ _ fun m hm => Mem.writeN_wf b hm _
  · exact State.modJob_kept h _ _

/-! ### Machine/Saffron.lean -/

theorem State.saffronDo_kept {s0 s : State} (h : Kept s0 s) (n : Nat) (op : Nat) (cmd : BitVec 64) (o : SaffronOp) :
    Kept s0 (State.saffronDo s n op cmd o) := by
  unfold State.saffronDo
  try dsimp only
  repeat' first
    | with_reducible assumption
    | with_reducible apply Kept.ite
    | with_reducible apply State.take_kept
    | with_reducible apply Kept.parts
    | simp only [Kept.lit, List.length_set]
    | intro _

/-! ### Machine/Placement.lean -/

theorem State.countMatrix_kept {s0 s : State} (h : Kept s0 s) (pos : Nat) :
    Kept s0 (State.countMatrix s pos) := by
  unfold State.countMatrix
  try dsimp only
  repeat' first
    | with_reducible assumption
    | with_reducible apply State.bump_kept

theorem State.trimMatrix_kept {s0 a2 : State} (h : Kept s0 a2) (limit : Nat) (a1 : Nat) :
    Kept s0 (State.trimMatrix limit a1 a2) := by
  induction a1 generalizing a2 with
  | zero => exact h
  | succ n ih =>
    unfold State.trimMatrix
    try dsimp only
    repeat' first
      | with_reducible assumption
      | with_reducible apply Kept.ite
      | with_reducible apply ih
      | with_reducible apply State.countMatrix_kept
      | with_reducible apply Kept.parts
      | simp only [Kept.lit]
      | intro _
      | split

theorem State.useMatrix_kept {s0 s : State} (h : Kept s0 s) (m : Nat) :
    Kept s0 (State.useMatrix s m) := by
  unfold State.useMatrix
  try dsimp only
  repeat' first
    | with_reducible assumption
    | with_reducible apply Kept.ite
    | with_reducible apply State.countMatrix_kept
    | with_reducible apply State.trimMatrix_kept
    | with_reducible apply Kept.parts
    | simp only [Kept.lit]
    | intro _

theorem State.fitMatrix_kept {s0 a3 : State} (h : Kept s0 a3) (e : Nat) (n : Nat) (a2 : Nat) :
    KeptP s0 (State.fitMatrix e n a2 a3) := by
  induction a2 generalizing a3 with
  | zero =>
    unfold State.fitMatrix
    dsimp only
    split
    · exact KeptP.some h
    · exact KeptP.none _
  | succ k ih =>
    unfold State.fitMatrix
    dsimp only
    split
    · exact KeptP.some h
    · split
      · exact KeptP.none _
      · refine ih ?_
        rw [Kept.lit]
        exact Kept.parts h

theorem State.regionIn_kept {s0 s : State} (h : Kept s0 s) (e : Nat) (sealedK : Nat) (publicK : Nat) (matrixK : Nat) (matrix : Option Nat) :
    KeptP s0 (State.regionIn s e sealedK publicK matrixK matrix) := by
  unfold State.regionIn
  split
  · exact KeptP.none _
  · dsimp only
    split
    · split
      · exact KeptP.some h
      · split
        · exact KeptP.some h
        · split
          · exact KeptP.none _
          · have h := Kept.ofP ‹_› (State.fitMatrix_kept h _ _ _)
            split <;> split <;> first
              | exact KeptP.some h
              | exact KeptP.some (Kept.lit.2 (Kept.parts h))
    · exact KeptP.none _

theorem State.firstRegion_kept {s0 s : State} (h : Kept s0 s) (sealedK : Nat) (publicK : Nat) (matrixK : Nat) (matrix : Option Nat) (a5 : List Nat) :
    KeptP s0 (State.firstRegion s sealedK publicK matrixK matrix a5) := by
  induction a5 with
  | nil => exact KeptP.none _
  | cons e r ih =>
    unfold State.firstRegion
    split
    · rename_i e
      exact e ▸ State.regionIn_kept h _ _ _ _ _
    · exact ih

theorem State.findRegion_kept {s0 s : State} (h : Kept s0 s) (seq : Nat) (sealedK : Nat) (publicK : Nat) (matrixK : Nat) (matrix : Option Nat) :
    KeptP s0 (State.findRegion s seq sealedK publicK matrixK matrix) := by
  unfold State.findRegion
  try dsimp only
  repeat' first
    | with_reducible assumption
    | with_reducible apply State.firstRegion_kept

/-! ### Machine/Jobs.lean -/

theorem State.fetch_kept {s0 s : State} (h : Kept s0 s) (i : Nat) (q : Nat) :
    Kept s0 (State.fetch s i q) := by
  unfold State.fetch
  try dsimp only
  repeat' first
    | with_reducible assumption
    | with_reducible apply Kept.ite
    | with_reducible apply State.sendAll_kept
    | with_reducible apply State.modQp_kept
    | intro _
    | split

theorem State.settle_kept {s0 s : State} (h : Kept s0 s) (k : Nat) (res : JobResult) :
    Kept s0 (State.settle s k res) := by
  unfold State.settle
  try dsimp only
  repeat' first
    | with_reducible assumption
    | with_reducible apply State.modJob_kept
    | with_reducible apply State.bump_kept
    | intro _
    | with_reducible apply Kept.when
    | split

theorem State.clearRegion_kept {s0 s : State} (h : Kept s0 s) (r : Region) :
    Kept s0 (State.clearRegion s r) := by
  unfold State.clearRegion
  dsimp only
  refine State.modOpMem_kept ?_ _ _ fun m hm => ?_
  · exact Kept.ite (fun _ => State.setCounter_kept (State.take_kept h 2) _ _ _) fun _ => State.take_kept h 2
  · split
    · exact Mem.clear_wf (Mem.clear_wf hm _ _) _ _
    · exact Mem.clear_wf (Mem.clear_wf (Mem.clear_wf hm _ _) _ _) _ _

theorem State.dropWaiting_kept {s0 s : State} (h : Kept s0 s) (k : Nat) :
    Kept s0 (State.dropWaiting s k) := by
  unfold State.dropWaiting
  try dsimp only
  repeat' first
    | with_reducible assumption
    | with_reducible apply Kept.parts
    | simp only [Kept.lit]

theorem State.freeSaffron_kept {s0 s : State} (h : Kept s0 s) (k : Nat) :
    Kept s0 (State.freeSaffron s k) := by
  unfold State.freeSaffron
  try dsimp only
  repeat' first
    | with_reducible assumption
    | with_reducible apply Kept.parts
    | simp only [Kept.lit, List.length_map]

theorem State.releaseUnits_kept {s0 s : State} (h : Kept s0 s) (k : Nat) :
    Kept s0 (State.releaseUnits s k) := by
  unfold State.releaseUnits
  try dsimp only
  repeat' first
    | with_reducible assumption
    | with_reducible apply State.clearRegion_kept
    | with_reducible apply State.dropWaiting_kept
    | with_reducible apply State.freeSaffron_kept
    | with_reducible apply State.modJob_kept
    | split

theorem State.closeLast_kept {s0 s : State} (h : Kept s0 s) (j : Job) :
    Kept s0 (State.closeLast s j) := by
  unfold State.closeLast
  try dsimp only
  repeat' first
    | with_reducible assumption
    | with_reducible apply Kept.ite
    | with_reducible apply Kept.parts
    | simp only [Kept.lit]
    | intro _

theorem State.markWaits_kept {s0 s : State} (h : Kept s0 s) (i : Nat) (q : Nat) :
    Kept s0 (State.markWaits s i q) := by
  unfold State.markWaits
  try dsimp only
  repeat' first
    | with_reducible assumption
    | with_reducible apply Kept.ite
    | with_reducible apply State.modJob_kept
    | with_reducible apply State.bump_kept
    | with_reducible apply State.modQp_kept
    | intro _
    | with_reducible apply Kept.forEach
    | split

theorem State.dropMatrix_kept {s0 s : State} (h : Kept s0 s) (k : Nat) :
    Kept s0 (State.dropMatrix s k) := by
  unfold State.dropMatrix
  try dsimp only
  repeat' first
    | with_reducible assumption
    | with_reducible apply Kept.parts
    | simp only [Kept.lit]

theorem State.bumpGen_kept {s0 s : State} (h : Kept s0 s) (k : Nat) :
    Kept s0 (State.bumpGen s k) := by
  unfold State.bumpGen
  try dsimp only
  repeat' first
    | with_reducible assumption
    | with_reducible apply Kept.parts
    | simp only [Kept.lit]

theorem State.removeRecord_kept {s0 s : State} (h : Kept s0 s) (k : Nat) :
    Kept s0 (State.removeRecord s k) := by
  unfold State.removeRecord
  try dsimp only
  repeat' first
    | with_reducible assumption
    | with_reducible apply State.dropMatrix_kept
    | with_reducible apply State.bumpGen_kept
    | with_reducible apply Kept.parts
    | simp only [Kept.lit]
    | split

theorem State.wipeScoped_kept {s0 s : State} (h : Kept s0 s) (k : Nat) :
    Kept s0 (State.wipeScoped s k) := by
  unfold State.wipeScoped
  try dsimp only
  repeat' first
    | with_reducible assumption
    | with_reducible apply Kept.ite
    | with_reducible apply State.removeRecord_kept
    | with_reducible apply State.modJob_kept
    | intro _
    | with_reducible apply Kept.forEach
    | split

theorem State.collect_kept {s0 s : State} (h : Kept s0 s) (k : Nat) :
    Kept s0 (State.collect s k) := by
  unfold State.collect
  try dsimp only
  repeat' first
    | with_reducible assumption
    | with_reducible apply State.markWaits_kept
    | with_reducible apply State.modJob_kept
    | with_reducible apply State.wipeScoped_kept
    | split

theorem State.endWith_kept {s0 s : State} (h : Kept s0 s) (k : Nat) (res : JobResult) :
    Kept s0 (State.endWith s k res) := by
  unfold State.endWith
  try dsimp only
  repeat' first
    | with_reducible assumption
    | with_reducible apply Kept.ite
    | with_reducible apply State.settle_kept
    | with_reducible apply State.releaseUnits_kept
    | with_reducible apply State.closeLast_kept
    | with_reducible apply State.collect_kept
    | intro _
    | split

theorem State.endJob_kept {s0 s : State} (h : Kept s0 s) (k : Nat) (st : Status) (detail : Nat) :
    Kept s0 (State.endJob s k st detail) := by
  unfold State.endJob
  try dsimp only
  repeat' first
    | with_reducible assumption
    | with_reducible apply State.endWith_kept

theorem State.setIv_kept {s0 s : State} (h : Kept s0 s) (k : Nat) (used : Nat) (reserved : Nat) :
    Kept s0 (State.setIv s k used reserved) := by
  unfold State.setIv
  try dsimp only
  repeat' first
    | with_reducible assumption
    | with_reducible apply Kept.ite
    | with_reducible apply State.modRecord_kept
    | with_reducible apply Kept.parts
    | simp only [Kept.lit]
    | intro _

theorem State.returnIv_kept {s0 s : State} (h : Kept s0 s) (j : Job) :
    Kept s0 (State.returnIv s j) := by
  unfold State.returnIv
  try dsimp only
  repeat' first
    | with_reducible assumption
    | with_reducible apply Kept.ite
    | with_reducible apply State.setIv_kept
    | intro _

theorem State.returnPlaces_kept {s0 s : State} (h : Kept s0 s) (j : Job) :
    Kept s0 (State.returnPlaces s j) := by
  unfold State.returnPlaces
  try dsimp only
  repeat' first
    | with_reducible assumption
    | with_reducible apply Kept.ite
    | with_reducible apply State.modInst_kept
    | intro _

theorem State.freePinned_kept {s0 s : State} (h : Kept s0 s) :
    Kept s0 (State.freePinned s) := by
  unfold State.freePinned
  try dsimp only
  repeat' first
    | with_reducible assumption
    | with_reducible apply Kept.parts
    | simp only [Kept.lit]

theorem State.stopQp_kept {s0 s : State} (h : Kept s0 s) (i : Nat) (q : Nat) :
    Kept s0 (State.stopQp s i q) := by
  unfold State.stopQp
  try dsimp only
  repeat' first
    | with_reducible assumption
    | with_reducible apply State.modQp_kept

theorem State.checkStopped_kept {s0 s : State} (h : Kept s0 s) (i : Nat) (q : Nat) :
    Kept s0 (State.checkStopped s i q) := by
  unfold State.checkStopped
  try dsimp only
  repeat' first
    | with_reducible assumption
    | with_reducible apply Kept.ite
    | with_reducible apply State.stopQp_kept
    | intro _
    | split

theorem State.releaseSlot_kept {s0 s : State} (h : Kept s0 s) (k : Nat) :
    Kept s0 (State.releaseSlot s k) := by
  unfold State.releaseSlot
  try dsimp only
  repeat' first
    | with_reducible assumption
    | with_reducible apply State.freeJob_kept
    | with_reducible apply State.returnIv_kept
    | with_reducible apply State.returnPlaces_kept
    | with_reducible apply State.releaseUnits_kept
    | with_reducible apply State.wipeScoped_kept
    | with_reducible apply State.freePinned_kept
    | with_reducible apply State.modQp_kept
    | with_reducible apply State.checkStopped_kept
    | split

theorem State.squashJob_kept {s0 s : State} (h : Kept s0 s) (k : Nat) :
    Kept s0 (State.squashJob s k) := by
  unfold State.squashJob
  try dsimp only
  repeat' first
    | with_reducible assumption
    | with_reducible apply State.releaseSlot_kept

theorem State.squashInst_kept {s0 s : State} (h : Kept s0 s) (i : Nat) :
    Kept s0 (State.squashInst s i) := by
  unfold State.squashInst
  try dsimp only
  repeat' first
    | with_reducible assumption
    | with_reducible apply State.squashJob_kept
    | intro _
    | with_reducible apply Kept.forEach

theorem State.squashAll_kept {s0 s : State} (h : Kept s0 s) :
    Kept s0 (State.squashAll s) := by
  unfold State.squashAll
  try dsimp only
  repeat' first
    | with_reducible assumption
    | with_reducible apply State.squashJob_kept
    | intro _
    | with_reducible apply Kept.forEach

theorem State.writeDst_kept {s0 s : State} (h : Kept s0 s) (j : Job) (b : Bytes) :
    Kept s0 (State.writeDst s j b) := by
  unfold State.writeDst
  try dsimp only
  repeat' first
    | with_reducible assumption
    | with_reducible apply State.sendAll_kept

theorem State.unstream_kept {s0 s : State} (h : Kept s0 s) (j : Job) :
    Kept s0 (State.unstream s j) := by
  unfold State.unstream
  try dsimp only
  repeat' first
    | with_reducible assumption
    | with_reducible apply State.writeDst_kept

theorem State.abortJob_kept {s0 s : State} (h : Kept s0 s) (k : Nat) (detail : Nat) :
    Kept s0 (State.abortJob s k detail) := by
  unfold State.abortJob
  try dsimp only
  repeat' first
    | with_reducible assumption
    | with_reducible apply Kept.ite
    | with_reducible apply State.releaseUnits_kept
    | with_reducible apply State.closeLast_kept
    | with_reducible apply State.unstream_kept
    | with_reducible apply State.modJob_kept
    | with_reducible apply State.collect_kept
    | intro _
    | split

/-! ### Machine/Records.lean -/

theorem State.countTier_kept {s0 s : State} (h : Kept s0 s) (pos : Nat) (n : Nat) :
    Kept s0 (State.countTier s pos n) := by
  unfold State.countTier
  try dsimp only
  repeat' first
    | with_reducible assumption
    | with_reducible apply State.bump_kept

theorem State.drainV_kept {s0 a2 : State} (h : Kept s0 a2) (mark : Nat) (a1 : Nat) :
    Kept s0 (State.drainV mark a1 a2) := by
  induction a1 generalizing a2 with
  | zero => exact h
  | succ n ih =>
    unfold State.drainV
    try dsimp only
    repeat' first
      | with_reducible assumption
      | with_reducible apply Kept.ite
      | with_reducible apply ih
      | with_reducible apply State.countTier_kept
      | with_reducible apply State.modRecord_kept
      | intro _
      | split

theorem State.evictOne_kept {s0 s : State} (h : Kept s0 s) (mine : KeyRecord → Bool) :
    KeptO s0 (State.evictOne s mine) := by
  intro t e
  unfold State.evictOne at e
  obtain ⟨k, -, rfl⟩ := Option.map_eq_some_iff.1 e
  exact State.countTier_kept (State.modRecord_kept h _ _) _ _

theorem State.evictPeer_kept {s0 s : State} (h : Kept s0 s) (mine : Peer → Bool) :
    KeptO s0 (State.evictPeer s mine) := by
  intro t e
  unfold State.evictPeer at e
  obtain ⟨k, -, rfl⟩ := Option.map_eq_some_iff.1 e
  refine State.countTier_kept ?_ _ _
  rw [Kept.lit]
  exact Kept.parts h

theorem State.evictInst_kept {s0 a2 : State} (h : Kept s0 a2) (i : Nat) (a1 : Nat) :
    Kept s0 (State.evictInst i a1 a2) := by
  induction a1 generalizing a2 with
  | zero => exact h
  | succ n ih =>
    unfold State.evictInst
    try dsimp only
    repeat' first
      | with_reducible assumption
      | with_reducible apply Kept.ite
      | with_reducible apply ih
      | with_reducible apply State.evictOne_kept
      | with_reducible apply State.evictPeer_kept
      | intro _
      | (refine Kept.ofO (by assumption) ?_)
      | split

theorem State.evictPort_kept {s0 a2 : State} (h : Kept s0 a2) (p : Nat) (a1 : Nat) :
    Kept s0 (State.evictPort p a1 a2) := by
  induction a1 generalizing a2 with
  | zero => exact h
  | succ n ih =>
    unfold State.evictPort
    try dsimp only
    repeat' first
      | with_reducible assumption
      | with_reducible apply Kept.ite
      | with_reducible apply ih
      | with_reducible apply State.evictOne_kept
      | with_reducible apply State.evictPeer_kept
      | intro _
      | (refine Kept.ofO (by assumption) ?_)
      | split

theorem State.trimS_kept {s0 s : State} (h : Kept s0 s) (i : Nat) :
    Kept s0 (State.trimS s i) := by
  unfold State.trimS
  try dsimp only
  repeat' first
    | with_reducible assumption
    | with_reducible apply State.evictInst_kept
    | with_reducible apply State.evictPort_kept
    | split

theorem State.removeSlot_kept {s0 s : State} (h : Kept s0 s) (k : Nat) :
    Kept s0 (State.removeSlot s k) := by
  unfold State.removeSlot
  try dsimp only
  repeat' first
    | with_reducible assumption
    | with_reducible apply Kept.ite
    | with_reducible apply State.bumpGen_kept
    | with_reducible apply Kept.parts
    | simp only [Kept.lit]
    | intro _

theorem State.removeRecords_kept {s0 s : State} (h : Kept s0 s) (ks : List Nat) :
    Kept s0 (State.removeRecords s ks) := by
  unfold State.removeRecords
  try dsimp only
  repeat' first
    | with_reducible assumption
    | with_reducible apply State.removeRecord_kept
    | intro _
    | with_reducible apply Kept.forEach

theorem State.removeSlots_kept {s0 s : State} (h : Kept s0 s) (ks : List Nat) :
    Kept s0 (State.removeSlots s ks) := by
  unfold State.removeSlots
  try dsimp only
  repeat' first
    | with_reducible assumption
    | with_reducible apply State.removeSlot_kept
    | intro _
    | with_reducible apply Kept.forEach

theorem State.loseVolatile_kept {s0 s : State} (h : Kept s0 s) :
    Kept s0 (State.loseVolatile s) := by
  unfold State.loseVolatile
  try dsimp only
  repeat' first
    | with_reducible assumption
    | with_reducible apply State.removeRecords_kept
    | with_reducible apply State.removeSlots_kept
    | with_reducible apply Kept.parts
    | simp only [Kept.lit]

theorem State.wipeKeys_kept {s0 s : State} (h : Kept s0 s) :
    Kept s0 (State.wipeKeys s) := by
  unfold State.wipeKeys
  try dsimp only
  repeat' first
    | with_reducible assumption
    | with_reducible apply State.loseVolatile_kept
    | with_reducible apply Kept.parts
    | simp only [Kept.lit]

theorem State.dropCtxs_kept {s0 s : State} (h : Kept s0 s) (i : Nat) :
    Kept s0 (State.dropCtxs s i) := by
  unfold State.dropCtxs
  try dsimp only
  repeat' first
    | with_reducible assumption
    | with_reducible apply Kept.parts
    | simp only [Kept.lit]

theorem State.removePeer_kept {s0 s : State} (h : Kept s0 s) (i : Nat) :
    Kept s0 (State.removePeer s i) := by
  unfold State.removePeer
  try dsimp only
  repeat' first
    | with_reducible assumption
    | with_reducible apply Kept.ite
    | with_reducible apply State.dropMatrix_kept
    | with_reducible apply State.bumpGen_kept
    | with_reducible apply Kept.parts
    | simp only [Kept.lit]
    | intro _

theorem State.trimV_kept {s0 s : State} (h : Kept s0 s) :
    Kept s0 (State.trimV s) := by
  unfold State.trimV
  try dsimp only
  repeat' first
    | with_reducible assumption
    | with_reducible apply Kept.ite
    | with_reducible apply State.drainV_kept
    | intro _

theorem State.createAt_kept {s0 s : State} (h : Kept s0 s) (k : Nat) (r : KeyRecord) :
    Kept s0 (State.createAt s k r) := by
  unfold State.createAt
  try dsimp only
  repeat' first
    | with_reducible assumption
    | with_reducible apply State.setRecord_kept
    | with_reducible apply State.trimV_kept
    | with_reducible apply State.trimS_kept

/-! ### Machine/Entropy.lean -/

theorem State.endRestart_kept {s0 s : State} (h : Kept s0 s) :
    Kept s0 (State.endRestart s) := by
  unfold State.endRestart
  try dsimp only
  repeat' first
    | with_reducible assumption
    | with_reducible apply Kept.ite
    | with_reducible apply State.event_kept
    | with_reducible apply Kept.parts
    | simp only [Kept.lit]
    | intro _

theorem State.condition_kept {s0 s : State} (h : Kept s0 s) :
    Kept s0 (State.condition s) := by
  unfold State.condition
  try dsimp only
  repeat' first
    | with_reducible assumption
    | with_reducible apply Kept.ite
    | with_reducible apply Kept.parts
    | simp only [Kept.lit]
    | intro _

theorem State.countDrbg_kept {s0 s : State} (h : Kept s0 s) (pos : Nat) (n : Nat) :
    Kept s0 (State.countDrbg s pos n) := by
  unfold State.countDrbg
  try dsimp only
  repeat' first
    | with_reducible assumption
    | with_reducible apply State.bump_kept

theorem State.handBlock_kept {s0 s : State} (h : Kept s0 s) :
    Kept s0 (State.handBlock s) := by
  unfold State.handBlock
  try dsimp only
  repeat' first
    | with_reducible assumption
    | with_reducible apply Kept.ite
    | with_reducible apply State.countDrbg_kept
    | with_reducible apply State.modInst_kept
    | with_reducible apply Kept.parts
    | simp only [Kept.lit, List.length_set]
    | intro _
    | split

theorem State.serveBlocks_kept {s0 s : State} (h : Kept s0 s) :
    Kept s0 (State.serveBlocks s) := by
  unfold State.serveBlocks
  try dsimp only
  repeat' first
    | with_reducible assumption
    | with_reducible apply State.endRestart_kept
    | with_reducible apply State.condition_kept
    | with_reducible apply State.handBlock_kept

theorem State.askDrbg_kept {s0 s : State} (h : Kept s0 s) (i : Nat) :
    Kept s0 (State.askDrbg s i) := by
  unfold State.askDrbg
  try dsimp only
  repeat' first
    | with_reducible assumption
    | with_reducible apply State.modInst_kept
    | with_reducible apply State.serveBlocks_kept
    | with_reducible apply Kept.parts
    | simp only [Kept.lit]

theorem State.askReseed_kept {s0 s : State} (h : Kept s0 s) (i : Nat) :
    Kept s0 (State.askReseed s i) := by
  unfold State.askReseed
  try dsimp only
  repeat' first
    | with_reducible assumption
    | with_reducible apply Kept.ite
    | with_reducible apply State.modInst_kept
    | with_reducible apply State.serveBlocks_kept
    | with_reducible apply Kept.parts
    | simp only [Kept.lit]
    | intro _

theorem State.clearDrbg_kept {s0 s : State} (h : Kept s0 s) (i : Nat) :
    Kept s0 (State.clearDrbg s i) := by
  unfold State.clearDrbg
  try dsimp only
  repeat' first
    | with_reducible assumption
    | with_reducible apply State.modInst_kept
    | with_reducible apply Kept.parts
    | simp only [Kept.lit]

theorem State.drawInst_kept {s0 s : State} (h : Kept s0 s) (i : Nat) (n : Nat) :
    Kept s0 (State.drawInst s i n).2 := by
  unfold State.drawInst
  try dsimp only
  repeat' first
    | with_reducible assumption
    | with_reducible apply State.take_kept
    | with_reducible apply State.modInst_kept
    | with_reducible apply State.countDrbg_kept

theorem State.ageInternal_kept {s0 s : State} (h : Kept s0 s) :
    Kept s0 (State.ageInternal s) := by
  unfold State.ageInternal
  try dsimp only
  repeat' first
    | with_reducible assumption
    | with_reducible apply Kept.ite
    | with_reducible apply State.serveBlocks_kept
    | with_reducible apply Kept.parts
    | simp only [Kept.lit, List.length_map]
    | intro _

theorem State.drawInternal_kept {s0 s : State} (h : Kept s0 s) (n : Nat) :
    Kept s0 (State.drawInternal s n).2 := by
  unfold State.drawInternal
  try dsimp only
  repeat' first
    | with_reducible assumption
    | with_reducible apply State.ageInternal_kept
    | with_reducible apply State.take_kept
    | with_reducible apply State.countDrbg_kept
    | with_reducible apply Kept.parts
    | simp only [Kept.lit, List.length_modify]

/-! ### Machine/Bus.lean -/

theorem State.raisePf_kept {s0 s : State} (h : Kept s0 s) (p : Nat) (v : Nat) :
    Kept s0 (State.raisePf s p v) := by
  unfold State.raisePf
  try dsimp only
  repeat' first
    | with_reducible assumption
    | with_reducible apply Kept.ite
    | with_reducible apply State.modPort_kept
    | with_reducible apply State.send_kept
    | intro _

theorem State.portEvent_kept {s0 s : State} (h : Kept s0 s) (p : Nat) (e : PortEvent) :
    Kept s0 (State.portEvent s p e) := by
  unfold State.portEvent
  try dsimp only
  repeat' first
    | with_reducible assumption
    | with_reducible apply Kept.ite
    | with_reducible apply State.modPort_kept
    | with_reducible apply State.raisePf_kept
    | intro _

theorem State.raiseVec_kept {s0 s : State} (h : Kept s0 s) (i : Nat) (v : Nat) :
    Kept s0 (State.raiseVec s i v) := by
  unfold State.raiseVec
  try dsimp only
  repeat' first
    | with_reducible assumption
    | with_reducible apply Kept.ite
    | with_reducible apply State.raisePf_kept
    | with_reducible apply State.modInst_kept
    | with_reducible apply State.send_kept
    | intro _

theorem State.errorBit_kept {s0 s : State} (h : Kept s0 s) (i : Nat) (b : ErrorBit) :
    Kept s0 (State.errorBit s i b) := by
  unfold State.errorBit
  try dsimp only
  repeat' first
    | with_reducible assumption
    | with_reducible apply Kept.ite
    | with_reducible apply State.modInst_kept
    | with_reducible apply State.raiseVec_kept
    | with_reducible apply State.portEvent_kept
    | intro _
    | split

theorem State.setInstState_kept {s0 s : State} (h : Kept s0 s) (i : Nat) (st : InstState) :
    Kept s0 (State.setInstState s i st) := by
  unfold State.setInstState
  try dsimp only
  repeat' first
    | with_reducible assumption
    | with_reducible apply State.errorBit_kept
    | with_reducible apply State.modInst_kept

theorem State.aerAll_kept {s0 s : State} (h : Kept s0 s) (uncorrectable : Bool) :
    Kept s0 (State.aerAll s uncorrectable) := by
  unfold State.aerAll
  try dsimp only
  repeat' first
    | with_reducible assumption
    | with_reducible apply State.sendAll_kept

theorem State.aerFor_kept {s0 s : State} (h : Kept s0 s) (inst : Nat) :
    Kept s0 (State.aerFor s inst) := by
  unfold State.aerFor
  try dsimp only
  repeat' first
    | with_reducible assumption
    | with_reducible apply Kept.ite
    | with_reducible apply State.aerAll_kept
    | with_reducible apply State.send_kept
    | intro _
    | split

theorem State.modSession_kept {s0 s : State} (h : Kept s0 s) (id : BitVec 32) (f : Session → Session) :
    Kept s0 (State.modSession s id f) := by
  unfold State.modSession
  try dsimp only
  repeat' first
    | with_reducible assumption
    | with_reducible apply Kept.parts
    | simp only [Kept.lit]

theorem State.pushWindow_kept {s0 s : State} (h : Kept s0 s) (p : Nat) (isEvent : Bool) (f : Bytes) :
    Kept s0 (State.pushWindow s p isEvent f) := by
  unfold State.pushWindow
  try dsimp only
  repeat' first
    | with_reducible assumption
    | with_reducible apply Kept.ite
    | with_reducible apply State.portEvent_kept
    | with_reducible apply State.modPort_kept
    | intro _
    | split

theorem State.sendFrame_kept {s0 s : State} (h : Kept s0 s) (id : BitVec 32) (kind : Nat) (payload : Bytes) :
    Kept s0 (State.sendFrame s id kind payload) := by
  unfold State.sendFrame
  try dsimp only
  repeat' first
    | with_reducible assumption
    | with_reducible apply State.modSession_kept
    | with_reducible apply State.send_kept
    | with_reducible apply State.pushWindow_kept
    | split

theorem State.publish_kept {s0 s : State} (h : Kept s0 s) (e : Event) :
    Kept s0 (State.publish s e) := by
  unfold State.publish
  try dsimp only
  repeat' first
    | with_reducible assumption
    | with_reducible apply Kept.ite
    | with_reducible apply State.sendFrame_kept
    | with_reducible apply State.modSession_kept
    | intro _
    | with_reducible apply Kept.forEach

theorem State.commitOne_kept {s0 s : State} (h : Kept s0 s) :
    Kept s0 (State.commitOne s) := by
  unfold State.commitOne
  try dsimp only
  repeat' first
    | with_reducible assumption
    | with_reducible apply Kept.ite
    | with_reducible apply State.bump_kept
    | with_reducible apply State.publish_kept
    | with_reducible apply Kept.parts
    | simp only [Kept.lit]
    | intro _
    | split

theorem State.commitAll_kept {s0 s : State} (h : Kept s0 s) :
    Kept s0 (State.commitAll s) := by
  unfold State.commitAll
  try dsimp only
  repeat' first
    | with_reducible assumption
    | with_reducible apply Kept.ite
    | with_reducible apply State.commitOne_kept
    | intro _
    | with_reducible apply Kept.forEach

theorem State.portEventAll_kept {s0 s : State} (h : Kept s0 s) (e : PortEvent) :
    Kept s0 (State.portEventAll s e) := by
  unfold State.portEventAll
  try dsimp only
  repeat' first
    | with_reducible assumption
    | with_reducible apply State.portEvent_kept
    | intro _
    | with_reducible apply Kept.forEach

theorem State.sendOpen_kept {s0 s : State} (h : Kept s0 s) (chan : Option Nat) (kind : Nat) (session : BitVec 32) (part : Nat) (parts : Nat) (payload : Bytes) :
    Kept s0 (State.sendOpen s chan kind session part parts payload) := by
  unfold State.sendOpen
  try dsimp only
  repeat' first
    | with_reducible assumption
    | with_reducible apply State.send_kept
    | with_reducible apply State.pushWindow_kept
    | split

/-! ### Machine/Endings.lean -/

theorem State.modWindow_kept {s0 s : State} (h : Kept s0 s) (w : Nat) (f : Window → Window) :
    Kept s0 (State.modWindow s w f) := by
  unfold State.modWindow
  try dsimp only
  repeat' first
    | with_reducible assumption
    | with_reducible apply Kept.parts
    | simp only [Kept.lit, List.length_modify]

theorem State.alarmWindows_kept {s0 s : State} (h : Kept s0 s) :
    Kept s0 (State.alarmWindows s) := by
  unfold State.alarmWindows
  try dsimp only
  repeat' first
    | with_reducible assumption
    | with_reducible apply Kept.parts
    | simp only [Kept.lit, List.length_map]

theorem State.rollback_kept {s0 s : State} (h : Kept s0 s) :
    Kept s0 (State.rollback s) := by
  unfold State.rollback
  try dsimp only
  repeat' first
    | with_reducible assumption
    | with_reducible apply Kept.ite
    | with_reducible apply State.bump_kept
    | with_reducible apply Kept.parts
    | simp only [Kept.lit]
    | intro _

theorem State.closeSession_kept {s0 s : State} (h : Kept s0 s) (id : BitVec 32) :
    Kept s0 (State.closeSession s id) := by
  unfold State.closeSession
  try dsimp only
  repeat' first
    | with_reducible assumption
    | with_reducible apply Kept.ite
    | with_reducible apply State.rollback_kept
    | with_reducible apply Kept.parts
    | simp only [Kept.lit]
    | intro _

theorem State.closeSessions_kept {s0 s : State} (h : Kept s0 s) (ids : List (BitVec 32)) :
    Kept s0 (State.closeSessions s ids) := by
  unfold State.closeSessions
  try dsimp only
  repeat' first
    | with_reducible assumption
    | with_reducible apply State.closeSession_kept
    | intro _
    | with_reducible apply Kept.forEach

theorem State.closeAllSessions_kept {s0 s : State} (h : Kept s0 s) :
    Kept s0 (State.closeAllSessions s) := by
  unfold State.closeAllSessions
  try dsimp only
  repeat' first
    | with_reducible assumption
    | with_reducible apply State.closeSessions_kept

theorem State.endCardOp_kept {s0 s : State} (h : Kept s0 s) (st : Status) :
    Kept s0 (State.endCardOp s st) := by
  unfold State.endCardOp
  try dsimp only
  repeat' first
    | with_reducible assumption
    | with_reducible apply Kept.ite
    | with_reducible apply State.event_kept
    | with_reducible apply Kept.parts
    | simp only [Kept.lit]
    | intro _

theorem State.cardPowerDown_kept {s0 s : State} (h : Kept s0 s) :
    Kept s0 (State.cardPowerDown s) := by
  unfold State.cardPowerDown
  try dsimp only
  repeat' first
    | with_reducible assumption
    | with_reducible apply Kept.parts
    | simp only [Kept.lit]

theorem State.endCard_kept {s0 s : State} (h : Kept s0 s) :
    Kept s0 (State.endCard s) := by
  unfold State.endCard
  try dsimp only
  repeat' first
    | with_reducible assumption
    | with_reducible apply Kept.ite
    | with_reducible apply State.endCardOp_kept
    | with_reducible apply State.event_kept
    | with_reducible apply State.cardPowerDown_kept
    | intro _

theorem State.freeWindow_kept {s0 s : State} (h : Kept s0 s) (w : Nat) :
    Kept s0 (State.freeWindow s w) := by
  unfold State.freeWindow
  try dsimp only
  repeat' first
    | with_reducible assumption
    | with_reducible apply Kept.ite
    | with_reducible apply State.event_kept
    | with_reducible apply State.modWindow_kept
    | intro _

theorem State.freeWindows_kept {s0 s : State} (h : Kept s0 s) (p : Window → Bool) :
    Kept s0 (State.freeWindows s p) := by
  unfold State.freeWindows
  try dsimp only
  repeat' first
    | with_reducible assumption
    | with_reducible apply Kept.ite
    | with_reducible apply State.freeWindow_kept
    | intro _
    | with_reducible apply Kept.forEach

theorem State.enterHalted_kept {s0 s : State} (h : Kept s0 s) (cause : Nat) (closed : Bool) :
    Kept s0 (State.enterHalted s cause closed) := by
  unfold State.enterHalted
  try dsimp only
  repeat' first
    | with_reducible assumption
    | with_reducible apply State.alarmWindows_kept
    | with_reducible apply State.rollback_kept
    | with_reducible apply State.closeAllSessions_kept
    | with_reducible apply State.endCard_kept
    | with_reducible apply State.freeWindows_kept
    | with_reducible apply State.portEventAll_kept
    | with_reducible apply Kept.parts
    | simp only [Kept.lit]

/-! ### Machine/EventLog.lean -/

theorem State.clearLog_kept {s0 s : State} (h : Kept s0 s) (cred : BitVec 64) :
    Kept s0 (State.clearLog s cred) := by
  unfold State.clearLog
  try dsimp only
  repeat' first
    | with_reducible assumption
    | with_reducible apply State.commitAll_kept
    | with_reducible apply State.event_kept
    | with_reducible apply State.commitOne_kept
    | with_reducible apply State.bump_kept
    | with_reducible apply Kept.parts
    | simp only [Kept.lit]

theorem State.checkLog_kept {s0 s : State} (h : Kept s0 s) :
    Kept s0 (State.checkLog s) := by
  unfold State.checkLog
  try dsimp only
  repeat' first
    | with_reducible assumption
    | with_reducible apply State.event_kept
    | with_reducible apply Kept.parts
    | simp only [Kept.lit]
    | split

/-! ### Machine/Utility.lean -/

theorem State.randomGenerate_kept {s0 s : State} (h : Kept s0 s) (j : Job) :
    Kept s0 (State.randomGenerate s j).2 := by
  unfold State.randomGenerate
  try dsimp only
  repeat' first
    | with_reducible assumption
    | with_reducible apply Kept.iteSnd
    | with_reducible apply State.drawInst_kept
    | simp only []
    | intro _

theorem State.undefinedOpcode_kept {s0 s : State} (h : Kept s0 s) (k : Nat) :
    Kept s0 (State.undefinedOpcode s k) := by
  unfold State.undefinedOpcode
  try dsimp only
  repeat' first
    | with_reducible assumption
    | with_reducible apply Kept.ite
    | with_reducible apply State.endJob_kept
    | intro _
    | split

/-! ### Machine/DigestWindows.lean -/

theorem State.claimWindow_kept {s0 s : State} (h : Kept s0 s) (p : Nat) (w : Nat) (token : BitVec 32) :
    Kept s0 (State.claimWindow s p w token) := by
  unfold State.claimWindow
  try dsimp only
  repeat' first
    | with_reducible assumption
    | with_reducible apply Kept.ite
    | with_reducible apply State.modWindow_kept
    | intro _

theorem State.ownerWrite_kept {s0 s : State} (h : Kept s0 s) (p : Nat) (w : Nat) (f : State → State)
    (hf : ∀ s, Kept s0 s → Kept s0 (f s)) :
    Kept s0 (State.ownerWrite s p w f) := by
  unfold State.ownerWrite
  split
  · exact hf _ (State.modWindow_kept h _ _)
  · exact h

theorem State.releaseWindow_kept {s0 s : State} (h : Kept s0 s) (p : Nat) (w : Nat) (token : BitVec 32) :
    Kept s0 (State.releaseWindow s p w token) := by
  unfold State.releaseWindow
  try dsimp only
  repeat' first
    | with_reducible assumption
    | with_reducible apply Kept.ite
    | with_reducible apply State.ownerWrite_kept
    | with_reducible apply State.modWindow_kept
    | intro _

theorem State.writeWctrl_kept {s0 s : State} (h : Kept s0 s) (p : Nat) (w : Nat) (v : BitVec 32) :
    Kept s0 (State.writeWctrl s p w v) := by
  unfold State.writeWctrl
  try dsimp only
  repeat' first
    | with_reducible assumption
    | with_reducible apply State.ownerWrite_kept
    | with_reducible apply State.modWindow_kept
    | intro _

theorem State.writeData_kept {s0 s : State} (h : Kept s0 s) (p : Nat) (w : Nat) (size : Nat) (v : BitVec 64) (poisoned : Bool) :
    Kept s0 (State.writeData s p w size v poisoned) := by
  unfold State.writeData
  try dsimp only
  repeat' first
    | with_reducible assumption
    | with_reducible apply State.ownerWrite_kept
    | with_reducible apply State.modWindow_kept
    | intro _

theorem State.windowExtend_kept {s0 s : State} (h : Kept s0 s) (p : Nat) (w : Nat) :
    Kept s0 (State.windowExtend s p w) := by
  unfold State.windowExtend
  try dsimp only
  repeat' first
    | with_reducible assumption
    | with_reducible apply Kept.ite
    | with_reducible apply State.modWindow_kept
    | with_reducible apply State.extendMr_kept
    | intro _

theorem State.writeDataLast_kept {s0 s : State} (h : Kept s0 s) (p : Nat) (w : Nat) (size : Nat) (v : BitVec 64) (poisoned : Bool) :
    Kept s0 (State.writeDataLast s p w size v poisoned) := by
  unfold State.writeDataLast
  try dsimp only
  repeat' first
    | with_reducible assumption
    | with_reducible apply Kept.ite
    | with_reducible apply State.ownerWrite_kept
    | with_reducible apply State.modWindow_kept
    | with_reducible apply State.windowExtend_kept
    | with_reducible apply State.bump_kept
    | intro _

theorem State.readDigest_kept {s0 s : State} (h : Kept s0 s) (p : Nat) (w : Nat) (word : Nat) :
    Kept s0 (State.readDigest s p w word) := by
  unfold State.readDigest
  try dsimp only
  repeat' first
    | with_reducible assumption
    | with_reducible apply Kept.ite
    | with_reducible apply State.send_kept
    | with_reducible apply State.modWindow_kept
    | intro _

theorem State.windowIdle_kept {s0 s : State} (h : Kept s0 s) (w : Nat) :
    Kept s0 (State.windowIdle s w) := by
  unfold State.windowIdle
  try dsimp only
  repeat' first
    | with_reducible assumption
    | with_reducible apply Kept.ite
    | with_reducible apply State.freeWindow_kept
    | with_reducible apply State.until_kept
    | intro _

/-! ### Machine/Cards.lean -/

theorem State.powerCard_kept {s0 s : State} (h : Kept s0 s) (fallback : Bool) :
    Kept s0 (State.powerCard s fallback) := by
  unfold State.powerCard
  try dsimp only
  repeat' first
    | with_reducible assumption
    | with_reducible apply Kept.parts
    | simp only [Kept.lit]

theorem State.fallBack_kept {s0 s : State} (h : Kept s0 s) :
    Kept s0 (State.fallBack s) := by
  unfold State.fallBack
  try dsimp only
  repeat' first
    | with_reducible assumption
    | with_reducible apply State.powerCard_kept
    | with_reducible apply State.event_kept

theorem State.cardReady_kept {s0 s : State} (h : Kept s0 s) (s18a : Bool) :
    Kept s0 (State.cardReady s s18a) := by
  unfold State.cardReady
  try dsimp only
  repeat' first
    | with_reducible assumption
    | with_reducible apply Kept.ite
    | with_reducible apply State.fallBack_kept
    | with_reducible apply State.drawInternal_kept
    | with_reducible apply Kept.parts
    | simp only [Kept.lit]
    | intro _

theorem State.enterOp_kept {s0 s : State} (h : Kept s0 s) (x : Session) (c : CardOpCode) (arg : Nat) :
    Kept s0 (State.enterOp s x c arg) := by
  unfold State.enterOp
  try dsimp only
  repeat' first
    | with_reducible assumption
    | with_reducible apply State.send_kept
    | with_reducible apply Kept.parts
    | simp only [Kept.lit]

theorem State.finishOp_kept {s0 s : State} (h : Kept s0 s) (st : Status) :
    Kept s0 (State.finishOp s st) := by
  unfold State.finishOp
  try dsimp only
  repeat' first
    | with_reducible assumption
    | with_reducible apply Kept.ite
    | with_reducible apply State.endCardOp_kept
    | with_reducible apply Kept.parts
    | simp only [Kept.lit]
    | intro _

theorem State.beginBackup_kept {s0 s : State} (h : Kept s0 s) :
    Kept s0 (State.beginBackup s) := by
  unfold State.beginBackup
  try dsimp only
  repeat' first
    | with_reducible assumption
    | with_reducible apply State.drawInternal_kept
    | with_reducible apply State.take_kept
    | with_reducible apply State.powerCard_kept
    | with_reducible apply Kept.parts
    | simp only [Kept.lit]

theorem State.beginRestore_kept {s0 s : State} (h : Kept s0 s) (m : CardImage) :
    Kept s0 (State.beginRestore s m) := by
  unfold State.beginRestore
  try dsimp only
  repeat' first
    | with_reducible assumption
    | with_reducible apply Kept.ite
    | with_reducible apply State.powerCard_kept
    | with_reducible apply State.finishOp_kept
    | with_reducible apply Kept.parts
    | simp only [Kept.lit]
    | intro _

theorem State.cardOp_kept {s0 s : State} (h : Kept s0 s) (x : Session) (c : CardOpCode) (arg : Nat) (m : CardImage) :
    Kept s0 (State.cardOp s x c arg m).2 := by
  unfold State.cardOp
  try dsimp only
  repeat' first
    | with_reducible assumption
    | with_reducible apply Kept.ite
    | with_reducible apply Kept.iteSnd
    | with_reducible apply State.endCardOp_kept
    | with_reducible apply State.enterOp_kept
    | with_reducible apply State.drawInternal_kept
    | with_reducible apply State.finishOp_kept
    | with_reducible apply State.beginBackup_kept
    | with_reducible apply State.beginRestore_kept
    | simp only []
    | intro _
    | split

theorem State.identified_kept {s0 s : State} (h : Kept s0 s) (c : CardCert) :
    Kept s0 (State.identified s c) := by
  unfold State.identified
  try dsimp only
  repeat' first
    | with_reducible assumption
    | with_reducible apply Kept.ite
    | with_reducible apply State.event_kept
    | with_reducible apply State.powerCard_kept
    | with_reducible apply Kept.parts
    | simp only [Kept.lit]
    | intro _

theorem State.loadConfig_kept {s0 s : State} (h : Kept s0 s) (content : Bytes) :
    Kept s0 (State.loadConfig s content).2 := by
  unfold State.loadConfig
  try dsimp only
  repeat' first
    | with_reducible assumption
    | with_reducible apply Kept.iteSnd
    | with_reducible apply Kept.parts
    | simp only [Kept.lit]
    | intro _
    | split

theorem State.countCard_kept {s0 s : State} (h : Kept s0 s) (pos : Nat) :
    Kept s0 (State.countCard s pos) := by
  unfold State.countCard
  try dsimp only
  repeat' first
    | with_reducible assumption
    | with_reducible apply State.bump_kept

theorem State.debounced_kept {s0 s : State} (h : Kept s0 s) :
    Kept s0 (State.debounced s) := by
  unfold State.debounced
  try dsimp only
  repeat' first
    | with_reducible assumption
    | with_reducible apply State.until_kept
    | with_reducible apply State.powerCard_kept
    | with_reducible apply State.countCard_kept
    | with_reducible apply State.event_kept

theorem State.addApproval_kept {s0 s : State} (h : Kept s0 s) (target : Nat) :
    Kept s0 (State.addApproval s target) := by
  unfold State.addApproval
  try dsimp only
  repeat' first
    | with_reducible assumption
    | with_reducible apply State.event_kept
    | with_reducible apply Kept.parts
    | simp only [Kept.lit]

theorem State.failOp_kept {s0 s : State} (h : Kept s0 s) :
    Kept s0 (State.failOp s) := by
  unfold State.failOp
  try dsimp only
  repeat' first
    | with_reducible assumption
    | with_reducible apply Kept.ite
    | with_reducible apply State.take_kept
    | with_reducible apply State.event_kept
    | with_reducible apply Kept.parts
    | simp only [Kept.lit]
    | intro _

theorem State.endBackup_kept {s0 s : State} (h : Kept s0 s) :
    Kept s0 (State.endBackup s) := by
  unfold State.endBackup
  try dsimp only
  repeat' first
    | with_reducible assumption
    | with_reducible apply Kept.ite
    | with_reducible apply State.countCard_kept
    | with_reducible apply State.finishOp_kept
    | with_reducible apply State.powerCard_kept
    | with_reducible apply Kept.parts
    | simp only [Kept.lit]
    | intro _

theorem State.cardOpDone_kept {s0 s : State} (h : Kept s0 s) (r : CardReply) :
    Kept s0 (State.cardOpDone s r) := by
  unfold State.cardOpDone
  try dsimp only
  repeat' first
    | with_reducible assumption
    | with_reducible apply Kept.ite
    | with_reducible apply State.finishOp_kept
    | with_reducible apply State.addApproval_kept
    | with_reducible apply State.failOp_kept
    | with_reducible apply State.loadConfig_kept
    | with_reducible apply State.endBackup_kept
    | with_reducible apply Kept.parts
    | simp only [Kept.lit]
    | intro _
    | split

theorem State.refuseCard_kept {s0 s : State} (h : Kept s0 s) (step : Nat) :
    Kept s0 (State.refuseCard s step) := by
  unfold State.refuseCard
  try dsimp only
  repeat' first
    | with_reducible assumption
    | with_reducible apply Kept.ite
    | with_reducible apply State.endCardOp_kept
    | with_reducible apply State.countCard_kept
    | with_reducible apply State.event_kept
    | with_reducible apply State.cardPowerDown_kept
    | with_reducible apply Kept.parts
    | simp only [Kept.lit]
    | intro _

theorem State.readyPoll_kept {s0 s : State} (h : Kept s0 s) (ready : Bool) (s18a : Bool) :
    Kept s0 (State.readyPoll s ready s18a) := by
  unfold State.readyPoll
  try dsimp only
  repeat' first
    | with_reducible assumption
    | with_reducible apply Kept.ite
    | with_reducible apply State.cardReady_kept
    | with_reducible apply State.advance_kept
    | with_reducible apply State.fallBack_kept
    | with_reducible apply State.refuseCard_kept
    | intro _

theorem State.readPassDone_kept {s0 s : State} (h : Kept s0 s) (ok : Bool) :
    Kept s0 (State.readPassDone s ok) := by
  unfold State.readPassDone
  try dsimp only
  repeat' first
    | with_reducible assumption
    | with_reducible apply Kept.ite
    | with_reducible apply State.finishOp_kept
    | with_reducible apply State.powerCard_kept
    | with_reducible apply Kept.parts
    | simp only [Kept.lit]
    | intro _

theorem State.detectOpen_kept {s0 s : State} (h : Kept s0 s) :
    Kept s0 (State.detectOpen s) := by
  unfold State.detectOpen
  try dsimp only
  repeat' first
    | with_reducible assumption
    | with_reducible apply Kept.ite
    | with_reducible apply State.countCard_kept
    | with_reducible apply State.event_kept
    | with_reducible apply State.endCardOp_kept
    | with_reducible apply State.cardPowerDown_kept
    | with_reducible apply Kept.parts
    | simp only [Kept.lit]
    | intro _

/-! ### Machine/Dispatching.lean -/

theorem State.noteWaits_kept {s0 s : State} (h : Kept s0 s) :
    Kept s0 (State.noteWaits s) := by
  unfold State.noteWaits
  try dsimp only
  repeat' first
    | with_reducible assumption
    | with_reducible apply Kept.ite
    | with_reducible apply State.modQp_kept
    | with_reducible apply State.bump_kept
    | intro _
    | with_reducible apply Kept.forEach

theorem State.refuseState_kept {s0 s : State} (h : Kept s0 s) (k : Nat) :
    Kept s0 (State.refuseState s k) := by
  unfold State.refuseState
  try dsimp only
  repeat' first
    | with_reducible assumption
    | with_reducible apply State.endJob_kept
    | with_reducible apply State.conflict_kept
    | split

theorem State.makeRoomV_kept {s0 s : State} (h : Kept s0 s) (n : Nat) :
    Kept s0 (State.makeRoomV s n) := by
  unfold State.makeRoomV
  try dsimp only
  repeat' first
    | with_reducible assumption
    | with_reducible apply Kept.ite
    | with_reducible apply State.drainV_kept
    | intro _

theorem State.tierVFull_kept {s0 s : State} (h : Kept s0 s) :
    Kept s0 (State.tierVFull s) := by
  unfold State.tierVFull
  try dsimp only
  repeat' first
    | with_reducible assumption
    | with_reducible apply Kept.ite
    | with_reducible apply State.bump_kept
    | with_reducible apply State.event_kept
    | with_reducible apply Kept.parts
    | simp only [Kept.lit]
    | intro _

theorem State.reservePlaces_kept {s0 s : State} (h : Kept s0 s) (k : Nat) (j : Job) :
    Kept s0 (State.reservePlaces s k j) := by
  unfold State.reservePlaces
  try dsimp only
  repeat' first
    | with_reducible assumption
    | with_reducible apply Kept.ite
    | with_reducible apply State.refuseState_kept
    | with_reducible apply State.makeRoomV_kept
    | with_reducible apply State.modJob_kept
    | with_reducible apply State.modInst_kept
    | with_reducible apply State.tierVFull_kept
    | intro _

theorem State.reserveIv_kept {s0 s : State} (h : Kept s0 s) (k : Nat) (j : Job) :
    Kept s0 (State.reserveIv s k j) := by
  unfold State.reserveIv
  try dsimp only
  repeat' first
    | with_reducible assumption
    | with_reducible apply Kept.ite
    | with_reducible apply State.modJob_kept
    | with_reducible apply State.setIv_kept
    | intro _
    | split

theorem State.checkDispatch_kept {s0 s : State} (h : Kept s0 s) (k : Nat) :
    Kept s0 (State.checkDispatch s k) := by
  unfold State.checkDispatch
  try dsimp only
  repeat' first
    | with_reducible assumption
    | with_reducible apply Kept.ite
    | with_reducible apply State.endJob_kept
    | with_reducible apply State.refuseState_kept
    | with_reducible apply State.bump_kept
    | with_reducible apply State.reservePlaces_kept
    | with_reducible apply State.reserveIv_kept
    | intro _
    | with_reducible apply Kept.when
    | split

theorem State.claim_kept {s0 s : State} (h : Kept s0 s) (p : Nat) (i : Nat) (q : Nat) (x : Qp) (e : SqEntry) :
    Kept s0 (State.claim s p i q x e) := by
  unfold State.claim
  try dsimp only
  repeat' first
    | with_reducible assumption
    | with_reducible apply State.setJob_kept
    | with_reducible apply State.modQp_kept
    | with_reducible apply State.fetch_kept
    | with_reducible apply State.checkDispatch_kept
    | with_reducible apply Kept.parts
    | simp only [Kept.lit]
    | split

theorem State.dispatchN_kept {s0 a1 : State} (h : Kept s0 a1) (a0 : Nat) :
    Kept s0 (State.dispatchN a0 a1) := by
  induction a0 generalizing a1 with
  | zero => exact h
  | succ n ih =>
    unfold State.dispatchN
    try dsimp only
    repeat' first
      | with_reducible assumption
      | with_reducible apply Kept.ite
      | with_reducible apply ih
      | with_reducible apply State.claim_kept
      | intro _
      | split

theorem State.dispatch_kept {s0 s : State} (h : Kept s0 s) :
    Kept s0 (State.dispatch s) := by
  unfold State.dispatch
  try dsimp only
  repeat' first
    | with_reducible assumption
    | with_reducible apply State.noteWaits_kept
    | with_reducible apply State.dispatchN_kept

end Sys2Proof.Machine
end

