-- ==== Sys2Proof/Laws/KeptWork.lean ====
section
/-! SUPPORT. What each operation of these files of Machine/ keeps: InstOps, FaultOps, Care, Random, Tempo, Staging, Power, Startup, Updates. -/

namespace Sys2Proof.Machine

open Sys2Proof

/-! ### Machine/InstOps.lean -/

theorem State.startReset_kept {s0 s : State} (h : Kept s0 s) (i : Nat) (squash : Bool) :
    Kept s0 (State.startReset s i squash) := by
  unfold State.startReset
  try dsimp only
  repeat' first
    | with_reducible assumption
    | with_reducible apply State.modInst_kept
    | with_reducible apply State.setInstState_kept
    | with_reducible apply State.squashInst_kept
    | intro _
    | with_reducible apply Kept.when

theorem State.dropTranslations_kept {s0 s : State} (h : Kept s0 s) (i : Nat) :
    Kept s0 (State.dropTranslations s i) := by
  unfold State.dropTranslations
  try dsimp only
  repeat' first
    | with_reducible assumption
    | with_reducible apply Kept.parts
    | simp only [Kept.lit]

theorem State.ownInstance_kept {s0 s : State} (h : Kept s0 s) (p : Nat) :
    Kept s0 (State.ownInstance s p) := by
  unfold State.ownInstance
  try dsimp only
  repeat' first
    | with_reducible assumption
    | with_reducible apply Kept.ite
    | with_reducible apply State.setInst_kept
    | with_reducible apply State.askDrbg_kept
    | with_reducible apply State.clearDrbg_kept
    | intro _

theorem State.dropSpill_kept {s0 s : State} (h : Kept s0 s) (i : Nat) :
    Kept s0 (State.dropSpill s i) := by
  unfold State.dropSpill
  try dsimp only
  repeat' first
    | with_reducible assumption
    | with_reducible apply State.modInst_kept
    | with_reducible apply Kept.parts
    | simp only [Kept.lit]

theorem State.wipeInst_kept {s0 s : State} (h : Kept s0 s) (i : Nat) :
    Kept s0 (State.wipeInst s i) := by
  unfold State.wipeInst
  try dsimp only
  repeat' first
    | with_reducible assumption
    | with_reducible apply State.removeRecords_kept
    | with_reducible apply State.dropSpill_kept
    | with_reducible apply State.dropTranslations_kept
    | with_reducible apply State.dropCtxs_kept

theorem State.resetRegs_kept {s0 s : State} (h : Kept s0 s) (i : Nat) :
    Kept s0 (State.resetRegs s i) := by
  unfold State.resetRegs
  try dsimp only
  repeat' first
    | with_reducible assumption
    | with_reducible apply State.modInst_kept

theorem State.endDestroy_kept {s0 s : State} (h : Kept s0 s) (i : Nat) :
    Kept s0 (State.endDestroy s i) := by
  unfold State.endDestroy
  try dsimp only
  repeat' first
    | with_reducible assumption
    | with_reducible apply State.removeRecords_kept
    | with_reducible apply State.removePeer_kept
    | with_reducible apply State.clearDrbg_kept
    | with_reducible apply State.dropTranslations_kept
    | with_reducible apply State.dropCtxs_kept
    | with_reducible apply State.removeSlots_kept
    | with_reducible apply State.setInstState_kept
    | with_reducible apply State.setInst_kept
    | with_reducible apply State.eventOf_kept
    | intro _
    | with_reducible apply Kept.forEach

theorem State.portResetVf_kept {s0 s : State} (h : Kept s0 s) (i : Nat) :
    Kept s0 (State.portResetVf s i) := by
  unfold State.portResetVf
  try dsimp only
  repeat' first
    | with_reducible assumption
    | with_reducible apply Kept.ite
    | with_reducible apply State.squashInst_kept
    | with_reducible apply State.resetRegs_kept
    | with_reducible apply State.clearDrbg_kept
    | with_reducible apply State.wipeInst_kept
    | with_reducible apply State.modInst_kept
    | with_reducible apply State.endDestroy_kept
    | with_reducible apply State.setInstState_kept
    | intro _

theorem State.portRegs_kept {s0 s : State} (h : Kept s0 s) (p : Nat) :
    Kept s0 (State.portRegs s p) := by
  unfold State.portRegs
  try dsimp only
  repeat' first
    | with_reducible assumption
    | with_reducible apply State.modPort_kept

theorem State.portReset_kept {s0 s : State} (h : Kept s0 s) (p : Nat) :
    Kept s0 (State.portReset s p) := by
  unfold State.portReset
  try dsimp only
  repeat' first
    | with_reducible assumption
    | with_reducible apply State.wipeInst_kept
    | with_reducible apply State.squashInst_kept
    | with_reducible apply State.portResetVf_kept
    | with_reducible apply State.removeSlots_kept
    | with_reducible apply State.freeWindows_kept
    | with_reducible apply State.portRegs_kept
    | with_reducible apply State.modPort_kept
    | with_reducible apply State.ownInstance_kept
    | intro _
    | with_reducible apply Kept.forEach

theorem State.endReset_kept {s0 s : State} (h : Kept s0 s) (i : Nat) :
    Kept s0 (State.endReset s i) := by
  unfold State.endReset
  try dsimp only
  repeat' first
    | with_reducible assumption
    | with_reducible apply State.modInst_kept
    | with_reducible apply State.setInstState_kept
    | with_reducible apply State.errorBit_kept

/-! ### Machine/FaultOps.lean -/

theorem State.fatalEvent_kept {s0 s : State} (h : Kept s0 s) (src : Nat) (detail : Nat) :
    Kept s0 (State.fatalEvent s src detail) := by
  unfold State.fatalEvent
  try dsimp only
  repeat' first
    | with_reducible assumption
    | with_reducible apply State.raise_kept

theorem State.stopAll_kept {s0 s : State} (h : Kept s0 s) :
    Kept s0 (State.stopAll s) := by
  unfold State.stopAll
  dsimp only
  rw [Kept.lit]
  exact Kept.partsOr (State.squashAll_kept h) rfl (.inl rfl) (.inl rfl) (.inr rfl) (.inr cloveOk_blank) (.inl rfl)
    (.inl rfl) (.inl rfl) (.inl rfl)

theorem State.fatal_kept {s0 s : State} (h : Kept s0 s) (src : Nat) (detail : Nat) :
    Kept s0 (State.fatal s src detail) := by
  unfold State.fatal
  try dsimp only
  repeat' first
    | with_reducible assumption
    | with_reducible apply Kept.ite
    | with_reducible apply State.fatalEvent_kept
    | with_reducible apply State.bump_kept
    | with_reducible apply State.stopAll_kept
    | with_reducible apply State.wipeKeys_kept
    | with_reducible apply State.aerAll_kept
    | with_reducible apply State.commitAll_kept
    | with_reducible apply State.enterHalted_kept
    | with_reducible apply Kept.parts
    | simp only [Kept.lit]
    | intro _

theorem State.markRetired_kept {s0 s : State} (h : Kept s0 s) (u : Nat) :
    Kept s0 (State.markRetired s u) := by
  unfold State.markRetired
  split
  · exact h
  · rw [Kept.lit]
    exact Kept.partsOtp h rfl rfl (fun g => ⟨le_rfl, g⟩) fun u hu => List.mem_append_left _ hu

theorem State.promote_kept {s0 s : State} (h : Kept s0 s) (kind : Nat) :
    Kept s0 (State.promote s kind) := by
  unfold State.promote
  try dsimp only
  repeat' first
    | with_reducible assumption
    | with_reducible apply State.event_kept
    | with_reducible apply State.portEventAll_kept
    | with_reducible apply Kept.parts
    | simp only [Kept.lit]
    | split

theorem State.retireUnit_kept {s0 s : State} (h : Kept s0 s) (u : Nat) :
    Kept s0 (State.retireUnit s u) := by
  unfold State.retireUnit
  try dsimp only
  repeat' first
    | with_reducible assumption
    | with_reducible apply Kept.ite
    | with_reducible apply State.fatal_kept
    | with_reducible apply State.markRetired_kept
    | with_reducible apply State.modUnit_kept
    | with_reducible apply State.promote_kept
    | intro _

theorem State.retireOf_kept {s0 s : State} (h : Kept s0 s) (f : FaultOf) :
    Kept s0 (State.retireOf s f) := by
  unfold State.retireOf
  try dsimp only
  repeat' first
    | with_reducible assumption
    | with_reducible apply Kept.ite
    | with_reducible apply State.retireUnit_kept
    | with_reducible apply Kept.parts
    | simp only [Kept.lit, List.length_modify]
    | intro _

theorem State.resetOf_kept {s0 s : State} (h : Kept s0 s) (f : FaultOf) :
    Kept s0 (State.resetOf s f) := by
  unfold State.resetOf
  try dsimp only
  repeat' first
    | with_reducible assumption
    | with_reducible apply Kept.ite
    | with_reducible apply State.portReset_kept
    | with_reducible apply State.startReset_kept
    | intro _
    | split

theorem State.escalate_kept {s0 s : State} (h : Kept s0 s) (f : FaultOf) (esc : Nat) :
    Kept s0 (State.escalate s f esc) := by
  unfold State.escalate
  try dsimp only
  repeat' first
    | with_reducible assumption
    | with_reducible apply State.retireOf_kept
    | with_reducible apply State.resetOf_kept
    | split

theorem State.openFault_kept {s0 s : State} (h : Kept s0 s) (f : FaultOf) :
    Kept s0 (State.openFault s f) := by
  unfold State.openFault
  try dsimp only
  repeat' first
    | with_reducible assumption
    | with_reducible apply Kept.ite
    | with_reducible apply State.aerFor_kept
    | with_reducible apply State.bump_kept
    | with_reducible apply State.raise_kept
    | with_reducible apply State.escalate_kept
    | with_reducible apply Kept.parts
    | simp only [Kept.lit]
    | intro _

theorem State.countCorrected_kept {s0 s : State} (h : Kept s0 s) :
    Kept s0 (State.countCorrected s) := by
  unfold State.countCorrected
  try dsimp only
  repeat' first
    | with_reducible assumption
    | with_reducible apply State.event_kept
    | with_reducible apply State.bump_kept
    | with_reducible apply State.aerAll_kept
    | intro _
    | with_reducible apply Kept.when

theorem State.leaveEngine_kept {s0 s : State} (h : Kept s0 s) (k : Nat) (e : Nat) :
    Kept s0 (State.leaveEngine s k e) := by
  unfold State.leaveEngine
  try dsimp only
  repeat' first
    | with_reducible assumption
    | with_reducible apply Kept.ite
    | with_reducible apply State.endJob_kept
    | with_reducible apply State.modJob_kept
    | with_reducible apply State.clearRegion_kept
    | with_reducible apply State.findRegion_kept
    | intro _
    | (refine Kept.ofP (by assumption) ?_)
    | split

theorem State.quarantine_kept {s0 s : State} (h : Kept s0 s) (u : Nat) :
    Kept s0 (State.quarantine s u) := by
  unfold State.quarantine
  try dsimp only
  repeat' first
    | with_reducible assumption
    | with_reducible apply Kept.parts
    | simp only [Kept.lit, List.length_set]
    | with_reducible apply Kept.ite
    | with_reducible apply State.modUnit_kept
    | with_reducible apply State.leaveEngine_kept
    | intro _
    | with_reducible apply Kept.forEach

theorem State.correctedUnit_kept {s0 s : State} (h : Kept s0 s) (u : Nat) :
    Kept s0 (State.correctedUnit s u) := by
  unfold State.correctedUnit
  try dsimp only
  repeat' first
    | with_reducible assumption
    | with_reducible apply Kept.ite
    | with_reducible apply State.bump_kept
    | with_reducible apply State.countCorrected_kept
    | with_reducible apply State.quarantine_kept
    | with_reducible apply State.modUnit_kept
    | with_reducible apply State.openFault_kept
    | intro _

theorem State.closeFault_kept {s0 s : State} (h : Kept s0 s) (r : FaultRecord) (c : EventCode) (action : Nat) :
    Kept s0 (State.closeFault s r c action) := by
  unfold State.closeFault
  try dsimp only
  repeat' first
    | with_reducible assumption
    | with_reducible apply State.eventOf_kept
    | with_reducible apply Kept.parts
    | simp only [Kept.lit]

theorem State.escalateRecord_kept {s0 s : State} (h : Kept s0 s) (r : FaultRecord) :
    Kept s0 (State.escalateRecord s r) := by
  unfold State.escalateRecord
  try dsimp only
  repeat' first
    | with_reducible assumption
    | with_reducible apply State.escalate_kept
    | with_reducible apply State.closeFault_kept

theorem State.ringError_kept {s0 s : State} (h : Kept s0 s) (i : Nat) (q : Nat) (cause : Nat) (index : Nat) :
    Kept s0 (State.ringError s i q cause index) := by
  unfold State.ringError
  try dsimp only
  repeat' first
    | with_reducible assumption
    | with_reducible apply Kept.ite
    | with_reducible apply State.modQp_kept
    | with_reducible apply State.errorBit_kept
    | with_reducible apply State.eventOf_kept
    | with_reducible apply State.openFault_kept
    | with_reducible apply State.checkStopped_kept
    | intro _
    | split

theorem State.endJobsOn_kept {s0 s : State} (h : Kept s0 s) (u : Nat) :
    Kept s0 (State.endJobsOn s u) := by
  unfold State.endJobsOn
  try dsimp only
  repeat' first
    | with_reducible assumption
    | with_reducible apply State.endJob_kept
    | intro _
    | with_reducible apply Kept.forEach

theorem State.correctedLine_kept {s0 s : State} (h : Kept s0 s) (line : Nat) (f : FaultOf) :
    Kept s0 (State.correctedLine s line f) := by
  unfold State.correctedLine
  try dsimp only
  repeat' first
    | with_reducible assumption
    | with_reducible apply Kept.ite
    | with_reducible apply State.countCorrected_kept
    | with_reducible apply State.quarantine_kept
    | with_reducible apply State.openFault_kept
    | with_reducible apply Kept.parts
    | simp only [Kept.lit]
    | intro _

/-! ### Machine/Care.lean -/

theorem State.mapOut_kept {s0 s : State} (h : Kept s0 s) (n : Nat) :
    Kept s0 (State.mapOut s n) := by
  unfold State.mapOut
  try dsimp only
  repeat' first
    | with_reducible assumption
    | with_reducible apply Kept.ite
    | with_reducible apply Kept.parts
    | simp only [Kept.lit]
    | intro _

theorem State.endOwner_kept {s0 s : State} (h : Kept s0 s) (owner : Option Nat) (kind : Nat) (number : Nat) :
    Kept s0 (State.endOwner s owner kind number) := by
  unfold State.endOwner
  try dsimp only
  repeat' first
    | with_reducible assumption
    | with_reducible apply State.endJob_kept
    | split

theorem State.vaultOther_kept {s0 s : State} (h : Kept s0 s) (page : Nat) (matrix : Option Nat) (owner : Option Nat) :
    Kept s0 (State.vaultOther s page matrix owner) := by
  unfold State.vaultOther
  try dsimp only
  repeat' first
    | with_reducible assumption
    | with_reducible apply State.openFault_kept
    | with_reducible apply State.mapOut_kept
    | with_reducible apply State.endOwner_kept
    | with_reducible apply Kept.parts
    | simp only [Kept.lit]
    | split

theorem State.countVisit_kept {s0 s : State} (h : Kept s0 s) (u : Nat) (ok : Bool) :
    Kept s0 (State.countVisit s u ok) := by
  unfold State.countVisit
  try dsimp only
  repeat' first
    | with_reducible assumption
    | with_reducible apply Kept.ite
    | with_reducible apply State.bump_kept
    | with_reducible apply State.setCounter_kept
    | with_reducible apply State.modUnit_kept
    | intro _

theorem State.backInService_kept {s0 s : State} (h : Kept s0 s) (r : FaultRecord) :
    Kept s0 (State.backInService s r) := by
  unfold State.backInService
  try dsimp only
  repeat' first
    | with_reducible assumption
    | with_reducible apply Kept.ite
    | with_reducible apply State.modUnit_kept
    | with_reducible apply Kept.parts
    | simp only [Kept.lit]
    | intro _

theorem State.retryOf_kept {s0 s : State} (h : Kept s0 s) (r : FaultRecord) (pass : Bool) :
    Kept s0 (State.retryOf s r pass) := by
  unfold State.retryOf
  try dsimp only
  repeat' first
    | with_reducible assumption
    | with_reducible apply Kept.ite
    | with_reducible apply State.modUnit_kept
    | with_reducible apply State.countVisit_kept
    | with_reducible apply State.backInService_kept
    | with_reducible apply State.retireOf_kept
    | intro _

theorem State.applyDisposition_kept {s0 s : State} (h : Kept s0 s) (r : FaultRecord) (d : Disposition) (pass : Bool) :
    Kept s0 (State.applyDisposition s r d pass) := by
  unfold State.applyDisposition
  try dsimp only
  repeat' first
    | with_reducible assumption
    | with_reducible apply State.retryOf_kept
    | with_reducible apply State.retireOf_kept
    | with_reducible apply State.resetOf_kept
    | split

theorem State.checkWear_kept {s0 s : State} (h : Kept s0 s) (u : Nat) :
    Kept s0 (State.checkWear s u) := by
  unfold State.checkWear
  try dsimp only
  repeat' first
    | with_reducible assumption
    | with_reducible apply Kept.ite
    | with_reducible apply State.retireUnit_kept
    | with_reducible apply State.event_kept
    | with_reducible apply State.modUnit_kept
    | intro _

theorem State.dispose_kept {s0 s : State} (h : Kept s0 s) (x : Session) (id : Nat) (d : Disposition) (pass : Bool) :
    Kept s0 (State.dispose s x id d pass).2 := by
  unfold State.dispose
  try dsimp only
  repeat' first
    | with_reducible assumption
    | with_reducible apply Kept.iteSnd
    | with_reducible apply State.dispatch_kept
    | with_reducible apply State.applyDisposition_kept
    | with_reducible apply State.closeFault_kept
    | simp only []
    | intro _
    | split

theorem State.clearStage_kept {s0 s : State} (h : Kept s0 s) (l : StageLoc) :
    Kept s0 (State.clearStage s l) := by
  unfold State.clearStage
  try dsimp only
  repeat' first
    | with_reducible assumption
    | with_reducible apply Kept.ite
    | with_reducible apply State.modWindow_kept
    | with_reducible apply Kept.parts
    | simp only [Kept.lit, List.length_set]
    | intro _
    | split

theorem State.zeroUnit_kept {s0 s : State} (h : Kept s0 s) (u : Nat) :
    Kept s0 (State.zeroUnit s u) := by
  unfold State.zeroUnit
  split
  · exact State.modOpMem_kept h _ _ fun _ _ => rfl
  · rw [Kept.lit, List.length_set]
    exact Kept.parts h
  · exact h

theorem State.lineCorrected_kept {s0 s : State} (h : Kept s0 s) (line : Nat) (kind : Nat) (number : Nat) :
    Kept s0 (State.lineCorrected s line kind number) := by
  unfold State.lineCorrected
  try dsimp only
  repeat' first
    | with_reducible assumption
    | with_reducible apply State.correctedLine_kept

theorem State.sramLine_kept {s0 s : State} (h : Kept s0 s) (line : Nat) (owner : Option Nat) (kind : Nat) (number : Nat) :
    Kept s0 (State.sramLine s line owner kind number) := by
  unfold State.sramLine
  try dsimp only
  repeat' first
    | with_reducible assumption
    | with_reducible apply State.openFault_kept
    | with_reducible apply State.mapOut_kept
    | with_reducible apply State.endOwner_kept

theorem State.keyCacheLine_kept {s0 s : State} (h : Kept s0 s) (line : Nat) (record : Option Nat) :
    Kept s0 (State.keyCacheLine s line record) := by
  unfold State.keyCacheLine
  try dsimp only
  repeat' first
    | with_reducible assumption
    | with_reducible apply Kept.ite
    | with_reducible apply State.countCorrected_kept
    | with_reducible apply State.mapOut_kept
    | with_reducible apply State.modRecord_kept
    | with_reducible apply Kept.parts
    | simp only [Kept.lit]
    | intro _
    | split

theorem State.vaultRecord_kept {s0 s : State} (h : Kept s0 s) (k : Nat) :
    Kept s0 (State.vaultRecord s k) := by
  unfold State.vaultRecord
  try dsimp only
  repeat' first
    | with_reducible assumption
    | with_reducible apply Kept.ite
    | with_reducible apply State.countTier_kept
    | with_reducible apply State.removeRecord_kept
    | with_reducible apply State.openFault_kept
    | intro _
    | split

theorem State.scrub_kept {s0 s : State} (h : Kept s0 s) (l : MemLoc) (e : EccError) :
    Kept s0 (State.scrub s l e) := by
  unfold State.scrub
  try dsimp only
  repeat' first
    | with_reducible assumption
    | with_reducible apply State.lineCorrected_kept
    | with_reducible apply State.sramLine_kept
    | with_reducible apply State.keyCacheLine_kept
    | with_reducible apply State.countCorrected_kept
    | with_reducible apply State.vaultRecord_kept
    | with_reducible apply State.vaultOther_kept
    | split

theorem State.noteRatio_kept {s0 s : State} (h : Kept s0 s) (u : Nat) (duration : Nat) (fixed : Nat) :
    Kept s0 (State.noteRatio s u duration fixed) := by
  unfold State.noteRatio
  try dsimp only
  repeat' first
    | with_reducible assumption
    | with_reducible apply Kept.ite
    | with_reducible apply State.modUnit_kept
    | intro _

theorem State.selfTestVisit_kept {s0 s : State} (h : Kept s0 s) (u : Nat) (pass : Bool) (duration : Nat) (fixed : Nat) :
    Kept s0 (State.selfTestVisit s u pass duration fixed) := by
  unfold State.selfTestVisit
  try dsimp only
  repeat' first
    | with_reducible assumption
    | with_reducible apply Kept.ite
    | with_reducible apply State.countVisit_kept
    | with_reducible apply State.checkWear_kept
    | with_reducible apply State.noteRatio_kept
    | with_reducible apply State.openFault_kept
    | with_reducible apply State.quarantine_kept
    | intro _

theorem State.watchdog_kept {s0 s : State} (h : Kept s0 s) (l : StageLoc) (cleared : Bool) :
    Kept s0 (State.watchdog s l cleared) := by
  unfold State.watchdog
  try dsimp only
  repeat' first
    | with_reducible assumption
    | with_reducible apply Kept.ite
    | with_reducible apply State.fatal_kept
    | with_reducible apply State.openFault_kept
    | with_reducible apply State.quarantine_kept
    | with_reducible apply State.clearStage_kept
    | with_reducible apply State.endJobsOn_kept
    | with_reducible apply State.endJob_kept
    | intro _
    | with_reducible apply Kept.forEach
    | split

theorem State.pairNew_kept {s0 s : State} (h : Kept s0 s) (u : Nat) :
    Kept s0 (State.pairNew s u) := by
  unfold State.pairNew
  try dsimp only
  repeat' first
    | with_reducible assumption
    | with_reducible apply Kept.ite
    | with_reducible apply State.modUnit_kept
    | intro _
    | split

theorem State.graceExpiry_kept {s0 s : State} (h : Kept s0 s) (id : Nat) :
    Kept s0 (State.graceExpiry s id) := by
  unfold State.graceExpiry
  try dsimp only
  repeat' first
    | with_reducible assumption
    | with_reducible apply Kept.ite
    | with_reducible apply State.until_kept
    | with_reducible apply State.dispatch_kept
    | with_reducible apply State.escalateRecord_kept
    | with_reducible apply Kept.parts
    | simp only [Kept.lit]
    | intro _
    | split

theorem State.spareVisitDone_kept {s0 s : State} (h : Kept s0 s) (u : Nat) (pass : Bool) :
    Kept s0 (State.spareVisitDone s u pass) := by
  unfold State.spareVisitDone
  try dsimp only
  repeat' first
    | with_reducible assumption
    | with_reducible apply Kept.ite
    | with_reducible apply State.countVisit_kept
    | with_reducible apply State.modUnit_kept
    | with_reducible apply State.zeroUnit_kept
    | with_reducible apply State.bump_kept
    | with_reducible apply State.portEventAll_kept
    | with_reducible apply State.pairNew_kept
    | with_reducible apply State.dispatch_kept
    | with_reducible apply State.event_kept
    | with_reducible apply State.promote_kept
    | with_reducible apply State.markRetired_kept
    | with_reducible apply Kept.parts
    | simp only [Kept.lit]
    | intro _

/-! ### Machine/Random.lean -/

theorem State.restartPool_kept {s0 s : State} (h : Kept s0 s) :
    Kept s0 (State.restartPool s) := by
  unfold State.restartPool
  try dsimp only
  repeat' first
    | with_reducible assumption
    | with_reducible apply State.serveBlocks_kept
    | with_reducible apply Kept.parts
    | simp only [Kept.lit]

theorem State.noEntropy_kept {s0 s : State} (h : Kept s0 s) (k : Nat) (detail : Nat) :
    Kept s0 (State.noEntropy s k detail) := by
  unfold State.noEntropy
  try dsimp only
  repeat' first
    | with_reducible assumption
    | with_reducible apply State.endJob_kept
    | with_reducible apply State.countDrbg_kept

theorem State.stopPool_kept {s0 s : State} (h : Kept s0 s) :
    Kept s0 (State.stopPool s) := by
  unfold State.stopPool
  try dsimp only
  repeat' first
    | with_reducible assumption
    | with_reducible apply State.noEntropy_kept
    | with_reducible apply State.bump_kept
    | with_reducible apply State.event_kept
    | with_reducible apply State.dispatch_kept
    | with_reducible apply State.openFault_kept
    | with_reducible apply Kept.parts
    | simp only [Kept.lit, List.length_map]
    | intro _
    | with_reducible apply Kept.forEach

theorem State.checkPool_kept {s0 s : State} (h : Kept s0 s) :
    Kept s0 (State.checkPool s) := by
  unfold State.checkPool
  try dsimp only
  repeat' first
    | with_reducible assumption
    | with_reducible apply Kept.ite
    | with_reducible apply State.restartPool_kept
    | with_reducible apply State.stopPool_kept
    | with_reducible apply Kept.parts
    | simp only [Kept.lit]
    | intro _

theorem State.sourcesChanged_kept {s0 s : State} (h : Kept s0 s) (old : Nat) :
    Kept s0 (State.sourcesChanged s old) := by
  unfold State.sourcesChanged
  try dsimp only
  repeat' first
    | with_reducible assumption
    | with_reducible apply State.checkPool_kept
    | with_reducible apply Kept.parts
    | simp only [Kept.lit, List.length_mapIdx]

theorem State.entropyTimeout_kept {s0 s : State} (h : Kept s0 s) (k : Nat) :
    Kept s0 (State.entropyTimeout s k) := by
  unfold State.entropyTimeout
  try dsimp only
  repeat' first
    | with_reducible assumption
    | with_reducible apply State.dispatch_kept
    | with_reducible apply State.noEntropy_kept
    | with_reducible apply State.until_kept
    | split

theorem State.modSource_kept {s0 s : State} (h : Kept s0 s) (i : Nat) (f : Source → Source) :
    Kept s0 (State.modSource s i f) := by
  unfold State.modSource
  try dsimp only
  repeat' first
    | with_reducible assumption
    | with_reducible apply Kept.parts
    | simp only [Kept.lit, List.length_modify]

theorem State.dropSource_kept {s0 s : State} (h : Kept s0 s) (i : Nat) (test : Nat) :
    Kept s0 (State.dropSource s i test) := by
  unfold State.dropSource
  try dsimp only
  repeat' first
    | with_reducible assumption
    | with_reducible apply Kept.ite
    | with_reducible apply State.bump_kept
    | with_reducible apply State.event_kept
    | with_reducible apply State.countCorrected_kept
    | with_reducible apply State.modSource_kept
    | with_reducible apply State.openFault_kept
    | with_reducible apply State.checkPool_kept
    | intro _

theorem State.takeSample_kept {s0 s : State} (h : Kept s0 s) (i : Nat) (b : Bool) :
    Kept s0 (State.takeSample s i b) := by
  unfold State.takeSample
  try dsimp only
  repeat' first
    | with_reducible assumption
    | with_reducible apply Kept.ite
    | with_reducible apply State.serveBlocks_kept
    | with_reducible apply Kept.parts
    | simp only [Kept.lit]
    | intro _

theorem State.passSample_kept {s0 s : State} (h : Kept s0 s) (i : Nat) (b : Bool) :
    Kept s0 (State.passSample s i b) := by
  unfold State.passSample
  try dsimp only
  repeat' first
    | with_reducible assumption
    | with_reducible apply Kept.ite
    | with_reducible apply State.takeSample_kept
    | with_reducible apply State.modSource_kept
    | with_reducible apply State.checkPool_kept
    | intro _

theorem State.noiseSample_kept {s0 s : State} (h : Kept s0 s) (i : Nat) (b : Bool) :
    Kept s0 (State.noiseSample s i b) := by
  unfold State.noiseSample
  try dsimp only
  repeat' first
    | with_reducible assumption
    | with_reducible apply Kept.ite
    | with_reducible apply State.modSource_kept
    | with_reducible apply State.passSample_kept
    | with_reducible apply State.dropSource_kept
    | intro _

/-! ### Machine/Tempo.lean -/

theorem State.setCap_kept {s0 s : State} (h : Kept s0 s) :
    Kept s0 (State.setCap s) := by
  unfold State.setCap
  try dsimp only
  repeat' first
    | with_reducible assumption
    | with_reducible apply Kept.parts
    | simp only [Kept.lit]

theorem State.countGov_kept {s0 s : State} (h : Kept s0 s) (pos : Nat) :
    Kept s0 (State.countGov s pos) := by
  unfold State.countGov
  try dsimp only
  repeat' first
    | with_reducible assumption
    | with_reducible apply State.bump_kept

theorem State.stepUp_kept {s0 s : State} (h : Kept s0 s) :
    Kept s0 (State.stepUp s) := by
  unfold State.stepUp
  try dsimp only
  repeat' first
    | with_reducible assumption
    | with_reducible apply State.countGov_kept
    | with_reducible apply Kept.parts
    | simp only [Kept.lit]

theorem State.governUp_kept {s0 s : State} (h : Kept s0 s) (waiting : Nat) :
    Kept s0 (State.governUp s waiting) := by
  unfold State.governUp
  try dsimp only
  repeat' first
    | with_reducible assumption
    | with_reducible apply Kept.ite
    | with_reducible apply State.stepUp_kept
    | with_reducible apply Kept.parts
    | simp only [Kept.lit]
    | intro _

theorem State.stepDown_kept {s0 s : State} (h : Kept s0 s) :
    Kept s0 (State.stepDown s) := by
  unfold State.stepDown
  try dsimp only
  repeat' first
    | with_reducible assumption
    | with_reducible apply Kept.ite
    | with_reducible apply State.countGov_kept
    | with_reducible apply Kept.parts
    | simp only [Kept.lit]
    | intro _

theorem State.gateMore_kept {s0 s : State} (h : Kept s0 s) :
    Kept s0 (State.gateMore s) := by
  unfold State.gateMore
  try dsimp only
  repeat' first
    | with_reducible assumption
    | with_reducible apply Kept.ite
    | with_reducible apply State.countGov_kept
    | with_reducible apply State.event_kept
    | with_reducible apply Kept.parts
    | simp only [Kept.lit]
    | intro _

theorem State.governDown_kept {s0 s : State} (h : Kept s0 s) :
    Kept s0 (State.governDown s) := by
  unfold State.governDown
  try dsimp only
  repeat' first
    | with_reducible assumption
    | with_reducible apply Kept.ite
    | with_reducible apply State.stepDown_kept
    | with_reducible apply State.gateMore_kept
    | with_reducible apply Kept.parts
    | simp only [Kept.lit]
    | intro _

theorem State.setGovState_kept {s0 s : State} (h : Kept s0 s) :
    Kept s0 (State.setGovState s) := by
  unfold State.setGovState
  try dsimp only
  repeat' first
    | with_reducible assumption
    | with_reducible apply Kept.parts
    | simp only [Kept.lit]

theorem State.governorTick_kept {s0 s : State} (h : Kept s0 s) (mw : Nat) (waiting : Nat) (inletMc : Int) :
    Kept s0 (State.governorTick s mw waiting inletMc) := by
  unfold State.governorTick
  try dsimp only
  repeat' first
    | with_reducible assumption
    | with_reducible apply State.measureRails_kept
    | with_reducible apply Kept.ite
    | with_reducible apply State.setCap_kept
    | with_reducible apply State.governDown_kept
    | with_reducible apply State.stepDown_kept
    | with_reducible apply State.governUp_kept
    | with_reducible apply State.setGovState_kept
    | with_reducible apply Kept.parts
    | simp only [Kept.lit]
    | intro _

theorem State.tempoWindow_kept {s0 s : State} (h : Kept s0 s) (ps : Nat) :
    Kept s0 (State.tempoWindow s ps) := by
  unfold State.tempoWindow
  try dsimp only
  repeat' first
    | with_reducible assumption
    | with_reducible apply Kept.ite
    | with_reducible apply State.stepUp_kept
    | with_reducible apply State.stepDown_kept
    | with_reducible apply State.setGovState_kept
    | with_reducible apply Kept.parts
    | simp only [Kept.lit]
    | intro _

/-! ### Machine/Staging.lean -/

theorem State.setAuthority_kept {s0 s : State} (h : Kept s0 s) (v : Bytes) :
    Kept s0 (State.setAuthority s v) := by
  unfold State.setAuthority
  try dsimp only
  repeat' first
    | with_reducible assumption
    | with_reducible apply Kept.parts
    | simp only [Kept.lit]

theorem State.holdFactoryCred_kept {s0 s : State} (h : Kept s0 s) (v : Bytes) :
    Kept s0 (State.holdFactoryCred s v) := by
  unfold State.holdFactoryCred
  try dsimp only
  repeat' first
    | with_reducible assumption
    | with_reducible apply Kept.ite
    | with_reducible apply Kept.parts
    | simp only [Kept.lit]
    | intro _

theorem State.mirrorCredential_kept {s0 s : State} (h : Kept s0 s) (key : Nat) (v : Bytes) :
    Kept s0 (State.mirrorCredential s key v) := by
  unfold State.mirrorCredential
  try dsimp only
  repeat' first
    | with_reducible assumption
    | with_reducible apply Kept.parts
    | simp only [Kept.lit]

theorem State.mirrorCards_kept {s0 s : State} (h : Kept s0 s) (v : Bytes) :
    Kept s0 (State.mirrorCards s v) := by
  unfold State.mirrorCards
  try dsimp only
  repeat' first
    | with_reducible assumption
    | with_reducible apply Kept.parts
    | simp only [Kept.lit]

theorem State.setTimeSource_kept {s0 s : State} (h : Kept s0 s) (old : Nat) (new : Nat) :
    Kept s0 (State.setTimeSource s old new) := by
  unfold State.setTimeSource
  try dsimp only
  repeat' first
    | with_reducible assumption
    | with_reducible apply Kept.ite
    | with_reducible apply Kept.parts
    | simp only [Kept.lit]
    | intro _

theorem State.applyEntry_kept {s0 s : State} (h : Kept s0 s) (key : Nat) (v : Bytes) :
    Kept s0 (State.applyEntry s key v) := by
  unfold State.applyEntry
  try dsimp only
  repeat' first
    | with_reducible assumption
    | with_reducible apply Kept.ite
    | with_reducible apply State.setAuthority_kept
    | with_reducible apply State.setOd_kept
    | with_reducible apply State.holdFactoryCred_kept
    | with_reducible apply State.mirrorCredential_kept
    | with_reducible apply State.setCap_kept
    | with_reducible apply State.trimMatrix_kept
    | with_reducible apply State.sourcesChanged_kept
    | with_reducible apply State.mirrorCards_kept
    | with_reducible apply State.setTimeSource_kept
    | with_reducible apply Kept.parts
    | simp only [Kept.lit]
    | intro _
    | split

theorem State.followNetwork_kept {s0 s : State} (h : Kept s0 s) (old : State) :
    Kept s0 (State.followNetwork s old) := by
  unfold State.followNetwork
  try dsimp only
  repeat' first
    | with_reducible assumption
    | with_reducible apply Kept.ite
    | with_reducible apply State.closeSessions_kept
    | intro _

theorem State.commitValues_kept {s0 s : State} (h : Kept s0 s) (staged : List (Nat × Bytes)) :
    Kept s0 (State.commitValues s staged) := by
  unfold State.commitValues
  try dsimp only
  repeat' first
    | with_reducible assumption
    | with_reducible apply State.applyEntry_kept
    | with_reducible apply State.take_kept
    | with_reducible apply State.dispatch_kept
    | with_reducible apply State.setOd_kept
    | with_reducible apply State.bump_kept
    | with_reducible apply Kept.parts
    | simp only [Kept.lit]
    | intro _
    | with_reducible apply Kept.forEach

theorem State.commitTxn_kept {s0 s : State} (h : Kept s0 s) :
    Kept s0 (State.commitTxn s).2 := by
  unfold State.commitTxn
  try dsimp only
  repeat' first
    | with_reducible assumption
    | with_reducible apply State.commitValues_kept
    | with_reducible apply Kept.parts
    | simp only [Kept.lit]
    | split

theorem State.stageValue_kept {s0 s : State} (h : Kept s0 s) (x : Session) (key : Nat) (v : Bytes) :
    Kept s0 (State.stageValue s x key v).2 := by
  unfold State.stageValue
  try dsimp only
  repeat' first
    | with_reducible assumption
    | with_reducible apply Kept.iteSnd
    | with_reducible apply Kept.parts
    | simp only [Kept.lit]
    | intro _

theorem State.writeRw_kept {s0 s : State} (h : Kept s0 s) (x : Session) (key : Nat) (v : Bytes) :
    Kept s0 (State.writeRw s x key v).2 := by
  unfold State.writeRw
  try dsimp only
  repeat' first
    | with_reducible assumption
    | with_reducible apply Kept.iteSnd
    | with_reducible apply State.stageValue_kept
    | with_reducible apply State.commitValues_kept
    | simp only []
    | intro _

/-! ### Machine/Power.lean -/

theorem State.stopAtPowerFail_kept {s0 s : State} (h : Kept s0 s) (k : Nat) (j : Job) :
    Kept s0 (State.stopAtPowerFail s k j) := by
  unfold State.stopAtPowerFail
  try dsimp only
  repeat' first
    | with_reducible assumption
    | with_reducible apply Kept.ite
    | with_reducible apply State.abortJob_kept
    | with_reducible apply State.squashJob_kept
    | intro _
    | split

theorem State.enterStage_kept {s0 s : State} (h : Kept s0 s) (g : PowerStage) :
    Kept s0 (State.enterStage s g) := by
  unfold State.enterStage
  try dsimp only
  repeat' first
    | with_reducible assumption
    | with_reducible apply Kept.parts
    | simp only [Kept.lit]

theorem State.cardPowerFail_kept {s0 s : State} (h : Kept s0 s) :
    Kept s0 (State.cardPowerFail s) := by
  unfold State.cardPowerFail
  try dsimp only
  repeat' first
    | with_reducible assumption
    | with_reducible apply Kept.ite
    | with_reducible apply State.event_kept
    | with_reducible apply State.endCardOp_kept
    | with_reducible apply State.cardPowerDown_kept
    | with_reducible apply Kept.parts
    | simp only [Kept.lit]
    | intro _

theorem State.windowEnd_kept {s0 s : State} (h : Kept s0 s) :
    Kept s0 (State.windowEnd s) := by
  unfold State.windowEnd
  try dsimp only
  repeat' first
    | with_reducible assumption
    | with_reducible apply Kept.ite
    | with_reducible apply State.until_kept
    | with_reducible apply State.stopAtPowerFail_kept
    | with_reducible apply State.enterStage_kept
    | with_reducible apply State.cardPowerFail_kept
    | with_reducible apply State.commitAll_kept
    | intro _
    | with_reducible apply Kept.forEach

theorem State.runDeferred_kept {s0 s : State} (h : Kept s0 s) :
    Kept s0 (State.runDeferred s) := by
  unfold State.runDeferred
  try dsimp only
  repeat' first
    | with_reducible assumption
    | with_reducible apply State.escalateRecord_kept
    | with_reducible apply Kept.parts
    | simp only [Kept.lit]
    | intro _
    | with_reducible apply Kept.forEach
    | split

theorem State.measureHoldup_kept {s0 s : State} (h : Kept s0 s) (fullMj : Nat) (storedMj : Nat) :
    Kept s0 (State.measureHoldup s fullMj storedMj) := by
  unfold State.measureHoldup
  try dsimp only
  repeat' first
    | with_reducible assumption
    | with_reducible apply Kept.ite
    | with_reducible apply State.event_kept
    | with_reducible apply State.openFault_kept
    | with_reducible apply Kept.parts
    | simp only [Kept.lit]
    | intro _

theorem State.setRail_kept {s0 s : State} (h : Kept s0 s) (r : Rail) (up : Bool) :
    Kept s0 (State.setRail s r up) := by
  unfold State.setRail
  try dsimp only
  repeat' first
    | with_reducible assumption
    | with_reducible apply Kept.parts
    | simp only [Kept.lit]
    | split

theorem State.railReturn_kept {s0 s : State} (h : Kept s0 s) (r : Rail) :
    Kept s0 (State.railReturn s r) := by
  unfold State.railReturn
  try dsimp only
  repeat' first
    | with_reducible assumption
    | with_reducible apply Kept.ite
    | with_reducible apply State.setRail_kept
    | with_reducible apply State.enterStage_kept
    | intro _

theorem State.powerWarning_kept {s0 s : State} (h : Kept s0 s) :
    Kept s0 (State.powerWarning s) := by
  unfold State.powerWarning
  try dsimp only
  repeat' first
    | with_reducible assumption
    | with_reducible apply Kept.ite
    | with_reducible apply State.until_kept
    | with_reducible apply State.enterStage_kept
    | with_reducible apply State.portEventAll_kept
    | with_reducible apply State.bump_kept
    | with_reducible apply State.event_kept
    | with_reducible apply State.alarmWindows_kept
    | with_reducible apply Kept.parts
    | simp only [Kept.lit]
    | intro _
    | split

theorem State.tamper_kept {s0 s : State} (h : Kept s0 s) (c : TamperCause) :
    Kept s0 (State.tamper s c) := by
  unfold State.tamper
  try dsimp only
  repeat' first
    | with_reducible assumption
    | with_reducible apply Kept.ite
    | with_reducible apply State.fatal_kept
    | with_reducible apply Kept.parts
    | simp only [Kept.lit]
    | intro _

theorem State.startRide_kept {s0 s : State} (h : Kept s0 s) (loadMw : Nat) (storedMj : Nat) :
    Kept s0 (State.startRide s loadMw storedMj) := by
  unfold State.startRide
  try dsimp only
  repeat' first
    | with_reducible assumption
    | with_reducible apply Kept.ite
    | with_reducible apply State.enterStage_kept
    | with_reducible apply State.event_kept
    | with_reducible apply Kept.parts
    | simp only [Kept.lit]
    | intro _

theorem State.powerBack_kept {s0 s : State} (h : Kept s0 s) :
    Kept s0 (State.powerBack s) := by
  unfold State.powerBack
  try dsimp only
  repeat' first
    | with_reducible assumption
    | with_reducible apply State.enterStage_kept
    | with_reducible apply State.portEventAll_kept
    | with_reducible apply State.event_kept
    | with_reducible apply State.runDeferred_kept
    | with_reducible apply State.fetch_kept
    | with_reducible apply State.dispatch_kept
    | with_reducible apply Kept.parts
    | simp only [Kept.lit]
    | intro _
    | with_reducible apply Kept.forEach

theorem State.vddOvercurrent_kept {s0 s : State} (h : Kept s0 s) :
    Kept s0 (State.vddOvercurrent s) := by
  unfold State.vddOvercurrent
  try dsimp only
  repeat' first
    | with_reducible assumption
    | with_reducible apply Kept.ite
    | with_reducible apply State.event_kept
    | with_reducible apply State.endCardOp_kept
    | with_reducible apply State.cardPowerDown_kept
    | intro _

theorem State.loopPulse_kept {s0 s : State} (h : Kept s0 s) (ohm : Nat) :
    Kept s0 (State.loopPulse s ohm) := by
  unfold State.loopPulse
  try dsimp only
  repeat' first
    | with_reducible assumption
    | with_reducible apply Kept.ite
    | with_reducible apply State.event_kept
    | with_reducible apply State.tamper_kept
    | with_reducible apply Kept.parts
    | simp only [Kept.lit]
    | intro _

theorem State.thermalPause_kept {s0 s : State} (h : Kept s0 s) (dieMc : Int) :
    Kept s0 (State.thermalPause s dieMc) := by
  unfold State.thermalPause
  try dsimp only
  repeat' first
    | with_reducible assumption
    | with_reducible apply Kept.ite
    | with_reducible apply State.event_kept
    | with_reducible apply Kept.parts
    | simp only [Kept.lit]
    | intro _

theorem State.railLoss_kept {s0 s : State} (h : Kept s0 s) (r : Rail) (loadMw : Nat) (storedMj : Nat) :
    Kept s0 (State.railLoss s r loadMw storedMj) := by
  unfold State.railLoss
  try dsimp only
  repeat' first
    | with_reducible assumption
    | with_reducible apply Kept.ite
    | with_reducible apply State.setRail_kept
    | with_reducible apply State.startRide_kept
    | with_reducible apply State.commitAll_kept
    | with_reducible apply State.enterStage_kept
    | intro _

theorem State.noteFlush_kept {s0 s : State} (h : Kept s0 s) :
    Kept s0 (State.noteFlush s) := by
  unfold State.noteFlush
  try dsimp only
  repeat' first
    | with_reducible assumption
    | with_reducible apply State.take_kept
    | with_reducible apply Kept.parts
    | simp only [Kept.lit]

theorem State.powerOff_kept {s0 s : State} (h : Kept s0 s) :
    Kept s0 (State.powerOff s) := by
  unfold State.powerOff
  try dsimp only
  repeat' first
    | with_reducible assumption
    | with_reducible apply State.stopAll_kept
    | with_reducible apply State.wipeKeys_kept
    | with_reducible apply Kept.parts
    | simp only [Kept.lit, List.length_map]

theorem State.flushDone_kept {s0 s : State} (h : Kept s0 s) :
    Kept s0 (State.flushDone s) := by
  unfold State.flushDone
  try dsimp only
  repeat' first
    | with_reducible assumption
    | with_reducible apply Kept.ite
    | with_reducible apply State.noteFlush_kept
    | with_reducible apply State.commitAll_kept
    | with_reducible apply State.powerBack_kept
    | with_reducible apply State.powerOff_kept
    | intro _

theorem State.thermalResume_kept {s0 s : State} (h : Kept s0 s) (dieMc : Int) :
    Kept s0 (State.thermalResume s dieMc) := by
  unfold State.thermalResume
  try dsimp only
  repeat' first
    | with_reducible assumption
    | with_reducible apply Kept.ite
    | with_reducible apply State.dispatch_kept
    | with_reducible apply Kept.parts
    | simp only [Kept.lit]
    | intro _

/-! ### Machine/Startup.lean -/

theorem State.deviceReady_kept {s0 s : State} (h : Kept s0 s) :
    Kept s0 (State.deviceReady s) := by
  unfold State.deviceReady
  try dsimp only
  repeat' first
    | with_reducible assumption
    | with_reducible apply Kept.ite
    | with_reducible apply State.event_kept
    | with_reducible apply State.ownInstance_kept
    | with_reducible apply Kept.parts
    | simp only [Kept.lit]
    | intro _
    | with_reducible apply Kept.forEach

theorem State.advanceGeneration_kept {s0 s : State} (h : Kept s0 s) :
    Kept s0 (State.advanceGeneration s) := by
  unfold State.advanceGeneration
  split
  · rw [Kept.lit]
    exact Kept.partsOtp h rfl rfl (fun g => ⟨Nat.le_succ _, ‹_›⟩) fun _ hu => hu
  · exact h

theorem State.skipIvs_kept {s0 s : State} (h : Kept s0 s) :
    Kept s0 (State.skipIvs s) := by
  unfold State.skipIvs
  try dsimp only
  repeat' first
    | with_reducible assumption
    | with_reducible apply Kept.parts
    | simp only [Kept.lit]

theorem State.dropVolatileOd_kept {s0 s : State} (h : Kept s0 s) :
    Kept s0 (State.dropVolatileOd s) := by
  unfold State.dropVolatileOd
  try dsimp only
  repeat' first
    | with_reducible assumption
    | with_reducible apply Kept.parts
    | simp only [Kept.lit]

theorem State.pairUnits_kept {s0 s : State} (h : Kept s0 s) :
    Kept s0 (State.pairUnits s) := by
  unfold State.pairUnits
  try dsimp only
  repeat' first
    | with_reducible assumption
    | with_reducible apply State.modUnit_kept
    | intro _
    | with_reducible apply Kept.forEach

theorem State.restoreUnits_kept {s0 s : State} (h : Kept s0 s) :
    Kept s0 (State.restoreUnits s) := by
  unfold State.restoreUnits
  try dsimp only
  repeat' first
    | with_reducible assumption
    | with_reducible apply State.modUnit_kept
    | with_reducible apply State.pairUnits_kept
    | intro _
    | with_reducible apply Kept.forEach

theorem State.startUnits_kept {s0 s : State} (h : Kept s0 s) :
    Kept s0 (State.startUnits s) := by
  unfold State.startUnits
  try dsimp only
  repeat' first
    | with_reducible assumption
    | with_reducible apply State.restoreUnits_kept
    | with_reducible apply Kept.parts
    | simp only [Kept.lit, List.length_mapIdx]

theorem State.startRng_kept {s0 s : State} (h : Kept s0 s) :
    Kept s0 (State.startRng s) := by
  unfold State.startRng
  dsimp only
  rw [Kept.lit]
  exact Kept.partsOr h rfl (.inl rfl) (.inl rfl) (.inl rfl) (.inl rfl) (.inr rfl) (.inr rfl) (.inl rfl) (.inl rfl)

theorem State.fabricStart_kept {s0 s : State} (h : Kept s0 s) :
    Kept s0 (State.fabricStart s) := by
  unfold State.fabricStart
  dsimp only
  repeat' first
    | with_reducible assumption
    | with_reducible apply State.closeAllSessions_kept
    | with_reducible apply State.rollback_kept
    | with_reducible apply State.squashAll_kept
    | with_reducible apply State.wipeKeys_kept
    | with_reducible apply State.dropVolatileOd_kept
    | with_reducible apply State.portRegs_kept
    | with_reducible apply State.startRng_kept
    | with_reducible apply State.startUnits_kept
    | with_reducible apply Kept.parts
    | simp only [Kept.lit, List.length_map]
    | intro _
    | with_reducible apply Kept.forEach
    | (refine Kept.partsOr ?_ rfl (.inl rfl) (.inl rfl) (.inr rfl) (.inr cloveOk_blank) (.inl rfl) (.inl rfl)
        (.inr rfl) (.inr rfl))

theorem State.load_kept {s0 s : State} (h : Kept s0 s) (x : Snapshot) :
    Kept s0 (State.load s x) := by
  unfold State.load
  try dsimp only
  repeat' first
    | with_reducible assumption
    | with_reducible apply Kept.parts
    | simp only [Kept.lit]

theorem State.openStart_kept {s0 s : State} (h : Kept s0 s) (warm : Bool) (cause : Nat) :
    Kept s0 (State.openStart s warm cause) := by
  unfold State.openStart
  try dsimp only
  repeat' first
    | with_reducible assumption
    | with_reducible apply Kept.parts
    | simp only [Kept.lit]

theorem State.closeIntents_kept {s0 s : State} (h : Kept s0 s) (v : Nat) :
    Kept s0 (State.closeIntents s v) := by
  have shut : ∀ (s : State) (i : Nat), Kept s0 s → Kept s0 { s with
      otp := { s.otp with intents := s.otp.intents.set i (List.replicate 3 0xFFFF) } } := fun s i h => by
    rw [Kept.lit]
    exact Kept.partsOtp h rfl List.length_set (fun g => ⟨le_rfl, g⟩) fun _ hu => hu
  unfold State.closeIntents
  refine Kept.forEach h fun s i h => ?_
  dsimp only
  split
  · have := shut s i h
    rw [Kept.lit] at this ⊢
    exact this
  · split
    · exact shut s i h
    · exact h
  · exact h

theorem State.beginWipe_kept {s0 s : State} (h : Kept s0 s) (from_ : Nat) (to_ : Nat) (slot : Nat) :
    Kept s0 (State.beginWipe s from_ to_ slot) := by
  unfold State.beginWipe
  try dsimp only
  repeat' first
    | with_reducible assumption
    | with_reducible apply State.wipeKeys_kept
    | with_reducible apply Kept.parts
    | simp only [Kept.lit]

theorem State.wardenStep_kept {s0 s : State} (h : Kept s0 s) (coinMv : Nat) (storedMj : Nat) (fullMj : Nat) :
    Kept s0 (State.wardenStep s coinMv storedMj fullMj) := by
  unfold State.wardenStep
  try dsimp only
  repeat' first
    | with_reducible assumption
    | with_reducible apply State.measureRails_kept
    | with_reducible apply Kept.ite
    | with_reducible apply State.event_kept
    | with_reducible apply State.measureHoldup_kept
    | with_reducible apply State.fatal_kept
    | with_reducible apply State.closeIntents_kept
    | with_reducible apply State.beginWipe_kept
    | with_reducible apply State.fabricStart_kept
    | with_reducible apply Kept.parts
    | simp only [Kept.lit]
    | intro _
    | split

theorem State.loseRegister_kept {s0 s : State} (h : Kept s0 s) : Kept s0 s.loseRegister := by
  unfold State.loseRegister
  have h := State.take_kept h 1
  rw [Kept.lit]
  exact Kept.parts h

theorem State.startCold_kept {s0 s : State} (h : Kept s0 s) (coinMv : Nat) (storedMj : Nat) (fullMj : Nat) (lost : Bool) :
    Kept s0 (State.startCold s coinMv storedMj fullMj lost) := by
  unfold State.startCold
  try dsimp only
  repeat' first
    | with_reducible assumption
    | with_reducible apply State.loseRegister_kept
    | with_reducible apply Kept.when
    | intro _
    | with_reducible apply State.load_kept
    | with_reducible apply State.openStart_kept
    | with_reducible apply State.bump_kept
    | with_reducible apply State.wardenStep_kept
    | with_reducible apply Kept.parts
    | simp only [Kept.lit]
    | split

theorem State.runFirmware_kept {s0 s : State} (h : Kept s0 s) (slot : Nat) (f : FwImage) :
    Kept s0 (State.runFirmware s slot f) := by
  unfold State.runFirmware
  try dsimp only
  repeat' first
    | with_reducible assumption
    | with_reducible apply State.extendMr_kept
    | with_reducible apply Kept.parts
    | simp only [Kept.lit]

theorem State.authenticate_kept {s0 s : State} (h : Kept s0 s) (slotA : FwImage) (slotB : FwImage) (cardImage : FwImage) :
    Kept s0 (State.authenticate s slotA slotB cardImage) := by
  unfold State.authenticate
  try dsimp only
  repeat' first
    | with_reducible assumption
    | with_reducible apply Kept.ite
    | with_reducible apply State.runFirmware_kept
    | with_reducible apply State.event_kept
    | with_reducible apply State.enterHalted_kept
    | with_reducible apply State.commitAll_kept
    | intro _

theorem State.firstSeed_kept {s0 s : State} (h : Kept s0 s) (j : Nat) :
    Kept s0 (State.firstSeed s j) := by
  unfold State.firstSeed
  try dsimp only
  repeat' first
    | with_reducible assumption
    | with_reducible apply State.serveBlocks_kept
    | with_reducible apply State.countDrbg_kept
    | with_reducible apply Kept.parts
    | simp only [Kept.lit, List.length_set]

theorem State.katFail_kept {s0 s : State} (h : Kept s0 s) (u : Nat) :
    Kept s0 (State.katFail s u) := by
  unfold State.katFail
  try dsimp only
  repeat' first
    | with_reducible assumption
    | with_reducible apply Kept.ite
    | with_reducible apply State.markRetired_kept
    | with_reducible apply State.modUnit_kept
    | with_reducible apply State.event_kept
    | with_reducible apply Kept.parts
    | simp only [Kept.lit]
    | intro _

theorem State.entropyStartFail_kept {s0 s : State} (h : Kept s0 s) :
    Kept s0 (State.entropyStartFail s) := by
  unfold State.entropyStartFail
  try dsimp only
  repeat' first
    | with_reducible assumption
    | with_reducible apply State.until_kept
    | with_reducible apply State.enterHalted_kept
    | with_reducible apply State.commitAll_kept
    | with_reducible apply State.event_kept

theorem State.skipLeaves_kept {s0 s : State} (h : Kept s0 s) (k : Nat) (r : KeyRecord) :
    Kept s0 (State.skipLeaves s k r) := by
  unfold State.skipLeaves
  try dsimp only
  repeat' first
    | with_reducible assumption
    | with_reducible apply Kept.ite
    | with_reducible apply State.modRecord_kept
    | with_reducible apply State.event_kept
    | with_reducible apply State.bump_kept
    | intro _
    | split

theorem State.loadArchive_kept {s0 s : State} (h : Kept s0 s) :
    Kept s0 (State.loadArchive s) := by
  unfold State.loadArchive
  try dsimp only
  repeat' first
    | with_reducible assumption
    | with_reducible apply Kept.parts
    | simp only [Kept.lit]
    | with_reducible apply Kept.ite
    | with_reducible apply State.skipLeaves_kept
    | with_reducible apply State.skipIvs_kept
    | with_reducible apply State.event_kept
    | intro _
    | with_reducible apply Kept.forEach

theorem State.writeIdentityRow_kept {s0 s : State} (h : Kept s0 s) :
    Kept s0 (State.writeIdentityRow s) := by
  unfold State.writeIdentityRow
  split
  · rw [Kept.lit]
    exact Kept.partsOtp h rfl rfl (fun g => ⟨le_rfl, g⟩) fun _ hu => hu
  · exact h

theorem State.finishStart_kept {s0 s : State} (h : Kept s0 s) :
    Kept s0 (State.finishStart s) := by
  unfold State.finishStart
  try dsimp only
  repeat' first
    | with_reducible assumption
    | with_reducible apply Kept.ite
    | with_reducible apply State.drawInternal_kept
    | with_reducible apply State.loadArchive_kept
    | with_reducible apply State.extendMr_kept
    | with_reducible apply State.checkLog_kept
    | with_reducible apply State.event_kept
    | with_reducible apply State.writeIdentityRow_kept
    | with_reducible apply State.deviceReady_kept
    | with_reducible apply Kept.parts
    | simp only [Kept.lit]
    | intro _
    | with_reducible apply Kept.forEach

theorem State.checkGeneration_kept {s0 s : State} (h : Kept s0 s) :
    Kept s0 (State.checkGeneration s) := by
  unfold State.checkGeneration
  split
  · exact State.finishStart_kept h
  · split
    · exact State.enterHalted_kept (State.commitAll_kept (State.event_kept h _ _)) _ _
    · refine State.finishStart_kept ?_
      rw [Kept.lit]
      exact Kept.partsOtp h rfl rfl (fun g => ⟨by dsimp only; omega, by dsimp only; omega⟩) fun _ hu => hu

theorem State.shelve_kept {s0 s : State} (h : Kept s0 s) :
    Kept s0 (State.shelve s) := by
  unfold State.shelve
  try dsimp only
  repeat' first
    | with_reducible assumption
    | with_reducible apply Kept.parts
    | simp only [Kept.lit]
    | split

theorem State.fatalBelow_kept {s0 s : State} (h : Kept s0 s) :
    Kept s0 (State.fatalBelow s) := by
  unfold State.fatalBelow
  try dsimp only
  repeat' first
    | with_reducible assumption
    | with_reducible apply State.fatal_kept
    | split

theorem State.startWarm_kept {s0 s : State} (h : Kept s0 s) (coinMv : Nat) (storedMj : Nat) (fullMj : Nat) :
    Kept s0 (State.startWarm s coinMv storedMj fullMj) := by
  unfold State.startWarm
  try dsimp only
  repeat' first
    | with_reducible assumption
    | with_reducible apply Kept.ite
    | with_reducible apply State.endCard_kept
    | with_reducible apply State.rollback_kept
    | with_reducible apply State.closeAllSessions_kept
    | with_reducible apply State.wipeKeys_kept
    | with_reducible apply State.openStart_kept
    | with_reducible apply State.shelve_kept
    | with_reducible apply State.bump_kept
    | with_reducible apply State.wardenStep_kept
    | with_reducible apply Kept.parts
    | simp only [Kept.lit]
    | intro _

theorem State.katComplete_kept {s0 s : State} (h : Kept s0 s) (failed : List Nat) :
    Kept s0 (State.katComplete s failed) := by
  unfold State.katComplete
  try dsimp only
  repeat' first
    | with_reducible assumption
    | with_reducible apply State.restoreUnits_kept
    | with_reducible apply State.katFail_kept
    | with_reducible apply State.fatalBelow_kept
    | with_reducible apply Kept.parts
    | simp only [Kept.lit]
    | intro _
    | with_reducible apply Kept.forEach

theorem State.resumeRestore_kept {s0 s : State} (h : Kept s0 s) :
    Kept s0 (State.resumeRestore s) := by
  unfold State.resumeRestore
  try dsimp only
  repeat' first
    | with_reducible assumption
    | with_reducible apply State.enterHalted_kept
    | with_reducible apply State.commitAll_kept
    | with_reducible apply State.event_kept
    | with_reducible apply State.load_kept
    | with_reducible apply State.advanceGeneration_kept
    | with_reducible apply State.dropVolatileOd_kept
    | with_reducible apply State.loseVolatile_kept
    | with_reducible apply State.checkGeneration_kept
    | with_reducible apply Kept.parts
    | simp only [Kept.lit]
    | split

theorem State.archiveMount_kept {s0 s : State} (h : Kept s0 s) :
    Kept s0 (State.archiveMount s) := by
  unfold State.archiveMount
  try dsimp only
  repeat' first
    | with_reducible assumption
    | with_reducible apply Kept.ite
    | with_reducible apply State.enterHalted_kept
    | with_reducible apply State.commitAll_kept
    | with_reducible apply State.event_kept
    | with_reducible apply State.fatal_kept
    | with_reducible apply State.resumeRestore_kept
    | with_reducible apply State.checkGeneration_kept
    | with_reducible apply Kept.parts
    | simp only [Kept.lit]
    | intro _

/-! ### Machine/Updates.lean -/

theorem State.writeKey_kept {s0 s : State} (h : Kept s0 s) (w : KeyWrite) :
    Kept s0 (State.writeKey s w).2 := by
  unfold State.writeKey
  try dsimp only
  repeat' first
    | with_reducible assumption
    | with_reducible apply Kept.iteSnd
    | with_reducible apply State.createAt_kept
    | with_reducible apply State.modRecord_kept
    | with_reducible apply State.removeRecord_kept
    | intro _
    | split

theorem State.writePeer_kept {s0 s : State} (h : Kept s0 s) (k : Nat) (p : Peer) :
    Kept s0 (State.writePeer s k p) := by
  unfold State.writePeer
  try dsimp only
  repeat' first
    | with_reducible assumption
    | with_reducible apply State.removePeer_kept
    | with_reducible apply Kept.parts
    | simp only [Kept.lit]

theorem State.applyItem_kept {s0 s : State} (h : Kept s0 s) (x : Item) :
    Kept s0 (State.applyItem s x).2 := by
  unfold State.applyItem
  try dsimp only
  repeat' first
    | with_reducible assumption
    | with_reducible apply State.writeKey_kept
    | with_reducible apply State.removeRecord_kept
    | with_reducible apply State.writePeer_kept
    | with_reducible apply State.removePeer_kept
    | with_reducible apply State.applyEntry_kept
    | with_reducible apply State.advanceGeneration_kept
    | with_reducible apply Kept.parts
    | simp only [Kept.lit]
    | split

theorem State.applyItems_kept {s0 a1 : State} (h : Kept s0 a1) (a0 : List Item) :
    Kept s0 (State.applyItems a0 a1).2 := by
  induction a0 generalizing a1 with
  | nil => exact h
  | cons x l ih =>
    unfold State.applyItems
    try dsimp only
    repeat' first
      | with_reducible assumption
      | with_reducible apply ih
      | with_reducible apply State.applyItem_kept

theorem State.applyUpdate_kept {s0 s : State} (h : Kept s0 s) (m : Bytes) (xs : List Item) :
    Kept s0 (State.applyUpdate s m xs).2 := by
  unfold State.applyUpdate
  try dsimp only
  repeat' first
    | with_reducible assumption
    | with_reducible apply State.applyItems_kept
    | with_reducible apply State.take_kept
    | with_reducible apply Kept.parts
    | simp only [Kept.lit]

theorem State.updateRefused_kept {s0 s : State} (h : Kept s0 s) (check : Nat) :
    Kept s0 (State.updateRefused s check) := by
  unfold State.updateRefused
  try dsimp only
  repeat' first
    | with_reducible assumption
    | with_reducible apply Kept.ite
    | with_reducible apply State.bump_kept
    | with_reducible apply State.event_kept
    | intro _

end Sys2Proof.Machine
end

