-- ==== Sys2Proof/Laws/KeptJobs.lean ====
section
/-! SUPPORT. What each operation of these files of Machine/ keeps: LastActs, Pinning, Sequencer, EngineCommands, Clove, Engines, HashOps, JobInput, Symmetric, Invoke, KemOps, KeyOps, LifeCycle, Rings, Mailbox. -/

namespace Sys2Proof.Machine

open Sys2Proof

/-! ### Machine/LastActs.lean -/

theorem State.actCreate_kept {s0 s : State} (h : Kept s0 s) (k : Nat) (j : Job) (r : KeyRecord) :
    Kept s0 (State.actCreate s k j r).2 := by
  unfold State.actCreate
  try dsimp only
  repeat' first
    | with_reducible assumption
    | with_reducible apply State.modJob_kept
    | with_reducible apply State.returnPlaces_kept
    | with_reducible apply State.createAt_kept
    | split

theorem State.actPeerSecret_kept {s0 s : State} (h : Kept s0 s) (p : Nat) (k : Nat) (secret : Bytes) :
    Kept s0 (State.actPeerSecret s p k secret) := by
  unfold State.actPeerSecret
  try dsimp only
  repeat' first
    | with_reducible assumption
    | with_reducible apply State.removeRecord_kept
    | with_reducible apply Kept.parts
    | simp only [Kept.lit]

theorem State.actRetain_kept {s0 s : State} (h : Kept s0 s) (h : BitVec 64) :
    Kept s0 (State.actRetain s h) := by
  unfold State.actRetain
  try dsimp only
  repeat' first
    | with_reducible assumption
    | with_reducible apply State.modRecord_kept

theorem State.applyAct_kept {s0 s : State} (h : Kept s0 s) (k : Nat) (j : Job) (a3 : LastAct) :
    Kept s0 (State.applyAct s k j a3).2 := by
  unfold State.applyAct
  try dsimp only
  repeat' first
    | with_reducible assumption
    | with_reducible apply State.actCreate_kept
    | with_reducible apply State.removeRecord_kept
    | with_reducible apply State.actPeerSecret_kept
    | with_reducible apply State.modInst_kept
    | with_reducible apply State.extendMr_kept
    | with_reducible apply State.actRetain_kept
    | with_reducible apply State.applyUpdate_kept
    | with_reducible apply State.followNetwork_kept
    | with_reducible apply Kept.parts
    | simp only [Kept.lit]
    | intro _
    | with_reducible apply Kept.forEach
    | split

theorem State.applyActs_kept {s0 a3 : State} (h : Kept s0 a3) (k : Nat) (j : Job) (a2 : List LastAct) :
    Kept s0 (State.applyActs k j a2 a3).2 := by
  induction a2 generalizing a3 with
  | nil => exact h
  | cons x l ih =>
    unfold State.applyActs
    try dsimp only
    repeat' first
      | with_reducible assumption
      | with_reducible apply ih
      | with_reducible apply State.applyAct_kept

theorem State.deliver_kept {s0 s : State} (h : Kept s0 s) (k : Nat) :
    Kept s0 (State.deliver s k) := by
  unfold State.deliver
  try dsimp only
  repeat' first
    | with_reducible assumption
    | with_reducible apply Kept.ite
    | with_reducible apply State.collect_kept
    | with_reducible apply State.modJob_kept
    | with_reducible apply State.writeDst_kept
    | with_reducible apply State.applyActs_kept
    | with_reducible apply State.closeLast_kept
    | intro _
    | split

theorem State.conclude_kept {s0 s : State} (h : Kept s0 s) (k : Nat) (res : JobResult) :
    Kept s0 (State.conclude s k res) := by
  unfold State.conclude
  try dsimp only
  repeat' first
    | with_reducible assumption
    | with_reducible apply Kept.ite
    | with_reducible apply State.settle_kept
    | with_reducible apply State.releaseUnits_kept
    | with_reducible apply State.deliver_kept
    | intro _
    | split

theorem State.enqueue_kept {s0 s : State} (h : Kept s0 s) (kind : Nat) (k : Nat) (cost : Nat) (j : Job) :
    Kept s0 (State.enqueue s kind k cost j) := by
  unfold State.enqueue
  try dsimp only
  repeat' first
    | with_reducible assumption
    | with_reducible apply Kept.parts
    | simp only [Kept.lit]

theorem State.unitFails_kept {s0 s : State} (h : Kept s0 s) (k : Nat) (u : Nat) (j : Job) (res : JobResult) :
    Kept s0 (State.unitFails s k u j res) := by
  unfold State.unitFails
  try dsimp only
  repeat' first
    | with_reducible assumption
    | with_reducible apply State.conclude_kept
    | with_reducible apply State.openFault_kept
    | with_reducible apply State.quarantine_kept

theorem State.shieldBoundary_kept {s0 s : State} (h : Kept s0 s) (k : Nat) :
    Kept s0 (State.shieldBoundary s k) := by
  unfold State.shieldBoundary
  try dsimp only
  repeat' first
    | with_reducible assumption
    | with_reducible apply Kept.ite
    | with_reducible apply State.deliver_kept
    | with_reducible apply State.untilCount_kept
    | intro _
    | split

theorem State.runOp_kept {s0 s : State} (h : Kept s0 s) (k : Nat) (test : Opc → Bool) (f : State → Job → State)
    (hf : ∀ s j, Kept s0 s → Kept s0 (f s j)) :
    Kept s0 (State.runOp s k test f) := by
  unfold State.runOp
  split
  · exact h
  · split
    · exact hf _ _ h
    · exact h

theorem State.takeHold_kept {s0 s : State} (h : Kept s0 s) (u : Nat) : Kept s0 (s.takeHold u) := by
  unfold State.takeHold
  have h' := State.take_kept h 5632
  split
  · exact h
  · simp only [Kept.lit, List.length_set]
    exact Kept.parts h'

theorem State.grantHolds_kept {s0 s : State} (h : Kept s0 s) : Kept s0 s.grantHolds := by
  unfold State.grantHolds
  exact Kept.forEach h fun _ _ h => Kept.when h fun h => State.takeHold_kept h _

theorem State.finish_kept {s0 s : State} (h : Kept s0 s) (k : Nat) (d : Done) :
    Kept s0 (State.finish s k d) := by
  unfold State.finish
  try dsimp only
  repeat' first
    | with_reducible assumption
    | with_reducible apply Kept.when
    | with_reducible apply State.grantHolds_kept
    | with_reducible apply Kept.ite
    | with_reducible apply State.conclude_kept
    | with_reducible apply State.unitFails_kept
    | with_reducible apply State.enqueue_kept
    | with_reducible apply State.modJob_kept
    | intro _
    | split

theorem State.compute_kept {s0 s : State} (h : Kept s0 s) (k : Nat) (fam : Nat) (op : Nat) (f : State → Job → Done) :
    Kept s0 (State.compute s k fam op f) := by
  unfold State.compute
  try dsimp only
  repeat' first
    | with_reducible assumption
    | with_reducible apply State.runOp_kept
    | with_reducible apply State.finish_kept
    | intro _

/-! ### Machine/Pinning.lean -/

theorem State.leafTurn_kept {s0 s : State} (h : Kept s0 s) (x : Nat) :
    Kept s0 (State.leafTurn s x).2 := by
  unfold State.leafTurn
  try dsimp only
  repeat' first
    | with_reducible assumption
    | with_reducible apply Kept.iteSnd
    | with_reducible apply State.modRecord_kept
    | simp only []
    | intro _
    | split

theorem State.loadRecord_kept {s0 s : State} (h : Kept s0 s) (k : Nat) (r : KeyRecord) (sealOk : Bool) :
    Kept s0 (State.loadRecord s k r sealOk).2 := by
  unfold State.loadRecord
  try dsimp only
  repeat' first
    | with_reducible assumption
    | with_reducible apply Kept.ite
    | with_reducible apply Kept.iteSnd
    | with_reducible apply State.countTier_kept
    | with_reducible apply State.modRecord_kept
    | with_reducible apply State.openFault_kept
    | with_reducible apply State.errorBit_kept
    | with_reducible apply State.removeRecord_kept
    | simp only []
    | intro _

theorem State.loadView_kept {s0 s : State} (h : Kept s0 s) (v : Option KeyView) (sealOk : Bool) :
    Kept s0 (State.loadView s v sealOk).2 := by
  unfold State.loadView
  try dsimp only
  repeat' first
    | with_reducible assumption
    | with_reducible apply State.loadRecord_kept
    | with_reducible apply State.countTier_kept
    | with_reducible apply Kept.parts
    | simp only [Kept.lit]
    | split

theorem State.setPins_kept {s0 s : State} (h : Kept s0 s) (k : Nat) (v0 : Option KeyView) (v1 : Option KeyView) :
    Kept s0 (State.setPins s k v0 v1) := by
  unfold State.setPins
  try dsimp only
  repeat' first
    | with_reducible assumption
    | with_reducible apply State.modJob_kept

theorem State.pinRecipe_kept {s0 s : State} (h : Kept s0 s) (k : Nat) (j : Job) :
    Kept s0 (State.pinRecipe s k j) := by
  unfold State.pinRecipe
  try dsimp only
  repeat' first
    | with_reducible assumption
    | with_reducible apply Kept.ite
    | with_reducible apply State.modJob_kept
    | with_reducible apply State.extendMr_kept
    | with_reducible apply State.modInst_kept
    | intro _
    | split

theorem State.takeLeaf_kept {s0 s : State} (h : Kept s0 s) (k : Nat) (j : Job) :
    Kept s0 (State.takeLeaf s k j).2 := by
  unfold State.takeLeaf
  try dsimp only
  repeat' first
    | with_reducible assumption
    | with_reducible apply Kept.iteSnd
    | with_reducible apply State.leafTurn_kept
    | with_reducible apply State.endJob_kept
    | with_reducible apply State.modJob_kept
    | simp only []
    | intro _
    | split

theorem State.mark_kept {s0 s : State} (h : Kept s0 s) (k : Nat) (m : Nat) :
    Kept s0 (State.mark s k m) := by
  unfold State.mark
  try dsimp only
  repeat' first
    | with_reducible assumption
    | with_reducible apply State.modJob_kept

theorem State.tellWait_kept {s0 s : State} (h : Kept s0 s) (k : Nat) (pos : Nat) :
    Kept s0 (State.tellWait s k pos) := by
  unfold State.tellWait
  try dsimp only
  repeat' first
    | with_reducible assumption
    | with_reducible apply Kept.ite
    | with_reducible apply State.bump_kept
    | with_reducible apply State.mark_kept
    | intro _
    | split

theorem State.takeData_kept {s0 s : State} (h : Kept s0 s) (k : Nat) (j : Job) (package : Bytes) :
    Kept s0 (State.takeData s k j package).2 := by
  unfold State.takeData
  try dsimp only
  repeat' first
    | with_reducible assumption
    | with_reducible apply Kept.iteSnd
    | with_reducible apply State.modJob_kept
    | with_reducible apply State.tellWait_kept
    | simp only []
    | intro _

theorem State.takeSequencer_kept {s0 s : State} (h : Kept s0 s) (k : Nat) (j : Job) :
    Kept s0 (State.takeSequencer s k j).2 := by
  unfold State.takeSequencer
  try dsimp only
  repeat' first
    | with_reducible assumption
    | with_reducible apply Kept.ite
    | with_reducible apply Kept.iteSnd
    | with_reducible apply State.modJob_kept
    | with_reducible apply State.modQp_kept
    | simp only []
    | intro _
    | split

theorem State.takeRegion_kept {s0 s : State} (h : Kept s0 s) (k : Nat) (j : Job) (package : Bytes) :
    Kept s0 (State.takeRegion s k j package).2 := by
  unfold State.takeRegion
  try dsimp only
  repeat' first
    | with_reducible assumption
    | with_reducible apply Kept.iteSnd
    | with_reducible apply State.findRegion_kept
    | with_reducible apply State.modJob_kept
    | with_reducible apply State.tellWait_kept
    | simp only []
    | intro _
    | (refine Kept.ofP (by assumption) ?_)
    | split

theorem State.askJobReseed_kept {s0 s : State} (h : Kept s0 s) (k : Nat) (j : Job) (d : Draws) :
    Kept s0 (State.askJobReseed s k j d) := by
  unfold State.askJobReseed
  try dsimp only
  repeat' first
    | with_reducible assumption
    | with_reducible apply Kept.ite
    | with_reducible apply State.askReseed_kept
    | with_reducible apply State.mark_kept
    | intro _

theorem State.takeRandom_kept {s0 s : State} (h : Kept s0 s) (k : Nat) (j : Job) :
    Kept s0 (State.takeRandom s k j).2 := by
  unfold State.takeRandom
  try dsimp only
  repeat' first
    | with_reducible assumption
    | with_reducible apply Kept.ite
    | with_reducible apply Kept.iteSnd
    | with_reducible apply State.noEntropy_kept
    | with_reducible apply State.askJobReseed_kept
    | with_reducible apply State.drawInst_kept
    | with_reducible apply State.drawInternal_kept
    | with_reducible apply State.mark_kept
    | with_reducible apply State.modJob_kept
    | simp only []
    | intro _

theorem State.spendIv_kept {s0 s : State} (h : Kept s0 s) (k : Nat) (j : Job) :
    Kept s0 (State.spendIv s k j) := by
  unfold State.spendIv
  try dsimp only
  repeat' first
    | with_reducible assumption
    | with_reducible apply Kept.ite
    | with_reducible apply State.modJob_kept
    | with_reducible apply State.setIv_kept
    | with_reducible apply State.modRecord_kept
    | intro _

theorem State.setOrigin_kept {s0 s : State} (h : Kept s0 s) (k : Nat) :
    Kept s0 (State.setOrigin s k) := by
  unfold State.setOrigin
  try dsimp only
  repeat' first
    | with_reducible assumption
    | with_reducible apply State.modJob_kept
    | split

theorem State.endStepFive_kept {s0 s : State} (h : Kept s0 s) (k : Nat) (j : Job) :
    Kept s0 (State.endStepFive s k j) := by
  unfold State.endStepFive
  try dsimp only
  repeat' first
    | with_reducible assumption
    | with_reducible apply Kept.ite
    | with_reducible apply State.spendIv_kept
    | with_reducible apply State.setOrigin_kept
    | with_reducible apply State.modJob_kept
    | intro _

theorem State.afterPins_kept {s0 s : State} (h : Kept s0 s) (k : Nat) (j : Job) :
    Kept s0 (State.afterPins s k j) := by
  unfold State.afterPins
  try dsimp only
  repeat' first
    | with_reducible assumption
    | with_reducible apply Kept.ite
    | with_reducible apply State.takeLeaf_kept
    | with_reducible apply State.takeData_kept
    | with_reducible apply State.takeSequencer_kept
    | with_reducible apply State.takeRegion_kept
    | with_reducible apply State.takeRandom_kept
    | with_reducible apply State.endStepFive_kept
    | intro _

theorem State.pinAll_kept {s0 s : State} (h : Kept s0 s) (k : Nat) (j : Job) (sealOk : Bool) :
    Kept s0 (State.pinAll s k j sealOk) := by
  unfold State.pinAll
  try dsimp only
  repeat' first
    | with_reducible assumption
    | with_reducible apply Kept.ite
    | with_reducible apply Kept.iteSnd
    | with_reducible apply State.loadView_kept
    | with_reducible apply State.endJob_kept
    | with_reducible apply State.trimV_kept
    | with_reducible apply State.trimS_kept
    | with_reducible apply State.setPins_kept
    | with_reducible apply State.useMatrix_kept
    | with_reducible apply State.pinRecipe_kept
    | with_reducible apply State.afterPins_kept
    | intro _
    | split

theorem State.judge_kept {s0 s : State} (h : Kept s0 s) (k : Nat) (j : Job) (sealOk : Bool) :
    Kept s0 (State.judge s k j sealOk) := by
  unfold State.judge
  try dsimp only
  repeat' first
    | with_reducible assumption
    | with_reducible apply Kept.ite
    | with_reducible apply State.refuseState_kept
    | with_reducible apply State.endJob_kept
    | with_reducible apply State.endWith_kept
    | with_reducible apply State.pinAll_kept
    | with_reducible apply State.tellWait_kept
    | intro _
    | split

theorem State.touchCtx_kept {s0 s : State} (h : Kept s0 s) (i : Nat) (e : SqEntry) :
    Kept s0 (State.touchCtx s i e) := by
  unfold State.touchCtx
  try dsimp only
  repeat' first
    | with_reducible assumption
    | with_reducible apply Kept.ite
    | with_reducible apply Kept.parts
    | simp only [Kept.lit]
    | intro _

theorem State.recordsPinned_kept {s0 s : State} (h : Kept s0 s) (k : Nat) (sealOk : Bool) :
    Kept s0 (State.recordsPinned s k sealOk) := by
  unfold State.recordsPinned
  try dsimp only
  repeat' first
    | with_reducible assumption
    | with_reducible apply Kept.ite
    | with_reducible apply State.afterPins_kept
    | with_reducible apply State.judge_kept
    | with_reducible apply State.touchCtx_kept
    | intro _
    | split

/-! ### Machine/Sequencer.lean -/

theorem State.trapAt_kept {s0 s : State} (h : Kept s0 s) (k : Nat) (cause : Nat) (elem : Nat) :
    Kept s0 (State.trapAt s k cause elem) := by
  unfold State.trapAt
  try dsimp only
  repeat' first
    | with_reducible assumption
    | with_reducible apply State.bump_kept
    | with_reducible apply State.conclude_kept
    | intro _
    | with_reducible apply Kept.when
    | split

theorem State.trap_kept {s0 s : State} (h : Kept s0 s) (k : Nat) (cause : Nat) :
    Kept s0 (State.trap s k cause) := by
  unfold State.trap
  try dsimp only
  repeat' first
    | with_reducible assumption
    | with_reducible apply State.trapAt_kept

theorem State.setRun_kept {s0 s : State} (h : Kept s0 s) (k : Nat) (r : Run) :
    Kept s0 (State.setRun s k r) := by
  unfold State.setRun
  try dsimp only
  repeat' first
    | with_reducible assumption
    | with_reducible apply State.modJob_kept

theorem State.instr_kept {s0 s : State} (h : Kept s0 s) (k : Nat) (o : Op)
    (hact : ∀ s j r, Kept s0 s → Kept s0 (o.act s j r)) :
    Kept s0 (State.instr s k o) := by
  unfold State.instr
  repeat' first
    | with_reducible assumption
    | with_reducible apply Kept.ite
    | with_reducible apply State.trap_kept
    | with_reducible apply State.trapAt_kept
    | with_reducible apply State.setRun_kept
    | with_reducible apply hact
    | simp only []
    | intro _
    | split

theorem State.modRun_kept {s0 s : State} (h : Kept s0 s) (k : Nat) (f : Run → Run) :
    Kept s0 (State.modRun s k f) := by
  unfold State.modRun
  try dsimp only
  repeat' first
    | with_reducible assumption
    | with_reducible apply State.modJob_kept

theorem State.needPage_kept {s0 s : State} (h : Kept s0 s) (k : Nat) (page : Nat) :
    Kept s0 (State.needPage s k page) := by
  unfold State.needPage
  try dsimp only
  repeat' first
    | with_reducible assumption
    | with_reducible apply State.bump_kept
    | with_reducible apply State.modRun_kept

theorem State.placed_kept {s0 s : State} (h : Kept s0 s) (k : Nat) :
    Kept s0 (State.placed s k) := by
  unfold State.placed
  try dsimp only
  repeat' first
    | with_reducible assumption
    | with_reducible apply State.modRun_kept
    | split

theorem State.undefinedInstruction_kept {s0 s : State} (h : Kept s0 s) (k : Nat) (w : Nat) :
    Kept s0 (State.undefinedInstruction s k w) := by
  unfold State.undefinedInstruction
  try dsimp only
  repeat' first
    | with_reducible assumption
    | with_reducible apply State.instr_kept
    | with_reducible apply State.trapAt_kept
    | simp only []
    | intro _

theorem State.simple_kept {s0 s : State} (h : Kept s0 s) (k : Nat) (isIt : Nat → Bool) (charge : Nat) (f : Run → Run) :
    Kept s0 (State.simple s k isIt charge f) := by
  unfold State.simple
  try dsimp only
  repeat' first
    | with_reducible assumption
    | with_reducible apply State.instr_kept
    | with_reducible apply State.setRun_kept
    | simp only []
    | intro _

theorem State.beginRun_kept {s0 s : State} (h : Kept s0 s) (k : Nat) (j : Job) :
    Kept s0 (State.beginRun s k j) := by
  unfold State.beginRun
  try dsimp only
  repeat' first
    | with_reducible assumption
    | with_reducible apply Kept.ite
    | with_reducible apply State.modRun_kept
    | with_reducible apply State.mark_kept
    | intro _

/-! ### Machine/EngineCommands.lean -/

theorem State.ecmd_kept {s0 s : State} (h : Kept s0 s) (k : Nat) (kind : Nat) (isIt : Run → Nat → Bool) (cost : Job → Run → Nat) (act : State → Job → Run → State)
    (hact : ∀ s j r, Kept s0 s → Kept s0 (act s j r)) :
    Kept s0 (State.ecmd s k kind isIt cost act) := by
  exact State.instr_kept h _ _ hact

theorem State.issue_kept {s0 s : State} (h : Kept s0 s) (k : Nat) (j : Job) (kind : Nat) (cost : Nat) (word : BitVec 64) :
    Kept s0 (State.issue s k j kind cost word) := by
  unfold State.issue
  try dsimp only
  repeat' first
    | with_reducible assumption
    | with_reducible apply State.modRun_kept
    | with_reducible apply State.modJob_kept
    | with_reducible apply State.enqueue_kept
    | intro _
    | with_reducible apply Kept.when

theorem State.hashCmd_kept {s0 s : State} (h : Kept s0 s) (k : Nat) (kind : Nat) (op : Nat) (cmd : BitVec 64) (prm : BitVec 64) (n : Nat) (m : Nat) (perCount : Nat) (ok : Bool) (f : Bytes → Bytes → Bytes) :
    Kept s0 (State.hashCmd s k kind op cmd prm n m perCount ok f) := by
  unfold State.hashCmd
  try dsimp only
  repeat' first
    | with_reducible assumption
    | with_reducible apply Kept.ite
    | with_reducible apply State.ecmd_kept
    | with_reducible apply State.issue_kept
    | with_reducible apply State.winWrite_kept
    | with_reducible apply State.trap_kept
    | intro _
    | split

theorem State.ecmdOther_kept {s0 s : State} (h : Kept s0 s) (k : Nat) (rs1 : Fin 32) (rs2 : Fin 32) (funct : BitVec 11) :
    Kept s0 (State.ecmdOther s k rs1 rs2 funct) := by
  unfold State.ecmdOther
  try dsimp only
  repeat' first
    | with_reducible assumption
    | with_reducible apply Kept.ite
    | with_reducible apply State.ecmd_kept
    | with_reducible apply State.trap_kept
    | with_reducible apply State.issue_kept
    | intro _

theorem State.dma_kept {s0 s : State} (h : Kept s0 s) (k : Nat) (cmd : BitVec 64) (prm : BitVec 64) :
    Kept s0 (State.dma s k cmd prm) := by
  unfold State.dma
  try dsimp only
  repeat' first
    | with_reducible assumption
    | with_reducible apply Kept.ite
    | with_reducible apply State.ecmd_kept
    | with_reducible apply State.issue_kept
    | with_reducible apply State.needPage_kept
    | with_reducible apply State.winWrite_kept
    | with_reducible apply State.trap_kept
    | intro _
    | split

theorem State.retain_kept {s0 s : State} (h : Kept s0 s) (k : Nat) (rs1 : Fin 32) :
    Kept s0 (State.retain s k rs1) := by
  unfold State.retain
  try dsimp only
  repeat' first
    | with_reducible assumption
    | with_reducible apply Kept.ite
    | with_reducible apply State.ecmd_kept
    | with_reducible apply State.issue_kept
    | with_reducible apply State.modJob_kept
    | with_reducible apply State.trap_kept
    | intro _

theorem State.ewait_kept {s0 s : State} (h : Kept s0 s) (k : Nat) (rd : Fin 32) (funct : BitVec 11) :
    Kept s0 (State.ewait s k rd funct) := by
  unfold State.ewait
  try dsimp only
  repeat' first
    | with_reducible assumption
    | with_reducible apply State.instr_kept
    | with_reducible apply State.trap_kept
    | with_reducible apply State.setRun_kept
    | simp only []
    | intro _
    | split

/-! ### Machine/Clove.lean -/

theorem State.setOperand_kept {s0 s : State} (h : Kept s0 s) (g : Region) (c : CloveCmd) (f : Form) (x : Nat) (n : Nat) (v : List Nat) :
    Kept s0 (State.setOperand s g c f x n v) := by
  unfold State.setOperand
  dsimp only
  refine State.modOpMem_kept ?_ _ _ fun m hm => ?_
  · rw [Kept.lit]
    exact Kept.parts h
  · suffices H : ∀ l : List Nat, Mem.wf (l.foldl (fun (m : Mem) j => Mem.writeN m (g.byteOf x + 512 * n * j)
        (fit (512 * n) (writeElems c.mode f ((lastShare c.mode f v ((List.range (c.sharesAt x - 1)).map fun j =>
          (List.range v.length).map fun i => freeElem c.mode f (s.free + 4 * v.length * j) i) ::
          (List.range (c.sharesAt x - 1)).map fun j => (List.range v.length).map fun i =>
            freeElem c.mode f (s.free + 4 * v.length * j) i).getD j [])))) m) = true from H _
    intro l
    induction l generalizing m with
    | nil => exact hm
    | cons j l ih => exact ih _ (Mem.writeN_wf _ hm _)

theorem State.cloveEffect_kept {s0 s : State} (h : Kept s0 s) (g : Region) (o : CloveOp) (c : CloveCmd) :
    Kept s0 (State.cloveEffect s g o c).2 := by
  unfold State.cloveEffect
  try dsimp only
  repeat' first
    | with_reducible assumption
    | with_reducible apply Kept.ite
    | with_reducible apply State.setOperand_kept
    | with_reducible apply Kept.parts
    | simp only [Kept.lit]
    | intro _

theorem State.cloveRun_kept {s0 s : State} (h : Kept s0 s) (g : Region) (o : CloveOp) (c : CloveCmd) (recipe : Bool) :
    Kept s0 (State.cloveRun s g o c recipe).2 := by
  unfold State.cloveRun
  try dsimp only
  repeat' first
    | with_reducible assumption
    | with_reducible apply State.cloveEffect_kept
    | with_reducible apply State.bump_kept
    | split

theorem State.cloveFirmware_kept {s0 s : State} (h : Kept s0 s) (k : Nat) (op : Nat) (cmd : BitVec 64) (prm : BitVec 64) (o : CloveOp) :
    Kept s0 (State.cloveFirmware s k op cmd prm o) := by
  unfold State.cloveFirmware
  try dsimp only
  repeat' first
    | with_reducible assumption
    | with_reducible apply Kept.ite
    | with_reducible apply State.cloveRun_kept
    | with_reducible apply State.enqueue_kept
    | with_reducible apply State.modJob_kept
    | with_reducible apply State.endJob_kept
    | intro _
    | split

theorem State.cloveRecipe_kept {s0 s : State} (h : Kept s0 s) (k : Nat) (op : Nat) (cmd : BitVec 64) (prm : BitVec 64) (o : CloveOp) :
    Kept s0 (State.cloveRecipe s k op cmd prm o) := by
  unfold State.cloveRecipe
  try dsimp only
  repeat' first
    | with_reducible assumption
    | with_reducible apply State.ecmd_kept
    | with_reducible apply State.trap_kept
    | with_reducible apply State.cloveRun_kept
    | with_reducible apply State.issue_kept
    | intro _
    | split

theorem State.cloveDo_kept {s0 s : State} (h : Kept s0 s) (k : Nat) (op : Nat) (who : Issuer) (cmd : BitVec 64) (prm : BitVec 64) (o : CloveOp) :
    Kept s0 (State.cloveDo s k op who cmd prm o) := by
  unfold State.cloveDo
  try dsimp only
  repeat' first
    | with_reducible assumption
    | with_reducible apply State.cloveRecipe_kept
    | with_reducible apply State.cloveFirmware_kept
    | split

/-! ### Machine/Engines.lean -/

theorem State.commandCorrected_kept {s0 s : State} (h : Kept s0 s) (k : Nat) (u : Nat) :
    Kept s0 (State.commandCorrected s k u) := by
  unfold State.commandCorrected
  try dsimp only
  repeat' first
    | with_reducible assumption
    | with_reducible apply State.correctedUnit_kept
    | with_reducible apply State.modJob_kept
    | with_reducible apply State.bump_kept
    | intro _
    | with_reducible apply Kept.when

theorem State.holdEnds_kept {s0 s : State} (h : Kept s0 s) (u : Nat) :
    Kept s0 (State.holdEnds s u) := by
  unfold State.holdEnds
  try dsimp only
  repeat' first
    | with_reducible assumption
    | with_reducible apply Kept.ite
    | with_reducible apply Kept.parts
    | simp only [Kept.lit, List.length_set]
    | intro _

theorem State.issueCommand_kept {s0 s : State} (h : Kept s0 s) (w : Waiting) (cost : Nat) :
    Kept s0 (State.issueCommand s w cost) := by
  unfold State.issueCommand
  try dsimp only
  repeat' first
    | with_reducible assumption
    | with_reducible apply Kept.parts
    | simp only [Kept.lit]

theorem State.commandEnds_kept {s0 s : State} (h : Kept s0 s) (k : Nat) (u : Nat) (j : Job) :
    Kept s0 (State.commandEnds s k u j) := by
  unfold State.commandEnds
  try dsimp only
  repeat' first
    | with_reducible assumption
    | with_reducible apply Kept.ite
    | with_reducible apply State.modJob_kept
    | with_reducible apply State.unitFails_kept
    | with_reducible apply State.conclude_kept
    | intro _
    | split

theorem State.commandFails_kept {s0 s : State} (h : Kept s0 s) (k : Nat) (u : Nat) (j : Job) :
    Kept s0 (State.commandFails s k u j) := by
  unfold State.commandFails
  try dsimp only
  repeat' first
    | with_reducible assumption
    | with_reducible apply State.endJob_kept
    | with_reducible apply State.openFault_kept
    | with_reducible apply State.quarantine_kept

theorem State.nextHold_kept {s0 s : State} (h : Kept s0 s) (kind : Nat) : Kept s0 (s.nextHold kind) := by
  unfold State.nextHold
  exact Kept.when h fun h => State.grantHolds_kept h

theorem State.engineDone_kept {s0 s : State} (h : Kept s0 s) (kind : Nat) (u : Nat) (o : EngineOutcome) (count : Nat) :
    Kept s0 (State.engineDone s kind u o count) := by
  unfold State.engineDone
  try dsimp only
  repeat' first
    | with_reducible assumption
    | with_reducible apply State.nextHold_kept
    | with_reducible apply Kept.ite
    | with_reducible apply State.holdEnds_kept
    | with_reducible apply State.issueCommand_kept
    | with_reducible apply State.commandEnds_kept
    | with_reducible apply State.commandCorrected_kept
    | with_reducible apply State.commandFails_kept
    | intro _
    | split

/-! ### Machine/HashOps.lean -/

theorem State.leafBlockJournaled_kept {s0 s : State} (h : Kept s0 s) (k : Nat) :
    Kept s0 (State.leafBlockJournaled s k) := by
  unfold State.leafBlockJournaled
  try dsimp only
  repeat' first
    | with_reducible assumption
    | with_reducible apply Kept.ite
    | with_reducible apply State.modRecord_kept
    | intro _
    | split

theorem State.ctxExpired_kept {s0 s : State} (h : Kept s0 s) (i : Nat) (c : Nat) :
    Kept s0 (State.ctxExpired s i c) := by
  unfold State.ctxExpired
  try dsimp only
  repeat' first
    | with_reducible assumption
    | with_reducible apply Kept.ite
    | with_reducible apply State.until_kept
    | with_reducible apply State.eventOf_kept
    | with_reducible apply Kept.parts
    | simp only [Kept.lit]
    | intro _
    | split

theorem State.buildBlock_kept {s0 s : State} (h : Kept s0 s) (k : Nat) :
    Kept s0 (State.buildBlock s k) := by
  unfold State.buildBlock
  try dsimp only
  repeat' first
    | with_reducible assumption
    | with_reducible apply Kept.ite
    | with_reducible apply State.modRecord_kept
    | with_reducible apply State.eventOf_kept
    | intro _
    | split

theorem State.measureOp_kept {s0 s : State} (h : Kept s0 s) (k : Nat) (j : Job) :
    Kept s0 (State.measureOp s k j) := by
  unfold State.measureOp
  try dsimp only
  repeat' first
    | with_reducible assumption
    | with_reducible apply Kept.ite
    | with_reducible apply State.conclude_kept
    | with_reducible apply State.conflict_kept
    | with_reducible apply State.finish_kept
    | intro _

/-! ### Machine/JobInput.lean -/

theorem State.cacheTable_kept {s0 s : State} (h : Kept s0 s) (i : Nat) (es : List (Nat × BitVec 64)) :
    Kept s0 (State.cacheTable s i es) := by
  unfold State.cacheTable
  try dsimp only
  repeat' first
    | with_reducible assumption
    | with_reducible apply Kept.ite
    | with_reducible apply Kept.parts
    | simp only [Kept.lit]
    | intro _
    | with_reducible apply Kept.forEach

theorem State.translates_kept {s0 s : State} (h : Kept s0 s) (i : Nat) (ptes : List (Nat × BitVec 64)) (write : Bool) (a : Nat) :
    Kept s0 (State.translates s i ptes write a).2 := by
  unfold State.translates
  try dsimp only
  repeat' first
    | with_reducible assumption
    | with_reducible apply Kept.iteSnd
    | with_reducible apply State.cacheTable_kept
    | simp only []
    | intro _
    | split

theorem State.pagesFail_kept {s0 a6 : State} (h : Kept s0 a6) (i : Nat) (ptes : List (Nat × BitVec 64)) (write : Bool) (start : Nat) (a4 : Nat) (a5 : Nat) :
    Kept s0 (State.pagesFail i ptes write start a4 a5 a6).2 := by
  induction a4 generalizing a5 a6 with
  | zero => exact h
  | succ n ih =>
    unfold State.pagesFail
    try dsimp only
    repeat' first
      | with_reducible assumption
      | with_reducible apply Kept.iteSnd
      | with_reducible apply ih
      | with_reducible apply State.translates_kept
      | simp only []
      | intro _

theorem State.rangeFails_kept {s0 s : State} (h : Kept s0 s) (i : Nat) (ptes : List (Nat × BitVec 64)) (write : Bool) (a : Nat) (n : Nat) :
    Kept s0 (State.rangeFails s i ptes write a n).2 := by
  unfold State.rangeFails
  try dsimp only
  repeat' first
    | with_reducible assumption
    | with_reducible apply Kept.iteSnd
    | with_reducible apply State.pagesFail_kept
    | simp only []
    | intro _

theorem State.piecesFail_kept {s0 a4 : State} (h : Kept s0 a4) (i : Nat) (ptes : List (Nat × BitVec 64)) (write : Bool) (a3 : List (Nat × Nat)) :
    Kept s0 (State.piecesFail i ptes write a3 a4).2 := by
  induction a3 generalizing a4 with
  | nil => exact h
  | cons x l ih =>
    unfold State.piecesFail
    try dsimp only
    repeat' first
      | with_reducible assumption
      | with_reducible apply ih
      | with_reducible apply State.rangeFails_kept
      | split

theorem State.sidesFail_kept {s0 s : State} (h : Kept s0 s) (i : Nat) (e : SqEntry) (input : JobInput) :
    Kept s0 (State.sidesFail s i e input).2 := by
  unfold State.sidesFail
  try dsimp only
  repeat' first
    | with_reducible assumption
    | with_reducible apply State.piecesFail_kept
    | split

theorem State.treesRefused_kept {s0 s : State} (h : Kept s0 s) (e : SqEntry) (data : Bytes) :
    Kept s0 (State.treesRefused s e data).2 := by
  unfold State.treesRefused
  try dsimp only
  repeat' first
    | with_reducible assumption
    | with_reducible apply Kept.iteSnd
    | with_reducible apply State.makeRoomV_kept
    | simp only []
    | intro _
    | split

theorem State.tablesFail_kept {s0 s : State} (h : Kept s0 s) (i : Nat) (e : SqEntry) (ptes : List (Nat × BitVec 64)) :
    Kept s0 (State.tablesFail s i e ptes).2 := by
  unfold State.tablesFail
  try dsimp only
  repeat' first
    | with_reducible assumption
    | with_reducible apply State.piecesFail_kept

theorem State.startRun_kept {s0 s : State} (h : Kept s0 s) (k : Nat) (e : SqEntry) (input : JobInput) :
    Kept s0 (State.startRun s k e input) := by
  unfold State.startRun
  try dsimp only
  repeat' first
    | with_reducible assumption
    | with_reducible apply Kept.ite
    | with_reducible apply State.setOrigin_kept
    | with_reducible apply State.modJob_kept
    | intro _

theorem State.acceptInput_kept {s0 s : State} (h : Kept s0 s) (k : Nat) (e : SqEntry) (input : JobInput) :
    Kept s0 (State.acceptInput s k e input) := by
  unfold State.acceptInput
  try dsimp only
  repeat' first
    | with_reducible assumption
    | with_reducible apply Kept.ite
    | with_reducible apply State.endWith_kept
    | with_reducible apply State.treesRefused_kept
    | with_reducible apply State.refuseState_kept
    | with_reducible apply State.tierVFull_kept
    | with_reducible apply State.startRun_kept
    | intro _
    | split

theorem State.jobInputArrived_kept {s0 s : State} (h : Kept s0 s) (k : Nat) (input : JobInput) :
    Kept s0 (State.jobInputArrived s k input) := by
  unfold State.jobInputArrived
  try dsimp only
  repeat' first
    | with_reducible assumption
    | with_reducible apply Kept.ite
    | with_reducible apply State.tablesFail_kept
    | with_reducible apply State.endJob_kept
    | with_reducible apply State.sidesFail_kept
    | with_reducible apply State.acceptInput_kept
    | intro _
    | split

/-! ### Machine/Symmetric.lean -/

theorem State.frameCheck_kept {s0 s : State} (h : Kept s0 s) (j : Job) :
    Kept s0 (State.frameCheck s j).2 := by
  unfold State.frameCheck
  try dsimp only
  repeat' first
    | with_reducible assumption
    | with_reducible apply State.bump_kept
    | split

theorem State.finishStream_kept {s0 s : State} (h : Kept s0 s) (k : Nat) (j : Job) (d : Done) :
    Kept s0 (State.finishStream s k j d) := by
  unfold State.finishStream
  try dsimp only
  repeat' first
    | with_reducible assumption
    | with_reducible apply State.finish_kept
    | with_reducible apply State.writeDst_kept
    | intro _
    | with_reducible apply Kept.when

/-! ### Machine/Invoke.lean -/

theorem State.builtin_kept {s0 s : State} (h : Kept s0 s) (j : Job) :
    Kept s0 (State.builtin s j).2 := by
  unfold State.builtin
  try dsimp only
  repeat' first
    | with_reducible assumption
    | with_reducible apply Kept.ite
    | with_reducible apply Kept.iteSnd
    | with_reducible apply State.bump_kept
    | with_reducible apply State.randomGenerate_kept
    | with_reducible apply State.frameCheck_kept
    | simp only []
    | intro _
    | split

theorem State.invokeRandom_kept {s0 s : State} (h : Kept s0 s) (i : Nat) (e : SqEntry) :
    Kept s0 (State.invokeRandom s i e).2 := by
  unfold State.invokeRandom
  try dsimp only
  repeat' first
    | with_reducible assumption
    | with_reducible apply Kept.ite
    | with_reducible apply Kept.iteSnd
    | with_reducible apply State.countDrbg_kept
    | with_reducible apply State.askReseed_kept
    | with_reducible apply State.drawInst_kept
    | with_reducible apply State.drawInternal_kept
    | with_reducible apply State.advance_kept
    | simp only []
    | intro _

theorem State.invokeTakes_kept {s0 s : State} (h : Kept s0 s) (i : Nat) (e : SqEntry) :
    Kept s0 (State.invokeTakes s i e).2 := by
  unfold State.invokeTakes
  try dsimp only
  repeat' first
    | with_reducible assumption
    | with_reducible apply Kept.iteSnd
    | with_reducible apply State.leafTurn_kept
    | with_reducible apply State.invokeRandom_kept
    | simp only []
    | intro _
    | split

theorem State.invokeEnds_kept {s0 s : State} (h : Kept s0 s) (k : Nat) (j : Job) (a : Nat) (cost : Nat) (st : Status) (n : Nat) :
    Kept s0 (State.invokeEnds s k j a cost st n) := by
  unfold State.invokeEnds
  try dsimp only
  repeat' first
    | with_reducible assumption
    | with_reducible apply State.modRun_kept
    | with_reducible apply State.bump_kept
    | with_reducible apply State.issue_kept

theorem State.invokeAct_kept {s0 s : State} (h : Kept s0 s) (k : Nat) (j : Job) (a : LastAct) :
    Kept s0 (State.invokeAct s k j a).2 := by
  unfold State.invokeAct
  try dsimp only
  repeat' first
    | with_reducible assumption
    | with_reducible apply State.modJob_kept
    | with_reducible apply State.createAt_kept
    | with_reducible apply State.applyAct_kept
    | split

theorem State.invokeActs_kept {s0 a3 : State} (h : Kept s0 a3) (k : Nat) (j : Job) (a2 : List LastAct) :
    Kept s0 (State.invokeActs k j a2 a3).2 := by
  induction a2 generalizing a3 with
  | nil => exact h
  | cons x l ih =>
    unfold State.invokeActs
    try dsimp only
    repeat' first
      | with_reducible assumption
      | with_reducible apply ih
      | with_reducible apply State.invokeAct_kept

theorem State.invokeIv_kept {s0 s : State} (h : Kept s0 s) (e : SqEntry) :
    Kept s0 (State.invokeIv s e) := by
  unfold State.invokeIv
  try dsimp only
  repeat' first
    | with_reducible assumption
    | with_reducible apply Kept.ite
    | with_reducible apply State.modRecord_kept
    | with_reducible apply State.setIv_kept
    | intro _

theorem State.invokeOutcome_kept {s0 s : State} (h : Kept s0 s) (k : Nat) (j : Job) (q : Job) (a : Nat) (cost : Nat) (d : Done) :
    Kept s0 (State.invokeOutcome s k j q a cost d) := by
  unfold State.invokeOutcome
  try dsimp only
  repeat' first
    | with_reducible assumption
    | with_reducible apply Kept.ite
    | with_reducible apply State.winWrite_kept
    | with_reducible apply State.unitFails_kept
    | with_reducible apply State.invokeActs_kept
    | with_reducible apply State.invokeIv_kept
    | with_reducible apply State.invokeEnds_kept
    | intro _
    | split

theorem State.invokeRuns_kept {s0 s : State} (h : Kept s0 s) (k : Nat) (j : Job) (r : Run) (a : Nat) (cost : Nat) (e : SqEntry) :
    Kept s0 (State.invokeRuns s k j r a cost e) := by
  unfold State.invokeRuns
  try dsimp only
  repeat' first
    | with_reducible assumption
    | with_reducible apply Kept.ite
    | with_reducible apply State.conflict_kept
    | with_reducible apply State.invokeEnds_kept
    | with_reducible apply State.loadView_kept
    | with_reducible apply State.treesRefused_kept
    | with_reducible apply State.tierVFull_kept
    | with_reducible apply State.invokeTakes_kept
    | with_reducible apply State.modRun_kept
    | with_reducible apply State.builtin_kept
    | with_reducible apply State.invokeOutcome_kept
    | intro _
    | with_reducible apply Kept.when
    | split

theorem State.invoke_kept {s0 s : State} (h : Kept s0 s) (k : Nat) (rs1 : Fin 32) :
    Kept s0 (State.invoke s k rs1) := by
  unfold State.invoke
  try dsimp only
  repeat' first
    | with_reducible assumption
    | with_reducible apply Kept.ite
    | with_reducible apply State.ecmd_kept
    | with_reducible apply State.trap_kept
    | with_reducible apply State.needPage_kept
    | with_reducible apply State.invokeRuns_kept
    | intro _
    | split

/-! ### Machine/KemOps.lean -/

theorem State.decodeThen_kept {s0 s : State} (h : Kept s0 s) (k : Nat) (op : Nat) (f : State → Job → Done) :
    Kept s0 (State.decodeThen s k op f) := by
  unfold State.decodeThen
  try dsimp only
  repeat' first
    | with_reducible assumption
    | with_reducible apply Kept.ite
    | with_reducible apply State.runOp_kept
    | with_reducible apply State.finish_kept
    | with_reducible apply State.modJob_kept
    | intro _

theorem State.streamThen_kept {s0 s : State} (h : Kept s0 s) (k : Nat) (op : Nat) (f : State → Job → Done) :
    Kept s0 (State.streamThen s k op f) := by
  unfold State.streamThen
  try dsimp only
  repeat' first
    | with_reducible assumption
    | with_reducible apply State.runOp_kept
    | with_reducible apply State.finish_kept
    | with_reducible apply State.bump_kept
    | intro _

theorem State.hybKemOp_kept {s0 s : State} (h : Kept s0 s) (k : Nat) (op : Nat) (f : State → Job → Done) :
    Kept s0 (State.hybKemOp s k op f) := by
  unfold State.hybKemOp
  try dsimp only
  repeat' first
    | with_reducible assumption
    | with_reducible apply State.runOp_kept
    | with_reducible apply State.finish_kept
    | intro _

/-! ### Machine/KeyOps.lean -/

theorem State.kmOp_kept {s0 s : State} (h : Kept s0 s) (k : Nat) (op : Nat) (f : State → Job → Done) :
    Kept s0 (State.kmOp s k op f) := by
  unfold State.kmOp
  try dsimp only
  repeat' first
    | with_reducible assumption
    | with_reducible apply State.runOp_kept
    | with_reducible apply State.finish_kept
    | intro _

theorem State.kmUpdate_kept {s0 s : State} (h : Kept s0 s) (k : Nat) (j : Job) :
    Kept s0 (State.kmUpdate s k j) := by
  unfold State.kmUpdate
  try dsimp only
  repeat' first
    | with_reducible assumption
    | with_reducible apply Kept.ite
    | with_reducible apply State.finish_kept
    | with_reducible apply State.updateRefused_kept
    | with_reducible apply State.conflict_kept
    | with_reducible apply State.conclude_kept
    | intro _
    | split

/-! ### Machine/LifeCycle.lean -/

theorem State.beginTransition_kept {s0 s : State} (h : Kept s0 s) (target : Nat) (slot : Nat) :
    Kept s0 (State.beginTransition s target slot) := by
  unfold State.beginTransition
  dsimp only
  refine State.endCard_kept (State.alarmWindows_kept (State.commitAll_kept (State.event_kept ?_ _ _)))
  rw [Kept.lit]
  exact Kept.partsOtp h rfl List.length_set (fun g => ⟨le_rfl, g⟩) fun _ hu => hu

theorem State.programCopies_kept {s0 s : State} (h : Kept s0 s) (target : Nat) (readback : List Bool) :
    Kept s0 (State.programCopies s target readback) := by
  unfold State.programCopies
  rw [Kept.lit]
  exact Kept.partsOtp h List.length_mapIdx rfl (fun g => ⟨le_rfl, g⟩) fun _ hu => hu

theorem State.wipeTierA_kept {s0 s : State} (h : Kept s0 s) :
    Kept s0 (State.wipeTierA s) := by
  unfold State.wipeTierA
  try dsimp only
  repeat' first
    | with_reducible assumption
    | with_reducible apply State.removeRecords_kept
    | with_reducible apply State.removePeer_kept
    | with_reducible apply State.removeSlots_kept
    | with_reducible apply Kept.parts
    | simp only [Kept.lit]
    | intro _
    | with_reducible apply Kept.forEach

theorem State.transitionWipe_kept {s0 s : State} (h : Kept s0 s) (target : Nat) :
    Kept s0 (State.transitionWipe s target) := by
  unfold State.transitionWipe
  dsimp only
  have a : Kept s0 (if target = 5 || target = 2 || target = 4 then s.wipeTierA else s) :=
    Kept.ite (fun _ => State.wipeTierA_kept h) fun _ => h
  revert a
  generalize (if target = 5 || target = 2 || target = 4 then s.wipeTierA else s) = s1
  intro a
  have b : Kept s0 (if target = 3 || target = 5 then { s1 with lc := { s1.lc with factoryCreds := [] } } else s1) :=
    Kept.ite (fun _ => by rw [Kept.lit]; exact Kept.parts a) fun _ => a
  revert b
  generalize (if target = 3 || target = 5 then { s1 with lc := { s1.lc with factoryCreds := [] } } else s1) = s2
  intro b
  split
  · rw [Kept.lit]
    exact Kept.partsOtp b rfl rfl (fun g => ⟨le_rfl, g⟩) fun _ hu => hu
  · exact b

theorem State.afterTransition_kept {s0 s : State} (h : Kept s0 s) :
    Kept s0 (State.afterTransition s) := by
  unfold State.afterTransition
  try dsimp only
  repeat' first
    | with_reducible assumption
    | with_reducible apply Kept.ite
    | with_reducible apply State.fatal_kept
    | with_reducible apply State.fabricStart_kept
    | with_reducible apply Kept.parts
    | simp only [Kept.lit]
    | intro _
    | split

theorem State.lcWipeDone_kept {s0 s : State} (h : Kept s0 s) (t : Transition) (readback : List Bool) :
    Kept s0 (State.lcWipeDone s t readback) := by
  have a : ∀ u, Kept s0 u → Kept s0 { u with lc := { u.lc with transition := none } } := fun u h => by
    rw [Kept.lit]
    exact Kept.parts h
  have b := a _ (State.programCopies_kept (State.transitionWipe_kept h t.target) t.target readback)
  unfold State.lcWipeDone
  dsimp only
  refine Kept.ite (fun _ => State.fatal_kept (State.event_kept b _ _) _ _) fun _ => State.afterTransition_kept ?_
  rw [Kept.lit]
  exact Kept.partsOtp (State.advanceGeneration_kept (Kept.ite (fun _ => b) fun _ => State.event_kept b _ _)) rfl
    List.length_set (fun g => ⟨le_rfl, g⟩) fun _ hu => hu

theorem State.tamperAck_kept {s0 s : State} (h : Kept s0 s) (x : Session) (v : Bytes) :
    Kept s0 (State.tamperAck s x v).2 := by
  unfold State.tamperAck
  try dsimp only
  repeat' first
    | with_reducible assumption
    | with_reducible apply Kept.iteSnd
    | with_reducible apply State.event_kept
    | with_reducible apply Kept.parts
    | simp only [Kept.lit]
    | intro _

theorem State.archiveRatchet_kept {s0 s : State} (h : Kept s0 s) (v : Bytes) :
    Kept s0 (State.archiveRatchet s v).2 := by
  unfold State.archiveRatchet
  try dsimp only
  repeat' first
    | with_reducible assumption
    | with_reducible apply Kept.iteSnd
    | with_reducible apply State.advanceGeneration_kept
    | simp only []
    | intro _

theorem State.lcRequest_kept {s0 s : State} (h : Kept s0 s) (c : LcChannel) (target : Nat) (token : Bytes) :
    Kept s0 (State.lcRequest s c target token).2 := by
  unfold State.lcRequest
  try dsimp only
  repeat' first
    | with_reducible assumption
    | with_reducible apply Kept.ite
    | with_reducible apply State.beginTransition_kept
    | with_reducible apply State.event_kept
    | with_reducible apply Kept.parts
    | simp only [Kept.lit]
    | intro _
    | split

theorem State.lcRequestBy_kept {s0 s : State} (h : Kept s0 s) (x : Session) (v : Bytes) :
    Kept s0 (State.lcRequestBy s x v).2 := by
  unfold State.lcRequestBy
  try dsimp only
  repeat' first
    | with_reducible assumption
    | with_reducible apply State.lcRequest_kept

theorem State.debugAllow_kept {s0 s : State} (h : Kept s0 s) (v : Bytes) :
    Kept s0 (State.debugAllow s v).2 := by
  unfold State.debugAllow
  try dsimp only
  repeat' first
    | with_reducible assumption
    | with_reducible apply Kept.iteSnd
    | with_reducible apply Kept.parts
    | simp only [Kept.lit]
    | intro _

theorem State.writeDigest_kept {s0 s : State} (h : Kept s0 s) (key : Nat) (v : Bytes) :
    Kept s0 (State.writeDigest s key v).2 := by
  unfold State.writeDigest
  split
  · exact h
  · rw [Kept.lit]
    refine Kept.partsOtp h ?_ ?_ (fun g => ?_) fun u hu => ?_ <;> unfold Otp.setDigest <;> split <;>
      first | rfl | exact ⟨le_rfl, g⟩ | exact hu

theorem State.shiftOut_kept {s0 s : State} (h : Kept s0 s) (b : Bytes) :
    Kept s0 (State.shiftOut s b) := by
  unfold State.shiftOut
  try dsimp only
  repeat' first
    | with_reducible assumption
    | with_reducible apply Kept.ite
    | with_reducible apply State.send_kept
    | with_reducible apply Kept.parts
    | simp only [Kept.lit]
    | intro _

theorem State.debugPort_kept {s0 s : State} (h : Kept s0 s) (f : State → State)
    (hf : ∀ s, Kept s0 s → Kept s0 (f s)) :
    Kept s0 (State.debugPort s f) := by
  unfold State.debugPort
  split
  · exact h
  · split
    · exact State.shiftOut_kept h _
    · exact hf _ h

theorem State.readChallenge_kept {s0 s : State} (h : Kept s0 s) :
    Kept s0 (State.readChallenge s) := by
  unfold State.readChallenge
  try dsimp only
  repeat' first
    | with_reducible assumption
    | with_reducible apply Kept.ite
    | with_reducible apply State.drawInternal_kept
    | with_reducible apply State.shiftOut_kept
    | with_reducible apply Kept.parts
    | simp only [Kept.lit]
    | intro _

theorem State.openDebug_kept {s0 s : State} (h : Kept s0 s) :
    Kept s0 (State.openDebug s) := by
  unfold State.openDebug
  try dsimp only
  repeat' first
    | with_reducible assumption
    | with_reducible apply Kept.ite
    | with_reducible apply Kept.parts
    | simp only [Kept.lit]
    | intro _

theorem State.debugResponse_kept {s0 s : State} (h : Kept s0 s) (sig : Bytes) :
    Kept s0 (State.debugResponse s sig) := by
  unfold State.debugResponse
  try dsimp only
  repeat' first
    | with_reducible assumption
    | with_reducible apply Kept.ite
    | with_reducible apply State.event_kept
    | with_reducible apply State.extendMr_kept
    | with_reducible apply State.openDebug_kept
    | with_reducible apply State.commitAll_kept
    | with_reducible apply Kept.parts
    | simp only [Kept.lit]
    | intro _

theorem State.debugLcRequest_kept {s0 s : State} (h : Kept s0 s) (target : Nat) (token : Bytes) :
    Kept s0 (State.debugLcRequest s target token) := by
  unfold State.debugLcRequest
  try dsimp only
  repeat' first
    | with_reducible assumption
    | with_reducible apply State.lcRequest_kept
    | with_reducible apply Kept.parts
    | simp only [Kept.lit]

/-! ### Machine/Rings.lean -/

theorem State.activateQps_kept {s0 s : State} (h : Kept s0 s) (i : Nat) :
    Kept s0 (State.activateQps s i) := by
  unfold State.activateQps
  try dsimp only
  repeat' first
    | with_reducible assumption
    | with_reducible apply State.modInst_kept

theorem State.writeCompletion_kept {s0 s : State} (h : Kept s0 s) (i : Nat) (q : Nat) (x : Qp) (head : Bytes) :
    Kept s0 (State.writeCompletion s i q x head) := by
  unfold State.writeCompletion
  try dsimp only
  repeat' first
    | with_reducible assumption
    | with_reducible apply State.modQp_kept
    | with_reducible apply State.send_kept

theorem State.postHeldN_kept {s0 a2 : State} (h : Kept s0 a2) (i : Nat) (a1 : Nat) :
    Kept s0 (State.postHeldN i a1 a2) := by
  induction a1 generalizing a2 with
  | zero => exact h
  | succ n ih =>
    unfold State.postHeldN
    try dsimp only
    repeat' first
      | with_reducible assumption
      | with_reducible apply Kept.ite
      | with_reducible apply ih
      | with_reducible apply State.modInst_kept
      | with_reducible apply State.raiseVec_kept
      | with_reducible apply State.writeCompletion_kept
      | intro _
      | split

theorem State.postHeld_kept {s0 s : State} (h : Kept s0 s) (i : Nat) :
    Kept s0 (State.postHeld s i) := by
  unfold State.postHeld
  try dsimp only
  repeat' first
    | with_reducible assumption
    | with_reducible apply State.postHeldN_kept

theorem State.dropFinished_kept {s0 s : State} (h : Kept s0 s) (i : Nat) (q : Nat) :
    Kept s0 (State.dropFinished s i q) := by
  unfold State.dropFinished
  try dsimp only
  repeat' first
    | with_reducible assumption
    | with_reducible apply State.releaseSlot_kept
    | intro _
    | with_reducible apply Kept.forEach

theorem State.writeSpill_kept {s0 s : State} (h : Kept s0 s) (i : Nat) (on : Bool) :
    Kept s0 (State.writeSpill s i on) := by
  unfold State.writeSpill
  try dsimp only
  repeat' first
    | with_reducible assumption
    | with_reducible apply Kept.ite
    | with_reducible apply State.modInst_kept
    | intro _

theorem State.descriptorArrival_kept {s0 s : State} (h : Kept s0 s) (i : Nat) (q : Nat) (entry : Option SqEntry) :
    Kept s0 (State.descriptorArrival s i q entry) := by
  unfold State.descriptorArrival
  try dsimp only
  repeat' first
    | with_reducible assumption
    | with_reducible apply Kept.ite
    | with_reducible apply State.ringError_kept
    | with_reducible apply State.dispatch_kept
    | with_reducible apply State.modQp_kept
    | intro _
    | split

theorem State.sqWithdraw_kept {s0 s : State} (h : Kept s0 s) (i : Nat) (q : Nat) (index : Nat) :
    Kept s0 (State.sqWithdraw s i q index) := by
  unfold State.sqWithdraw
  try dsimp only
  repeat' first
    | with_reducible assumption
    | with_reducible apply Kept.ite
    | with_reducible apply State.ringError_kept
    | with_reducible apply State.modQp_kept
    | intro _
    | split

theorem State.sqDoorbell_kept {s0 s : State} (h : Kept s0 s) (i : Nat) (q : Nat) (index : Nat) :
    Kept s0 (State.sqDoorbell s i q index) := by
  unfold State.sqDoorbell
  try dsimp only
  repeat' first
    | with_reducible assumption
    | with_reducible apply Kept.ite
    | with_reducible apply State.ringError_kept
    | with_reducible apply State.fetch_kept
    | with_reducible apply State.modQp_kept
    | intro _
    | split

theorem State.cqDoorbell_kept {s0 s : State} (h : Kept s0 s) (i : Nat) (q : Nat) (index : Nat) :
    Kept s0 (State.cqDoorbell s i q index) := by
  unfold State.cqDoorbell
  try dsimp only
  repeat' first
    | with_reducible assumption
    | with_reducible apply Kept.ite
    | with_reducible apply State.ringError_kept
    | with_reducible apply State.modQp_kept
    | with_reducible apply State.postHeld_kept
    | with_reducible apply State.markWaits_kept
    | intro _
    | split

theorem State.enableQp_kept {s0 s : State} (h : Kept s0 s) (i : Nat) (q : Nat) (x : Qp) :
    Kept s0 (State.enableQp s i q x) := by
  unfold State.enableQp
  try dsimp only
  repeat' first
    | with_reducible assumption
    | with_reducible apply Kept.ite
    | with_reducible apply State.modQp_kept
    | intro _

theorem State.disableQp_kept {s0 s : State} (h : Kept s0 s) (i : Nat) (q : Nat) (x : Qp) :
    Kept s0 (State.disableQp s i q x) := by
  unfold State.disableQp
  try dsimp only
  repeat' first
    | with_reducible assumption
    | with_reducible apply Kept.ite
    | with_reducible apply State.modQp_kept
    | with_reducible apply State.dropFinished_kept
    | with_reducible apply State.checkStopped_kept
    | intro _

theorem State.writeQpCtrl_kept {s0 s : State} (h : Kept s0 s) (i : Nat) (q : Nat) (v : Nat) (on : Bool) :
    Kept s0 (State.writeQpCtrl s i q v on) := by
  unfold State.writeQpCtrl
  try dsimp only
  repeat' first
    | with_reducible assumption
    | with_reducible apply Kept.ite
    | with_reducible apply State.modQp_kept
    | with_reducible apply State.errorBit_kept
    | with_reducible apply State.enableQp_kept
    | with_reducible apply State.disableQp_kept
    | intro _
    | split

theorem State.cqWait_kept {s0 s : State} (h : Kept s0 s) (i : Nat) (q : Nat) :
    Kept s0 (State.cqWait s i q) := by
  unfold State.cqWait
  try dsimp only
  repeat' first
    | with_reducible assumption
    | with_reducible apply Kept.ite
    | with_reducible apply State.modQp_kept
    | with_reducible apply State.until_kept
    | with_reducible apply State.eventOf_kept
    | intro _
    | split

theorem State.cqWriteFault_kept {s0 s : State} (h : Kept s0 s) (i : Nat) (q : Nat) (x : Qp) :
    Kept s0 (State.cqWriteFault s i q x) := by
  unfold State.cqWriteFault
  try dsimp only
  repeat' first
    | with_reducible assumption
    | with_reducible apply Kept.ite
    | with_reducible apply State.modQp_kept
    | with_reducible apply State.ringError_kept
    | intro _

theorem State.readBack_kept {s0 s : State} (h : Kept s0 s) (k : Nat) :
    Kept s0 (State.readBack s k) := by
  unfold State.readBack
  try dsimp only
  repeat' first
    | with_reducible assumption
    | with_reducible apply Kept.ite
    | with_reducible apply State.openFault_kept
    | with_reducible apply State.errorBit_kept
    | with_reducible apply State.countTier_kept
    | with_reducible apply State.modRecord_kept
    | with_reducible apply State.removeRecord_kept
    | intro _
    | split

theorem State.spillRevokeDone_kept {s0 s : State} (h : Kept s0 s) (i : Nat) :
    Kept s0 (State.spillRevokeDone s i) := by
  unfold State.spillRevokeDone
  try dsimp only
  repeat' first
    | with_reducible assumption
    | with_reducible apply Kept.ite
    | with_reducible apply State.readBack_kept
    | with_reducible apply State.trimV_kept
    | with_reducible apply State.modInst_kept
    | intro _
    | with_reducible apply Kept.forEach

theorem State.countRun_kept {s0 s : State} (h : Kept s0 s) (st : Status) :
    Kept s0 (State.countRun s st) := by
  unfold State.countRun
  try dsimp only
  repeat' first
    | with_reducible assumption
    | with_reducible apply State.bump_kept
    | split

theorem State.countPosted_kept {s0 s : State} (h : Kept s0 s) (j : Job) :
    Kept s0 (State.countPosted s j) := by
  unfold State.countPosted
  try dsimp only
  repeat' first
    | with_reducible assumption
    | with_reducible apply Kept.ite
    | with_reducible apply State.modInst_kept
    | with_reducible apply State.countRun_kept
    | with_reducible apply State.bump_kept
    | intro _
    | split

theorem State.leave_kept {s0 s : State} (h : Kept s0 s) (k : Nat) (j : Job) :
    Kept s0 (State.leave s k j) := by
  unfold State.leave
  try dsimp only
  repeat' first
    | with_reducible assumption
    | with_reducible apply State.dispatch_kept
    | with_reducible apply State.markWaits_kept
    | with_reducible apply State.releaseSlot_kept
    | with_reducible apply State.countPosted_kept

theorem State.postJob_kept {s0 s : State} (h : Kept s0 s) (k : Nat) (j : Job) (x : Qp) (fault : Bool) :
    Kept s0 (State.postJob s k j x fault) := by
  unfold State.postJob
  try dsimp only
  repeat' first
    | with_reducible assumption
    | with_reducible apply Kept.ite
    | with_reducible apply State.dispatch_kept
    | with_reducible apply State.releaseSlot_kept
    | with_reducible apply State.leave_kept
    | with_reducible apply State.markWaits_kept
    | with_reducible apply State.cqWriteFault_kept
    | with_reducible apply State.writeCompletion_kept
    | with_reducible apply State.raiseVec_kept
    | intro _

theorem State.completionPost_kept {s0 s : State} (h : Kept s0 s) (k : Nat) (fault : Bool) :
    Kept s0 (State.completionPost s k fault) := by
  unfold State.completionPost
  try dsimp only
  repeat' first
    | with_reducible assumption
    | with_reducible apply Kept.ite
    | with_reducible apply State.postJob_kept
    | intro _
    | split

/-! ### Machine/Mailbox.lean -/

theorem State.blankRequest_kept {s0 s : State} (h : Kept s0 s) (p : Nat) :
    Kept s0 (State.blankRequest s p) := by
  unfold State.blankRequest
  try dsimp only
  repeat' first
    | with_reducible assumption
    | with_reducible apply State.modPort_kept

theorem State.mailTake_kept {s0 s : State} (h : Kept s0 s) (p : Nat) (m : Mail) :
    Kept s0 (State.mailTake s p m) := by
  unfold State.mailTake
  try dsimp only
  repeat' first
    | with_reducible assumption
    | with_reducible apply State.modPort_kept

theorem State.mailAnswer_kept {s0 s : State} (h : Kept s0 s) (p : Nat) (m : Mail) (st : Status) (data : Bytes) :
    Kept s0 (State.mailAnswer s p m st data) := by
  unfold State.mailAnswer
  try dsimp only
  repeat' first
    | with_reducible assumption
    | with_reducible apply State.portEvent_kept
    | with_reducible apply State.modPort_kept

theorem State.mailConflict_kept {s0 s : State} (h : Kept s0 s) (p : Nat) (m : Mail) :
    Kept s0 (State.mailConflict s p m) := by
  unfold State.mailConflict
  try dsimp only
  repeat' first
    | with_reducible assumption
    | with_reducible apply State.mailAnswer_kept
    | with_reducible apply State.conflict_kept

theorem State.mailInst_kept {s0 s : State} (h : Kept s0 s) (p : Nat) (m : Mail) (n : Nat) (fieldsOk : Bool) (stateOk : Bool) (run : State → State × Bytes)
    (hrun : ∀ s, Kept s0 s → Kept s0 (run s).1) :
    Kept s0 (State.mailInst s p m n fieldsOk stateOk run) := by
  unfold State.mailInst
  dsimp only
  repeat' first
    | with_reducible assumption
    | with_reducible apply Kept.ite
    | with_reducible apply State.mailAnswer_kept
    | with_reducible apply State.mailConflict_kept
    | with_reducible apply State.mailTake_kept
    | with_reducible apply hrun
    | intro _

theorem noData_kept {s0 s : State} (h : Kept s0 s) (f : State → State)
    (hf : ∀ s, Kept s0 s → Kept s0 (f s)) :
    Kept s0 (noData f s).1 := by
  exact hf _ h

theorem State.allocate_kept {s0 s : State} (h : Kept s0 s) (n : Nat) (c : InstConfig) :
    Kept s0 (State.allocate s n c) := by
  unfold State.allocate
  try dsimp only
  repeat' first
    | with_reducible assumption
    | with_reducible apply State.setInstState_kept
    | with_reducible apply State.setInst_kept

theorem State.instCreate_kept {s0 s : State} (h : Kept s0 s) (p : Nat) (seq : Nat) (a : CreateArgs) :
    Kept s0 (State.instCreate s p seq a) := by
  unfold State.instCreate
  try dsimp only
  repeat' first
    | with_reducible assumption
    | with_reducible apply State.mailInst_kept
    | with_reducible apply noData_kept
    | with_reducible apply State.allocate_kept
    | intro _

theorem State.instEnable_kept {s0 s : State} (h : Kept s0 s) (p : Nat) (seq : Nat) (n : Nat) :
    Kept s0 (State.instEnable s p seq n) := by
  unfold State.instEnable
  try dsimp only
  repeat' first
    | with_reducible assumption
    | with_reducible apply State.mailInst_kept
    | with_reducible apply noData_kept
    | with_reducible apply State.askDrbg_kept
    | with_reducible apply State.activateQps_kept
    | with_reducible apply State.setInstState_kept
    | intro _

theorem State.instSet_kept {s0 s : State} (h : Kept s0 s) (p : Nat) (seq : Nat) (a : CreateArgs) :
    Kept s0 (State.instSet s p seq a) := by
  unfold State.instSet
  try dsimp only
  repeat' first
    | with_reducible assumption
    | with_reducible apply State.mailInst_kept
    | with_reducible apply noData_kept
    | with_reducible apply State.dispatch_kept
    | with_reducible apply State.trimS_kept
    | with_reducible apply State.modInst_kept
    | intro _

theorem State.instReset_kept {s0 s : State} (h : Kept s0 s) (p : Nat) (seq : Nat) (n : Nat) (mode : Nat) :
    Kept s0 (State.instReset s p seq n mode) := by
  unfold State.instReset
  try dsimp only
  repeat' first
    | with_reducible assumption
    | with_reducible apply State.mailInst_kept
    | with_reducible apply noData_kept
    | with_reducible apply State.startReset_kept
    | intro _

theorem State.startFreeze_kept {s0 s : State} (h : Kept s0 s) (n : Nat) :
    Kept s0 (State.startFreeze s n) := by
  unfold State.startFreeze
  try dsimp only
  repeat' first
    | with_reducible assumption
    | with_reducible apply State.modInst_kept

theorem State.instFreeze_kept {s0 s : State} (h : Kept s0 s) (p : Nat) (seq : Nat) (n : Nat) :
    Kept s0 (State.instFreeze s p seq n) := by
  unfold State.instFreeze
  try dsimp only
  repeat' first
    | with_reducible assumption
    | with_reducible apply State.mailInst_kept
    | with_reducible apply noData_kept
    | with_reducible apply State.startFreeze_kept
    | intro _

theorem State.fetchAll_kept {s0 s : State} (h : Kept s0 s) (n : Nat) :
    Kept s0 (State.fetchAll s n) := by
  unfold State.fetchAll
  try dsimp only
  repeat' first
    | with_reducible assumption
    | with_reducible apply State.fetch_kept
    | intro _
    | with_reducible apply Kept.forEach

theorem State.thaw_kept {s0 s : State} (h : Kept s0 s) (n : Nat) :
    Kept s0 (State.thaw s n) := by
  unfold State.thaw
  try dsimp only
  repeat' first
    | with_reducible assumption
    | with_reducible apply Kept.ite
    | with_reducible apply State.postHeld_kept
    | with_reducible apply State.activateQps_kept
    | with_reducible apply State.setInstState_kept
    | with_reducible apply State.modInst_kept
    | with_reducible apply State.askReseed_kept
    | with_reducible apply State.askDrbg_kept
    | with_reducible apply State.fetchAll_kept
    | intro _

theorem State.instThaw_kept {s0 s : State} (h : Kept s0 s) (p : Nat) (seq : Nat) (n : Nat) :
    Kept s0 (State.instThaw s p seq n) := by
  unfold State.instThaw
  try dsimp only
  repeat' first
    | with_reducible assumption
    | with_reducible apply State.mailInst_kept
    | with_reducible apply noData_kept
    | with_reducible apply State.thaw_kept
    | intro _

theorem State.startDestroy_kept {s0 s : State} (h : Kept s0 s) (n : Nat) :
    Kept s0 (State.startDestroy s n) := by
  unfold State.startDestroy
  try dsimp only
  repeat' first
    | with_reducible assumption
    | with_reducible apply State.modInst_kept
    | with_reducible apply State.squashInst_kept
    | with_reducible apply State.setInstState_kept

theorem State.instDestroy_kept {s0 s : State} (h : Kept s0 s) (p : Nat) (seq : Nat) (n : Nat) :
    Kept s0 (State.instDestroy s p seq n) := by
  unfold State.instDestroy
  try dsimp only
  repeat' first
    | with_reducible assumption
    | with_reducible apply State.mailInst_kept
    | with_reducible apply noData_kept
    | with_reducible apply State.startDestroy_kept
    | intro _

theorem State.instStatus_kept {s0 s : State} (h : Kept s0 s) (p : Nat) (seq : Nat) (n : Nat) :
    Kept s0 (State.instStatus s p seq n) := by
  unfold State.instStatus
  try dsimp only
  repeat' first
    | with_reducible assumption
    | with_reducible apply Kept.ite
    | with_reducible apply State.mailTake_kept
    | with_reducible apply State.mailAnswer_kept
    | intro _

theorem State.setTranslation_kept {s0 s : State} (h : Kept s0 s) (p : Nat) (seq : Nat) (n : Nat) (root : Nat) :
    Kept s0 (State.setTranslation s p seq n root) := by
  unfold State.setTranslation
  try dsimp only
  repeat' first
    | with_reducible assumption
    | with_reducible apply State.mailInst_kept
    | with_reducible apply noData_kept
    | with_reducible apply State.modInst_kept
    | with_reducible apply Kept.parts
    | simp only [Kept.lit]
    | intro _

theorem State.invalidateRange_kept {s0 s : State} (h : Kept s0 s) (n : Nat) (iova : Nat) (len : Nat) :
    Kept s0 (State.invalidateRange s n iova len) := by
  unfold State.invalidateRange
  try dsimp only
  repeat' first
    | with_reducible assumption
    | with_reducible apply Kept.ite
    | with_reducible apply State.dropTranslations_kept
    | with_reducible apply Kept.parts
    | simp only [Kept.lit]
    | intro _

theorem State.invalidate_kept {s0 s : State} (h : Kept s0 s) (p : Nat) (seq : Nat) (n : Nat) (iova : Nat) (len : Nat) :
    Kept s0 (State.invalidate s p seq n iova len) := by
  unfold State.invalidate
  try dsimp only
  repeat' first
    | with_reducible assumption
    | with_reducible apply State.mailInst_kept
    | with_reducible apply noData_kept
    | with_reducible apply State.invalidateRange_kept
    | intro _

theorem State.fillSlot_kept {s0 s : State} (h : Kept s0 s) (k : Nat) (a : OpenSlotArgs) :
    Kept s0 (State.fillSlot s k a) := by
  unfold State.fillSlot
  try dsimp only
  repeat' first
    | with_reducible assumption
    | with_reducible apply State.removeSlot_kept
    | with_reducible apply Kept.parts
    | simp only [Kept.lit]

theorem State.openSlotWrite_kept {s0 s : State} (h : Kept s0 s) (p : Nat) (seq : Nat) (a : OpenSlotArgs) :
    Kept s0 (State.openSlotWrite s p seq a) := by
  unfold State.openSlotWrite
  try dsimp only
  repeat' first
    | with_reducible assumption
    | with_reducible apply Kept.ite
    | with_reducible apply State.blankRequest_kept
    | with_reducible apply State.mailTake_kept
    | with_reducible apply State.mailAnswer_kept
    | with_reducible apply State.mailConflict_kept
    | with_reducible apply State.fillSlot_kept
    | intro _

theorem State.mailSlot_kept {s0 s : State} (h : Kept s0 s) (p : Nat) (m : Mail) (slotNo : Nat) (run : State → State × Bytes)
    (hrun : ∀ s, Kept s0 s → Kept s0 (run s).1) :
    Kept s0 (State.mailSlot s p m slotNo run) := by
  unfold State.mailSlot
  dsimp only
  repeat' first
    | with_reducible assumption
    | with_reducible apply Kept.ite
    | with_reducible apply State.mailAnswer_kept
    | with_reducible apply State.mailConflict_kept
    | with_reducible apply State.mailTake_kept
    | with_reducible apply hrun
    | intro _

theorem State.openSlotClear_kept {s0 s : State} (h : Kept s0 s) (p : Nat) (seq : Nat) (slotNo : Nat) :
    Kept s0 (State.openSlotClear s p seq slotNo) := by
  unfold State.openSlotClear
  try dsimp only
  repeat' first
    | with_reducible assumption
    | with_reducible apply State.mailSlot_kept
    | with_reducible apply noData_kept
    | with_reducible apply State.removeSlot_kept
    | intro _

theorem State.openSlotRead_kept {s0 s : State} (h : Kept s0 s) (p : Nat) (seq : Nat) (slotNo : Nat) :
    Kept s0 (State.openSlotRead s p seq slotNo) := by
  unfold State.openSlotRead
  try dsimp only
  repeat' first
    | with_reducible assumption
    | with_reducible apply State.mailSlot_kept
    | simp only []
    | intro _

theorem State.holdCompletion_kept {s0 s : State} (h : Kept s0 s) (k : Nat) (j : Job) :
    Kept s0 (State.holdCompletion s k j) := by
  unfold State.holdCompletion
  try dsimp only
  repeat' first
    | with_reducible assumption
    | with_reducible apply Kept.ite
    | with_reducible apply State.modInst_kept
    | with_reducible apply State.releaseSlot_kept
    | intro _

theorem State.keepTag_kept {s0 s : State} (h : Kept s0 s) (k : Nat) (j : Job) :
    Kept s0 (State.keepTag s k j) := by
  unfold State.keepTag
  try dsimp only
  repeat' first
    | with_reducible assumption
    | with_reducible apply State.squashJob_kept
    | with_reducible apply State.modInst_kept

theorem State.freezeTimeout_kept {s0 s : State} (h : Kept s0 s) (n : Nat) :
    Kept s0 (State.freezeTimeout s n) := by
  unfold State.freezeTimeout
  try dsimp only
  repeat' first
    | with_reducible assumption
    | with_reducible apply State.holdCompletion_kept
    | with_reducible apply State.keepTag_kept
    | intro _
    | with_reducible apply Kept.forEach

theorem State.drainTimeout_kept {s0 s : State} (h : Kept s0 s) (scope : DrainScope) :
    Kept s0 (State.drainTimeout s scope) := by
  unfold State.drainTimeout
  try dsimp only
  repeat' first
    | with_reducible assumption
    | with_reducible apply Kept.ite
    | with_reducible apply State.squashAll_kept
    | with_reducible apply State.until_kept
    | with_reducible apply State.squashInst_kept
    | with_reducible apply State.freezeTimeout_kept
    | intro _
    | split

theorem State.instanceDestroyDone_kept {s0 s : State} (h : Kept s0 s) (n : Nat) :
    Kept s0 (State.instanceDestroyDone s n) := by
  unfold State.instanceDestroyDone
  try dsimp only
  repeat' first
    | with_reducible assumption
    | with_reducible apply Kept.ite
    | with_reducible apply State.endDestroy_kept
    | with_reducible apply State.wipeInst_kept
    | intro _

theorem State.freezeDone_kept {s0 s : State} (h : Kept s0 s) (n : Nat) :
    Kept s0 (State.freezeDone s n) := by
  unfold State.freezeDone
  try dsimp only
  repeat' first
    | with_reducible assumption
    | with_reducible apply Kept.ite
    | with_reducible apply State.setInstState_kept
    | with_reducible apply State.modInst_kept
    | intro _

end Sys2Proof.Machine
end

