-- ==== Sys2Proof/Laws/KeptServices.lean ====
section
/-! SUPPORT. What each operation of these files of Machine/ keeps: MgmtCore, Migration, Ports, Registers, Scalar, Services, Step, Vector. -/

namespace Sys2Proof.Machine

open Sys2Proof

/-! ### Machine/MgmtCore.lean -/

theorem State.discardProtected_kept {s0 s : State} (h : Kept s0 s) :
    Kept s0 (State.discardProtected s) := by
  unfold State.discardProtected
  try dsimp only
  repeat' first
    | with_reducible assumption
    | with_reducible apply State.bump_kept

theorem State.takeDatagram_kept {s0 s : State} (h : Kept s0 s) (chan : Option Nat) :
    KeptO s0 (State.takeDatagram s chan) := by
  intro t e
  unfold State.takeDatagram at e
  split at e
  · cases e
    exact h
  · dsimp only at e
    split at e
    · cases e
      rw [Kept.lit]
      exact Kept.parts h
    · cases e

theorem State.closeSpent_kept {s0 s : State} (h : Kept s0 s) (id : BitVec 32) :
    Kept s0 (State.closeSpent s id) := by
  unfold State.closeSpent
  try dsimp only
  repeat' first
    | with_reducible assumption
    | with_reducible apply Kept.ite
    | with_reducible apply State.closeSession_kept
    | intro _
    | split

theorem State.respond_kept {s0 s : State} (h : Kept s0 s) (z : ZReq) (svc : Nat) (r : Reply) :
    Kept s0 (State.respond s z svc r) := by
  unfold State.respond
  try dsimp only
  repeat' first
    | with_reducible assumption
    | with_reducible apply State.modSession_kept
    | with_reducible apply State.sendFrame_kept

theorem State.countReply_kept {s0 s : State} (h : Kept s0 s) (x : Session) (r : Reply) :
    Kept s0 (State.countReply s x r) := by
  unfold State.countReply
  try dsimp only
  repeat' first
    | with_reducible assumption
    | with_reducible apply Kept.ite
    | with_reducible apply State.conflict_kept
    | intro _

theorem State.serve_kept {s0 s : State} (h : Kept s0 s) (z : ZReq) (svc : Nat) (run : Session → State → Reply × State) (after : Reply → State → State)
    (hrun : ∀ x s, Kept s0 s → Kept s0 (run x s).2) (hafter : ∀ a s, Kept s0 s → Kept s0 (after a s)) :
    Kept s0 (State.serve s z svc run after) := by
  unfold State.serve
  split
  · exact State.discardProtected_kept h
  · split
    · exact h
    · split
      · exact h
      · have h := Kept.ofO ‹_› (State.takeDatagram_kept h _)
        dsimp only
        repeat' first
            | with_reducible assumption
            | with_reducible apply Kept.ite
            | with_reducible apply State.discardProtected_kept
            | with_reducible apply State.modSession_kept
            | with_reducible apply State.closeSpent_kept
            | with_reducible apply State.sendFrame_kept
            | with_reducible apply State.respond_kept
            | with_reducible apply State.countReply_kept
            | with_reducible apply hafter
            | with_reducible apply hrun
            | intro _
            | split

theorem State.noteService_kept {s0 s : State} (h : Kept s0 s) (x : Session) :
    Kept s0 (State.noteService s x) := by
  unfold State.noteService
  try dsimp only
  repeat' first
    | with_reducible assumption
    | with_reducible apply State.modSession_kept

theorem State.sendParts_kept {s0 s : State} (h : Kept s0 s) (chan : Option Nat) (id : BitVec 32) (payload : Bytes) :
    Kept s0 (State.sendParts s chan id payload) := by
  unfold State.sendParts
  try dsimp only
  repeat' first
    | with_reducible assumption
    | with_reducible apply State.sendOpen_kept
    | intro _
    | with_reducible apply Kept.forEach

theorem State.beginOpening_kept {s0 s : State} (h : Kept s0 s) (chan : Option Nat) (id : BitVec 64) (role : Nat) (nonce : Bytes) (x25519 : Bytes) (ek : Bytes) :
    Kept s0 (State.beginOpening s chan id role nonce x25519 ek) := by
  unfold State.beginOpening
  try dsimp only
  repeat' first
    | with_reducible assumption
    | with_reducible apply State.drawInternal_kept
    | with_reducible apply State.sendParts_kept
    | with_reducible apply Kept.parts
    | simp only [Kept.lit]

theorem State.refuseOpening_kept {s0 s : State} (h : Kept s0 s) (id : BitVec 64) :
    Kept s0 (State.refuseOpening s id) := by
  unfold State.refuseOpening
  try dsimp only
  repeat' first
    | with_reducible assumption
    | with_reducible apply Kept.ite
    | with_reducible apply State.bump_kept
    | with_reducible apply State.event_kept
    | with_reducible apply Kept.parts
    | simp only [Kept.lit]
    | intro _

theorem State.open3_kept {s0 s : State} (h : Kept s0 s) (id : BitVec 32) (sig : Bytes) :
    Kept s0 (State.open3 s id sig) := by
  unfold State.open3
  try dsimp only
  repeat' first
    | with_reducible assumption
    | with_reducible apply Kept.ite
    | with_reducible apply State.modSession_kept
    | with_reducible apply State.sendFrame_kept
    | with_reducible apply State.refuseOpening_kept
    | with_reducible apply State.closeSession_kept
    | intro _
    | split

theorem State.openingTimeout_kept {s0 s : State} (h : Kept s0 s) (id : BitVec 32) :
    Kept s0 (State.openingTimeout s id) := by
  unfold State.openingTimeout
  try dsimp only
  repeat' first
    | with_reducible assumption
    | with_reducible apply Kept.ite
    | with_reducible apply State.closeSession_kept
    | with_reducible apply State.until_kept
    | intro _
    | split

theorem State.open1_kept {s0 s : State} (h : Kept s0 s) (chan : Option Nat) (id : BitVec 64) (role : Nat) (nonce : Bytes) (x25519 : Bytes) (ek : Bytes) :
    Kept s0 (State.open1 s chan id role nonce x25519 ek) := by
  unfold State.open1
  try dsimp only
  repeat' first
    | with_reducible assumption
    | with_reducible apply Kept.ite
    | with_reducible apply State.takeDatagram_kept
    | with_reducible apply State.sendOpen_kept
    | with_reducible apply State.refuseOpening_kept
    | with_reducible apply State.beginOpening_kept
    | intro _
    | (refine Kept.ofO (by assumption) ?_)
    | split

theorem State.answer_kept {s0 s : State} (h : Kept s0 s) (z : ZReq) (svc : Nat) (run : Session → State → Reply × State)
    (hrun : ∀ x s, Kept s0 s → Kept s0 (run x s).2) :
    Kept s0 (State.answer s z svc run) := by
  exact State.serve_kept h _ _ _ _ hrun fun _ _ h => h

theorem State.credentialBlockEnd_kept {s0 s : State} (h : Kept s0 s) (id : BitVec 64) :
    Kept s0 (State.credentialBlockEnd s id) := by
  unfold State.credentialBlockEnd
  try dsimp only
  repeat' first
    | with_reducible assumption
    | with_reducible apply State.until_kept
    | with_reducible apply Kept.parts
    | simp only [Kept.lit]
    | split

/-! ### Machine/Migration.lean -/

theorem State.migSave_kept {s0 s : State} (h : Kept s0 s) (p : Nat) (seq : Nat) (n : Nat) (flags : Nat) (iova : Nat) (len : Nat) :
    Kept s0 (State.migSave s p seq n flags iova len) := by
  unfold State.migSave
  try dsimp only
  repeat' first
    | with_reducible assumption
    | with_reducible apply State.mailInst_kept
    | with_reducible apply noData_kept
    | with_reducible apply State.modInst_kept
    | intro _

theorem State.migRestore_kept {s0 s : State} (h : Kept s0 s) (p : Nat) (seq : Nat) (n : Nat) (iova : Nat) (len : Nat) :
    Kept s0 (State.migRestore s p seq n iova len) := by
  unfold State.migRestore
  try dsimp only
  repeat' first
    | with_reducible assumption
    | with_reducible apply State.mailInst_kept
    | with_reducible apply noData_kept
    | with_reducible apply State.modInst_kept
    | intro _

theorem State.endMig_kept {s0 s : State} (h : Kept s0 s) (n : Nat) (st : Status) :
    Kept s0 (State.endMig s n st) := by
  unfold State.endMig
  try dsimp only
  repeat' first
    | with_reducible assumption
    | with_reducible apply State.modInst_kept

theorem State.writeImage_kept {s0 s : State} (h : Kept s0 s) (n : Nat) (w : MigWork) (omitted : Bool) :
    Kept s0 (State.writeImage s n w omitted) := by
  unfold State.writeImage
  try dsimp only
  repeat' first
    | with_reducible assumption
    | with_reducible apply Kept.ite
    | with_reducible apply State.drawInternal_kept
    | with_reducible apply State.take_kept
    | with_reducible apply State.modInst_kept
    | with_reducible apply State.endMig_kept
    | with_reducible apply State.send_kept
    | intro _

theorem State.migSaveDone_kept {s0 s : State} (h : Kept s0 s) (n : Nat) :
    Kept s0 (State.migSaveDone s n) := by
  unfold State.migSaveDone
  try dsimp only
  repeat' first
    | with_reducible assumption
    | with_reducible apply Kept.ite
    | with_reducible apply State.endMig_kept
    | with_reducible apply State.writeImage_kept
    | intro _
    | split

theorem State.setGen_kept {s0 s : State} (h : Kept s0 s) (k : Nat) (g : Nat) :
    Kept s0 (State.setGen s k g) := by
  unfold State.setGen
  try dsimp only
  repeat' first
    | with_reducible assumption
    | with_reducible apply Kept.parts
    | simp only [Kept.lit]

theorem State.restoreRecord_kept {s0 s : State} (h : Kept s0 s) (n : Nat) (r : RecordImage) :
    Kept s0 (State.restoreRecord s n r) := by
  unfold State.restoreRecord
  try dsimp only
  repeat' first
    | with_reducible assumption
    | with_reducible apply State.setRecord_kept
    | with_reducible apply State.setGen_kept

theorem State.restorePeer_kept {s0 s : State} (h : Kept s0 s) (n : Nat) (r : PeerImage) :
    Kept s0 (State.restorePeer s n r) := by
  unfold State.restorePeer
  try dsimp only
  repeat' first
    | with_reducible assumption
    | with_reducible apply State.setGen_kept
    | with_reducible apply Kept.parts
    | simp only [Kept.lit]

theorem State.restoreRecipe_kept {s0 s : State} (h : Kept s0 s) (n : Nat) (r : Nat × Bytes) :
    Kept s0 (State.restoreRecipe s n r) := by
  unfold State.restoreRecipe
  try dsimp only
  repeat' first
    | with_reducible assumption
    | with_reducible apply Kept.ite
    | with_reducible apply State.modInst_kept
    | with_reducible apply State.eventOf_kept
    | intro _

theorem State.applyImage_kept {s0 s : State} (h : Kept s0 s) (n : Nat) (m : MigImage) :
    Kept s0 (State.applyImage s n m) := by
  unfold State.applyImage
  try dsimp only
  repeat' first
    | with_reducible assumption
    | with_reducible apply State.modInst_kept
    | with_reducible apply State.restoreRecord_kept
    | with_reducible apply State.restorePeer_kept
    | with_reducible apply State.restoreRecipe_kept
    | with_reducible apply State.trimV_kept
    | with_reducible apply State.setInstState_kept
    | with_reducible apply Kept.parts
    | simp only [Kept.lit, List.length_modify, List.length_set, List.length_map, List.length_mapIdx]
    | intro _
    | with_reducible apply Kept.forEach

theorem State.migRestoreDone_kept {s0 s : State} (h : Kept s0 s) (n : Nat) (m : MigImage) :
    Kept s0 (State.migRestoreDone s n m) := by
  unfold State.migRestoreDone
  try dsimp only
  repeat' first
    | with_reducible assumption
    | with_reducible apply Kept.ite
    | with_reducible apply State.applyImage_kept
    | with_reducible apply State.endMig_kept
    | intro _
    | split

/-! ### Machine/Ports.lean -/

theorem State.discardFrame_kept {s0 s : State} (h : Kept s0 s) :
    Kept s0 (State.discardFrame s) := by
  unfold State.discardFrame
  try dsimp only
  repeat' first
    | with_reducible assumption
    | with_reducible apply State.bump_kept

theorem State.atsExpire_kept {s0 s : State} (h : Kept s0 s) (i : Nat) (iova : Nat) :
    Kept s0 (State.atsExpire s i iova) := by
  unfold State.atsExpire
  try dsimp only
  repeat' first
    | with_reducible assumption
    | with_reducible apply State.until_kept
    | with_reducible apply Kept.parts
    | simp only [Kept.lit]
    | split

theorem State.vfReset_kept {s0 s : State} (h : Kept s0 s) (i : Nat) :
    Kept s0 (State.vfReset s i) := by
  unfold State.vfReset
  try dsimp only
  repeat' first
    | with_reducible assumption
    | with_reducible apply State.modInst_kept
    | with_reducible apply State.resetRegs_kept
    | with_reducible apply State.startReset_kept
    | with_reducible apply State.squashInst_kept
    | split

theorem State.ptmLost_kept {s0 s : State} (h : Kept s0 s) (p : Nat) :
    Kept s0 (State.ptmLost s p) := by
  unfold State.ptmLost
  try dsimp only
  repeat' first
    | with_reducible assumption
    | with_reducible apply Kept.ite
    | with_reducible apply Kept.parts
    | simp only [Kept.lit]
    | intro _

theorem State.portResetBy_kept {s0 s : State} (h : Kept s0 s) (p : Nat) (c : PortResetCause) :
    Kept s0 (State.portResetBy s p c) := by
  unfold State.portResetBy
  try dsimp only
  repeat' first
    | with_reducible assumption
    | with_reducible apply State.ptmLost_kept
    | with_reducible apply State.modPort_kept
    | with_reducible apply State.portReset_kept
    | split

theorem State.rxAck_kept {s0 s : State} (h : Kept s0 s) (p : Nat) :
    Kept s0 (State.rxAck s p) := by
  unfold State.rxAck
  try dsimp only
  repeat' first
    | with_reducible assumption
    | with_reducible apply State.modPort_kept
    | with_reducible apply State.portEvent_kept
    | split

theorem State.denyTranslation_kept {s0 s : State} (h : Kept s0 s) (k : Nat) (iova : Nat) (j : Job) :
    Kept s0 (State.denyTranslation s k iova j) := by
  unfold State.denyTranslation
  try dsimp only
  repeat' first
    | with_reducible assumption
    | with_reducible apply State.endJob_kept
    | with_reducible apply State.abortJob_kept
    | split

theorem State.atsCompletion_kept {s0 s : State} (h : Kept s0 s) (k : Nat) (iova : Nat) (len : Nat) (r : Bool) (w : Bool) :
    Kept s0 (State.atsCompletion s k iova len r w) := by
  unfold State.atsCompletion
  try dsimp only
  repeat' first
    | with_reducible assumption
    | with_reducible apply Kept.ite
    | with_reducible apply State.denyTranslation_kept
    | with_reducible apply Kept.parts
    | simp only [Kept.lit]
    | intro _
    | split

theorem State.perstDeassert_kept {s0 s : State} (h : Kept s0 s) (p : Nat) :
    Kept s0 (State.perstDeassert s p) := by
  unfold State.perstDeassert
  try dsimp only
  repeat' first
    | with_reducible assumption
    | with_reducible apply Kept.ite
    | with_reducible apply State.take_kept
    | with_reducible apply State.modPort_kept
    | with_reducible apply State.ownInstance_kept
    | intro _

theorem State.instanceResetDone_kept {s0 s : State} (h : Kept s0 s) (i : Nat) :
    Kept s0 (State.instanceResetDone s i) := by
  unfold State.instanceResetDone
  try dsimp only
  repeat' first
    | with_reducible assumption
    | with_reducible apply Kept.ite
    | with_reducible apply State.wipeInst_kept
    | with_reducible apply State.askDrbg_kept
    | with_reducible apply State.clearDrbg_kept
    | with_reducible apply State.modInst_kept
    | with_reducible apply State.endReset_kept
    | intro _

theorem State.configRequest_kept {s0 s : State} (h : Kept s0 s) (p : Nat) :
    Kept s0 (State.configRequest s p) := by
  unfold State.configRequest
  try dsimp only
  repeat' first
    | with_reducible assumption
    | with_reducible apply Kept.ite
    | with_reducible apply State.send_kept
    | with_reducible apply State.modPort_kept
    | intro _

theorem State.atsInvalidate_kept {s0 s : State} (h : Kept s0 s) (i : Nat) (iova : Nat) (len : Nat) :
    Kept s0 (State.atsInvalidate s i iova len) := by
  unfold State.atsInvalidate
  try dsimp only
  repeat' first
    | with_reducible assumption
    | with_reducible apply State.send_kept
    | with_reducible apply Kept.parts
    | simp only [Kept.lit]

theorem State.holdoverLimit_kept {s0 s : State} (h : Kept s0 s) :
    Kept s0 (State.holdoverLimit s) := by
  unfold State.holdoverLimit
  try dsimp only
  repeat' first
    | with_reducible assumption
    | with_reducible apply Kept.ite
    | with_reducible apply State.until_kept
    | with_reducible apply State.event_kept
    | with_reducible apply Kept.parts
    | simp only [Kept.lit, List.length_modify, List.length_set, List.length_map, List.length_mapIdx]
    | intro _

theorem State.measureTime_kept {s0 s : State} (h : Kept s0 s) (offset : Int) (time : Nat) (locked : Bool) :
    Kept s0 (State.measureTime s offset time locked) := by
  unfold State.measureTime
  try dsimp only
  repeat' first
    | with_reducible assumption
    | with_reducible apply Kept.parts
    | simp only [Kept.lit]

theorem State.sourceLost_kept {s0 s : State} (h : Kept s0 s) :
    Kept s0 (State.sourceLost s) := by
  unfold State.sourceLost
  try dsimp only
  repeat' first
    | with_reducible assumption
    | with_reducible apply Kept.ite
    | with_reducible apply Kept.parts
    | simp only [Kept.lit]
    | intro _

/-! ### Machine/Registers.lean -/

theorem State.writeWindow_kept {s0 s : State} (h : Kept s0 s) (p : Nat) (w : Nat) (off : Nat) (v : BitVec 32) :
    Kept s0 (State.writeWindow s p w off v) := by
  unfold State.writeWindow
  try dsimp only
  repeat' first
    | with_reducible assumption
    | with_reducible apply State.claimWindow_kept
    | with_reducible apply State.releaseWindow_kept
    | with_reducible apply State.writeWctrl_kept
    | with_reducible apply State.ownerWrite_kept
    | with_reducible apply State.modWindow_kept
    | with_reducible apply State.writeData_kept
    | with_reducible apply State.writeDataLast_kept
    | intro _
    | split

theorem State.mailDoorbell_kept {s0 s : State} (h : Kept s0 s) (p : Nat) :
    Kept s0 (State.mailDoorbell s p) := by
  unfold State.mailDoorbell
  try dsimp only
  repeat' first
    | with_reducible assumption
    | with_reducible apply Kept.ite
    | with_reducible apply State.instCreate_kept
    | with_reducible apply State.instEnable_kept
    | with_reducible apply State.instSet_kept
    | with_reducible apply State.instReset_kept
    | with_reducible apply State.instFreeze_kept
    | with_reducible apply State.instThaw_kept
    | with_reducible apply State.instDestroy_kept
    | with_reducible apply State.instStatus_kept
    | with_reducible apply State.setTranslation_kept
    | with_reducible apply State.invalidate_kept
    | with_reducible apply State.migSave_kept
    | with_reducible apply State.migRestore_kept
    | with_reducible apply State.openSlotWrite_kept
    | with_reducible apply State.openSlotClear_kept
    | with_reducible apply State.openSlotRead_kept
    | with_reducible apply State.mailAnswer_kept
    | intro _
    | split

theorem State.spillField_kept {s0 s : State} (h : Kept s0 s) (i : Nat) (f : Inst → Inst) :
    Kept s0 (State.spillField s i f) := by
  unfold State.spillField
  try dsimp only
  repeat' first
    | with_reducible assumption
    | with_reducible apply Kept.ite
    | with_reducible apply State.errorBit_kept
    | with_reducible apply State.modInst_kept
    | intro _

theorem State.flushVf_kept {s0 s : State} (h : Kept s0 s) (i : Nat) (n : Nat) :
    Kept s0 (State.flushVf s i n) := by
  unfold State.flushVf
  try dsimp only
  repeat' first
    | with_reducible assumption
    | with_reducible apply Kept.ite
    | with_reducible apply State.send_kept
    | with_reducible apply State.modInst_kept
    | intro _

theorem State.writeMsixVf_kept {s0 s : State} (h : Kept s0 s) (i : Nat) (off : Nat) (v : BitVec 32) :
    Kept s0 (State.writeMsixVf s i off v) := by
  unfold State.writeMsixVf
  try dsimp only
  repeat' first
    | with_reducible assumption
    | with_reducible apply State.flushVf_kept
    | with_reducible apply State.modInst_kept

theorem State.controlWord_kept {s0 s : State} (h : Kept s0 s) (i : Nat) (off : Nat) (v : BitVec 32) :
    Kept s0 (State.controlWord s i off v) := by
  unfold State.controlWord
  try dsimp only
  repeat' first
    | with_reducible assumption
    | with_reducible apply Kept.ite
    | with_reducible apply State.modInst_kept
    | with_reducible apply State.spillField_kept
    | with_reducible apply State.writeSpill_kept
    | with_reducible apply State.writeMsixVf_kept
    | intro _
    | split

theorem State.dataWrite_kept {s0 s : State} (h : Kept s0 s) (fn : RegBlock) (off : Nat) (size : Nat) (v : BitVec 64) :
    KeptO s0 (State.dataWrite s fn off size v) := by
  unfold State.dataWrite
  split
  · split
    · dsimp only
      split
      · exact KeptO.some (State.writeData_kept h _ _ _ _ _)
      · exact KeptO.some (State.writeDataLast_kept h _ _ _ _ _)
      · exact KeptO.none _
    · exact KeptO.none _
  · exact KeptO.none _

theorem State.flushPf_kept {s0 s : State} (h : Kept s0 s) (p : Nat) (n : Nat) :
    Kept s0 (State.flushPf s p n) := by
  unfold State.flushPf
  try dsimp only
  repeat' first
    | with_reducible assumption
    | with_reducible apply Kept.ite
    | with_reducible apply State.send_kept
    | with_reducible apply State.modPort_kept
    | intro _

theorem State.writeMsixPf_kept {s0 s : State} (h : Kept s0 s) (p : Nat) (off : Nat) (v : BitVec 32) :
    Kept s0 (State.writeMsixPf s p off v) := by
  unfold State.writeMsixPf
  try dsimp only
  repeat' first
    | with_reducible assumption
    | with_reducible apply State.flushPf_kept
    | with_reducible apply State.modPort_kept

theorem State.writePort_kept {s0 s : State} (h : Kept s0 s) (p : Nat) (off : Nat) (v : BitVec 32) :
    Kept s0 (State.writePort s p off v) := by
  unfold State.writePort
  try dsimp only
  repeat' first
    | with_reducible assumption
    | with_reducible apply Kept.ite
    | with_reducible apply State.modPort_kept
    | with_reducible apply State.mailDoorbell_kept
    | with_reducible apply State.rxAck_kept
    | with_reducible apply State.writeMsixPf_kept
    | intro _

theorem State.ctrlWord_kept {s0 s : State} (h : Kept s0 s) (p : Nat) (off : Nat) (v : BitVec 32) :
    Kept s0 (State.ctrlWord s p off v) := by
  unfold State.ctrlWord
  try dsimp only
  repeat' first
    | with_reducible assumption
    | with_reducible apply Kept.ite
    | with_reducible apply State.writeWindow_kept
    | with_reducible apply State.writePort_kept
    | intro _

theorem State.ringBase_kept {s0 s : State} (h : Kept s0 s) (i : Nat) (q : Nat) (get : Qp → BitVec 64) (set : Qp → BitVec 64 → Qp) (high : Bool) (v : BitVec 32) :
    Kept s0 (State.ringBase s i q get set high v) := by
  unfold State.ringBase
  try dsimp only
  repeat' first
    | with_reducible assumption
    | with_reducible apply Kept.ite
    | with_reducible apply State.modQp_kept
    | with_reducible apply State.errorBit_kept
    | intro _
    | split

theorem State.queueWord_kept {s0 s : State} (h : Kept s0 s) (i : Nat) (q : Nat) (off : Nat) (v : BitVec 32) :
    Kept s0 (State.queueWord s i q off v) := by
  unfold State.queueWord
  try dsimp only
  repeat' first
    | with_reducible assumption
    | with_reducible apply Kept.ite
    | with_reducible apply State.sqWithdraw_kept
    | with_reducible apply State.sqDoorbell_kept
    | with_reducible apply State.cqDoorbell_kept
    | with_reducible apply State.dispatch_kept
    | with_reducible apply State.writeQpCtrl_kept
    | with_reducible apply State.ringBase_kept
    | intro _
    | split

theorem State.instWord_kept {s0 s : State} (h : Kept s0 s) (i : Nat) (off : Nat) (v : BitVec 32) :
    Kept s0 (State.instWord s i off v) := by
  unfold State.instWord
  try dsimp only
  repeat' first
    | with_reducible assumption
    | with_reducible apply Kept.ite
    | with_reducible apply State.controlWord_kept
    | with_reducible apply State.queueWord_kept
    | intro _

theorem State.regWord_kept {s0 s : State} (h : Kept s0 s) (fn : RegBlock) (off : Nat) (v : BitVec 32) :
    Kept s0 (State.regWord s fn off v) := by
  unfold State.regWord
  try dsimp only
  repeat' first
    | with_reducible assumption
    | with_reducible apply State.ctrlWord_kept
    | with_reducible apply State.instWord_kept
    | split

theorem State.registerWrite_kept {s0 s : State} (h : Kept s0 s) (fn : RegBlock) (off : Nat) (size : Nat) (v : BitVec 64) :
    Kept s0 (State.registerWrite s fn off size v) := by
  unfold State.registerWrite
  try dsimp only
  repeat' first
    | with_reducible assumption
    | with_reducible apply Kept.ite
    | with_reducible apply State.dataWrite_kept
    | with_reducible apply State.regWord_kept
    | intro _
    | (refine Kept.ofO (by assumption) ?_)
    | split

/-! ### Machine/Scalar.lean -/

theorem State.division_kept {s0 s : State} (h : Kept s0 s) (k : Nat) (funct : Nat) (rd : Fin 32) (rs1 : Fin 32) (rs2 : Fin 32) (f : BitVec 64 → BitVec 64 → BitVec 64) :
    Kept s0 (State.division s k funct rd rs1 rs2 f) := by
  unfold State.division
  try dsimp only
  repeat' first
    | with_reducible assumption
    | with_reducible apply Kept.ite
    | with_reducible apply State.instr_kept
    | with_reducible apply State.trap_kept
    | with_reducible apply State.setRun_kept
    | simp only [Kept.lit, List.length_modify, List.length_set, List.length_map, List.length_mapIdx]
    | intro _

theorem State.alu_kept {s0 s : State} (h : Kept s0 s) (k : Nat) (funct : Nat) (rd : Fin 32) (rs1 : Fin 32) (rs2 : Fin 32) (charge : Nat) (f : BitVec 64 → BitVec 64 → BitVec 64) :
    Kept s0 (State.alu s k funct rd rs1 rs2 charge f) := by
  unfold State.alu
  try dsimp only
  repeat' first
    | with_reducible assumption
    | with_reducible apply State.simple_kept

theorem State.aluI_kept {s0 s : State} (h : Kept s0 s) (k : Nat) (major : Nat) (rd : Fin 32) (rs1 : Fin 32) (imm : BitVec 16) (f : BitVec 64 → BitVec 64 → BitVec 64) :
    Kept s0 (State.aluI s k major rd rs1 imm f) := by
  unfold State.aluI
  try dsimp only
  repeat' first
    | with_reducible assumption
    | with_reducible apply State.simple_kept

theorem State.fpu_kept {s0 s : State} (h : Kept s0 s) (k : Nat) (funct : Nat) (rd : Fin 32) (rs1 : Fin 32) (rs2 : Fin 32) (charge : Nat) (f : Nat → BitVec 64 → BitVec 64 → FRes) :
    Kept s0 (State.fpu s k funct rd rs1 rs2 charge f) := by
  unfold State.fpu
  try dsimp only
  repeat' first
    | with_reducible assumption
    | with_reducible apply State.simple_kept

theorem State.storeWin_kept {s0 s : State} (h : Kept s0 s) (k : Nat) (major : Nat) (rs1 : Fin 32) (rs2 : Fin 32) (imm : BitVec 16) (n : Nat) (f : Run → Nat) :
    Kept s0 (State.storeWin s k major rs1 rs2 imm n f) := by
  unfold State.storeWin
  try dsimp only
  repeat' first
    | with_reducible assumption
    | with_reducible apply State.instr_kept
    | with_reducible apply State.trap_kept
    | with_reducible apply State.needPage_kept
    | with_reducible apply State.modRun_kept
    | with_reducible apply State.winWrite_kept
    | simp only [Kept.lit, List.length_modify, List.length_set, List.length_map, List.length_mapIdx]
    | intro _
    | split

theorem State.branch_kept {s0 s : State} (h : Kept s0 s) (k : Nat) (major : Nat) (rs1 : Fin 32) (rs2 : Fin 32) (off : BitVec 16) (taken : BitVec 64 → BitVec 64 → Bool) :
    Kept s0 (State.branch s k major rs1 rs2 off taken) := by
  unfold State.branch
  try dsimp only
  repeat' first
    | with_reducible assumption
    | with_reducible apply State.instr_kept
    | with_reducible apply State.setRun_kept
    | simp only [Kept.lit, List.length_modify, List.length_set, List.length_map, List.length_mapIdx]
    | intro _

theorem State.shiftI_kept {s0 s : State} (h : Kept s0 s) (k : Nat) (kind : Nat) (rd : Fin 32) (rs1 : Fin 32) (imm : BitVec 16) (f : BitVec 64 → Nat → BitVec 64) :
    Kept s0 (State.shiftI s k kind rd rs1 imm f) := by
  unfold State.shiftI
  try dsimp only
  repeat' first
    | with_reducible assumption
    | with_reducible apply State.simple_kept

theorem State.loadWin_kept {s0 s : State} (h : Kept s0 s) (k : Nat) (major : Nat) (rd : Fin 32) (rs1 : Fin 32) (imm : BitVec 16) (n : Nat) (f : Run → Bytes → Run) :
    Kept s0 (State.loadWin s k major rd rs1 imm n f) := by
  unfold State.loadWin
  try dsimp only
  repeat' first
    | with_reducible assumption
    | with_reducible apply State.instr_kept
    | with_reducible apply State.trap_kept
    | with_reducible apply State.needPage_kept
    | with_reducible apply State.setRun_kept
    | simp only [Kept.lit, List.length_modify, List.length_set, List.length_map, List.length_mapIdx]
    | intro _
    | split

/-! ### Machine/Services.lean -/

theorem State.gate_kept {s0 s : State} (h : Kept s0 s) (r : Reply × State)
    (hr : Kept s0 r.2) :
    Kept s0 (State.gate s r).2 := by
  unfold State.gate
  split
  · exact h
  · exact hr

theorem State.endTxn_kept {s0 s : State} (h : Kept s0 s) (x : Session) (id : BitVec 32) (run : State → Reply × State)
    (hrun : ∀ s, Kept s0 s → Kept s0 (run s).2) :
    Kept s0 (State.endTxn s x id run).2 := by
  unfold State.endTxn
  dsimp only
  split
  · exact State.noteService_kept h _
  · exact State.gate_kept (State.noteService_kept h _) _ (hrun _ (State.noteService_kept h _))

theorem State.setBlock_kept {s0 s : State} (h : Kept s0 s) (x : Session) (b : Option BlockTransfer) :
    Kept s0 (State.setBlock s x b) := by
  unfold State.setBlock
  try dsimp only
  repeat' first
    | with_reducible assumption
    | with_reducible apply State.modSession_kept

theorem State.writeDispose_kept {s0 s : State} (h : Kept s0 s) (x : Session) (v : Bytes) (pass : Bool) :
    Kept s0 (State.writeDispose s x v pass).2 := by
  unfold State.writeDispose
  try dsimp only
  repeat' first
    | with_reducible assumption
    | with_reducible apply State.dispose_kept
    | split

theorem State.writeLogClear_kept {s0 s : State} (h : Kept s0 s) (x : Session) (v : Bytes) :
    Kept s0 (State.writeLogClear s x v).2 := by
  unfold State.writeLogClear
  try dsimp only
  repeat' first
    | with_reducible assumption
    | with_reducible apply Kept.iteSnd
    | with_reducible apply State.clearLog_kept
    | simp only []
    | intro _

theorem State.writeLogCheck_kept {s0 s : State} (h : Kept s0 s) (v : Bytes) :
    Kept s0 (State.writeLogCheck s v).2 := by
  unfold State.writeLogCheck
  try dsimp only
  repeat' first
    | with_reducible assumption
    | with_reducible apply Kept.iteSnd
    | with_reducible apply State.checkLog_kept
    | simp only []
    | intro _

theorem State.writeCardOp_kept {s0 s : State} (h : Kept s0 s) (x : Session) (v : Bytes) (m : CardImage) :
    Kept s0 (State.writeCardOp s x v m).2 := by
  unfold State.writeCardOp
  try dsimp only
  repeat' first
    | with_reducible assumption
    | with_reducible apply State.cardOp_kept
    | split

theorem State.setTime_kept {s0 s : State} (h : Kept s0 s) (v : Bytes) :
    Kept s0 (State.setTime s v).2 := by
  unfold State.setTime
  try dsimp only
  repeat' first
    | with_reducible assumption
    | with_reducible apply Kept.iteSnd
    | with_reducible apply Kept.parts
    | simp only [Kept.lit]
    | intro _

theorem State.writeWo_kept {s0 s : State} (h : Kept s0 s) (x : Session) (key : Nat) (v : Bytes) :
    Kept s0 (State.writeWo s x key v).2 := by
  unfold State.writeWo
  try dsimp only
  repeat' first
    | with_reducible assumption
    | with_reducible apply State.tamperAck_kept
    | with_reducible apply State.archiveRatchet_kept
    | with_reducible apply State.lcRequestBy_kept
    | with_reducible apply State.debugAllow_kept
    | with_reducible apply State.take_kept
    | with_reducible apply State.writeDispose_kept
    | with_reducible apply State.writeLogClear_kept
    | with_reducible apply State.writeLogCheck_kept
    | with_reducible apply State.writeCardOp_kept
    | with_reducible apply State.setTime_kept
    | with_reducible apply State.writeDigest_kept
    | split

theorem State.txnBegin_kept {s0 s : State} (h : Kept s0 s) (x : Session) :
    Kept s0 (State.txnBegin s x).2 := by
  unfold State.txnBegin
  try dsimp only
  repeat' first
    | with_reducible assumption
    | with_reducible apply Kept.iteSnd
    | with_reducible apply State.noteService_kept
    | with_reducible apply State.gate_kept
    | with_reducible apply Kept.parts
    | simp only [Kept.lit]
    | intro _

theorem State.blockTimeout_kept {s0 s : State} (h : Kept s0 s) (id : BitVec 32) :
    Kept s0 (State.blockTimeout s id) := by
  unfold State.blockTimeout
  try dsimp only
  repeat' first
    | with_reducible assumption
    | with_reducible apply State.setBlock_kept
    | with_reducible apply State.until_kept
    | split

theorem State.noteUpdate_kept {s0 s : State} (h : Kept s0 s) (st : Status) (handles : Bytes) :
    Kept s0 (State.noteUpdate s st handles) := by
  unfold State.noteUpdate
  try dsimp only
  repeat' first
    | with_reducible assumption
    | with_reducible apply Kept.parts
    | simp only [Kept.lit]

theorem State.readEntry_kept {s0 s : State} (h : Kept s0 s) (x : Session) (k : OdKey) :
    Kept s0 (State.readEntry s x k).2 := by
  unfold State.readEntry
  try dsimp only
  repeat' first
    | with_reducible assumption
    | with_reducible apply Kept.iteSnd
    | with_reducible apply State.noteService_kept
    | simp only []
    | intro _
    | split

theorem State.writeOwn_kept {s0 s : State} (h : Kept s0 s) (z : ZReq) (key : Nat) (run : Session → State → Reply × State)
    (hrun : ∀ x s, Kept s0 s → Kept s0 (run x s).2) :
    Kept s0 (State.writeOwn s z key run) := by
  refine State.answer_kept h _ _ _ fun x s h => ?_
  dsimp only
  split
  · exact State.noteService_kept h _
  · exact State.gate_kept (State.noteService_kept h _) _ (hrun _ _ (State.noteService_kept h _))

theorem State.disposeOwn_kept {s0 s : State} (h : Kept s0 s) (z : ZReq) (id : BitVec 32) (d : Disposition) (pass : Bool) :
    Kept s0 (State.disposeOwn s z id d pass) := by
  unfold State.disposeOwn
  try dsimp only
  repeat' first
    | with_reducible assumption
    | with_reducible apply State.writeOwn_kept
    | with_reducible apply State.dispose_kept
    | intro _

theorem State.blockData_kept {s0 s : State} (h : Kept s0 s) (x : Session) (b : BlockTransfer) (n : Nat) (data : Bytes) :
    Kept s0 (State.blockData s x b n data).2 := by
  unfold State.blockData
  try dsimp only
  repeat' first
    | with_reducible assumption
    | with_reducible apply Kept.iteSnd
    | with_reducible apply State.setBlock_kept
    | simp only []
    | intro _

theorem State.idleTimeout_kept {s0 s : State} (h : Kept s0 s) (id : BitVec 32) :
    Kept s0 (State.idleTimeout s id) := by
  unfold State.idleTimeout
  try dsimp only
  repeat' first
    | with_reducible assumption
    | with_reducible apply Kept.ite
    | with_reducible apply State.closeSession_kept
    | with_reducible apply State.until_kept
    | intro _
    | split

theorem State.txnTimeout_kept {s0 s : State} (h : Kept s0 s) :
    Kept s0 (State.txnTimeout s) := by
  unfold State.txnTimeout
  try dsimp only
  repeat' first
    | with_reducible assumption
    | with_reducible apply Kept.ite
    | with_reducible apply State.event_kept
    | with_reducible apply State.rollback_kept
    | with_reducible apply State.until_kept
    | intro _
    | split

theorem State.submitUpdate_kept {s0 s : State} (h : Kept s0 s) (x : Session) (m : Bytes) :
    Kept s0 (State.submitUpdate s x m).2 := by
  unfold State.submitUpdate
  try dsimp only
  repeat' first
    | with_reducible assumption
    | with_reducible apply Kept.iteSnd
    | with_reducible apply State.noteUpdate_kept
    | with_reducible apply State.updateRefused_kept
    | with_reducible apply State.applyUpdate_kept
    | with_reducible apply State.dispatch_kept
    | with_reducible apply State.conflict_kept
    | simp only []
    | intro _
    | with_reducible apply Kept.when
    | split

theorem State.writeValue_kept {s0 s : State} (h : Kept s0 s) (x : Session) (key : Nat) (d : EntryDef) (v : Bytes) :
    Kept s0 (State.writeValue s x key d v).2 := by
  unfold State.writeValue
  try dsimp only
  repeat' first
    | with_reducible assumption
    | with_reducible apply Kept.iteSnd
    | with_reducible apply State.writeWo_kept
    | with_reducible apply State.gate_kept
    | with_reducible apply State.stageValue_kept
    | with_reducible apply State.writeRw_kept
    | simp only []
    | intro _

theorem State.blockWrite_kept {s0 s : State} (h : Kept s0 s) (x : Session) (key : Nat) (d : EntryDef) (v : Bytes) :
    Kept s0 (State.blockWrite s x key d v).2 := by
  unfold State.blockWrite
  try dsimp only
  repeat' first
    | with_reducible assumption
    | with_reducible apply Kept.iteSnd
    | with_reducible apply State.gate_kept
    | with_reducible apply State.submitUpdate_kept
    | with_reducible apply State.writeValue_kept
    | intro _

theorem State.replayDiscard_kept {s0 s : State} (h : Kept s0 s) (id : BitVec 32) (seq : Nat) (tagOk : Bool) :
    Kept s0 (State.replayDiscard s id seq tagOk) := by
  unfold State.replayDiscard
  try dsimp only
  repeat' first
    | with_reducible assumption
    | with_reducible apply Kept.ite
    | with_reducible apply State.discardProtected_kept
    | with_reducible apply State.bump_kept
    | intro _
    | split

theorem State.subscribe_kept {s0 s : State} (h : Kept s0 s) (x : Session) (min : Nat) (inst : Nat) :
    Kept s0 (State.subscribe s x min inst).2 := by
  unfold State.subscribe
  try dsimp only
  repeat' first
    | with_reducible assumption
    | with_reducible apply Kept.iteSnd
    | with_reducible apply State.modSession_kept
    | simp only []
    | intro _

theorem State.writeEntry_kept {s0 s : State} (h : Kept s0 s) (x : Session) (k : OdKey) (v : Bytes) :
    Kept s0 (State.writeEntry s x k v).2 := by
  unfold State.writeEntry
  try dsimp only
  repeat' first
    | with_reducible assumption
    | with_reducible apply Kept.iteSnd
    | with_reducible apply State.noteService_kept
    | with_reducible apply State.writeValue_kept
    | simp only []
    | intro _
    | split

theorem State.writeService_kept {s0 s : State} (h : Kept s0 s) (z : ZReq) (k : OdKey) (v : Bytes) :
    Kept s0 (State.writeService s z k v) := by
  unfold State.writeService
  try dsimp only
  repeat' first
    | with_reducible assumption
    | with_reducible apply State.serve_kept
    | with_reducible apply State.writeEntry_kept
    | with_reducible apply State.followNetwork_kept
    | intro _

theorem State.cardOwn_kept {s0 s : State} (h : Kept s0 s) (z : ZReq) (c : CardOpCode) (arg : Nat) (m : CardImage) :
    Kept s0 (State.cardOwn s z c arg m) := by
  unfold State.cardOwn
  try dsimp only
  repeat' first
    | with_reducible assumption
    | with_reducible apply State.writeOwn_kept
    | with_reducible apply State.cardOp_kept
    | intro _

theorem State.inBlock_kept {s0 s : State} (h : Kept s0 s) (x : Session) (k : OdKey) (run : BlockTransfer → EntryDef → State → Reply × State)
    (hrun : ∀ b d s, Kept s0 s → Kept s0 (run b d s).2) :
    Kept s0 (State.inBlock s x k run).2 := by
  unfold State.inBlock
  dsimp only
  repeat' first
    | with_reducible assumption
    | with_reducible apply Kept.iteSnd
    | with_reducible apply State.noteService_kept
    | with_reducible apply hrun
    | simp only []
    | intro _
    | split

theorem State.closeBlock_kept {s0 s : State} (h : Kept s0 s) (x : Session) (b : BlockTransfer) (d : EntryDef) (digest : Bytes) :
    Kept s0 (State.closeBlock s x b d digest).2 := by
  unfold State.closeBlock
  try dsimp only
  repeat' first
    | with_reducible assumption
    | with_reducible apply Kept.iteSnd
    | with_reducible apply State.setBlock_kept
    | with_reducible apply State.blockWrite_kept
    | simp only []
    | intro _
    | split

theorem State.acceptRestart_kept {s0 s : State} (h : Kept s0 s) (cred : BitVec 64) :
    Kept s0 (State.acceptRestart s cred) := by
  unfold State.acceptRestart
  try dsimp only
  repeat' first
    | with_reducible assumption
    | with_reducible apply Kept.ite
    | with_reducible apply State.setOd_kept
    | with_reducible apply State.event_kept
    | with_reducible apply State.endCard_kept
    | with_reducible apply Kept.parts
    | simp only [Kept.lit]
    | intro _

theorem State.openBlock_kept {s0 s : State} (h : Kept s0 s) (x : Session) (key : Nat) (d : EntryDef) (write : Bool) (total : Nat) :
    Kept s0 (State.openBlock s x key d write total).2 := by
  unfold State.openBlock
  try dsimp only
  repeat' first
    | with_reducible assumption
    | with_reducible apply Kept.iteSnd
    | with_reducible apply State.gate_kept
    | with_reducible apply State.setBlock_kept
    | simp only []
    | intro _

theorem State.restartCheck_kept {s0 s : State} (h : Kept s0 s) (x : Session) (nonce : BitVec 32) :
    Kept s0 (State.restartCheck s x nonce).2 := by
  unfold State.restartCheck
  try dsimp only
  repeat' first
    | with_reducible assumption
    | with_reducible apply Kept.iteSnd
    | simp only []
    | intro _

/-! ### Machine/Step.lean -/

theorem State.idle_kept {s0 s : State} (h : Kept s0 s) :
    Kept s0 (State.idle s) := by
  unfold State.idle
  try dsimp only
  repeat' first
    | with_reducible assumption
    | with_reducible apply State.dispatch_kept
    | with_reducible apply State.advance_kept

/-! ### Machine/Vector.lean -/

theorem State.moveElem_kept {s0 s : State} (h : Kept s0 s) (k : Nat) (j : Job) (r : Run) (v : VFields) (store : Bool) (w : Win) (o : Nat) (a : Nat) (i : Nat) :
    Kept s0 (State.moveElem s k j r v store w o a i) := by
  unfold State.moveElem
  try dsimp only
  repeat' first
    | with_reducible assumption
    | with_reducible apply Kept.ite
    | with_reducible apply State.winWrite_kept
    | with_reducible apply State.modRun_kept
    | intro _

theorem State.vecMem_kept {s0 s : State} (h : Kept s0 s) (k : Nat) (v : VFields) (store : Bool) (mode : Nat) (a5 : List Nat) :
    Kept s0 (State.vecMem s k v store mode a5) := by
  induction a5 generalizing s with
  | nil =>
    unfold State.vecMem
    exact State.modRun_kept h _ _
  | cons x l ih =>
    unfold State.vecMem
    try dsimp only
    repeat' first
      | with_reducible assumption
      | with_reducible apply Kept.ite
      | with_reducible apply ih
      | with_reducible apply State.modRun_kept
      | with_reducible apply State.trapAt_kept
      | with_reducible apply State.needPage_kept
      | with_reducible apply State.moveElem_kept
      | intro _
      | split

theorem State.vecAccess_kept {s0 s : State} (h : Kept s0 s) (k : Nat) (v : VFields) (store : Bool) (mode : Nat) :
    Kept s0 (State.vecAccess s k v store mode) := by
  unfold State.vecAccess
  try dsimp only
  repeat' first
    | with_reducible assumption
    | with_reducible apply Kept.ite
    | with_reducible apply State.instr_kept
    | with_reducible apply State.trapAt_kept
    | with_reducible apply State.vecMem_kept
    | simp only [Kept.lit, List.length_modify, List.length_set, List.length_map, List.length_mapIdx]
    | intro _

theorem State.vecOp_kept {s0 s : State} (h : Kept s0 s) (k : Nat) (v : VFields) (illegal : Run → Bool) (charge : Nat) (f : Run → Run) :
    Kept s0 (State.vecOp s k v illegal charge f) := by
  unfold State.vecOp
  try dsimp only
  repeat' first
    | with_reducible assumption
    | with_reducible apply Kept.ite
    | with_reducible apply State.instr_kept
    | with_reducible apply State.trapAt_kept
    | with_reducible apply State.setRun_kept
    | simp only [Kept.lit, List.length_modify, List.length_set, List.length_map, List.length_mapIdx]
    | intro _

theorem State.vecCmp_kept {s0 s : State} (h : Kept s0 s) (k : Nat) (v : VFields) (f : Nat → Nat → Nat → Bool) :
    Kept s0 (State.vecCmp s k v f) := by
  unfold State.vecCmp
  try dsimp only
  repeat' first
    | with_reducible assumption
    | with_reducible apply State.vecOp_kept

theorem State.vecConfig_kept {s0 s : State} (h : Kept s0 s) (k : Nat) (v : VFields) (illegal : Run → Bool) (f : Run → Run) :
    Kept s0 (State.vecConfig s k v illegal f) := by
  unfold State.vecConfig
  try dsimp only
  repeat' first
    | with_reducible assumption
    | with_reducible apply Kept.ite
    | with_reducible apply State.instr_kept
    | with_reducible apply State.trapAt_kept
    | with_reducible apply State.setRun_kept
    | simp only [Kept.lit, List.length_modify, List.length_set, List.length_map, List.length_mapIdx]
    | intro _

theorem State.vecBlend_kept {s0 s : State} (h : Kept s0 s) (k : Nat) (v : VFields) :
    Kept s0 (State.vecBlend s k v) := by
  unfold State.vecBlend
  try dsimp only
  repeat' first
    | with_reducible assumption
    | with_reducible apply State.vecOp_kept

theorem State.vecMod_kept {s0 s : State} (h : Kept s0 s) (k : Nat) (charge : Nat) (v : VFields) (b : Run → List Nat) (f : Nat → Nat → Nat → Nat) :
    Kept s0 (State.vecMod s k charge v b f) := by
  unfold State.vecMod
  try dsimp only
  repeat' first
    | with_reducible assumption
    | with_reducible apply State.vecOp_kept

theorem State.vecFloat_kept {s0 s : State} (h : Kept s0 s) (k : Nat) (charge : Nat) (v : VFields) (f : Nat → BitVec 64 → BitVec 64 → FRes) :
    Kept s0 (State.vecFloat s k charge v f) := by
  unfold State.vecFloat
  try dsimp only
  repeat' first
    | with_reducible assumption
    | with_reducible apply State.vecOp_kept

theorem State.vecOut_kept {s0 s : State} (h : Kept s0 s) (k : Nat) (charge : Nat) (v : VFields) (f : Run → Nat) :
    Kept s0 (State.vecOut s k charge v f) := by
  unfold State.vecOut
  try dsimp only
  repeat' first
    | with_reducible assumption
    | with_reducible apply State.vecOp_kept

theorem State.vecPerm_kept {s0 s : State} (h : Kept s0 s) (k : Nat) (charge : Nat) (v : VFields) (illegal : Bool) (f : Run → Nat → Nat) :
    Kept s0 (State.vecPerm s k charge v illegal f) := by
  unfold State.vecPerm
  try dsimp only
  repeat' first
    | with_reducible assumption
    | with_reducible apply State.vecOp_kept

theorem State.vecInt_kept {s0 s : State} (h : Kept s0 s) (k : Nat) (charge : Nat) (v : VFields) (f : Nat → Nat → Nat → Nat) :
    Kept s0 (State.vecInt s k charge v f) := by
  unfold State.vecInt
  try dsimp only
  repeat' first
    | with_reducible assumption
    | with_reducible apply State.vecOp_kept

end Sys2Proof.Machine
end

