-- ==== Sys2Proof/Laws/KeptCommands.lean ====
section
/-! SUPPORT. Every command of these files of Machine/ answers a next state, and keeps what Laws/Kept.lean says: Cards, Care, DigestWindows, EventLog, HashOps, Invoke, JobInput, KemOps, KeyOps, LastActs, LifeCycle, Mailbox, MgmtCore, Migration, Pinning, Ports, Power, Random, Registers, Rings, Services, SigOps, Startup, Symmetric, Tempo, Utility. -/

namespace Sys2Proof.Machine

open Sys2Proof

/-! ### Machine/Cards.lean -/

theorem execCardDetectOpen_kept (s : State) :
    ∃ t, execCardDetectOpen s = .next t ∧ Kept s t := by
  refine ⟨_, rfl, ?_⟩
  try dsimp only
  have h := Kept.refl s
  repeat' first
    | with_reducible assumption
    | with_reducible apply Kept.ite
    | with_reducible apply State.detectOpen_kept
    | intro _

theorem execCardDetectDebounced_kept (s : State) :
    ∃ t, execCardDetectDebounced s = .next t ∧ Kept s t := by
  refine ⟨_, rfl, ?_⟩
  try dsimp only
  have h := Kept.refl s
  repeat' first
    | with_reducible assumption
    | with_reducible apply Kept.ite
    | with_reducible apply State.debounced_kept
    | intro _

theorem execRestoreReadPassDone_kept (ok : Bool) (s : State) :
    ∃ t, execRestoreReadPassDone ok s = .next t ∧ Kept s t := by
  refine ⟨_, rfl, ?_⟩
  try dsimp only
  have h := Kept.refl s
  repeat' first
    | with_reducible assumption
    | with_reducible apply Kept.ite
    | with_reducible apply State.readPassDone_kept
    | intro _

theorem execCardRest_kept (s : State) :
    ∃ t, execCardRest s = .next t ∧ Kept s t := by
  refine ⟨_, rfl, ?_⟩
  try dsimp only
  have h := Kept.refl s
  repeat' first
    | with_reducible assumption
    | with_reducible apply Kept.ite
    | with_reducible apply State.until_kept
    | with_reducible apply Kept.parts
    | simp only [Kept.lit]
    | intro _

theorem execCardSegmentCommitted_kept (s : State) :
    ∃ t, execCardSegmentCommitted s = .next t ∧ Kept s t := by
  refine ⟨_, rfl, ?_⟩
  try dsimp only
  have h := Kept.refl s
  repeat' first
    | with_reducible assumption
    | with_reducible apply Kept.ite
    | with_reducible apply Kept.parts
    | simp only [Kept.lit]
    | intro _

theorem execCardReadyPoll_kept (ready : Bool) (s18a : Bool) (s : State) :
    ∃ t, execCardReadyPoll ready s18a s = .next t ∧ Kept s t := by
  refine ⟨_, rfl, ?_⟩
  try dsimp only
  have h := Kept.refl s
  repeat' first
    | with_reducible assumption
    | with_reducible apply Kept.ite
    | with_reducible apply State.readyPoll_kept
    | intro _

theorem execBackupResumeExpiry_kept (s : State) :
    ∃ t, execBackupResumeExpiry s = .next t ∧ Kept s t := by
  refine ⟨_, rfl, ?_⟩
  try dsimp only
  have h := Kept.refl s
  repeat' first
    | with_reducible assumption
    | with_reducible apply Kept.ite
    | with_reducible apply State.endCardOp_kept
    | with_reducible apply State.until_kept
    | intro _

theorem execCardAuthenticated_kept (cert : CardCert) (s : State) :
    ∃ t, execCardAuthenticated cert s = .next t ∧ Kept s t := by
  refine ⟨_, rfl, ?_⟩
  try dsimp only
  have h := Kept.refl s
  repeat' first
    | with_reducible assumption
    | with_reducible apply Kept.ite
    | with_reducible apply State.identified_kept
    | with_reducible apply State.refuseCard_kept
    | intro _

theorem execCardOpDone_kept (reply : CardReply) (s : State) :
    ∃ t, execCardOpDone reply s = .next t ∧ Kept s t := by
  refine ⟨_, rfl, ?_⟩
  try dsimp only
  have h := Kept.refl s
  repeat' first
    | with_reducible assumption
    | with_reducible apply Kept.ite
    | with_reducible apply State.cardOpDone_kept
    | intro _

theorem execCardDetectClose_kept (s : State) :
    ∃ t, execCardDetectClose s = .next t ∧ Kept s t := by
  refine ⟨_, rfl, ?_⟩
  try dsimp only
  have h := Kept.refl s
  repeat' first
    | with_reducible assumption
    | with_reducible apply Kept.ite
    | with_reducible apply Kept.parts
    | simp only [Kept.lit]
    | intro _

theorem execApprovalExpiry_kept (which : Fin 8) (s : State) :
    ∃ t, execApprovalExpiry which s = .next t ∧ Kept s t := by
  refine ⟨_, rfl, ?_⟩
  try dsimp only
  have h := Kept.refl s
  repeat' first
    | with_reducible assumption
    | with_reducible apply State.until_kept
    | with_reducible apply Kept.parts
    | simp only [Kept.lit]
    | split

/-! ### Machine/Care.lean -/

theorem execSelfTestVisit_kept (unit : Fin 387) (pass : Bool) (duration : Nat) (fixed : Nat) (s : State) :
    ∃ t, execSelfTestVisit unit pass duration fixed s = .next t ∧ Kept s t := by
  refine ⟨_, rfl, ?_⟩
  try dsimp only
  have h := Kept.refl s
  repeat' first
    | with_reducible assumption
    | with_reducible apply Kept.ite
    | with_reducible apply State.selfTestVisit_kept
    | intro _

theorem execSpareVisitDone_kept (unit : Fin 387) (pass : Bool) (s : State) :
    ∃ t, execSpareVisitDone unit pass s = .next t ∧ Kept s t := by
  refine ⟨_, rfl, ?_⟩
  try dsimp only
  have h := Kept.refl s
  repeat' first
    | with_reducible assumption
    | with_reducible apply Kept.ite
    | with_reducible apply State.spareVisitDone_kept
    | intro _

theorem execScrub_kept (loc : MemLoc) (err : EccError) (s : State) :
    ∃ t, execScrub loc err s = .next t ∧ Kept s t := by
  refine ⟨_, rfl, ?_⟩
  try dsimp only
  have h := Kept.refl s
  repeat' first
    | with_reducible assumption
    | with_reducible apply Kept.ite
    | with_reducible apply State.dispatch_kept
    | with_reducible apply State.scrub_kept
    | intro _

theorem execWatchdogExpiry_kept (stage : StageLoc) (cleared : Bool) (s : State) :
    ∃ t, execWatchdogExpiry stage cleared s = .next t ∧ Kept s t := by
  refine ⟨_, rfl, ?_⟩
  try dsimp only
  have h := Kept.refl s
  repeat' first
    | with_reducible assumption
    | with_reducible apply Kept.ite
    | with_reducible apply State.dispatch_kept
    | with_reducible apply State.watchdog_kept
    | intro _

theorem execRetiringUnitIdle_kept (unit : Fin 387) (s : State) :
    ∃ t, execRetiringUnitIdle unit s = .next t ∧ Kept s t := by
  refine ⟨_, rfl, ?_⟩
  try dsimp only
  have h := Kept.refl s
  repeat' first
    | with_reducible assumption
    | with_reducible apply Kept.ite
    | with_reducible apply State.modUnit_kept
    | intro _

theorem execGraceTimerExpiry_kept (id : Nat) (s : State) :
    ∃ t, execGraceTimerExpiry id s = .next t ∧ Kept s t := by
  refine ⟨_, rfl, ?_⟩
  try dsimp only
  have h := Kept.refl s
  repeat' first
    | with_reducible assumption
    | with_reducible apply State.graceExpiry_kept

/-! ### Machine/DigestWindows.lean -/

theorem execData_kept (port : Fin 4) (win : Fin 4) (size : Nat) (value : BitVec 64) (poisoned : Bool) (s : State) :
    ∃ t, execData port win size value poisoned s = .next t ∧ Kept s t := by
  refine ⟨_, rfl, ?_⟩
  try dsimp only
  have h := Kept.refl s
  repeat' first
    | with_reducible assumption
    | with_reducible apply State.writeData_kept

theorem execDataLast_kept (port : Fin 4) (win : Fin 4) (size : Nat) (value : BitVec 64) (poisoned : Bool) (s : State) :
    ∃ t, execDataLast port win size value poisoned s = .next t ∧ Kept s t := by
  refine ⟨_, rfl, ?_⟩
  try dsimp only
  have h := Kept.refl s
  repeat' first
    | with_reducible assumption
    | with_reducible apply State.writeDataLast_kept

theorem execDigestStart_kept (port : Fin 4) (win : Fin 4) (value : BitVec 32) (s : State) :
    ∃ t, execDigestStart port win value s = .next t ∧ Kept s t := by
  refine ⟨_, rfl, ?_⟩
  try dsimp only
  have h := Kept.refl s
  repeat' first
    | with_reducible assumption
    | with_reducible apply State.writeWctrl_kept

theorem execRelease_kept (port : Fin 4) (win : Fin 4) (value : BitVec 32) (s : State) :
    ∃ t, execRelease port win value s = .next t ∧ Kept s t := by
  refine ⟨_, rfl, ?_⟩
  try dsimp only
  have h := Kept.refl s
  repeat' first
    | with_reducible assumption
    | with_reducible apply State.releaseWindow_kept

theorem execDigestWindowIdle_kept (win : Fin 4) (s : State) :
    ∃ t, execDigestWindowIdle win s = .next t ∧ Kept s t := by
  refine ⟨_, rfl, ?_⟩
  try dsimp only
  have h := Kept.refl s
  repeat' first
    | with_reducible assumption
    | with_reducible apply State.windowIdle_kept

theorem execDigestRead_kept (port : Fin 4) (win : Fin 4) (word : Fin 8) (s : State) :
    ∃ t, execDigestRead port win word s = .next t ∧ Kept s t := by
  refine ⟨_, rfl, ?_⟩
  try dsimp only
  have h := Kept.refl s
  repeat' first
    | with_reducible assumption
    | with_reducible apply State.readDigest_kept

theorem execClaim_kept (port : Fin 4) (win : Fin 4) (value : BitVec 32) (s : State) :
    ∃ t, execClaim port win value s = .next t ∧ Kept s t := by
  refine ⟨_, rfl, ?_⟩
  try dsimp only
  have h := Kept.refl s
  repeat' first
    | with_reducible assumption
    | with_reducible apply State.claimWindow_kept

/-! ### Machine/EventLog.lean -/

theorem execEventCommit_kept (s : State) :
    ∃ t, execEventCommit s = .next t ∧ Kept s t := by
  refine ⟨_, rfl, ?_⟩
  try dsimp only
  have h := Kept.refl s
  repeat' first
    | with_reducible assumption
    | with_reducible apply Kept.ite
    | with_reducible apply State.commitOne_kept
    | intro _

/-! ### Machine/HashOps.lean -/

theorem execStatefulSign_kept (slot : Fin 16384) (s : State) :
    ∃ t, execStatefulSign slot s = .next t ∧ Kept s t := by
  refine ⟨_, rfl, ?_⟩
  try dsimp only
  have h := Kept.refl s
  repeat' first
    | with_reducible assumption
    | with_reducible apply State.compute_kept

theorem execStatefulKeygen_kept (slot : Fin 16384) (s : State) :
    ∃ t, execStatefulKeygen slot s = .next t ∧ Kept s t := by
  refine ⟨_, rfl, ?_⟩
  try dsimp only
  have h := Kept.refl s
  repeat' first
    | with_reducible assumption
    | with_reducible apply State.compute_kept

theorem execLeafBlockJournaled_kept (index : Nat) (s : State) :
    ∃ t, execLeafBlockJournaled index s = .next t ∧ Kept s t := by
  refine ⟨_, rfl, ?_⟩
  try dsimp only
  have h := Kept.refl s
  repeat' first
    | with_reducible assumption
    | with_reducible apply State.leafBlockJournaled_kept

theorem execMac_kept (slot : Fin 16384) (s : State) :
    ∃ t, execMac slot s = .next t ∧ Kept s t := by
  refine ⟨_, rfl, ?_⟩
  try dsimp only
  have h := Kept.refl s
  repeat' first
    | with_reducible assumption
    | with_reducible apply State.compute_kept

theorem execCtxClose_kept (slot : Fin 16384) (s : State) :
    ∃ t, execCtxClose slot s = .next t ∧ Kept s t := by
  refine ⟨_, rfl, ?_⟩
  try dsimp only
  have h := Kept.refl s
  repeat' first
    | with_reducible assumption
    | with_reducible apply State.compute_kept

theorem execCtxExpired_kept (inst : Fin 1024) (ctx : Fin 4096) (s : State) :
    ∃ t, execCtxExpired inst ctx s = .next t ∧ Kept s t := by
  refine ⟨_, rfl, ?_⟩
  try dsimp only
  have h := Kept.refl s
  repeat' first
    | with_reducible assumption
    | with_reducible apply State.ctxExpired_kept

theorem execHash_kept (slot : Fin 16384) (s : State) :
    ∃ t, execHash slot s = .next t ∧ Kept s t := by
  refine ⟨_, rfl, ?_⟩
  try dsimp only
  have h := Kept.refl s
  repeat' first
    | with_reducible assumption
    | with_reducible apply State.compute_kept

theorem execStatefulStatus_kept (slot : Fin 16384) (s : State) :
    ∃ t, execStatefulStatus slot s = .next t ∧ Kept s t := by
  refine ⟨_, rfl, ?_⟩
  try dsimp only
  have h := Kept.refl s
  repeat' first
    | with_reducible assumption
    | with_reducible apply State.compute_kept

theorem execStatefulBuildBlock_kept (index : Nat) (s : State) :
    ∃ t, execStatefulBuildBlock index s = .next t ∧ Kept s t := by
  refine ⟨_, rfl, ?_⟩
  try dsimp only
  have h := Kept.refl s
  repeat' first
    | with_reducible assumption
    | with_reducible apply State.buildBlock_kept

theorem execQuote_kept (slot : Fin 16384) (s : State) :
    ∃ t, execQuote slot s = .next t ∧ Kept s t := by
  refine ⟨_, rfl, ?_⟩
  try dsimp only
  have h := Kept.refl s
  repeat' first
    | with_reducible assumption
    | with_reducible apply State.compute_kept

theorem execMacVerify_kept (slot : Fin 16384) (s : State) :
    ∃ t, execMacVerify slot s = .next t ∧ Kept s t := by
  refine ⟨_, rfl, ?_⟩
  try dsimp only
  have h := Kept.refl s
  repeat' first
    | with_reducible assumption
    | with_reducible apply State.compute_kept

theorem execStatefulVerify_kept (slot : Fin 16384) (s : State) :
    ∃ t, execStatefulVerify slot s = .next t ∧ Kept s t := by
  refine ⟨_, rfl, ?_⟩
  try dsimp only
  have h := Kept.refl s
  repeat' first
    | with_reducible assumption
    | with_reducible apply State.compute_kept

theorem execMeasure_kept (slot : Fin 16384) (s : State) :
    ∃ t, execMeasure slot s = .next t ∧ Kept s t := by
  refine ⟨_, rfl, ?_⟩
  try dsimp only
  have h := Kept.refl s
  repeat' first
    | with_reducible assumption
    | with_reducible apply State.runOp_kept
    | with_reducible apply State.measureOp_kept
    | intro _

/-! ### Machine/Invoke.lean -/

theorem execInvoke_kept (slot : Fin 16384) (rs1 : Fin 32) (s : State) :
    ∃ t, execInvoke slot rs1 s = .next t ∧ Kept s t := by
  refine ⟨_, rfl, ?_⟩
  try dsimp only
  have h := Kept.refl s
  repeat' first
    | with_reducible assumption
    | with_reducible apply State.invoke_kept

/-! ### Machine/JobInput.lean -/

theorem execJobInputArrived_kept (slot : Fin 16384) (input : JobInput) (s : State) :
    ∃ t, execJobInputArrived slot input s = .next t ∧ Kept s t := by
  refine ⟨_, rfl, ?_⟩
  try dsimp only
  have h := Kept.refl s
  repeat' first
    | with_reducible assumption
    | with_reducible apply State.jobInputArrived_kept

/-! ### Machine/KemOps.lean -/

theorem execMceDecapsKeep_kept (slot : Fin 16384) (s : State) :
    ∃ t, execMceDecapsKeep slot s = .next t ∧ Kept s t := by
  refine ⟨_, rfl, ?_⟩
  try dsimp only
  have h := Kept.refl s
  repeat' first
    | with_reducible assumption
    | with_reducible apply State.compute_kept

theorem execHybDecapsKeep_kept (slot : Fin 16384) (s : State) :
    ∃ t, execHybDecapsKeep slot s = .next t ∧ Kept s t := by
  refine ⟨_, rfl, ?_⟩
  try dsimp only
  have h := Kept.refl s
  repeat' first
    | with_reducible assumption
    | with_reducible apply State.hybKemOp_kept

theorem execHqcEncapsKeep_kept (slot : Fin 16384) (s : State) :
    ∃ t, execHqcEncapsKeep slot s = .next t ∧ Kept s t := by
  refine ⟨_, rfl, ?_⟩
  try dsimp only
  have h := Kept.refl s
  repeat' first
    | with_reducible assumption
    | with_reducible apply State.compute_kept

theorem execHqcDecapsKeep_kept (slot : Fin 16384) (s : State) :
    ∃ t, execHqcDecapsKeep slot s = .next t ∧ Kept s t := by
  refine ⟨_, rfl, ?_⟩
  try dsimp only
  have h := Kept.refl s
  repeat' first
    | with_reducible assumption
    | with_reducible apply State.decodeThen_kept

theorem execMlkemKeygen_kept (slot : Fin 16384) (s : State) :
    ∃ t, execMlkemKeygen slot s = .next t ∧ Kept s t := by
  refine ⟨_, rfl, ?_⟩
  try dsimp only
  have h := Kept.refl s
  repeat' first
    | with_reducible assumption
    | with_reducible apply State.compute_kept

theorem execHqcDecaps_kept (slot : Fin 16384) (s : State) :
    ∃ t, execHqcDecaps slot s = .next t ∧ Kept s t := by
  refine ⟨_, rfl, ?_⟩
  try dsimp only
  have h := Kept.refl s
  repeat' first
    | with_reducible assumption
    | with_reducible apply State.decodeThen_kept

theorem execMlkemDecapsKeep_kept (slot : Fin 16384) (s : State) :
    ∃ t, execMlkemDecapsKeep slot s = .next t ∧ Kept s t := by
  refine ⟨_, rfl, ?_⟩
  try dsimp only
  have h := Kept.refl s
  repeat' first
    | with_reducible assumption
    | with_reducible apply State.compute_kept

theorem execHybDecaps_kept (slot : Fin 16384) (s : State) :
    ∃ t, execHybDecaps slot s = .next t ∧ Kept s t := by
  refine ⟨_, rfl, ?_⟩
  try dsimp only
  have h := Kept.refl s
  repeat' first
    | with_reducible assumption
    | with_reducible apply State.hybKemOp_kept

theorem execMceDecaps_kept (slot : Fin 16384) (s : State) :
    ∃ t, execMceDecaps slot s = .next t ∧ Kept s t := by
  refine ⟨_, rfl, ?_⟩
  try dsimp only
  have h := Kept.refl s
  repeat' first
    | with_reducible assumption
    | with_reducible apply State.compute_kept

theorem execHqcKeygen_kept (slot : Fin 16384) (s : State) :
    ∃ t, execHqcKeygen slot s = .next t ∧ Kept s t := by
  refine ⟨_, rfl, ?_⟩
  try dsimp only
  have h := Kept.refl s
  repeat' first
    | with_reducible assumption
    | with_reducible apply State.compute_kept

theorem execHybEncaps_kept (slot : Fin 16384) (s : State) :
    ∃ t, execHybEncaps slot s = .next t ∧ Kept s t := by
  refine ⟨_, rfl, ?_⟩
  try dsimp only
  have h := Kept.refl s
  repeat' first
    | with_reducible assumption
    | with_reducible apply State.hybKemOp_kept

theorem execMlkemEncapsKeep_kept (slot : Fin 16384) (s : State) :
    ∃ t, execMlkemEncapsKeep slot s = .next t ∧ Kept s t := by
  refine ⟨_, rfl, ?_⟩
  try dsimp only
  have h := Kept.refl s
  repeat' first
    | with_reducible assumption
    | with_reducible apply State.compute_kept

theorem execMceEncaps_kept (slot : Fin 16384) (s : State) :
    ∃ t, execMceEncaps slot s = .next t ∧ Kept s t := by
  refine ⟨_, rfl, ?_⟩
  try dsimp only
  have h := Kept.refl s
  repeat' first
    | with_reducible assumption
    | with_reducible apply State.streamThen_kept

theorem execMlkemEncaps_kept (slot : Fin 16384) (s : State) :
    ∃ t, execMlkemEncaps slot s = .next t ∧ Kept s t := by
  refine ⟨_, rfl, ?_⟩
  try dsimp only
  have h := Kept.refl s
  repeat' first
    | with_reducible assumption
    | with_reducible apply State.compute_kept

theorem execMceEncapsKeep_kept (slot : Fin 16384) (s : State) :
    ∃ t, execMceEncapsKeep slot s = .next t ∧ Kept s t := by
  refine ⟨_, rfl, ?_⟩
  try dsimp only
  have h := Kept.refl s
  repeat' first
    | with_reducible assumption
    | with_reducible apply State.streamThen_kept

theorem execMlkemDecaps_kept (slot : Fin 16384) (s : State) :
    ∃ t, execMlkemDecaps slot s = .next t ∧ Kept s t := by
  refine ⟨_, rfl, ?_⟩
  try dsimp only
  have h := Kept.refl s
  repeat' first
    | with_reducible assumption
    | with_reducible apply State.compute_kept

theorem execHybEncapsKeep_kept (slot : Fin 16384) (s : State) :
    ∃ t, execHybEncapsKeep slot s = .next t ∧ Kept s t := by
  refine ⟨_, rfl, ?_⟩
  try dsimp only
  have h := Kept.refl s
  repeat' first
    | with_reducible assumption
    | with_reducible apply State.hybKemOp_kept

theorem execHqcEncaps_kept (slot : Fin 16384) (s : State) :
    ∃ t, execHqcEncaps slot s = .next t ∧ Kept s t := by
  refine ⟨_, rfl, ?_⟩
  try dsimp only
  have h := Kept.refl s
  repeat' first
    | with_reducible assumption
    | with_reducible apply State.compute_kept

theorem execMceKeygen_kept (slot : Fin 16384) (s : State) :
    ∃ t, execMceKeygen slot s = .next t ∧ Kept s t := by
  refine ⟨_, rfl, ?_⟩
  try dsimp only
  have h := Kept.refl s
  repeat' first
    | with_reducible assumption
    | with_reducible apply State.compute_kept

/-! ### Machine/KeyOps.lean -/

theorem execKmUpdate_kept (slot : Fin 16384) (s : State) :
    ∃ t, execKmUpdate slot s = .next t ∧ Kept s t := by
  refine ⟨_, rfl, ?_⟩
  try dsimp only
  have h := Kept.refl s
  repeat' first
    | with_reducible assumption
    | with_reducible apply State.runOp_kept
    | with_reducible apply State.kmUpdate_kept
    | intro _

theorem execKmUnwrap_kept (slot : Fin 16384) (s : State) :
    ∃ t, execKmUnwrap slot s = .next t ∧ Kept s t := by
  refine ⟨_, rfl, ?_⟩
  try dsimp only
  have h := Kept.refl s
  repeat' first
    | with_reducible assumption
    | with_reducible apply State.kmOp_kept

theorem execKmWrap_kept (slot : Fin 16384) (s : State) :
    ∃ t, execKmWrap slot s = .next t ∧ Kept s t := by
  refine ⟨_, rfl, ?_⟩
  try dsimp only
  have h := Kept.refl s
  repeat' first
    | with_reducible assumption
    | with_reducible apply State.kmOp_kept

theorem execPeerRevoke_kept (slot : Fin 16384) (s : State) :
    ∃ t, execPeerRevoke slot s = .next t ∧ Kept s t := by
  refine ⟨_, rfl, ?_⟩
  try dsimp only
  have h := Kept.refl s
  repeat' first
    | with_reducible assumption
    | with_reducible apply State.kmOp_kept

theorem execKmDerive_kept (slot : Fin 16384) (s : State) :
    ∃ t, execKmDerive slot s = .next t ∧ Kept s t := by
  refine ⟨_, rfl, ?_⟩
  try dsimp only
  have h := Kept.refl s
  repeat' first
    | with_reducible assumption
    | with_reducible apply State.kmOp_kept

theorem execPeerSetSecret_kept (slot : Fin 16384) (s : State) :
    ∃ t, execPeerSetSecret slot s = .next t ∧ Kept s t := by
  refine ⟨_, rfl, ?_⟩
  try dsimp only
  have h := Kept.refl s
  repeat' first
    | with_reducible assumption
    | with_reducible apply State.kmOp_kept

theorem execKmDeriveRelease_kept (slot : Fin 16384) (s : State) :
    ∃ t, execKmDeriveRelease slot s = .next t ∧ Kept s t := by
  refine ⟨_, rfl, ?_⟩
  try dsimp only
  have h := Kept.refl s
  repeat' first
    | with_reducible assumption
    | with_reducible apply State.kmOp_kept

theorem execKmInfo_kept (slot : Fin 16384) (s : State) :
    ∃ t, execKmInfo slot s = .next t ∧ Kept s t := by
  refine ⟨_, rfl, ?_⟩
  try dsimp only
  have h := Kept.refl s
  repeat' first
    | with_reducible assumption
    | with_reducible apply State.kmOp_kept

theorem execKmExport_kept (slot : Fin 16384) (s : State) :
    ∃ t, execKmExport slot s = .next t ∧ Kept s t := by
  refine ⟨_, rfl, ?_⟩
  try dsimp only
  have h := Kept.refl s
  repeat' first
    | with_reducible assumption
    | with_reducible apply State.kmOp_kept

theorem execKmImport_kept (slot : Fin 16384) (s : State) :
    ∃ t, execKmImport slot s = .next t ∧ Kept s t := by
  refine ⟨_, rfl, ?_⟩
  try dsimp only
  have h := Kept.refl s
  repeat' first
    | with_reducible assumption
    | with_reducible apply State.kmOp_kept

theorem execKmGenerate_kept (slot : Fin 16384) (s : State) :
    ∃ t, execKmGenerate slot s = .next t ∧ Kept s t := by
  refine ⟨_, rfl, ?_⟩
  try dsimp only
  have h := Kept.refl s
  repeat' first
    | with_reducible assumption
    | with_reducible apply State.kmOp_kept

theorem execKmDelete_kept (slot : Fin 16384) (s : State) :
    ∃ t, execKmDelete slot s = .next t ∧ Kept s t := by
  refine ⟨_, rfl, ?_⟩
  try dsimp only
  have h := Kept.refl s
  repeat' first
    | with_reducible assumption
    | with_reducible apply State.kmOp_kept

theorem execPeerInfo_kept (slot : Fin 16384) (s : State) :
    ∃ t, execPeerInfo slot s = .next t ∧ Kept s t := by
  refine ⟨_, rfl, ?_⟩
  try dsimp only
  have h := Kept.refl s
  repeat' first
    | with_reducible assumption
    | with_reducible apply State.kmOp_kept

theorem execKmProve_kept (slot : Fin 16384) (s : State) :
    ∃ t, execKmProve slot s = .next t ∧ Kept s t := by
  refine ⟨_, rfl, ?_⟩
  try dsimp only
  have h := Kept.refl s
  repeat' first
    | with_reducible assumption
    | with_reducible apply State.kmOp_kept

theorem execKmImportPublic_kept (slot : Fin 16384) (s : State) :
    ∃ t, execKmImportPublic slot s = .next t ∧ Kept s t := by
  refine ⟨_, rfl, ?_⟩
  try dsimp only
  have h := Kept.refl s
  repeat' first
    | with_reducible assumption
    | with_reducible apply State.kmOp_kept

/-! ### Machine/LastActs.lean -/

theorem execShieldBoundary_kept (slot : Fin 16384) (s : State) :
    ∃ t, execShieldBoundary slot s = .next t ∧ Kept s t := by
  refine ⟨_, rfl, ?_⟩
  try dsimp only
  have h := Kept.refl s
  repeat' first
    | with_reducible assumption
    | with_reducible apply State.shieldBoundary_kept

/-! ### Machine/LifeCycle.lean -/

theorem execLcWipeDone_kept (readback : List Bool) (s : State) :
    ∃ t, execLcWipeDone readback s = .next t ∧ Kept s t := by
  refine ⟨_, rfl, ?_⟩
  try dsimp only
  have h := Kept.refl s
  repeat' first
    | with_reducible assumption
    | with_reducible apply Kept.ite
    | with_reducible apply State.lcWipeDone_kept
    | intro _
    | split

theorem execDbgLcRequest_kept (target : Nat) (token : Bytes) (s : State) :
    ∃ t, execDbgLcRequest target token s = .next t ∧ Kept s t := by
  refine ⟨_, rfl, ?_⟩
  try dsimp only
  have h := Kept.refl s
  repeat' first
    | with_reducible assumption
    | with_reducible apply State.debugPort_kept
    | with_reducible apply State.debugLcRequest_kept
    | intro _

theorem execDbgChallenge_kept (s : State) :
    ∃ t, execDbgChallenge s = .next t ∧ Kept s t := by
  refine ⟨_, rfl, ?_⟩
  try dsimp only
  have h := Kept.refl s
  repeat' first
    | with_reducible assumption
    | with_reducible apply State.debugPort_kept
    | with_reducible apply State.readChallenge_kept

theorem execDbgStatus_kept (s : State) :
    ∃ t, execDbgStatus s = .next t ∧ Kept s t := by
  refine ⟨_, rfl, ?_⟩
  try dsimp only
  have h := Kept.refl s
  repeat' first
    | with_reducible assumption
    | with_reducible apply State.debugPort_kept
    | with_reducible apply State.shiftOut_kept
    | intro _

theorem execDbgResponse_kept (sig : Bytes) (s : State) :
    ∃ t, execDbgResponse sig s = .next t ∧ Kept s t := by
  refine ⟨_, rfl, ?_⟩
  try dsimp only
  have h := Kept.refl s
  repeat' first
    | with_reducible assumption
    | with_reducible apply State.debugPort_kept
    | with_reducible apply State.debugResponse_kept
    | intro _

theorem execBypass_kept (s : State) :
    ∃ t, execBypass s = .next t ∧ Kept s t := by
  refine ⟨_, rfl, ?_⟩
  try dsimp only
  have h := Kept.refl s
  repeat' first
    | with_reducible assumption
    | with_reducible apply State.shiftOut_kept

theorem execIdcode_kept (s : State) :
    ∃ t, execIdcode s = .next t ∧ Kept s t := by
  refine ⟨_, rfl, ?_⟩
  try dsimp only
  have h := Kept.refl s
  repeat' first
    | with_reducible assumption
    | with_reducible apply State.shiftOut_kept

theorem execDbgChallengeExpiry_kept (s : State) :
    ∃ t, execDbgChallengeExpiry s = .next t ∧ Kept s t := by
  refine ⟨_, rfl, ?_⟩
  try dsimp only
  have h := Kept.refl s
  repeat' first
    | with_reducible assumption
    | with_reducible apply State.until_kept
    | with_reducible apply Kept.parts
    | simp only [Kept.lit]
    | split

/-! ### Machine/Mailbox.lean -/

theorem execOpenSlotClear_kept (port : Fin 4) (seq : BitVec 32) (slotNo : BitVec 16) (s : State) :
    ∃ t, execOpenSlotClear port seq slotNo s = .next t ∧ Kept s t := by
  refine ⟨_, rfl, ?_⟩
  try dsimp only
  have h := Kept.refl s
  repeat' first
    | with_reducible assumption
    | with_reducible apply State.openSlotClear_kept

theorem execInstCreate_kept (port : Fin 4) (seq : BitVec 32) (a : CreateArgs) (s : State) :
    ∃ t, execInstCreate port seq a s = .next t ∧ Kept s t := by
  refine ⟨_, rfl, ?_⟩
  try dsimp only
  have h := Kept.refl s
  repeat' first
    | with_reducible assumption
    | with_reducible apply State.instCreate_kept

theorem execDrainTimeout_kept (scope : DrainScope) (s : State) :
    ∃ t, execDrainTimeout scope s = .next t ∧ Kept s t := by
  refine ⟨_, rfl, ?_⟩
  try dsimp only
  have h := Kept.refl s
  repeat' first
    | with_reducible assumption
    | with_reducible apply State.drainTimeout_kept

theorem execInstReset_kept (port : Fin 4) (seq : BitVec 32) (n : BitVec 16) (mode : Nat) (s : State) :
    ∃ t, execInstReset port seq n mode s = .next t ∧ Kept s t := by
  refine ⟨_, rfl, ?_⟩
  try dsimp only
  have h := Kept.refl s
  repeat' first
    | with_reducible assumption
    | with_reducible apply State.instReset_kept

theorem execSetTranslation_kept (port : Fin 4) (seq : BitVec 32) (n : BitVec 16) (root : BitVec 64) (s : State) :
    ∃ t, execSetTranslation port seq n root s = .next t ∧ Kept s t := by
  refine ⟨_, rfl, ?_⟩
  try dsimp only
  have h := Kept.refl s
  repeat' first
    | with_reducible assumption
    | with_reducible apply State.setTranslation_kept

theorem execInstEnable_kept (port : Fin 4) (seq : BitVec 32) (n : BitVec 16) (s : State) :
    ∃ t, execInstEnable port seq n s = .next t ∧ Kept s t := by
  refine ⟨_, rfl, ?_⟩
  try dsimp only
  have h := Kept.refl s
  repeat' first
    | with_reducible assumption
    | with_reducible apply State.instEnable_kept

theorem execOpenSlotWrite_kept (port : Fin 4) (seq : BitVec 32) (a : OpenSlotArgs) (s : State) :
    ∃ t, execOpenSlotWrite port seq a s = .next t ∧ Kept s t := by
  refine ⟨_, rfl, ?_⟩
  try dsimp only
  have h := Kept.refl s
  repeat' first
    | with_reducible assumption
    | with_reducible apply State.openSlotWrite_kept

theorem execInstSet_kept (port : Fin 4) (seq : BitVec 32) (a : CreateArgs) (s : State) :
    ∃ t, execInstSet port seq a s = .next t ∧ Kept s t := by
  refine ⟨_, rfl, ?_⟩
  try dsimp only
  have h := Kept.refl s
  repeat' first
    | with_reducible assumption
    | with_reducible apply State.instSet_kept

theorem execInvalidate_kept (port : Fin 4) (seq : BitVec 32) (n : BitVec 16) (iova : BitVec 64) (len : BitVec 64) (s : State) :
    ∃ t, execInvalidate port seq n iova len s = .next t ∧ Kept s t := by
  refine ⟨_, rfl, ?_⟩
  try dsimp only
  have h := Kept.refl s
  repeat' first
    | with_reducible assumption
    | with_reducible apply State.invalidate_kept

theorem execInstanceDestroyDone_kept (inst : Fin 1024) (s : State) :
    ∃ t, execInstanceDestroyDone inst s = .next t ∧ Kept s t := by
  refine ⟨_, rfl, ?_⟩
  try dsimp only
  have h := Kept.refl s
  repeat' first
    | with_reducible assumption
    | with_reducible apply State.instanceDestroyDone_kept

theorem execInstFreeze_kept (port : Fin 4) (seq : BitVec 32) (n : BitVec 16) (s : State) :
    ∃ t, execInstFreeze port seq n s = .next t ∧ Kept s t := by
  refine ⟨_, rfl, ?_⟩
  try dsimp only
  have h := Kept.refl s
  repeat' first
    | with_reducible assumption
    | with_reducible apply State.instFreeze_kept

theorem execInstThaw_kept (port : Fin 4) (seq : BitVec 32) (n : BitVec 16) (s : State) :
    ∃ t, execInstThaw port seq n s = .next t ∧ Kept s t := by
  refine ⟨_, rfl, ?_⟩
  try dsimp only
  have h := Kept.refl s
  repeat' first
    | with_reducible assumption
    | with_reducible apply State.instThaw_kept

theorem execOpenSlotRead_kept (port : Fin 4) (seq : BitVec 32) (slotNo : BitVec 16) (s : State) :
    ∃ t, execOpenSlotRead port seq slotNo s = .next t ∧ Kept s t := by
  refine ⟨_, rfl, ?_⟩
  try dsimp only
  have h := Kept.refl s
  repeat' first
    | with_reducible assumption
    | with_reducible apply State.openSlotRead_kept

theorem execFreezeDone_kept (inst : Fin 1024) (s : State) :
    ∃ t, execFreezeDone inst s = .next t ∧ Kept s t := by
  refine ⟨_, rfl, ?_⟩
  try dsimp only
  have h := Kept.refl s
  repeat' first
    | with_reducible assumption
    | with_reducible apply State.freezeDone_kept

theorem execInstStatus_kept (port : Fin 4) (seq : BitVec 32) (n : BitVec 16) (s : State) :
    ∃ t, execInstStatus port seq n s = .next t ∧ Kept s t := by
  refine ⟨_, rfl, ?_⟩
  try dsimp only
  have h := Kept.refl s
  repeat' first
    | with_reducible assumption
    | with_reducible apply State.instStatus_kept

theorem execInstDestroy_kept (port : Fin 4) (seq : BitVec 32) (n : BitVec 16) (s : State) :
    ∃ t, execInstDestroy port seq n s = .next t ∧ Kept s t := by
  refine ⟨_, rfl, ?_⟩
  try dsimp only
  have h := Kept.refl s
  repeat' first
    | with_reducible assumption
    | with_reducible apply State.instDestroy_kept

/-! ### Machine/MgmtCore.lean -/

theorem execCredentialBlockEnd_kept (credId : BitVec 64) (s : State) :
    ∃ t, execCredentialBlockEnd credId s = .next t ∧ Kept s t := by
  refine ⟨_, rfl, ?_⟩
  try dsimp only
  have h := Kept.refl s
  repeat' first
    | with_reducible assumption
    | with_reducible apply State.credentialBlockEnd_kept

theorem execOpeningTimeout_kept (session : BitVec 32) (s : State) :
    ∃ t, execOpeningTimeout session s = .next t ∧ Kept s t := by
  refine ⟨_, rfl, ?_⟩
  try dsimp only
  have h := Kept.refl s
  repeat' first
    | with_reducible assumption
    | with_reducible apply State.openingTimeout_kept

theorem execOpen1_kept (chan : Option (Fin 4)) (credId : BitVec 64) (roleAsked : Nat) (nonce : Bytes) (x25519 : Bytes) (ek : Bytes) (s : State) :
    ∃ t, execOpen1 chan credId roleAsked nonce x25519 ek s = .next t ∧ Kept s t := by
  refine ⟨_, rfl, ?_⟩
  try dsimp only
  have h := Kept.refl s
  repeat' first
    | with_reducible assumption
    | with_reducible apply State.open1_kept

theorem execOpen3_kept (session : BitVec 32) (sig : Bytes) (s : State) :
    ∃ t, execOpen3 session sig s = .next t ∧ Kept s t := by
  refine ⟨_, rfl, ?_⟩
  try dsimp only
  have h := Kept.refl s
  repeat' first
    | with_reducible assumption
    | with_reducible apply State.open3_kept

/-! ### Machine/Migration.lean -/

theorem execMigRestoreDone_kept (inst : Fin 1024) (image : MigImage) (s : State) :
    ∃ t, execMigRestoreDone inst image s = .next t ∧ Kept s t := by
  refine ⟨_, rfl, ?_⟩
  try dsimp only
  have h := Kept.refl s
  repeat' first
    | with_reducible assumption
    | with_reducible apply State.migRestoreDone_kept

theorem execMigRestore_kept (port : Fin 4) (seq : BitVec 32) (n : BitVec 16) (flags : BitVec 32) (iova : BitVec 64) (len : BitVec 64) (s : State) :
    ∃ t, execMigRestore port seq n flags iova len s = .next t ∧ Kept s t := by
  refine ⟨_, rfl, ?_⟩
  try dsimp only
  have h := Kept.refl s
  repeat' first
    | with_reducible assumption
    | with_reducible apply State.migRestore_kept

theorem execMigSave_kept (port : Fin 4) (seq : BitVec 32) (n : BitVec 16) (flags : BitVec 32) (iova : BitVec 64) (len : BitVec 64) (s : State) :
    ∃ t, execMigSave port seq n flags iova len s = .next t ∧ Kept s t := by
  refine ⟨_, rfl, ?_⟩
  try dsimp only
  have h := Kept.refl s
  repeat' first
    | with_reducible assumption
    | with_reducible apply State.migSave_kept

theorem execMigSaveDone_kept (inst : Fin 1024) (s : State) :
    ∃ t, execMigSaveDone inst s = .next t ∧ Kept s t := by
  refine ⟨_, rfl, ?_⟩
  try dsimp only
  have h := Kept.refl s
  repeat' first
    | with_reducible assumption
    | with_reducible apply State.migSaveDone_kept

/-! ### Machine/Pinning.lean -/

theorem execRecordsPinned_kept (slot : Fin 16384) (sealOk : Bool) (s : State) :
    ∃ t, execRecordsPinned slot sealOk s = .next t ∧ Kept s t := by
  refine ⟨_, rfl, ?_⟩
  try dsimp only
  have h := Kept.refl s
  repeat' first
    | with_reducible assumption
    | with_reducible apply State.recordsPinned_kept

/-! ### Machine/Ports.lean -/

theorem execPerstDeassert_kept (port : Fin 4) (s : State) :
    ∃ t, execPerstDeassert port s = .next t ∧ Kept s t := by
  refine ⟨_, rfl, ?_⟩
  try dsimp only
  have h := Kept.refl s
  repeat' first
    | with_reducible assumption
    | with_reducible apply State.perstDeassert_kept

theorem execAddressResolution_kept (v6 : Bool) (target : Bytes) (vlan : Nat) (s : State) :
    ∃ t, execAddressResolution v6 target vlan s = .next t ∧ Kept s t := by
  refine ⟨_, rfl, ?_⟩
  try dsimp only
  have h := Kept.refl s
  repeat' first
    | with_reducible assumption
    | with_reducible apply Kept.ite
    | with_reducible apply State.discardFrame_kept
    | with_reducible apply State.send_kept
    | intro _

theorem execAtsTranslationExpiry_kept (inst : Fin 1024) (iova : BitVec 64) (s : State) :
    ∃ t, execAtsTranslationExpiry inst iova s = .next t ∧ Kept s t := by
  refine ⟨_, rfl, ?_⟩
  try dsimp only
  have h := Kept.refl s
  repeat' first
    | with_reducible assumption
    | with_reducible apply State.atsExpire_kept

theorem execHoldoverLimit_kept (s : State) :
    ∃ t, execHoldoverLimit s = .next t ∧ Kept s t := by
  refine ⟨_, rfl, ?_⟩
  try dsimp only
  have h := Kept.refl s
  repeat' first
    | with_reducible assumption
    | with_reducible apply State.holdoverLimit_kept

theorem execFrameDiscard_kept (s : State) :
    ∃ t, execFrameDiscard s = .next t ∧ Kept s t := by
  refine ⟨_, rfl, ?_⟩
  try dsimp only
  have h := Kept.refl s
  repeat' first
    | with_reducible assumption
    | with_reducible apply State.discardFrame_kept

theorem execPtmDialogue_kept (port : Fin 4) (offset : Int) (time : Nat) (locked : Bool) (s : State) :
    ∃ t, execPtmDialogue port offset time locked s = .next t ∧ Kept s t := by
  refine ⟨_, rfl, ?_⟩
  try dsimp only
  have h := Kept.refl s
  repeat' first
    | with_reducible assumption
    | with_reducible apply Kept.ite
    | with_reducible apply State.modPort_kept
    | with_reducible apply State.measureTime_kept
    | intro _

theorem execVfD3hotToD0_kept (inst : Fin 1024) (s : State) :
    ∃ t, execVfD3hotToD0 inst s = .next t ∧ Kept s t := by
  refine ⟨_, rfl, ?_⟩
  try dsimp only
  have h := Kept.refl s
  repeat' first
    | with_reducible assumption
    | with_reducible apply Kept.ite
    | with_reducible apply State.portResetBy_kept
    | with_reducible apply State.vfReset_kept
    | intro _

theorem execConfigRequest_kept (port : Fin 4) (s : State) :
    ∃ t, execConfigRequest port s = .next t ∧ Kept s t := by
  refine ⟨_, rfl, ?_⟩
  try dsimp only
  have h := Kept.refl s
  repeat' first
    | with_reducible assumption
    | with_reducible apply State.configRequest_kept

theorem execPtpMessage_kept (gm : BitVec 64) (domain : Nat) (vlan : Nat) (time : Nat) (offset : Int) (locked : Bool) (s : State) :
    ∃ t, execPtpMessage gm domain vlan time offset locked s = .next t ∧ Kept s t := by
  refine ⟨_, rfl, ?_⟩
  try dsimp only
  have h := Kept.refl s
  repeat' first
    | with_reducible assumption
    | with_reducible apply Kept.ite
    | with_reducible apply State.discardFrame_kept
    | with_reducible apply State.measureTime_kept
    | with_reducible apply Kept.parts
    | simp only [Kept.lit]
    | intro _

theorem execMgmtTxSubmit_kept (port : Fin 4) (len : BitVec 32) (s : State) :
    ∃ t, execMgmtTxSubmit port len s = .next t ∧ Kept s t := by
  refine ⟨_, rfl, ?_⟩
  try dsimp only
  have h := Kept.refl s
  repeat' first
    | with_reducible assumption
    | with_reducible apply State.modPort_kept

theorem execPortReset_kept (port : Fin 4) (cause : PortResetCause) (s : State) :
    ∃ t, execPortReset port cause s = .next t ∧ Kept s t := by
  refine ⟨_, rfl, ?_⟩
  try dsimp only
  have h := Kept.refl s
  repeat' first
    | with_reducible assumption
    | with_reducible apply Kept.ite
    | with_reducible apply State.portResetBy_kept
    | intro _

theorem execPtmDisabled_kept (port : Fin 4) (s : State) :
    ∃ t, execPtmDisabled port s = .next t ∧ Kept s t := by
  refine ⟨_, rfl, ?_⟩
  try dsimp only
  have h := Kept.refl s
  repeat' first
    | with_reducible assumption
    | with_reducible apply State.ptmLost_kept
    | with_reducible apply State.modPort_kept

theorem execLinkStateChange_kept (state : Nat) (s : State) :
    ∃ t, execLinkStateChange state s = .next t ∧ Kept s t := by
  refine ⟨_, rfl, ?_⟩
  try dsimp only
  have h := Kept.refl s
  repeat' first
    | with_reducible assumption
    | with_reducible apply Kept.parts
    | simp only [Kept.lit]

theorem execMgmtRxAck_kept (port : Fin 4) (value : BitVec 32) (s : State) :
    ∃ t, execMgmtRxAck port value s = .next t ∧ Kept s t := by
  refine ⟨_, rfl, ?_⟩
  try dsimp only
  have h := Kept.refl s
  repeat' first
    | with_reducible assumption
    | with_reducible apply Kept.ite
    | with_reducible apply State.rxAck_kept
    | intro _

theorem execAtsTranslationCompletion_kept (slot : Fin 16384) (iova : BitVec 64) (len : BitVec 64) (canRead : Bool) (canWrite : Bool) (s : State) :
    ∃ t, execAtsTranslationCompletion slot iova len canRead canWrite s = .next t ∧ Kept s t := by
  refine ⟨_, rfl, ?_⟩
  try dsimp only
  have h := Kept.refl s
  repeat' first
    | with_reducible assumption
    | with_reducible apply State.atsCompletion_kept

theorem execVfFlr_kept (inst : Fin 1024) (s : State) :
    ∃ t, execVfFlr inst s = .next t ∧ Kept s t := by
  refine ⟨_, rfl, ?_⟩
  try dsimp only
  have h := Kept.refl s
  repeat' first
    | with_reducible assumption
    | with_reducible apply Kept.ite
    | with_reducible apply State.portResetBy_kept
    | with_reducible apply State.vfReset_kept
    | intro _

theorem execPtpSourceLost_kept (s : State) :
    ∃ t, execPtpSourceLost s = .next t ∧ Kept s t := by
  refine ⟨_, rfl, ?_⟩
  try dsimp only
  have h := Kept.refl s
  repeat' first
    | with_reducible assumption
    | with_reducible apply Kept.ite
    | with_reducible apply State.sourceLost_kept
    | intro _

theorem execAtsInvalidateRequest_kept (inst : Fin 1024) (iova : BitVec 64) (len : BitVec 64) (s : State) :
    ∃ t, execAtsInvalidateRequest inst iova len s = .next t ∧ Kept s t := by
  refine ⟨_, rfl, ?_⟩
  try dsimp only
  have h := Kept.refl s
  repeat' first
    | with_reducible assumption
    | with_reducible apply State.atsInvalidate_kept

theorem execInstanceResetDone_kept (inst : Fin 1024) (s : State) :
    ∃ t, execInstanceResetDone inst s = .next t ∧ Kept s t := by
  refine ⟨_, rfl, ?_⟩
  try dsimp only
  have h := Kept.refl s
  repeat' first
    | with_reducible assumption
    | with_reducible apply State.instanceResetDone_kept

/-! ### Machine/Power.lean -/

theorem execThermalResume_kept (dieMc : Int) (s : State) :
    ∃ t, execThermalResume dieMc s = .next t ∧ Kept s t := by
  refine ⟨_, rfl, ?_⟩
  try dsimp only
  have h := Kept.refl s
  repeat' first
    | with_reducible assumption
    | with_reducible apply State.thermalResume_kept

theorem execCardVddOvercurrent_kept (s : State) :
    ∃ t, execCardVddOvercurrent s = .next t ∧ Kept s t := by
  refine ⟨_, rfl, ?_⟩
  try dsimp only
  have h := Kept.refl s
  repeat' first
    | with_reducible assumption
    | with_reducible apply State.vddOvercurrent_kept

theorem execTamperLoopPulse_kept (ohm : Nat) (s : State) :
    ∃ t, execTamperLoopPulse ohm s = .next t ∧ Kept s t := by
  refine ⟨_, rfl, ?_⟩
  try dsimp only
  have h := Kept.refl s
  repeat' first
    | with_reducible assumption
    | with_reducible apply State.loopPulse_kept

theorem execAlive1kToggle_kept (s : State) :
    ∃ t, execAlive1kToggle s = .next t ∧ Kept s t := by
  refine ⟨_, rfl, ?_⟩
  try dsimp only
  have h := Kept.refl s
  repeat' first
    | with_reducible assumption
    | with_reducible apply Kept.parts
    | simp only [Kept.lit]

theorem execInFlightWindowEnd_kept (s : State) :
    ∃ t, execInFlightWindowEnd s = .next t ∧ Kept s t := by
  refine ⟨_, rfl, ?_⟩
  try dsimp only
  have h := Kept.refl s
  repeat' first
    | with_reducible assumption
    | with_reducible apply Kept.ite
    | with_reducible apply State.windowEnd_kept
    | intro _

theorem execAliveToggle_kept (s : State) :
    ∃ t, execAliveToggle s = .next t ∧ Kept s t := by
  refine ⟨_, rfl, ?_⟩
  try dsimp only
  have h := Kept.refl s
  repeat' first
    | with_reducible assumption
    | with_reducible apply Kept.parts
    | simp only [Kept.lit]

theorem execRideThroughEnd_kept (s : State) :
    ∃ t, execRideThroughEnd s = .next t ∧ Kept s t := by
  refine ⟨_, rfl, ?_⟩
  try dsimp only
  have h := Kept.refl s
  repeat' first
    | with_reducible assumption
    | with_reducible apply Kept.ite
    | with_reducible apply State.powerWarning_kept
    | intro _

theorem execMainRailReturn_kept (rail : Rail) (s : State) :
    ∃ t, execMainRailReturn rail s = .next t ∧ Kept s t := by
  refine ⟨_, rfl, ?_⟩
  try dsimp only
  have h := Kept.refl s
  repeat' first
    | with_reducible assumption
    | with_reducible apply State.railReturn_kept

theorem execFlushDone_kept (s : State) :
    ∃ t, execFlushDone s = .next t ∧ Kept s t := by
  refine ⟨_, rfl, ?_⟩
  try dsimp only
  have h := Kept.refl s
  repeat' first
    | with_reducible assumption
    | with_reducible apply Kept.ite
    | with_reducible apply State.flushDone_kept
    | intro _

theorem execMainRailLoss_kept (rail : Rail) (loadMw : Nat) (storedMj : Nat) (s : State) :
    ∃ t, execMainRailLoss rail loadMw storedMj s = .next t ∧ Kept s t := by
  refine ⟨_, rfl, ?_⟩
  try dsimp only
  have h := Kept.refl s
  repeat' first
    | with_reducible assumption
    | with_reducible apply State.railLoss_kept

theorem execTamperMeshCheck_kept (intact : Bool) (s : State) :
    ∃ t, execTamperMeshCheck intact s = .next t ∧ Kept s t := by
  refine ⟨_, rfl, ?_⟩
  try dsimp only
  have h := Kept.refl s
  repeat' first
    | with_reducible assumption
    | with_reducible apply Kept.ite
    | with_reducible apply State.tamper_kept
    | intro _

theorem execThermalPause_kept (dieMc : Int) (s : State) :
    ∃ t, execThermalPause dieMc s = .next t ∧ Kept s t := by
  refine ⟨_, rfl, ?_⟩
  try dsimp only
  have h := Kept.refl s
  repeat' first
    | with_reducible assumption
    | with_reducible apply State.thermalPause_kept

theorem execHoldupMeasure_kept (fullMj : Nat) (storedMj : Nat) (s : State) :
    ∃ t, execHoldupMeasure fullMj storedMj s = .next t ∧ Kept s t := by
  refine ⟨_, rfl, ?_⟩
  try dsimp only
  have h := Kept.refl s
  repeat' first
    | with_reducible assumption
    | with_reducible apply State.measureHoldup_kept

theorem execAuxRailChange_kept (up : Bool) (s : State) :
    ∃ t, execAuxRailChange up s = .next t ∧ Kept s t := by
  refine ⟨_, rfl, ?_⟩
  try dsimp only
  have h := Kept.refl s
  repeat' first
    | with_reducible assumption
    | with_reducible apply Kept.parts
    | simp only [Kept.lit]

theorem execCanTemperatureLimit_kept (milliC : Int) (s : State) :
    ∃ t, execCanTemperatureLimit milliC s = .next t ∧ Kept s t := by
  refine ⟨_, rfl, ?_⟩
  try dsimp only
  have h := Kept.refl s
  repeat' first
    | with_reducible assumption
    | with_reducible apply Kept.ite
    | with_reducible apply State.tamper_kept
    | intro _

/-! ### Machine/Random.lean -/

theorem execNoiseSourceSample_kept (src : Fin 18) (bit : Bool) (s : State) :
    ∃ t, execNoiseSourceSample src bit s = .next t ∧ Kept s t := by
  refine ⟨_, rfl, ?_⟩
  try dsimp only
  have h := Kept.refl s
  repeat' first
    | with_reducible assumption
    | with_reducible apply State.noiseSample_kept

theorem execEntropyWaitTimeout_kept (slot : Fin 16384) (s : State) :
    ∃ t, execEntropyWaitTimeout slot s = .next t ∧ Kept s t := by
  refine ⟨_, rfl, ?_⟩
  try dsimp only
  have h := Kept.refl s
  repeat' first
    | with_reducible assumption
    | with_reducible apply State.entropyTimeout_kept

theorem execMaskGeneratorReseed_kept (s : State) :
    ∃ t, execMaskGeneratorReseed s = .next t ∧ Kept s t := by
  refine ⟨_, rfl, ?_⟩
  try dsimp only
  have h := Kept.refl s
  repeat' first
    | with_reducible assumption
    | with_reducible apply Kept.ite
    | with_reducible apply State.drawInternal_kept
    | with_reducible apply Kept.parts
    | simp only [Kept.lit]
    | intro _

/-! ### Machine/Registers.lean -/

theorem execRegisterWrite_kept (fn : RegBlock) (offset : Nat) (size : Nat) (value : BitVec 64) (s : State) :
    ∃ t, execRegisterWrite fn offset size value s = .next t ∧ Kept s t := by
  refine ⟨_, rfl, ?_⟩
  try dsimp only
  have h := Kept.refl s
  repeat' first
    | with_reducible assumption
    | with_reducible apply State.registerWrite_kept

/-! ### Machine/Rings.lean -/

theorem execCompletionPost_kept (slot : Fin 16384) (writeFault : Bool) (s : State) :
    ∃ t, execCompletionPost slot writeFault s = .next t ∧ Kept s t := by
  refine ⟨_, rfl, ?_⟩
  try dsimp only
  have h := Kept.refl s
  repeat' first
    | with_reducible assumption
    | with_reducible apply State.completionPost_kept

theorem execSqWithdraw_kept (inst : Fin 1024) (qp : Fin 1023) (index : BitVec 17) (s : State) :
    ∃ t, execSqWithdraw inst qp index s = .next t ∧ Kept s t := by
  refine ⟨_, rfl, ?_⟩
  try dsimp only
  have h := Kept.refl s
  repeat' first
    | with_reducible assumption
    | with_reducible apply State.sqWithdraw_kept

theorem execCqWait_kept (inst : Fin 1024) (qp : Fin 1023) (s : State) :
    ∃ t, execCqWait inst qp s = .next t ∧ Kept s t := by
  refine ⟨_, rfl, ?_⟩
  try dsimp only
  have h := Kept.refl s
  repeat' first
    | with_reducible assumption
    | with_reducible apply State.cqWait_kept

theorem execQpDisable_kept (inst : Fin 1024) (qp : Fin 1023) (value : BitVec 32) (s : State) :
    ∃ t, execQpDisable inst qp value s = .next t ∧ Kept s t := by
  refine ⟨_, rfl, ?_⟩
  try dsimp only
  have h := Kept.refl s
  repeat' first
    | with_reducible assumption
    | with_reducible apply State.dispatch_kept
    | with_reducible apply State.writeQpCtrl_kept

theorem execSpillRevoke_kept (inst : Fin 1024) (s : State) :
    ∃ t, execSpillRevoke inst s = .next t ∧ Kept s t := by
  refine ⟨_, rfl, ?_⟩
  try dsimp only
  have h := Kept.refl s
  repeat' first
    | with_reducible assumption
    | with_reducible apply Kept.ite
    | with_reducible apply State.writeSpill_kept
    | intro _

theorem execCqDoorbell_kept (inst : Fin 1024) (qp : Fin 1023) (index : BitVec 17) (s : State) :
    ∃ t, execCqDoorbell inst qp index s = .next t ∧ Kept s t := by
  refine ⟨_, rfl, ?_⟩
  try dsimp only
  have h := Kept.refl s
  repeat' first
    | with_reducible assumption
    | with_reducible apply State.cqDoorbell_kept

theorem execDescriptorArrival_kept (inst : Fin 1024) (qp : Fin 1023) (entry : Option SqEntry) (s : State) :
    ∃ t, execDescriptorArrival inst qp entry s = .next t ∧ Kept s t := by
  refine ⟨_, rfl, ?_⟩
  try dsimp only
  have h := Kept.refl s
  repeat' first
    | with_reducible assumption
    | with_reducible apply State.descriptorArrival_kept

theorem execSpillGrant_kept (inst : Fin 1024) (s : State) :
    ∃ t, execSpillGrant inst s = .next t ∧ Kept s t := by
  refine ⟨_, rfl, ?_⟩
  try dsimp only
  have h := Kept.refl s
  repeat' first
    | with_reducible assumption
    | with_reducible apply Kept.ite
    | with_reducible apply State.writeSpill_kept
    | intro _

theorem execQpEnable_kept (inst : Fin 1024) (qp : Fin 1023) (value : BitVec 32) (s : State) :
    ∃ t, execQpEnable inst qp value s = .next t ∧ Kept s t := by
  refine ⟨_, rfl, ?_⟩
  try dsimp only
  have h := Kept.refl s
  repeat' first
    | with_reducible assumption
    | with_reducible apply State.dispatch_kept
    | with_reducible apply State.writeQpCtrl_kept

theorem execSqDoorbell_kept (inst : Fin 1024) (qp : Fin 1023) (index : BitVec 17) (s : State) :
    ∃ t, execSqDoorbell inst qp index s = .next t ∧ Kept s t := by
  refine ⟨_, rfl, ?_⟩
  try dsimp only
  have h := Kept.refl s
  repeat' first
    | with_reducible assumption
    | with_reducible apply State.sqDoorbell_kept

theorem execSpillRevokeDone_kept (inst : Fin 1024) (s : State) :
    ∃ t, execSpillRevokeDone inst s = .next t ∧ Kept s t := by
  refine ⟨_, rfl, ?_⟩
  try dsimp only
  have h := Kept.refl s
  repeat' first
    | with_reducible assumption
    | with_reducible apply State.spillRevokeDone_kept

/-! ### Machine/Services.lean -/

theorem execCancel_kept (z : ZReq) (arg : Nat) (s : State) :
    ∃ t, execCancel z arg s = .next t ∧ Kept s t := by
  refine ⟨_, rfl, ?_⟩
  try dsimp only
  have h := Kept.refl s
  repeat' first
    | with_reducible assumption
    | with_reducible apply State.cardOwn_kept

theorem execSubscribe_kept (z : ZReq) (minSeverity : Nat) (instNo : Nat) (s : State) :
    ∃ t, execSubscribe z minSeverity instNo s = .next t ∧ Kept s t := by
  refine ⟨_, rfl, ?_⟩
  try dsimp only
  have h := Kept.refl s
  repeat' first
    | with_reducible assumption
    | with_reducible apply State.answer_kept
    | with_reducible apply State.subscribe_kept
    | intro _

theorem execRestart_kept (z : ZReq) (nonce : BitVec 32) (s : State) :
    ∃ t, execRestart z nonce s = .next t ∧ Kept s t := by
  refine ⟨_, rfl, ?_⟩
  try dsimp only
  have h := Kept.refl s
  repeat' first
    | with_reducible assumption
    | with_reducible apply Kept.ite
    | with_reducible apply State.serve_kept
    | with_reducible apply State.restartCheck_kept
    | with_reducible apply State.acceptRestart_kept
    | intro _

theorem execClose_kept (z : ZReq) (s : State) :
    ∃ t, execClose z s = .next t ∧ Kept s t := by
  refine ⟨_, rfl, ?_⟩
  try dsimp only
  have h := Kept.refl s
  repeat' first
    | with_reducible assumption
    | with_reducible apply State.serve_kept
    | with_reducible apply State.closeSession_kept
    | simp only []
    | intro _

theorem execRead_kept (z : ZReq) (key : OdKey) (s : State) :
    ∃ t, execRead z key s = .next t ∧ Kept s t := by
  refine ⟨_, rfl, ?_⟩
  try dsimp only
  have h := Kept.refl s
  repeat' first
    | with_reducible assumption
    | with_reducible apply State.answer_kept
    | with_reducible apply State.readEntry_kept
    | intro _

theorem execDebugAllow_kept (z : ZReq) (value : Bytes) (s : State) :
    ∃ t, execDebugAllow z value s = .next t ∧ Kept s t := by
  refine ⟨_, rfl, ?_⟩
  try dsimp only
  have h := Kept.refl s
  repeat' first
    | with_reducible assumption
    | with_reducible apply State.writeService_kept

theorem execBlockTransferTimeout_kept (session : BitVec 32) (s : State) :
    ∃ t, execBlockTransferTimeout session s = .next t ∧ Kept s t := by
  refine ⟨_, rfl, ?_⟩
  try dsimp only
  have h := Kept.refl s
  repeat' first
    | with_reducible assumption
    | with_reducible apply State.blockTimeout_kept

theorem execUnknownService_kept (req : UnknownReq) (s : State) :
    ∃ t, execUnknownService req s = .next t ∧ Kept s t := by
  refine ⟨_, rfl, ?_⟩
  try dsimp only
  have h := Kept.refl s
  repeat' first
    | with_reducible assumption
    | with_reducible apply Kept.ite
    | with_reducible apply State.answer_kept
    | with_reducible apply State.mailAnswer_kept
    | with_reducible apply State.mailTake_kept
    | simp only []
    | intro _
    | split

theorem execSessionIdleTimeout_kept (session : BitVec 32) (s : State) :
    ∃ t, execSessionIdleTimeout session s = .next t ∧ Kept s t := by
  refine ⟨_, rfl, ?_⟩
  try dsimp only
  have h := Kept.refl s
  repeat' first
    | with_reducible assumption
    | with_reducible apply State.idleTimeout_kept

theorem execResetInstance_kept (z : ZReq) (id : BitVec 32) (s : State) :
    ∃ t, execResetInstance z id s = .next t ∧ Kept s t := by
  refine ⟨_, rfl, ?_⟩
  try dsimp only
  have h := Kept.refl s
  repeat' first
    | with_reducible assumption
    | with_reducible apply State.disposeOwn_kept

theorem execApprove_kept (z : ZReq) (arg : Nat) (s : State) :
    ∃ t, execApprove z arg s = .next t ∧ Kept s t := by
  refine ⟨_, rfl, ?_⟩
  try dsimp only
  have h := Kept.refl s
  repeat' first
    | with_reducible assumption
    | with_reducible apply State.cardOwn_kept

theorem execTxnTimeout_kept (s : State) :
    ∃ t, execTxnTimeout s = .next t ∧ Kept s t := by
  refine ⟨_, rfl, ?_⟩
  try dsimp only
  have h := Kept.refl s
  repeat' first
    | with_reducible assumption
    | with_reducible apply State.txnTimeout_kept

theorem execKeepalive_kept (z : ZReq) (s : State) :
    ∃ t, execKeepalive z s = .next t ∧ Kept s t := by
  refine ⟨_, rfl, ?_⟩
  try dsimp only
  have h := Kept.refl s
  repeat' first
    | with_reducible assumption
    | with_reducible apply State.answer_kept
    | simp only []
    | intro _

theorem execUnprotect_kept (z : ZReq) (arg : Nat) (s : State) :
    ∃ t, execUnprotect z arg s = .next t ∧ Kept s t := by
  refine ⟨_, rfl, ?_⟩
  try dsimp only
  have h := Kept.refl s
  repeat' first
    | with_reducible assumption
    | with_reducible apply State.cardOwn_kept

theorem execLogClear_kept (z : ZReq) (value : Bytes) (s : State) :
    ∃ t, execLogClear z value s = .next t ∧ Kept s t := by
  refine ⟨_, rfl, ?_⟩
  try dsimp only
  have h := Kept.refl s
  repeat' first
    | with_reducible assumption
    | with_reducible apply State.writeService_kept

theorem execRetry_kept (z : ZReq) (id : BitVec 32) (pass : Bool) (s : State) :
    ∃ t, execRetry z id pass s = .next t ∧ Kept s t := by
  refine ⟨_, rfl, ?_⟩
  try dsimp only
  have h := Kept.refl s
  repeat' first
    | with_reducible assumption
    | with_reducible apply State.disposeOwn_kept

theorem execLcRequest_kept (z : ZReq) (target : Nat) (token : Bytes) (s : State) :
    ∃ t, execLcRequest z target token s = .next t ∧ Kept s t := by
  refine ⟨_, rfl, ?_⟩
  try dsimp only
  have h := Kept.refl s
  repeat' first
    | with_reducible assumption
    | with_reducible apply State.writeService_kept

theorem execTxnBegin_kept (z : ZReq) (s : State) :
    ∃ t, execTxnBegin z s = .next t ∧ Kept s t := by
  refine ⟨_, rfl, ?_⟩
  try dsimp only
  have h := Kept.refl s
  repeat' first
    | with_reducible assumption
    | with_reducible apply State.answer_kept
    | with_reducible apply State.txnBegin_kept
    | intro _

theorem execLogCheckRun_kept (z : ZReq) (value : Bytes) (s : State) :
    ∃ t, execLogCheckRun z value s = .next t ∧ Kept s t := by
  refine ⟨_, rfl, ?_⟩
  try dsimp only
  have h := Kept.refl s
  repeat' first
    | with_reducible assumption
    | with_reducible apply State.writeService_kept

theorem execTimeSet_kept (z : ZReq) (value : Bytes) (s : State) :
    ∃ t, execTimeSet z value s = .next t ∧ Kept s t := by
  refine ⟨_, rfl, ?_⟩
  try dsimp only
  have h := Kept.refl s
  repeat' first
    | with_reducible assumption
    | with_reducible apply State.writeService_kept

theorem execTxnRollback_kept (z : ZReq) (id : BitVec 32) (s : State) :
    ∃ t, execTxnRollback z id s = .next t ∧ Kept s t := by
  refine ⟨_, rfl, ?_⟩
  try dsimp only
  have h := Kept.refl s
  repeat' first
    | with_reducible assumption
    | with_reducible apply State.answer_kept
    | with_reducible apply State.endTxn_kept
    | with_reducible apply State.rollback_kept
    | intro _

theorem execConfigLoad_kept (z : ZReq) (arg : Nat) (s : State) :
    ∃ t, execConfigLoad z arg s = .next t ∧ Kept s t := by
  refine ⟨_, rfl, ?_⟩
  try dsimp only
  have h := Kept.refl s
  repeat' first
    | with_reducible assumption
    | with_reducible apply State.cardOwn_kept

theorem execBlockAbort_kept (z : ZReq) (s : State) :
    ∃ t, execBlockAbort z s = .next t ∧ Kept s t := by
  refine ⟨_, rfl, ?_⟩
  try dsimp only
  have h := Kept.refl s
  repeat' first
    | with_reducible assumption
    | with_reducible apply Kept.iteSnd
    | with_reducible apply State.answer_kept
    | with_reducible apply State.noteService_kept
    | with_reducible apply State.setBlock_kept
    | simp only []
    | intro _

theorem execBlockData_kept (z : ZReq) (key : OdKey) (seg : Nat) (data : Bytes) (s : State) :
    ∃ t, execBlockData z key seg data s = .next t ∧ Kept s t := by
  refine ⟨_, rfl, ?_⟩
  try dsimp only
  have h := Kept.refl s
  repeat' first
    | with_reducible assumption
    | with_reducible apply State.answer_kept
    | with_reducible apply State.inBlock_kept
    | with_reducible apply State.blockData_kept
    | intro _

theorem execUnsubscribe_kept (z : ZReq) (s : State) :
    ∃ t, execUnsubscribe z s = .next t ∧ Kept s t := by
  refine ⟨_, rfl, ?_⟩
  try dsimp only
  have h := Kept.refl s
  repeat' first
    | with_reducible assumption
    | with_reducible apply State.answer_kept
    | with_reducible apply State.modSession_kept
    | simp only []
    | intro _

theorem execTamperAck_kept (z : ZReq) (value : Bytes) (s : State) :
    ∃ t, execTamperAck z value s = .next t ∧ Kept s t := by
  refine ⟨_, rfl, ?_⟩
  try dsimp only
  have h := Kept.refl s
  repeat' first
    | with_reducible assumption
    | with_reducible apply State.writeService_kept

theorem execAccept_kept (z : ZReq) (id : BitVec 32) (s : State) :
    ∃ t, execAccept z id s = .next t ∧ Kept s t := by
  refine ⟨_, rfl, ?_⟩
  try dsimp only
  have h := Kept.refl s
  repeat' first
    | with_reducible assumption
    | with_reducible apply State.disposeOwn_kept

theorem execRestore_kept (z : ZReq) (arg : Nat) (image : CardImage) (s : State) :
    ∃ t, execRestore z arg image s = .next t ∧ Kept s t := by
  refine ⟨_, rfl, ?_⟩
  try dsimp only
  have h := Kept.refl s
  repeat' first
    | with_reducible assumption
    | with_reducible apply State.cardOwn_kept

theorem execWrite_kept (z : ZReq) (key : OdKey) (value : Bytes) (s : State) :
    ∃ t, execWrite z key value s = .next t ∧ Kept s t := by
  refine ⟨_, rfl, ?_⟩
  try dsimp only
  have h := Kept.refl s
  repeat' first
    | with_reducible assumption
    | with_reducible apply State.writeService_kept

theorem execBlockClose_kept (z : ZReq) (key : OdKey) (digest : Bytes) (s : State) :
    ∃ t, execBlockClose z key digest s = .next t ∧ Kept s t := by
  refine ⟨_, rfl, ?_⟩
  try dsimp only
  have h := Kept.refl s
  repeat' first
    | with_reducible assumption
    | with_reducible apply State.serve_kept
    | with_reducible apply State.inBlock_kept
    | with_reducible apply State.closeBlock_kept
    | with_reducible apply State.followNetwork_kept
    | intro _

theorem execReplayDiscard_kept (session : BitVec 32) (seq : Nat) (tagOk : Bool) (s : State) :
    ∃ t, execReplayDiscard session seq tagOk s = .next t ∧ Kept s t := by
  refine ⟨_, rfl, ?_⟩
  try dsimp only
  have h := Kept.refl s
  repeat' first
    | with_reducible assumption
    | with_reducible apply State.replayDiscard_kept

theorem execBlockOpen_kept (z : ZReq) (key : OdKey) (dir : Nat) (total : Nat) (s : State) :
    ∃ t, execBlockOpen z key dir total s = .next t ∧ Kept s t := by
  refine ⟨_, rfl, ?_⟩
  try dsimp only
  have h := Kept.refl s
  repeat' first
    | with_reducible assumption
    | with_reducible apply Kept.iteSnd
    | with_reducible apply State.answer_kept
    | with_reducible apply State.noteService_kept
    | with_reducible apply State.openBlock_kept
    | simp only []
    | intro _
    | split

theorem execBackup_kept (z : ZReq) (arg : Nat) (s : State) :
    ∃ t, execBackup z arg s = .next t ∧ Kept s t := by
  refine ⟨_, rfl, ?_⟩
  try dsimp only
  have h := Kept.refl s
  repeat' first
    | with_reducible assumption
    | with_reducible apply State.cardOwn_kept

theorem execNext_kept (z : ZReq) (key : OdKey) (s : State) :
    ∃ t, execNext z key s = .next t ∧ Kept s t := by
  refine ⟨_, rfl, ?_⟩
  try dsimp only
  have h := Kept.refl s
  repeat' first
    | with_reducible assumption
    | with_reducible apply State.answer_kept
    | intro _
    | split

theorem execRetire_kept (z : ZReq) (id : BitVec 32) (s : State) :
    ∃ t, execRetire z id s = .next t ∧ Kept s t := by
  refine ⟨_, rfl, ?_⟩
  try dsimp only
  have h := Kept.refl s
  repeat' first
    | with_reducible assumption
    | with_reducible apply State.disposeOwn_kept

theorem execConfigSave_kept (z : ZReq) (arg : Nat) (s : State) :
    ∃ t, execConfigSave z arg s = .next t ∧ Kept s t := by
  refine ⟨_, rfl, ?_⟩
  try dsimp only
  have h := Kept.refl s
  repeat' first
    | with_reducible assumption
    | with_reducible apply State.cardOwn_kept

theorem execArchiveRatchet_kept (z : ZReq) (value : Bytes) (s : State) :
    ∃ t, execArchiveRatchet z value s = .next t ∧ Kept s t := by
  refine ⟨_, rfl, ?_⟩
  try dsimp only
  have h := Kept.refl s
  repeat' first
    | with_reducible assumption
    | with_reducible apply State.writeService_kept

theorem execDescribe_kept (z : ZReq) (key : OdKey) (s : State) :
    ∃ t, execDescribe z key s = .next t ∧ Kept s t := by
  refine ⟨_, rfl, ?_⟩
  try dsimp only
  have h := Kept.refl s
  repeat' first
    | with_reducible assumption
    | with_reducible apply State.answer_kept
    | intro _
    | split

theorem execTxnCommit_kept (z : ZReq) (id : BitVec 32) (s : State) :
    ∃ t, execTxnCommit z id s = .next t ∧ Kept s t := by
  refine ⟨_, rfl, ?_⟩
  try dsimp only
  have h := Kept.refl s
  repeat' first
    | with_reducible assumption
    | with_reducible apply Kept.iteSnd
    | with_reducible apply State.serve_kept
    | with_reducible apply State.endTxn_kept
    | with_reducible apply State.commitTxn_kept
    | with_reducible apply State.followNetwork_kept
    | simp only []
    | intro _

theorem execProtect_kept (z : ZReq) (arg : Nat) (s : State) :
    ∃ t, execProtect z arg s = .next t ∧ Kept s t := by
  refine ⟨_, rfl, ?_⟩
  try dsimp only
  have h := Kept.refl s
  repeat' first
    | with_reducible assumption
    | with_reducible apply State.cardOwn_kept

/-! ### Machine/SigOps.lean -/

theorem execSlhdsaKeygen_kept (slot : Fin 16384) (s : State) :
    ∃ t, execSlhdsaKeygen slot s = .next t ∧ Kept s t := by
  refine ⟨_, rfl, ?_⟩
  try dsimp only
  have h := Kept.refl s
  repeat' first
    | with_reducible assumption
    | with_reducible apply State.compute_kept

theorem execMldsaVerify_kept (slot : Fin 16384) (s : State) :
    ∃ t, execMldsaVerify slot s = .next t ∧ Kept s t := by
  refine ⟨_, rfl, ?_⟩
  try dsimp only
  have h := Kept.refl s
  repeat' first
    | with_reducible assumption
    | with_reducible apply State.compute_kept

theorem execEcAgree_kept (slot : Fin 16384) (s : State) :
    ∃ t, execEcAgree slot s = .next t ∧ Kept s t := by
  refine ⟨_, rfl, ?_⟩
  try dsimp only
  have h := Kept.refl s
  repeat' first
    | with_reducible assumption
    | with_reducible apply State.compute_kept

theorem execMldsaSignDeterministic_kept (slot : Fin 16384) (s : State) :
    ∃ t, execMldsaSignDeterministic slot s = .next t ∧ Kept s t := by
  refine ⟨_, rfl, ?_⟩
  try dsimp only
  have h := Kept.refl s
  repeat' first
    | with_reducible assumption
    | with_reducible apply State.compute_kept

theorem execFndsaKeygen_kept (slot : Fin 16384) (s : State) :
    ∃ t, execFndsaKeygen slot s = .next t ∧ Kept s t := by
  refine ⟨_, rfl, ?_⟩
  try dsimp only
  have h := Kept.refl s
  repeat' first
    | with_reducible assumption
    | with_reducible apply State.compute_kept

theorem execSlhdsaSignDeterministic_kept (slot : Fin 16384) (s : State) :
    ∃ t, execSlhdsaSignDeterministic slot s = .next t ∧ Kept s t := by
  refine ⟨_, rfl, ?_⟩
  try dsimp only
  have h := Kept.refl s
  repeat' first
    | with_reducible assumption
    | with_reducible apply State.compute_kept

theorem execRsaVerifyPkcs1_kept (slot : Fin 16384) (s : State) :
    ∃ t, execRsaVerifyPkcs1 slot s = .next t ∧ Kept s t := by
  refine ⟨_, rfl, ?_⟩
  try dsimp only
  have h := Kept.refl s
  repeat' first
    | with_reducible assumption
    | with_reducible apply State.compute_kept

theorem execHybVerify_kept (slot : Fin 16384) (s : State) :
    ∃ t, execHybVerify slot s = .next t ∧ Kept s t := by
  refine ⟨_, rfl, ?_⟩
  try dsimp only
  have h := Kept.refl s
  repeat' first
    | with_reducible assumption
    | with_reducible apply State.runOp_kept
    | with_reducible apply State.finish_kept
    | intro _

theorem execFndsaVerify_kept (slot : Fin 16384) (s : State) :
    ∃ t, execFndsaVerify slot s = .next t ∧ Kept s t := by
  refine ⟨_, rfl, ?_⟩
  try dsimp only
  have h := Kept.refl s
  repeat' first
    | with_reducible assumption
    | with_reducible apply State.compute_kept

theorem execEcSign_kept (slot : Fin 16384) (s : State) :
    ∃ t, execEcSign slot s = .next t ∧ Kept s t := by
  refine ⟨_, rfl, ?_⟩
  try dsimp only
  have h := Kept.refl s
  repeat' first
    | with_reducible assumption
    | with_reducible apply State.compute_kept

theorem execMldsaSign_kept (slot : Fin 16384) (s : State) :
    ∃ t, execMldsaSign slot s = .next t ∧ Kept s t := by
  refine ⟨_, rfl, ?_⟩
  try dsimp only
  have h := Kept.refl s
  repeat' first
    | with_reducible assumption
    | with_reducible apply State.compute_kept

theorem execRsaSignPss_kept (slot : Fin 16384) (s : State) :
    ∃ t, execRsaSignPss slot s = .next t ∧ Kept s t := by
  refine ⟨_, rfl, ?_⟩
  try dsimp only
  have h := Kept.refl s
  repeat' first
    | with_reducible assumption
    | with_reducible apply State.compute_kept

theorem execRsaOaepDecrypt_kept (slot : Fin 16384) (s : State) :
    ∃ t, execRsaOaepDecrypt slot s = .next t ∧ Kept s t := by
  refine ⟨_, rfl, ?_⟩
  try dsimp only
  have h := Kept.refl s
  repeat' first
    | with_reducible assumption
    | with_reducible apply State.compute_kept

theorem execEcAgreeKeep_kept (slot : Fin 16384) (s : State) :
    ∃ t, execEcAgreeKeep slot s = .next t ∧ Kept s t := by
  refine ⟨_, rfl, ?_⟩
  try dsimp only
  have h := Kept.refl s
  repeat' first
    | with_reducible assumption
    | with_reducible apply State.compute_kept

theorem execEcVerify_kept (slot : Fin 16384) (s : State) :
    ∃ t, execEcVerify slot s = .next t ∧ Kept s t := by
  refine ⟨_, rfl, ?_⟩
  try dsimp only
  have h := Kept.refl s
  repeat' first
    | with_reducible assumption
    | with_reducible apply State.compute_kept

theorem execHybSign_kept (slot : Fin 16384) (s : State) :
    ∃ t, execHybSign slot s = .next t ∧ Kept s t := by
  refine ⟨_, rfl, ?_⟩
  try dsimp only
  have h := Kept.refl s
  repeat' first
    | with_reducible assumption
    | with_reducible apply State.runOp_kept
    | with_reducible apply State.finish_kept
    | intro _

theorem execSlhdsaVerify_kept (slot : Fin 16384) (s : State) :
    ∃ t, execSlhdsaVerify slot s = .next t ∧ Kept s t := by
  refine ⟨_, rfl, ?_⟩
  try dsimp only
  have h := Kept.refl s
  repeat' first
    | with_reducible assumption
    | with_reducible apply State.compute_kept

theorem execRsaKeygen_kept (slot : Fin 16384) (s : State) :
    ∃ t, execRsaKeygen slot s = .next t ∧ Kept s t := by
  refine ⟨_, rfl, ?_⟩
  try dsimp only
  have h := Kept.refl s
  repeat' first
    | with_reducible assumption
    | with_reducible apply State.compute_kept

theorem execHybKeygen_kept (slot : Fin 16384) (s : State) :
    ∃ t, execHybKeygen slot s = .next t ∧ Kept s t := by
  refine ⟨_, rfl, ?_⟩
  try dsimp only
  have h := Kept.refl s
  repeat' first
    | with_reducible assumption
    | with_reducible apply State.runOp_kept
    | with_reducible apply State.finish_kept
    | intro _

theorem execMldsaKeygen_kept (slot : Fin 16384) (s : State) :
    ∃ t, execMldsaKeygen slot s = .next t ∧ Kept s t := by
  refine ⟨_, rfl, ?_⟩
  try dsimp only
  have h := Kept.refl s
  repeat' first
    | with_reducible assumption
    | with_reducible apply State.compute_kept

theorem execRsaVerifyPss_kept (slot : Fin 16384) (s : State) :
    ∃ t, execRsaVerifyPss slot s = .next t ∧ Kept s t := by
  refine ⟨_, rfl, ?_⟩
  try dsimp only
  have h := Kept.refl s
  repeat' first
    | with_reducible assumption
    | with_reducible apply State.compute_kept

theorem execFndsaSign_kept (slot : Fin 16384) (s : State) :
    ∃ t, execFndsaSign slot s = .next t ∧ Kept s t := by
  refine ⟨_, rfl, ?_⟩
  try dsimp only
  have h := Kept.refl s
  repeat' first
    | with_reducible assumption
    | with_reducible apply State.compute_kept

theorem execRsaSignPkcs1_kept (slot : Fin 16384) (s : State) :
    ∃ t, execRsaSignPkcs1 slot s = .next t ∧ Kept s t := by
  refine ⟨_, rfl, ?_⟩
  try dsimp only
  have h := Kept.refl s
  repeat' first
    | with_reducible assumption
    | with_reducible apply State.compute_kept

theorem execSlhdsaSign_kept (slot : Fin 16384) (s : State) :
    ∃ t, execSlhdsaSign slot s = .next t ∧ Kept s t := by
  refine ⟨_, rfl, ?_⟩
  try dsimp only
  have h := Kept.refl s
  repeat' first
    | with_reducible assumption
    | with_reducible apply State.compute_kept

theorem execEcKeygen_kept (slot : Fin 16384) (s : State) :
    ∃ t, execEcKeygen slot s = .next t ∧ Kept s t := by
  refine ⟨_, rfl, ?_⟩
  try dsimp only
  have h := Kept.refl s
  repeat' first
    | with_reducible assumption
    | with_reducible apply State.compute_kept

theorem execRsaOaepEncrypt_kept (slot : Fin 16384) (s : State) :
    ∃ t, execRsaOaepEncrypt slot s = .next t ∧ Kept s t := by
  refine ⟨_, rfl, ?_⟩
  try dsimp only
  have h := Kept.refl s
  repeat' first
    | with_reducible assumption
    | with_reducible apply State.compute_kept

/-! ### Machine/Startup.lean -/

theorem execEntropyStartFail_kept (s : State) :
    ∃ t, execEntropyStartFail s = .next t ∧ Kept s t := by
  refine ⟨_, rfl, ?_⟩
  try dsimp only
  have h := Kept.refl s
  repeat' first
    | with_reducible assumption
    | with_reducible apply Kept.ite
    | with_reducible apply State.entropyStartFail_kept
    | intro _

theorem execStartCold_kept (coinMv : Nat) (storedMj : Nat) (fullMj : Nat) (lost : Bool) (s : State) :
    ∃ t, execStartCold coinMv storedMj fullMj lost s = .next t ∧ Kept s t := by
  refine ⟨_, rfl, ?_⟩
  try dsimp only
  have h := Kept.refl s
  repeat' first
    | with_reducible assumption
    | with_reducible apply Kept.ite
    | with_reducible apply State.startCold_kept
    | intro _

theorem execKatComplete_kept (failed : List Nat) (s : State) :
    ∃ t, execKatComplete failed s = .next t ∧ Kept s t := by
  refine ⟨_, rfl, ?_⟩
  try dsimp only
  have h := Kept.refl s
  repeat' first
    | with_reducible assumption
    | with_reducible apply Kept.ite
    | with_reducible apply State.katComplete_kept
    | intro _

theorem execFirmwareAuthenticated_kept (slotA : FwImage) (slotB : FwImage) (cardImage : FwImage) (s : State) :
    ∃ t, execFirmwareAuthenticated slotA slotB cardImage s = .next t ∧ Kept s t := by
  refine ⟨_, rfl, ?_⟩
  try dsimp only
  have h := Kept.refl s
  repeat' first
    | with_reducible assumption
    | with_reducible apply Kept.ite
    | with_reducible apply State.authenticate_kept
    | intro _

theorem execDrbgFirstSeed_kept (which : Fin 16) (s : State) :
    ∃ t, execDrbgFirstSeed which s = .next t ∧ Kept s t := by
  refine ⟨_, rfl, ?_⟩
  try dsimp only
  have h := Kept.refl s
  repeat' first
    | with_reducible assumption
    | with_reducible apply Kept.ite
    | with_reducible apply State.firstSeed_kept
    | intro _

theorem execStartWarm_kept (coinMv : Nat) (storedMj : Nat) (fullMj : Nat) (lost : Bool) (s : State) :
    ∃ t, execStartWarm coinMv storedMj fullMj s = .next t ∧ Kept s t := by
  refine ⟨_, rfl, ?_⟩
  try dsimp only
  have h := Kept.refl s
  repeat' first
    | with_reducible assumption
    | with_reducible apply Kept.ite
    | with_reducible apply State.startWarm_kept
    | intro _

theorem execArchiveMount_kept (s : State) :
    ∃ t, execArchiveMount s = .next t ∧ Kept s t := by
  refine ⟨_, rfl, ?_⟩
  try dsimp only
  have h := Kept.refl s
  repeat' first
    | with_reducible assumption
    | with_reducible apply Kept.ite
    | with_reducible apply State.archiveMount_kept
    | intro _

/-! ### Machine/Symmetric.lean -/

theorem execKwUnwrap_kept (slot : Fin 16384) (s : State) :
    ∃ t, execKwUnwrap slot s = .next t ∧ Kept s t := by
  refine ⟨_, rfl, ?_⟩
  try dsimp only
  have h := Kept.refl s
  repeat' first
    | with_reducible assumption
    | with_reducible apply State.compute_kept

theorem execFrameCheck_kept (slot : Fin 16384) (s : State) :
    ∃ t, execFrameCheck slot s = .next t ∧ Kept s t := by
  refine ⟨_, rfl, ?_⟩
  try dsimp only
  have h := Kept.refl s
  repeat' first
    | with_reducible assumption
    | with_reducible apply State.runOp_kept
    | with_reducible apply State.finish_kept
    | with_reducible apply State.frameCheck_kept
    | intro _

theorem execXtsDecrypt_kept (slot : Fin 16384) (s : State) :
    ∃ t, execXtsDecrypt slot s = .next t ∧ Kept s t := by
  refine ⟨_, rfl, ?_⟩
  try dsimp only
  have h := Kept.refl s
  repeat' first
    | with_reducible assumption
    | with_reducible apply State.compute_kept

theorem execKwWrap_kept (slot : Fin 16384) (s : State) :
    ∃ t, execKwWrap slot s = .next t ∧ Kept s t := by
  refine ⟨_, rfl, ?_⟩
  try dsimp only
  have h := Kept.refl s
  repeat' first
    | with_reducible assumption
    | with_reducible apply State.compute_kept

theorem execGmacGenerate_kept (slot : Fin 16384) (s : State) :
    ∃ t, execGmacGenerate slot s = .next t ∧ Kept s t := by
  refine ⟨_, rfl, ?_⟩
  try dsimp only
  have h := Kept.refl s
  repeat' first
    | with_reducible assumption
    | with_reducible apply State.compute_kept

theorem execGcmEncrypt_kept (slot : Fin 16384) (s : State) :
    ∃ t, execGcmEncrypt slot s = .next t ∧ Kept s t := by
  refine ⟨_, rfl, ?_⟩
  try dsimp only
  have h := Kept.refl s
  repeat' first
    | with_reducible assumption
    | with_reducible apply State.compute_kept

theorem execGcmDecrypt_kept (slot : Fin 16384) (s : State) :
    ∃ t, execGcmDecrypt slot s = .next t ∧ Kept s t := by
  refine ⟨_, rfl, ?_⟩
  try dsimp only
  have h := Kept.refl s
  repeat' first
    | with_reducible assumption
    | with_reducible apply State.runOp_kept
    | with_reducible apply State.finishStream_kept
    | intro _

theorem execFrameTag_kept (slot : Fin 16384) (s : State) :
    ∃ t, execFrameTag slot s = .next t ∧ Kept s t := by
  refine ⟨_, rfl, ?_⟩
  try dsimp only
  have h := Kept.refl s
  repeat' first
    | with_reducible assumption
    | with_reducible apply State.compute_kept

theorem execXtsEncrypt_kept (slot : Fin 16384) (s : State) :
    ∃ t, execXtsEncrypt slot s = .next t ∧ Kept s t := by
  refine ⟨_, rfl, ?_⟩
  try dsimp only
  have h := Kept.refl s
  repeat' first
    | with_reducible assumption
    | with_reducible apply State.compute_kept

theorem execGmacVerify_kept (slot : Fin 16384) (s : State) :
    ∃ t, execGmacVerify slot s = .next t ∧ Kept s t := by
  refine ⟨_, rfl, ?_⟩
  try dsimp only
  have h := Kept.refl s
  repeat' first
    | with_reducible assumption
    | with_reducible apply State.compute_kept

/-! ### Machine/Tempo.lean -/

theorem execTempoWindow_kept (ps : Nat) (s : State) :
    ∃ t, execTempoWindow ps s = .next t ∧ Kept s t := by
  refine ⟨_, rfl, ?_⟩
  try dsimp only
  have h := Kept.refl s
  repeat' first
    | with_reducible assumption
    | with_reducible apply Kept.ite
    | with_reducible apply State.tempoWindow_kept
    | intro _

theorem execGovernorTick_kept (mw : Nat) (waiting : Nat) (inletMc : Int) (s : State) :
    ∃ t, execGovernorTick mw waiting inletMc s = .next t ∧ Kept s t := by
  refine ⟨_, rfl, ?_⟩
  try dsimp only
  have h := Kept.refl s
  repeat' first
    | with_reducible assumption
    | with_reducible apply Kept.ite
    | with_reducible apply State.governorTick_kept
    | intro _

/-! ### Machine/Utility.lean -/

theorem execRecipeRun_kept (slot : Fin 16384) (s : State) :
    ∃ t, execRecipeRun slot s = .next t ∧ Kept s t := by
  refine ⟨_, rfl, ?_⟩
  try dsimp only
  have h := Kept.refl s
  repeat' first
    | with_reducible assumption
    | with_reducible apply State.runOp_kept
    | with_reducible apply State.beginRun_kept
    | intro _

theorem execRandomReseed_kept (slot : Fin 16384) (s : State) :
    ∃ t, execRandomReseed slot s = .next t ∧ Kept s t := by
  refine ⟨_, rfl, ?_⟩
  try dsimp only
  have h := Kept.refl s
  repeat' first
    | with_reducible assumption
    | with_reducible apply State.compute_kept

theorem execRecipeUnload_kept (slot : Fin 16384) (s : State) :
    ∃ t, execRecipeUnload slot s = .next t ∧ Kept s t := by
  refine ⟨_, rfl, ?_⟩
  try dsimp only
  have h := Kept.refl s
  repeat' first
    | with_reducible assumption
    | with_reducible apply State.compute_kept

theorem execUndefinedOpcode_kept (slot : Fin 16384) (s : State) :
    ∃ t, execUndefinedOpcode slot s = .next t ∧ Kept s t := by
  refine ⟨_, rfl, ?_⟩
  try dsimp only
  have h := Kept.refl s
  repeat' first
    | with_reducible assumption
    | with_reducible apply State.undefinedOpcode_kept

theorem execRecipeInfo_kept (slot : Fin 16384) (s : State) :
    ∃ t, execRecipeInfo slot s = .next t ∧ Kept s t := by
  refine ⟨_, rfl, ?_⟩
  try dsimp only
  have h := Kept.refl s
  repeat' first
    | with_reducible assumption
    | with_reducible apply State.compute_kept

theorem execNop_kept (slot : Fin 16384) (s : State) :
    ∃ t, execNop slot s = .next t ∧ Kept s t := by
  refine ⟨_, rfl, ?_⟩
  try dsimp only
  have h := Kept.refl s
  repeat' first
    | with_reducible assumption
    | with_reducible apply State.runOp_kept
    | with_reducible apply State.finish_kept
    | intro _

theorem execRecipeLoad_kept (slot : Fin 16384) (s : State) :
    ∃ t, execRecipeLoad slot s = .next t ∧ Kept s t := by
  refine ⟨_, rfl, ?_⟩
  try dsimp only
  have h := Kept.refl s
  repeat' first
    | with_reducible assumption
    | with_reducible apply State.compute_kept

theorem execFence_kept (slot : Fin 16384) (s : State) :
    ∃ t, execFence slot s = .next t ∧ Kept s t := by
  refine ⟨_, rfl, ?_⟩
  try dsimp only
  have h := Kept.refl s
  repeat' first
    | with_reducible assumption
    | with_reducible apply State.runOp_kept
    | with_reducible apply State.finish_kept
    | intro _

theorem execRandomGenerate_kept (slot : Fin 16384) (s : State) :
    ∃ t, execRandomGenerate slot s = .next t ∧ Kept s t := by
  refine ⟨_, rfl, ?_⟩
  try dsimp only
  have h := Kept.refl s
  repeat' first
    | with_reducible assumption
    | with_reducible apply State.runOp_kept
    | with_reducible apply State.finish_kept
    | with_reducible apply State.randomGenerate_kept
    | intro _

end Sys2Proof.Machine
end

