-- ==== Sys2Proof/Laws/KeptEngineCommands.lean ====
section
/-! SUPPORT. Every command of these files of Machine/ answers a next state, and keeps what Laws/Kept.lean says: Clove, EngineCommands, Engines, Saffron, Scalar, Sequencer, Vector. -/

namespace Sys2Proof.Machine

open Sys2Proof

/-! ### Machine/Clove.lean -/

theorem execCloveSampleSmall_kept (slot : Fin 16384) (by_ : Issuer) (cmd : BitVec 64) (prm : BitVec 64) (s : State) :
    ∃ t, execCloveSampleSmall slot by_ cmd prm s = .next t ∧ Kept s t := by
  refine ⟨_, rfl, ?_⟩
  try dsimp only
  have h := Kept.refl s
  repeat' first
    | with_reducible assumption
    | with_reducible apply State.cloveDo_kept

theorem execCloveSelect_kept (slot : Fin 16384) (by_ : Issuer) (cmd : BitVec 64) (prm : BitVec 64) (s : State) :
    ∃ t, execCloveSelect slot by_ cmd prm s = .next t ∧ Kept s t := by
  refine ⟨_, rfl, ?_⟩
  try dsimp only
  have h := Kept.refl s
  repeat' first
    | with_reducible assumption
    | with_reducible apply State.cloveDo_kept

theorem execCloveUsehint_kept (slot : Fin 16384) (by_ : Issuer) (cmd : BitVec 64) (prm : BitVec 64) (s : State) :
    ∃ t, execCloveUsehint slot by_ cmd prm s = .next t ∧ Kept s t := by
  refine ⟨_, rfl, ?_⟩
  try dsimp only
  have h := Kept.refl s
  repeat' first
    | with_reducible assumption
    | with_reducible apply State.cloveDo_kept

theorem execCloveCopy_kept (slot : Fin 16384) (by_ : Issuer) (cmd : BitVec 64) (prm : BitVec 64) (s : State) :
    ∃ t, execCloveCopy slot by_ cmd prm s = .next t ∧ Kept s t := by
  refine ⟨_, rfl, ?_⟩
  try dsimp only
  have h := Kept.refl s
  repeat' first
    | with_reducible assumption
    | with_reducible apply State.cloveDo_kept

theorem execCloveB2a_kept (slot : Fin 16384) (by_ : Issuer) (cmd : BitVec 64) (prm : BitVec 64) (s : State) :
    ∃ t, execCloveB2a slot by_ cmd prm s = .next t ∧ Kept s t := by
  refine ⟨_, rfl, ?_⟩
  try dsimp only
  have h := Kept.refl s
  repeat' first
    | with_reducible assumption
    | with_reducible apply State.cloveDo_kept

theorem execCloveCompress_kept (slot : Fin 16384) (by_ : Issuer) (cmd : BitVec 64) (prm : BitVec 64) (s : State) :
    ∃ t, execCloveCompress slot by_ cmd prm s = .next t ∧ Kept s t := by
  refine ⟨_, rfl, ?_⟩
  try dsimp only
  have h := Kept.refl s
  repeat' first
    | with_reducible assumption
    | with_reducible apply State.cloveDo_kept

theorem execCloveNtt_kept (slot : Fin 16384) (by_ : Issuer) (cmd : BitVec 64) (prm : BitVec 64) (s : State) :
    ∃ t, execCloveNtt slot by_ cmd prm s = .next t ∧ Kept s t := by
  refine ⟨_, rfl, ?_⟩
  try dsimp only
  have h := Kept.refl s
  repeat' first
    | with_reducible assumption
    | with_reducible apply State.cloveDo_kept

theorem execCloveStreamMatvec_kept (slot : Fin 16384) (by_ : Issuer) (cmd : BitVec 64) (prm : BitVec 64) (s : State) :
    ∃ t, execCloveStreamMatvec slot by_ cmd prm s = .next t ∧ Kept s t := by
  refine ⟨_, rfl, ?_⟩
  try dsimp only
  have h := Kept.refl s
  repeat' first
    | with_reducible assumption
    | with_reducible apply State.cloveDo_kept
    | split

theorem execCloveGfeval_kept (slot : Fin 16384) (by_ : Issuer) (cmd : BitVec 64) (prm : BitVec 64) (s : State) :
    ∃ t, execCloveGfeval slot by_ cmd prm s = .next t ∧ Kept s t := by
  refine ⟨_, rfl, ?_⟩
  try dsimp only
  have h := Kept.refl s
  repeat' first
    | with_reducible assumption
    | with_reducible apply State.cloveDo_kept

theorem execCloveUnmask_kept (slot : Fin 16384) (by_ : Issuer) (cmd : BitVec 64) (prm : BitVec 64) (s : State) :
    ∃ t, execCloveUnmask slot by_ cmd prm s = .next t ∧ Kept s t := by
  refine ⟨_, rfl, ?_⟩
  try dsimp only
  have h := Kept.refl s
  repeat' first
    | with_reducible assumption
    | with_reducible apply State.cloveDo_kept

theorem execCloveAdd_kept (slot : Fin 16384) (by_ : Issuer) (cmd : BitVec 64) (prm : BitVec 64) (s : State) :
    ∃ t, execCloveAdd slot by_ cmd prm s = .next t ∧ Kept s t := by
  refine ⟨_, rfl, ?_⟩
  try dsimp only
  have h := Kept.refl s
  repeat' first
    | with_reducible assumption
    | with_reducible apply State.cloveDo_kept

theorem execCloveA2b_kept (slot : Fin 16384) (by_ : Issuer) (cmd : BitVec 64) (prm : BitVec 64) (s : State) :
    ∃ t, execCloveA2b slot by_ cmd prm s = .next t ∧ Kept s t := by
  refine ⟨_, rfl, ?_⟩
  try dsimp only
  have h := Kept.refl s
  repeat' first
    | with_reducible assumption
    | with_reducible apply State.cloveDo_kept

theorem execCloveGfmul_kept (slot : Fin 16384) (by_ : Issuer) (cmd : BitVec 64) (prm : BitVec 64) (s : State) :
    ∃ t, execCloveGfmul slot by_ cmd prm s = .next t ∧ Kept s t := by
  refine ⟨_, rfl, ?_⟩
  try dsimp only
  have h := Kept.refl s
  repeat' first
    | with_reducible assumption
    | with_reducible apply State.cloveDo_kept

theorem execCloveDot_kept (slot : Fin 16384) (by_ : Issuer) (cmd : BitVec 64) (prm : BitVec 64) (s : State) :
    ∃ t, execCloveDot slot by_ cmd prm s = .next t ∧ Kept s t := by
  refine ⟨_, rfl, ?_⟩
  try dsimp only
  have h := Kept.refl s
  repeat' first
    | with_reducible assumption
    | with_reducible apply State.cloveDo_kept

theorem execCloveSub_kept (slot : Fin 16384) (by_ : Issuer) (cmd : BitVec 64) (prm : BitVec 64) (s : State) :
    ∃ t, execCloveSub slot by_ cmd prm s = .next t ∧ Kept s t := by
  refine ⟨_, rfl, ?_⟩
  try dsimp only
  have h := Kept.refl s
  repeat' first
    | with_reducible assumption
    | with_reducible apply State.cloveDo_kept

theorem execCloveMaskedEq_kept (slot : Fin 16384) (by_ : Issuer) (cmd : BitVec 64) (prm : BitVec 64) (s : State) :
    ∃ t, execCloveMaskedEq slot by_ cmd prm s = .next t ∧ Kept s t := by
  refine ⟨_, rfl, ?_⟩
  try dsimp only
  have h := Kept.refl s
  repeat' first
    | with_reducible assumption
    | with_reducible apply State.cloveDo_kept

theorem execCloveXor_kept (slot : Fin 16384) (by_ : Issuer) (cmd : BitVec 64) (prm : BitVec 64) (s : State) :
    ∃ t, execCloveXor slot by_ cmd prm s = .next t ∧ Kept s t := by
  refine ⟨_, rfl, ?_⟩
  try dsimp only
  have h := Kept.refl s
  repeat' first
    | with_reducible assumption
    | with_reducible apply State.cloveDo_kept

theorem execClovePower2round_kept (slot : Fin 16384) (by_ : Issuer) (cmd : BitVec 64) (prm : BitVec 64) (s : State) :
    ∃ t, execClovePower2round slot by_ cmd prm s = .next t ∧ Kept s t := by
  refine ⟨_, rfl, ?_⟩
  try dsimp only
  have h := Kept.refl s
  repeat' first
    | with_reducible assumption
    | with_reducible apply State.cloveDo_kept

theorem execCloveGfinv_kept (slot : Fin 16384) (by_ : Issuer) (cmd : BitVec 64) (prm : BitVec 64) (s : State) :
    ∃ t, execCloveGfinv slot by_ cmd prm s = .next t ∧ Kept s t := by
  refine ⟨_, rfl, ?_⟩
  try dsimp only
  have h := Kept.refl s
  repeat' first
    | with_reducible assumption
    | with_reducible apply State.cloveDo_kept

theorem execCloveDecompose_kept (slot : Fin 16384) (by_ : Issuer) (cmd : BitVec 64) (prm : BitVec 64) (s : State) :
    ∃ t, execCloveDecompose slot by_ cmd prm s = .next t ∧ Kept s t := by
  refine ⟨_, rfl, ?_⟩
  try dsimp only
  have h := Kept.refl s
  repeat' first
    | with_reducible assumption
    | with_reducible apply State.cloveDo_kept

theorem execCloveUnpack_kept (slot : Fin 16384) (by_ : Issuer) (cmd : BitVec 64) (prm : BitVec 64) (s : State) :
    ∃ t, execCloveUnpack slot by_ cmd prm s = .next t ∧ Kept s t := by
  refine ⟨_, rfl, ?_⟩
  try dsimp only
  have h := Kept.refl s
  repeat' first
    | with_reducible assumption
    | with_reducible apply State.cloveDo_kept

theorem execCloveSampleUniform_kept (slot : Fin 16384) (by_ : Issuer) (cmd : BitVec 64) (prm : BitVec 64) (s : State) :
    ∃ t, execCloveSampleUniform slot by_ cmd prm s = .next t ∧ Kept s t := by
  refine ⟨_, rfl, ?_⟩
  try dsimp only
  have h := Kept.refl s
  repeat' first
    | with_reducible assumption
    | with_reducible apply State.cloveDo_kept

theorem execCloveZero_kept (slot : Fin 16384) (by_ : Issuer) (cmd : BitVec 64) (prm : BitVec 64) (s : State) :
    ∃ t, execCloveZero slot by_ cmd prm s = .next t ∧ Kept s t := by
  refine ⟨_, rfl, ?_⟩
  try dsimp only
  have h := Kept.refl s
  repeat' first
    | with_reducible assumption
    | with_reducible apply State.cloveDo_kept

theorem execCloveMakehint_kept (slot : Fin 16384) (by_ : Issuer) (cmd : BitVec 64) (prm : BitVec 64) (s : State) :
    ∃ t, execCloveMakehint slot by_ cmd prm s = .next t ∧ Kept s t := by
  refine ⟨_, rfl, ?_⟩
  try dsimp only
  have h := Kept.refl s
  repeat' first
    | with_reducible assumption
    | with_reducible apply State.cloveDo_kept

theorem execCloveClmulmod_kept (slot : Fin 16384) (by_ : Issuer) (cmd : BitVec 64) (prm : BitVec 64) (s : State) :
    ∃ t, execCloveClmulmod slot by_ cmd prm s = .next t ∧ Kept s t := by
  refine ⟨_, rfl, ?_⟩
  try dsimp only
  have h := Kept.refl s
  repeat' first
    | with_reducible assumption
    | with_reducible apply State.cloveDo_kept

theorem execClovePack_kept (slot : Fin 16384) (by_ : Issuer) (cmd : BitVec 64) (prm : BitVec 64) (s : State) :
    ∃ t, execClovePack slot by_ cmd prm s = .next t ∧ Kept s t := by
  refine ⟨_, rfl, ?_⟩
  try dsimp only
  have h := Kept.refl s
  repeat' first
    | with_reducible assumption
    | with_reducible apply State.cloveDo_kept

theorem execCloveIntt_kept (slot : Fin 16384) (by_ : Issuer) (cmd : BitVec 64) (prm : BitVec 64) (s : State) :
    ∃ t, execCloveIntt slot by_ cmd prm s = .next t ∧ Kept s t := by
  refine ⟨_, rfl, ?_⟩
  try dsimp only
  have h := Kept.refl s
  repeat' first
    | with_reducible assumption
    | with_reducible apply State.cloveDo_kept

theorem execCloveGfsqr_kept (slot : Fin 16384) (by_ : Issuer) (cmd : BitVec 64) (prm : BitVec 64) (s : State) :
    ∃ t, execCloveGfsqr slot by_ cmd prm s = .next t ∧ Kept s t := by
  refine ⟨_, rfl, ?_⟩
  try dsimp only
  have h := Kept.refl s
  repeat' first
    | with_reducible assumption
    | with_reducible apply State.cloveDo_kept

theorem execCloveDecompress_kept (slot : Fin 16384) (by_ : Issuer) (cmd : BitVec 64) (prm : BitVec 64) (s : State) :
    ∃ t, execCloveDecompress slot by_ cmd prm s = .next t ∧ Kept s t := by
  refine ⟨_, rfl, ?_⟩
  try dsimp only
  have h := Kept.refl s
  repeat' first
    | with_reducible assumption
    | with_reducible apply State.cloveDo_kept

theorem execCloveCmul_kept (slot : Fin 16384) (by_ : Issuer) (cmd : BitVec 64) (prm : BitVec 64) (s : State) :
    ∃ t, execCloveCmul slot by_ cmd prm s = .next t ∧ Kept s t := by
  refine ⟨_, rfl, ?_⟩
  try dsimp only
  have h := Kept.refl s
  repeat' first
    | with_reducible assumption
    | with_reducible apply State.cloveDo_kept

theorem execCloveNormchk_kept (slot : Fin 16384) (by_ : Issuer) (cmd : BitVec 64) (prm : BitVec 64) (s : State) :
    ∃ t, execCloveNormchk slot by_ cmd prm s = .next t ∧ Kept s t := by
  refine ⟨_, rfl, ?_⟩
  try dsimp only
  have h := Kept.refl s
  repeat' first
    | with_reducible assumption
    | with_reducible apply State.cloveDo_kept

theorem execClovePmul_kept (slot : Fin 16384) (by_ : Issuer) (cmd : BitVec 64) (prm : BitVec 64) (s : State) :
    ∃ t, execClovePmul slot by_ cmd prm s = .next t ∧ Kept s t := by
  refine ⟨_, rfl, ?_⟩
  try dsimp only
  have h := Kept.refl s
  repeat' first
    | with_reducible assumption
    | with_reducible apply State.cloveDo_kept

/-! ### Machine/EngineCommands.lean -/

theorem execSha256_kept (slot : Fin 16384) (cmd : BitVec 64) (prm : BitVec 64) (s : State) :
    ∃ t, execSha256 slot cmd prm s = .next t ∧ Kept s t := by
  refine ⟨_, rfl, ?_⟩
  try dsimp only
  have h := Kept.refl s
  repeat' first
    | with_reducible assumption
    | with_reducible apply State.hashCmd_kept

theorem execEcmd_kept (slot : Fin 16384) (rs1 : Fin 32) (rs2 : Fin 32) (funct : BitVec 11) (s : State) :
    ∃ t, execEcmd slot rs1 rs2 funct s = .next t ∧ Kept s t := by
  refine ⟨_, rfl, ?_⟩
  try dsimp only
  have h := Kept.refl s
  repeat' first
    | with_reducible assumption
    | with_reducible apply State.ecmdOther_kept

theorem execAbsorb_kept (slot : Fin 16384) (cmd : BitVec 64) (prm : BitVec 64) (s : State) :
    ∃ t, execAbsorb slot cmd prm s = .next t ∧ Kept s t := by
  refine ⟨_, rfl, ?_⟩
  try dsimp only
  have h := Kept.refl s
  repeat' first
    | with_reducible assumption
    | with_reducible apply State.hashCmd_kept

theorem execEwait_kept (slot : Fin 16384) (rd : Fin 32) (funct : BitVec 11) (s : State) :
    ∃ t, execEwait slot rd funct s = .next t ∧ Kept s t := by
  refine ⟨_, rfl, ?_⟩
  try dsimp only
  have h := Kept.refl s
  repeat' first
    | with_reducible assumption
    | with_reducible apply State.ewait_kept

theorem execSha512_kept (slot : Fin 16384) (cmd : BitVec 64) (prm : BitVec 64) (s : State) :
    ∃ t, execSha512 slot cmd prm s = .next t ∧ Kept s t := by
  refine ⟨_, rfl, ?_⟩
  try dsimp only
  have h := Kept.refl s
  repeat' first
    | with_reducible assumption
    | with_reducible apply State.hashCmd_kept

theorem execDma_kept (slot : Fin 16384) (cmd : BitVec 64) (prm : BitVec 64) (s : State) :
    ∃ t, execDma slot cmd prm s = .next t ∧ Kept s t := by
  refine ⟨_, rfl, ?_⟩
  try dsimp only
  have h := Kept.refl s
  repeat' first
    | with_reducible assumption
    | with_reducible apply State.dma_kept

theorem execPermute_kept (slot : Fin 16384) (cmd : BitVec 64) (prm : BitVec 64) (s : State) :
    ∃ t, execPermute slot cmd prm s = .next t ∧ Kept s t := by
  refine ⟨_, rfl, ?_⟩
  try dsimp only
  have h := Kept.refl s
  repeat' first
    | with_reducible assumption
    | with_reducible apply State.hashCmd_kept

theorem execRetain_kept (slot : Fin 16384) (rs1 : Fin 32) (s : State) :
    ∃ t, execRetain slot rs1 s = .next t ∧ Kept s t := by
  refine ⟨_, rfl, ?_⟩
  try dsimp only
  have h := Kept.refl s
  repeat' first
    | with_reducible assumption
    | with_reducible apply State.retain_kept

/-! ### Machine/Engines.lean -/

theorem execEngineCommandDone_kept (kind : Nat) (unit : Fin 387) (outcome : EngineOutcome) (count : Nat) (s : State) :
    ∃ t, execEngineCommandDone kind unit outcome count s = .next t ∧ Kept s t := by
  refine ⟨_, rfl, ?_⟩
  try dsimp only
  have h := Kept.refl s
  repeat' first
    | with_reducible assumption
    | with_reducible apply State.engineDone_kept

/-! ### Machine/Saffron.lean -/

theorem execAccClear_kept (unit : Fin 18) (cmd : BitVec 64) (release : Bool) (s : State) :
    ∃ t, execAccClear unit cmd release s = .next t ∧ Kept s t := by
  refine ⟨_, rfl, ?_⟩
  try dsimp only
  have h := Kept.refl s
  repeat' first
    | with_reducible assumption
    | with_reducible apply State.saffronDo_kept

theorem execSaffronZero_kept (unit : Fin 18) (cmd : BitVec 64) (release : Bool) (s : State) :
    ∃ t, execSaffronZero unit cmd release s = .next t ∧ Kept s t := by
  refine ⟨_, rfl, ?_⟩
  try dsimp only
  have h := Kept.refl s
  repeat' first
    | with_reducible assumption
    | with_reducible apply State.saffronDo_kept

theorem execSaffronMac_kept (unit : Fin 18) (cmd : BitVec 64) (release : Bool) (s : State) :
    ∃ t, execSaffronMac unit cmd release s = .next t ∧ Kept s t := by
  refine ⟨_, rfl, ?_⟩
  try dsimp only
  have h := Kept.refl s
  repeat' first
    | with_reducible assumption
    | with_reducible apply State.saffronDo_kept

theorem execUnseal_kept (unit : Fin 18) (cmd : BitVec 64) (release : Bool) (s : State) :
    ∃ t, execUnseal unit cmd release s = .next t ∧ Kept s t := by
  refine ⟨_, rfl, ?_⟩
  try dsimp only
  have h := Kept.refl s
  repeat' first
    | with_reducible assumption
    | with_reducible apply State.saffronDo_kept

theorem execFmulSel_kept (unit : Fin 18) (cmd : BitVec 64) (release : Bool) (s : State) :
    ∃ t, execFmulSel unit cmd release s = .next t ∧ Kept s t := by
  refine ⟨_, rfl, ?_⟩
  try dsimp only
  have h := Kept.refl s
  repeat' first
    | with_reducible assumption
    | with_reducible apply State.saffronDo_kept

theorem execSaffronFmul_kept (unit : Fin 18) (cmd : BitVec 64) (release : Bool) (s : State) :
    ∃ t, execSaffronFmul unit cmd release s = .next t ∧ Kept s t := by
  refine ⟨_, rfl, ?_⟩
  try dsimp only
  have h := Kept.refl s
  repeat' first
    | with_reducible assumption
    | with_reducible apply State.saffronDo_kept

theorem execMacShift_kept (unit : Fin 18) (cmd : BitVec 64) (release : Bool) (s : State) :
    ∃ t, execMacShift unit cmd release s = .next t ∧ Kept s t := by
  refine ⟨_, rfl, ?_⟩
  try dsimp only
  have h := Kept.refl s
  repeat' first
    | with_reducible assumption
    | with_reducible apply State.saffronDo_kept

theorem execAccOut_kept (unit : Fin 18) (cmd : BitVec 64) (release : Bool) (s : State) :
    ∃ t, execAccOut unit cmd release s = .next t ∧ Kept s t := by
  refine ⟨_, rfl, ?_⟩
  try dsimp only
  have h := Kept.refl s
  repeat' first
    | with_reducible assumption
    | with_reducible apply State.saffronDo_kept

/-! ### Machine/Scalar.lean -/

theorem execCtlw_kept (slot : Fin 16384) (rd : Fin 32) (rs1 : Fin 32) (imm : BitVec 16) (s : State) :
    ∃ t, execCtlw slot rd rs1 imm s = .next t ∧ Kept s t := by
  refine ⟨_, rfl, ?_⟩
  try dsimp only
  have h := Kept.refl s
  repeat' first
    | with_reducible assumption
    | with_reducible apply Kept.ite
    | with_reducible apply State.instr_kept
    | with_reducible apply State.trap_kept
    | with_reducible apply State.setRun_kept
    | simp only []
    | intro _

theorem execItof_kept (slot : Fin 16384) (rd : Fin 32) (rs1 : Fin 32) (rs2 : Fin 32) (s : State) :
    ∃ t, execItof slot rd rs1 rs2 s = .next t ∧ Kept s t := by
  refine ⟨_, rfl, ?_⟩
  try dsimp only
  have h := Kept.refl s
  repeat' first
    | with_reducible assumption
    | with_reducible apply State.simple_kept

theorem execBltu_kept (slot : Fin 16384) (rs1 : Fin 32) (rs2 : Fin 32) (imm : BitVec 16) (s : State) :
    ∃ t, execBltu slot rs1 rs2 imm s = .next t ∧ Kept s t := by
  refine ⟨_, rfl, ?_⟩
  try dsimp only
  have h := Kept.refl s
  repeat' first
    | with_reducible assumption
    | with_reducible apply State.branch_kept

theorem execLdb_kept (slot : Fin 16384) (rd : Fin 32) (rs1 : Fin 32) (imm : BitVec 16) (s : State) :
    ∃ t, execLdb slot rd rs1 imm s = .next t ∧ Kept s t := by
  refine ⟨_, rfl, ?_⟩
  try dsimp only
  have h := Kept.refl s
  repeat' first
    | with_reducible assumption
    | with_reducible apply State.loadWin_kept

theorem execRemu_kept (slot : Fin 16384) (rd : Fin 32) (rs1 : Fin 32) (rs2 : Fin 32) (s : State) :
    ∃ t, execRemu slot rd rs1 rs2 s = .next t ∧ Kept s t := by
  refine ⟨_, rfl, ?_⟩
  try dsimp only
  have h := Kept.refl s
  repeat' first
    | with_reducible assumption
    | with_reducible apply State.division_kept

theorem execAdd_kept (slot : Fin 16384) (rd : Fin 32) (rs1 : Fin 32) (rs2 : Fin 32) (s : State) :
    ∃ t, execAdd slot rd rs1 rs2 s = .next t ∧ Kept s t := by
  refine ⟨_, rfl, ?_⟩
  try dsimp only
  have h := Kept.refl s
  repeat' first
    | with_reducible assumption
    | with_reducible apply State.alu_kept

theorem execLdh_kept (slot : Fin 16384) (rd : Fin 32) (rs1 : Fin 32) (imm : BitVec 16) (s : State) :
    ∃ t, execLdh slot rd rs1 imm s = .next t ∧ Kept s t := by
  refine ⟨_, rfl, ?_⟩
  try dsimp only
  have h := Kept.refl s
  repeat' first
    | with_reducible assumption
    | with_reducible apply State.loadWin_kept

theorem execShrs_kept (slot : Fin 16384) (rd : Fin 32) (rs1 : Fin 32) (rs2 : Fin 32) (s : State) :
    ∃ t, execShrs slot rd rs1 rs2 s = .next t ∧ Kept s t := by
  refine ⟨_, rfl, ?_⟩
  try dsimp only
  have h := Kept.refl s
  repeat' first
    | with_reducible assumption
    | with_reducible apply State.alu_kept

theorem execJmpl_kept (slot : Fin 16384) (rd : Fin 32) (off : BitVec 21) (s : State) :
    ∃ t, execJmpl slot rd off s = .next t ∧ Kept s t := by
  refine ⟨_, rfl, ?_⟩
  try dsimp only
  have h := Kept.refl s
  repeat' first
    | with_reducible assumption
    | with_reducible apply State.instr_kept
    | with_reducible apply State.setRun_kept
    | simp only []
    | intro _

theorem execBeq_kept (slot : Fin 16384) (rs1 : Fin 32) (rs2 : Fin 32) (imm : BitVec 16) (s : State) :
    ∃ t, execBeq slot rs1 rs2 imm s = .next t ∧ Kept s t := by
  refine ⟨_, rfl, ?_⟩
  try dsimp only
  have h := Kept.refl s
  repeat' first
    | with_reducible assumption
    | with_reducible apply State.branch_kept

theorem execDivu_kept (slot : Fin 16384) (rd : Fin 32) (rs1 : Fin 32) (rs2 : Fin 32) (s : State) :
    ∃ t, execDivu slot rd rs1 rs2 s = .next t ∧ Kept s t := by
  refine ⟨_, rfl, ?_⟩
  try dsimp only
  have h := Kept.refl s
  repeat' first
    | with_reducible assumption
    | with_reducible apply State.division_kept

theorem execPopc_kept (slot : Fin 16384) (rd : Fin 32) (rs1 : Fin 32) (rs2 : Fin 32) (s : State) :
    ∃ t, execPopc slot rd rs1 rs2 s = .next t ∧ Kept s t := by
  refine ⟨_, rfl, ?_⟩
  try dsimp only
  have h := Kept.refl s
  repeat' first
    | with_reducible assumption
    | with_reducible apply State.alu_kept

theorem execStw_kept (slot : Fin 16384) (rs1 : Fin 32) (rs2 : Fin 32) (imm : BitVec 16) (s : State) :
    ∃ t, execStw slot rs1 rs2 imm s = .next t ∧ Kept s t := by
  refine ⟨_, rfl, ?_⟩
  try dsimp only
  have h := Kept.refl s
  repeat' first
    | with_reducible assumption
    | with_reducible apply State.storeWin_kept

theorem execMulhs_kept (slot : Fin 16384) (rd : Fin 32) (rs1 : Fin 32) (rs2 : Fin 32) (s : State) :
    ∃ t, execMulhs slot rd rs1 rs2 s = .next t ∧ Kept s t := by
  refine ⟨_, rfl, ?_⟩
  try dsimp only
  have h := Kept.refl s
  repeat' first
    | with_reducible assumption
    | with_reducible apply State.alu_kept

theorem execStb_kept (slot : Fin 16384) (rs1 : Fin 32) (rs2 : Fin 32) (imm : BitVec 16) (s : State) :
    ∃ t, execStb slot rs1 rs2 imm s = .next t ∧ Kept s t := by
  refine ⟨_, rfl, ?_⟩
  try dsimp only
  have h := Kept.refl s
  repeat' first
    | with_reducible assumption
    | with_reducible apply State.storeWin_kept

theorem execFmin_kept (slot : Fin 16384) (rd : Fin 32) (rs1 : Fin 32) (rs2 : Fin 32) (s : State) :
    ∃ t, execFmin slot rd rs1 rs2 s = .next t ∧ Kept s t := by
  refine ⟨_, rfl, ?_⟩
  try dsimp only
  have h := Kept.refl s
  repeat' first
    | with_reducible assumption
    | with_reducible apply State.fpu_kept

theorem execShrsi_kept (slot : Fin 16384) (rd : Fin 32) (rs1 : Fin 32) (imm : BitVec 16) (s : State) :
    ∃ t, execShrsi slot rd rs1 imm s = .next t ∧ Kept s t := by
  refine ⟨_, rfl, ?_⟩
  try dsimp only
  have h := Kept.refl s
  repeat' first
    | with_reducible assumption
    | with_reducible apply State.shiftI_kept

theorem execCtlr_kept (slot : Fin 16384) (rd : Fin 32) (rs1 : Fin 32) (imm : BitVec 16) (s : State) :
    ∃ t, execCtlr slot rd rs1 imm s = .next t ∧ Kept s t := by
  refine ⟨_, rfl, ?_⟩
  try dsimp only
  have h := Kept.refl s
  repeat' first
    | with_reducible assumption
    | with_reducible apply State.instr_kept
    | with_reducible apply State.setRun_kept
    | with_reducible apply State.take_kept
    | simp only []
    | intro _
    | split

theorem execBgeu_kept (slot : Fin 16384) (rs1 : Fin 32) (rs2 : Fin 32) (imm : BitVec 16) (s : State) :
    ∃ t, execBgeu slot rs1 rs2 imm s = .next t ∧ Kept s t := by
  refine ⟨_, rfl, ?_⟩
  try dsimp only
  have h := Kept.refl s
  repeat' first
    | with_reducible assumption
    | with_reducible apply State.branch_kept

theorem execMulhu_kept (slot : Fin 16384) (rd : Fin 32) (rs1 : Fin 32) (rs2 : Fin 32) (s : State) :
    ∃ t, execMulhu slot rd rs1 rs2 s = .next t ∧ Kept s t := by
  refine ⟨_, rfl, ?_⟩
  try dsimp only
  have h := Kept.refl s
  repeat' first
    | with_reducible assumption
    | with_reducible apply State.alu_kept

theorem execSth_kept (slot : Fin 16384) (rs1 : Fin 32) (rs2 : Fin 32) (imm : BitVec 16) (s : State) :
    ∃ t, execSth slot rs1 rs2 imm s = .next t ∧ Kept s t := by
  refine ⟨_, rfl, ?_⟩
  try dsimp only
  have h := Kept.refl s
  repeat' first
    | with_reducible assumption
    | with_reducible apply State.storeWin_kept

theorem execRem_kept (slot : Fin 16384) (rd : Fin 32) (rs1 : Fin 32) (rs2 : Fin 32) (s : State) :
    ∃ t, execRem slot rd rs1 rs2 s = .next t ∧ Kept s t := by
  refine ⟨_, rfl, ?_⟩
  try dsimp only
  have h := Kept.refl s
  repeat' first
    | with_reducible assumption
    | with_reducible apply State.division_kept

theorem execShru_kept (slot : Fin 16384) (rd : Fin 32) (rs1 : Fin 32) (rs2 : Fin 32) (s : State) :
    ∃ t, execShru slot rd rs1 rs2 s = .next t ∧ Kept s t := by
  refine ⟨_, rfl, ?_⟩
  try dsimp only
  have h := Kept.refl s
  repeat' first
    | with_reducible assumption
    | with_reducible apply State.alu_kept

theorem execRotr_kept (slot : Fin 16384) (rd : Fin 32) (rs1 : Fin 32) (rs2 : Fin 32) (s : State) :
    ∃ t, execRotr slot rd rs1 rs2 s = .next t ∧ Kept s t := by
  refine ⟨_, rfl, ?_⟩
  try dsimp only
  have h := Kept.refl s
  repeat' first
    | with_reducible assumption
    | with_reducible apply State.alu_kept

theorem execAddi_kept (slot : Fin 16384) (rd : Fin 32) (rs1 : Fin 32) (imm : BitVec 16) (s : State) :
    ∃ t, execAddi slot rd rs1 imm s = .next t ∧ Kept s t := by
  refine ⟨_, rfl, ?_⟩
  try dsimp only
  have h := Kept.refl s
  repeat' first
    | with_reducible assumption
    | with_reducible apply State.aluI_kept

theorem execShl_kept (slot : Fin 16384) (rd : Fin 32) (rs1 : Fin 32) (rs2 : Fin 32) (s : State) :
    ∃ t, execShl slot rd rs1 rs2 s = .next t ∧ Kept s t := by
  refine ⟨_, rfl, ?_⟩
  try dsimp only
  have h := Kept.refl s
  repeat' first
    | with_reducible assumption
    | with_reducible apply State.alu_kept

theorem execOr_kept (slot : Fin 16384) (rd : Fin 32) (rs1 : Fin 32) (rs2 : Fin 32) (s : State) :
    ∃ t, execOr slot rd rs1 rs2 s = .next t ∧ Kept s t := by
  refine ⟨_, rfl, ?_⟩
  try dsimp only
  have h := Kept.refl s
  repeat' first
    | with_reducible assumption
    | with_reducible apply State.alu_kept

theorem execFbits_kept (slot : Fin 16384) (rd : Fin 32) (rs1 : Fin 32) (rs2 : Fin 32) (s : State) :
    ∃ t, execFbits slot rd rs1 rs2 s = .next t ∧ Kept s t := by
  refine ⟨_, rfl, ?_⟩
  try dsimp only
  have h := Kept.refl s
  repeat' first
    | with_reducible assumption
    | with_reducible apply State.simple_kept

theorem execXor_kept (slot : Fin 16384) (rd : Fin 32) (rs1 : Fin 32) (rs2 : Fin 32) (s : State) :
    ∃ t, execXor slot rd rs1 rs2 s = .next t ∧ Kept s t := by
  refine ⟨_, rfl, ?_⟩
  try dsimp only
  have h := Kept.refl s
  repeat' first
    | with_reducible assumption
    | with_reducible apply State.alu_kept

theorem execOri_kept (slot : Fin 16384) (rd : Fin 32) (rs1 : Fin 32) (imm : BitVec 16) (s : State) :
    ∃ t, execOri slot rd rs1 imm s = .next t ∧ Kept s t := by
  refine ⟨_, rfl, ?_⟩
  try dsimp only
  have h := Kept.refl s
  repeat' first
    | with_reducible assumption
    | with_reducible apply State.aluI_kept

theorem execBlt_kept (slot : Fin 16384) (rs1 : Fin 32) (rs2 : Fin 32) (imm : BitVec 16) (s : State) :
    ∃ t, execBlt slot rs1 rs2 imm s = .next t ∧ Kept s t := by
  refine ⟨_, rfl, ?_⟩
  try dsimp only
  have h := Kept.refl s
  repeat' first
    | with_reducible assumption
    | with_reducible apply State.branch_kept

theorem execLdhi_kept (slot : Fin 16384) (rd : Fin 32) (imm : BitVec 16) (s : State) :
    ∃ t, execLdhi slot rd imm s = .next t ∧ Kept s t := by
  refine ⟨_, rfl, ?_⟩
  try dsimp only
  have h := Kept.refl s
  repeat' first
    | with_reducible assumption
    | with_reducible apply State.simple_kept

theorem execFsqrt_kept (slot : Fin 16384) (rd : Fin 32) (rs1 : Fin 32) (rs2 : Fin 32) (s : State) :
    ∃ t, execFsqrt slot rd rs1 rs2 s = .next t ∧ Kept s t := by
  refine ⟨_, rfl, ?_⟩
  try dsimp only
  have h := Kept.refl s
  repeat' first
    | with_reducible assumption
    | with_reducible apply State.fpu_kept

theorem execCmplt_kept (slot : Fin 16384) (rd : Fin 32) (rs1 : Fin 32) (rs2 : Fin 32) (s : State) :
    ∃ t, execCmplt slot rd rs1 rs2 s = .next t ∧ Kept s t := by
  refine ⟨_, rfl, ?_⟩
  try dsimp only
  have h := Kept.refl s
  repeat' first
    | with_reducible assumption
    | with_reducible apply State.alu_kept

theorem execFldd_kept (slot : Fin 16384) (rd : Fin 32) (rs1 : Fin 32) (imm : BitVec 16) (s : State) :
    ∃ t, execFldd slot rd rs1 imm s = .next t ∧ Kept s t := by
  refine ⟨_, rfl, ?_⟩
  try dsimp only
  have h := Kept.refl s
  repeat' first
    | with_reducible assumption
    | with_reducible apply State.loadWin_kept

theorem execFcopysign_kept (slot : Fin 16384) (rd : Fin 32) (rs1 : Fin 32) (rs2 : Fin 32) (s : State) :
    ∃ t, execFcopysign slot rd rs1 rs2 s = .next t ∧ Kept s t := by
  refine ⟨_, rfl, ?_⟩
  try dsimp only
  have h := Kept.refl s
  repeat' first
    | with_reducible assumption
    | with_reducible apply State.fpu_kept

theorem execFmax_kept (slot : Fin 16384) (rd : Fin 32) (rs1 : Fin 32) (rs2 : Fin 32) (s : State) :
    ∃ t, execFmax slot rd rs1 rs2 s = .next t ∧ Kept s t := by
  refine ⟨_, rfl, ?_⟩
  try dsimp only
  have h := Kept.refl s
  repeat' first
    | with_reducible assumption
    | with_reducible apply State.fpu_kept

theorem execCmpltu_kept (slot : Fin 16384) (rd : Fin 32) (rs1 : Fin 32) (rs2 : Fin 32) (s : State) :
    ∃ t, execCmpltu slot rd rs1 rs2 s = .next t ∧ Kept s t := by
  refine ⟨_, rfl, ?_⟩
  try dsimp only
  have h := Kept.refl s
  repeat' first
    | with_reducible assumption
    | with_reducible apply State.alu_kept

theorem execFmul_kept (slot : Fin 16384) (rd : Fin 32) (rs1 : Fin 32) (rs2 : Fin 32) (s : State) :
    ∃ t, execFmul slot rd rs1 rs2 s = .next t ∧ Kept s t := by
  refine ⟨_, rfl, ?_⟩
  try dsimp only
  have h := Kept.refl s
  repeat' first
    | with_reducible assumption
    | with_reducible apply State.fpu_kept

theorem execLdw_kept (slot : Fin 16384) (rd : Fin 32) (rs1 : Fin 32) (imm : BitVec 16) (s : State) :
    ∃ t, execLdw slot rd rs1 imm s = .next t ∧ Kept s t := by
  refine ⟨_, rfl, ?_⟩
  try dsimp only
  have h := Kept.refl s
  repeat' first
    | with_reducible assumption
    | with_reducible apply State.loadWin_kept

theorem execRotl_kept (slot : Fin 16384) (rd : Fin 32) (rs1 : Fin 32) (rs2 : Fin 32) (s : State) :
    ∃ t, execRotl slot rd rs1 rs2 s = .next t ∧ Kept s t := by
  refine ⟨_, rfl, ?_⟩
  try dsimp only
  have h := Kept.refl s
  repeat' first
    | with_reducible assumption
    | with_reducible apply State.alu_kept

theorem execXori_kept (slot : Fin 16384) (rd : Fin 32) (rs1 : Fin 32) (imm : BitVec 16) (s : State) :
    ∃ t, execXori slot rd rs1 imm s = .next t ∧ Kept s t := by
  refine ⟨_, rfl, ?_⟩
  try dsimp only
  have h := Kept.refl s
  repeat' first
    | with_reducible assumption
    | with_reducible apply State.aluI_kept

theorem execBge_kept (slot : Fin 16384) (rs1 : Fin 32) (rs2 : Fin 32) (imm : BitVec 16) (s : State) :
    ∃ t, execBge slot rs1 rs2 imm s = .next t ∧ Kept s t := by
  refine ⟨_, rfl, ?_⟩
  try dsimp only
  have h := Kept.refl s
  repeat' first
    | with_reducible assumption
    | with_reducible apply State.branch_kept

theorem execDiv_kept (slot : Fin 16384) (rd : Fin 32) (rs1 : Fin 32) (rs2 : Fin 32) (s : State) :
    ∃ t, execDiv slot rd rs1 rs2 s = .next t ∧ Kept s t := by
  refine ⟨_, rfl, ?_⟩
  try dsimp only
  have h := Kept.refl s
  repeat' first
    | with_reducible assumption
    | with_reducible apply State.division_kept

theorem execBne_kept (slot : Fin 16384) (rs1 : Fin 32) (rs2 : Fin 32) (imm : BitVec 16) (s : State) :
    ∃ t, execBne slot rs1 rs2 imm s = .next t ∧ Kept s t := by
  refine ⟨_, rfl, ?_⟩
  try dsimp only
  have h := Kept.refl s
  repeat' first
    | with_reducible assumption
    | with_reducible apply State.branch_kept

theorem execAndi_kept (slot : Fin 16384) (rd : Fin 32) (rs1 : Fin 32) (imm : BitVec 16) (s : State) :
    ∃ t, execAndi slot rd rs1 imm s = .next t ∧ Kept s t := by
  refine ⟨_, rfl, ?_⟩
  try dsimp only
  have h := Kept.refl s
  repeat' first
    | with_reducible assumption
    | with_reducible apply State.aluI_kept

theorem execFsub_kept (slot : Fin 16384) (rd : Fin 32) (rs1 : Fin 32) (rs2 : Fin 32) (s : State) :
    ∃ t, execFsub slot rd rs1 rs2 s = .next t ∧ Kept s t := by
  refine ⟨_, rfl, ?_⟩
  try dsimp only
  have h := Kept.refl s
  repeat' first
    | with_reducible assumption
    | with_reducible apply State.fpu_kept

theorem execAnd_kept (slot : Fin 16384) (rd : Fin 32) (rs1 : Fin 32) (rs2 : Fin 32) (s : State) :
    ∃ t, execAnd slot rd rs1 rs2 s = .next t ∧ Kept s t := by
  refine ⟨_, rfl, ?_⟩
  try dsimp only
  have h := Kept.refl s
  repeat' first
    | with_reducible assumption
    | with_reducible apply State.alu_kept

theorem execFstd_kept (slot : Fin 16384) (rs1 : Fin 32) (rs2 : Fin 32) (imm : BitVec 16) (s : State) :
    ∃ t, execFstd slot rs1 rs2 imm s = .next t ∧ Kept s t := by
  refine ⟨_, rfl, ?_⟩
  try dsimp only
  have h := Kept.refl s
  repeat' first
    | with_reducible assumption
    | with_reducible apply State.storeWin_kept

theorem execMul_kept (slot : Fin 16384) (rd : Fin 32) (rs1 : Fin 32) (rs2 : Fin 32) (s : State) :
    ∃ t, execMul slot rd rs1 rs2 s = .next t ∧ Kept s t := by
  refine ⟨_, rfl, ?_⟩
  try dsimp only
  have h := Kept.refl s
  repeat' first
    | with_reducible assumption
    | with_reducible apply State.alu_kept

theorem execLdd_kept (slot : Fin 16384) (rd : Fin 32) (rs1 : Fin 32) (imm : BitVec 16) (s : State) :
    ∃ t, execLdd slot rd rs1 imm s = .next t ∧ Kept s t := by
  refine ⟨_, rfl, ?_⟩
  try dsimp only
  have h := Kept.refl s
  repeat' first
    | with_reducible assumption
    | with_reducible apply State.loadWin_kept

theorem execFdiv_kept (slot : Fin 16384) (rd : Fin 32) (rs1 : Fin 32) (rs2 : Fin 32) (s : State) :
    ∃ t, execFdiv slot rd rs1 rs2 s = .next t ∧ Kept s t := by
  refine ⟨_, rfl, ?_⟩
  try dsimp only
  have h := Kept.refl s
  repeat' first
    | with_reducible assumption
    | with_reducible apply State.fpu_kept

theorem execFtoi_kept (slot : Fin 16384) (rd : Fin 32) (rs1 : Fin 32) (rs2 : Fin 32) (s : State) :
    ∃ t, execFtoi slot rd rs1 rs2 s = .next t ∧ Kept s t := by
  refine ⟨_, rfl, ?_⟩
  try dsimp only
  have h := Kept.refl s
  repeat' first
    | with_reducible assumption
    | with_reducible apply State.simple_kept

theorem execShrui_kept (slot : Fin 16384) (rd : Fin 32) (rs1 : Fin 32) (imm : BitVec 16) (s : State) :
    ∃ t, execShrui slot rd rs1 imm s = .next t ∧ Kept s t := by
  refine ⟨_, rfl, ?_⟩
  try dsimp only
  have h := Kept.refl s
  repeat' first
    | with_reducible assumption
    | with_reducible apply State.shiftI_kept

theorem execClz_kept (slot : Fin 16384) (rd : Fin 32) (rs1 : Fin 32) (rs2 : Fin 32) (s : State) :
    ∃ t, execClz slot rd rs1 rs2 s = .next t ∧ Kept s t := by
  refine ⟨_, rfl, ?_⟩
  try dsimp only
  have h := Kept.refl s
  repeat' first
    | with_reducible assumption
    | with_reducible apply State.alu_kept

theorem execShli_kept (slot : Fin 16384) (rd : Fin 32) (rs1 : Fin 32) (imm : BitVec 16) (s : State) :
    ∃ t, execShli slot rd rs1 imm s = .next t ∧ Kept s t := by
  refine ⟨_, rfl, ?_⟩
  try dsimp only
  have h := Kept.refl s
  repeat' first
    | with_reducible assumption
    | with_reducible apply State.shiftI_kept

theorem execJmpr_kept (slot : Fin 16384) (rd : Fin 32) (rs1 : Fin 32) (imm : BitVec 16) (s : State) :
    ∃ t, execJmpr slot rd rs1 imm s = .next t ∧ Kept s t := by
  refine ⟨_, rfl, ?_⟩
  try dsimp only
  have h := Kept.refl s
  repeat' first
    | with_reducible assumption
    | with_reducible apply State.instr_kept
    | with_reducible apply State.setRun_kept
    | simp only []
    | intro _

theorem execFcmp_kept (slot : Fin 16384) (rd : Fin 32) (rs1 : Fin 32) (rs2 : Fin 32) (s : State) :
    ∃ t, execFcmp slot rd rs1 rs2 s = .next t ∧ Kept s t := by
  refine ⟨_, rfl, ?_⟩
  try dsimp only
  have h := Kept.refl s
  repeat' first
    | with_reducible assumption
    | with_reducible apply State.simple_kept

theorem execRotli_kept (slot : Fin 16384) (rd : Fin 32) (rs1 : Fin 32) (imm : BitVec 16) (s : State) :
    ∃ t, execRotli slot rd rs1 imm s = .next t ∧ Kept s t := by
  refine ⟨_, rfl, ?_⟩
  try dsimp only
  have h := Kept.refl s
  repeat' first
    | with_reducible assumption
    | with_reducible apply State.shiftI_kept

theorem execSub_kept (slot : Fin 16384) (rd : Fin 32) (rs1 : Fin 32) (rs2 : Fin 32) (s : State) :
    ∃ t, execSub slot rd rs1 rs2 s = .next t ∧ Kept s t := by
  refine ⟨_, rfl, ?_⟩
  try dsimp only
  have h := Kept.refl s
  repeat' first
    | with_reducible assumption
    | with_reducible apply State.alu_kept

theorem execStd_kept (slot : Fin 16384) (rs1 : Fin 32) (rs2 : Fin 32) (imm : BitVec 16) (s : State) :
    ∃ t, execStd slot rs1 rs2 imm s = .next t ∧ Kept s t := by
  refine ⟨_, rfl, ?_⟩
  try dsimp only
  have h := Kept.refl s
  repeat' first
    | with_reducible assumption
    | with_reducible apply State.storeWin_kept

theorem execFadd_kept (slot : Fin 16384) (rd : Fin 32) (rs1 : Fin 32) (rs2 : Fin 32) (s : State) :
    ∃ t, execFadd slot rd rs1 rs2 s = .next t ∧ Kept s t := by
  refine ⟨_, rfl, ?_⟩
  try dsimp only
  have h := Kept.refl s
  repeat' first
    | with_reducible assumption
    | with_reducible apply State.fpu_kept

theorem execGbits_kept (slot : Fin 16384) (rd : Fin 32) (rs1 : Fin 32) (rs2 : Fin 32) (s : State) :
    ∃ t, execGbits slot rd rs1 rs2 s = .next t ∧ Kept s t := by
  refine ⟨_, rfl, ?_⟩
  try dsimp only
  have h := Kept.refl s
  repeat' first
    | with_reducible assumption
    | with_reducible apply State.simple_kept

/-! ### Machine/Sequencer.lean -/

theorem execUndefinedInstruction_kept (slot : Fin 16384) (word : BitVec 32) (s : State) :
    ∃ t, execUndefinedInstruction slot word s = .next t ∧ Kept s t := by
  refine ⟨_, rfl, ?_⟩
  try dsimp only
  have h := Kept.refl s
  repeat' first
    | with_reducible assumption
    | with_reducible apply State.undefinedInstruction_kept

theorem execPlacementTrapResolved_kept (slot : Fin 16384) (s : State) :
    ∃ t, execPlacementTrapResolved slot s = .next t ∧ Kept s t := by
  refine ⟨_, rfl, ?_⟩
  try dsimp only
  have h := Kept.refl s
  repeat' first
    | with_reducible assumption
    | with_reducible apply State.placed_kept

theorem execHalt_kept (slot : Fin 16384) (rs1 : Fin 32) (s : State) :
    ∃ t, execHalt slot rs1 s = .next t ∧ Kept s t := by
  refine ⟨_, rfl, ?_⟩
  try dsimp only
  have h := Kept.refl s
  repeat' first
    | with_reducible assumption
    | with_reducible apply State.instr_kept
    | with_reducible apply State.conclude_kept
    | simp only []
    | intro _

/-! ### Machine/Vector.lean -/

theorem execVminu_kept (slot : Fin 16384) (vd : Fin 32) (vs1 : Fin 32) (vs2 : Fin 32) (vm : Bool) (s : State) :
    ∃ t, execVminu slot vd vs1 vs2 vm s = .next t ∧ Kept s t := by
  refine ⟨_, rfl, ?_⟩
  try dsimp only
  have h := Kept.refl s
  repeat' first
    | with_reducible assumption
    | with_reducible apply State.vecInt_kept

theorem execVextract_kept (slot : Fin 16384) (vd : Fin 32) (vs1 : Fin 32) (vs2 : Fin 32) (vm : Bool) (s : State) :
    ∃ t, execVextract slot vd vs1 vs2 vm s = .next t ∧ Kept s t := by
  refine ⟨_, rfl, ?_⟩
  try dsimp only
  have h := Kept.refl s
  repeat' first
    | with_reducible assumption
    | with_reducible apply State.vecOut_kept

theorem execVcmplt_kept (slot : Fin 16384) (vd : Fin 32) (vs1 : Fin 32) (vs2 : Fin 32) (vm : Bool) (s : State) :
    ∃ t, execVcmplt slot vd vs1 vs2 vm s = .next t ∧ Kept s t := by
  refine ⟨_, rfl, ?_⟩
  try dsimp only
  have h := Kept.refl s
  repeat' first
    | with_reducible assumption
    | with_reducible apply State.vecCmp_kept

theorem execVshl_kept (slot : Fin 16384) (vd : Fin 32) (vs1 : Fin 32) (vs2 : Fin 32) (vm : Bool) (s : State) :
    ∃ t, execVshl slot vd vs1 vs2 vm s = .next t ∧ Kept s t := by
  refine ⟨_, rfl, ?_⟩
  try dsimp only
  have h := Kept.refl s
  repeat' first
    | with_reducible assumption
    | with_reducible apply State.vecInt_kept

theorem execVsub_kept (slot : Fin 16384) (vd : Fin 32) (vs1 : Fin 32) (vs2 : Fin 32) (vm : Bool) (s : State) :
    ∃ t, execVsub slot vd vs1 vs2 vm s = .next t ∧ Kept s t := by
  refine ⟨_, rfl, ?_⟩
  try dsimp only
  have h := Kept.refl s
  repeat' first
    | with_reducible assumption
    | with_reducible apply State.vecInt_kept

theorem execVftoi_kept (slot : Fin 16384) (vd : Fin 32) (vs1 : Fin 32) (vs2 : Fin 32) (vm : Bool) (s : State) :
    ∃ t, execVftoi slot vd vs1 vs2 vm s = .next t ∧ Kept s t := by
  refine ⟨_, rfl, ?_⟩
  try dsimp only
  have h := Kept.refl s
  repeat' first
    | with_reducible assumption
    | with_reducible apply State.vecFloat_kept

theorem execVshiftdn_kept (slot : Fin 16384) (vd : Fin 32) (vs1 : Fin 32) (vs2 : Fin 32) (vm : Bool) (s : State) :
    ∃ t, execVshiftdn slot vd vs1 vs2 vm s = .next t ∧ Kept s t := by
  refine ⟨_, rfl, ?_⟩
  try dsimp only
  have h := Kept.refl s
  repeat' first
    | with_reducible assumption
    | with_reducible apply State.vecPerm_kept

theorem execVcmpltVs_kept (slot : Fin 16384) (vd : Fin 32) (vs1 : Fin 32) (vs2 : Fin 32) (vm : Bool) (s : State) :
    ∃ t, execVcmpltVs slot vd vs1 vs2 vm s = .next t ∧ Kept s t := by
  refine ⟨_, rfl, ?_⟩
  try dsimp only
  have h := Kept.refl s
  repeat' first
    | with_reducible assumption
    | with_reducible apply State.vecCmp_kept

theorem execVmmul_kept (slot : Fin 16384) (vd : Fin 32) (vs1 : Fin 32) (vs2 : Fin 32) (vm : Bool) (s : State) :
    ∃ t, execVmmul slot vd vs1 vs2 vm s = .next t ∧ Kept s t := by
  refine ⟨_, rfl, ?_⟩
  try dsimp only
  have h := Kept.refl s
  repeat' first
    | with_reducible assumption
    | with_reducible apply State.vecMod_kept

theorem execVorVs_kept (slot : Fin 16384) (vd : Fin 32) (vs1 : Fin 32) (vs2 : Fin 32) (vm : Bool) (s : State) :
    ∃ t, execVorVs slot vd vs1 vs2 vm s = .next t ∧ Kept s t := by
  refine ⟨_, rfl, ?_⟩
  try dsimp only
  have h := Kept.refl s
  repeat' first
    | with_reducible assumption
    | with_reducible apply State.vecInt_kept

theorem execVmneg_kept (slot : Fin 16384) (vd : Fin 32) (vs1 : Fin 32) (vs2 : Fin 32) (vm : Bool) (s : State) :
    ∃ t, execVmneg slot vd vs1 vs2 vm s = .next t ∧ Kept s t := by
  refine ⟨_, rfl, ?_⟩
  try dsimp only
  have h := Kept.refl s
  repeat' first
    | with_reducible assumption
    | with_reducible apply State.vecMod_kept

theorem execVshruVs_kept (slot : Fin 16384) (vd : Fin 32) (vs1 : Fin 32) (vs2 : Fin 32) (vm : Bool) (s : State) :
    ∃ t, execVshruVs slot vd vs1 vs2 vm s = .next t ∧ Kept s t := by
  refine ⟨_, rfl, ?_⟩
  try dsimp only
  have h := Kept.refl s
  repeat' first
    | with_reducible assumption
    | with_reducible apply State.vecInt_kept

theorem execVitof_kept (slot : Fin 16384) (vd : Fin 32) (vs1 : Fin 32) (vs2 : Fin 32) (vm : Bool) (s : State) :
    ∃ t, execVitof slot vd vs1 vs2 vm s = .next t ∧ Kept s t := by
  refine ⟨_, rfl, ?_⟩
  try dsimp only
  have h := Kept.refl s
  repeat' first
    | with_reducible assumption
    | with_reducible apply State.vecFloat_kept

theorem execVshrsVs_kept (slot : Fin 16384) (vd : Fin 32) (vs1 : Fin 32) (vs2 : Fin 32) (vm : Bool) (s : State) :
    ∃ t, execVshrsVs slot vd vs1 vs2 vm s = .next t ∧ Kept s t := by
  refine ⟨_, rfl, ?_⟩
  try dsimp only
  have h := Kept.refl s
  repeat' first
    | with_reducible assumption
    | with_reducible apply State.vecInt_kept

theorem execVmcount_kept (slot : Fin 16384) (vd : Fin 32) (vs1 : Fin 32) (vs2 : Fin 32) (vm : Bool) (s : State) :
    ∃ t, execVmcount slot vd vs1 vs2 vm s = .next t ∧ Kept s t := by
  refine ⟨_, rfl, ?_⟩
  try dsimp only
  have h := Kept.refl s
  repeat' first
    | with_reducible assumption
    | with_reducible apply State.vecOut_kept

theorem execVand_kept (slot : Fin 16384) (vd : Fin 32) (vs1 : Fin 32) (vs2 : Fin 32) (vm : Bool) (s : State) :
    ∃ t, execVand slot vd vs1 vs2 vm s = .next t ∧ Kept s t := by
  refine ⟨_, rfl, ?_⟩
  try dsimp only
  have h := Kept.refl s
  repeat' first
    | with_reducible assumption
    | with_reducible apply State.vecInt_kept

theorem execVshlVs_kept (slot : Fin 16384) (vd : Fin 32) (vs1 : Fin 32) (vs2 : Fin 32) (vm : Bool) (s : State) :
    ∃ t, execVshlVs slot vd vs1 vs2 vm s = .next t ∧ Kept s t := by
  refine ⟨_, rfl, ?_⟩
  try dsimp only
  have h := Kept.refl s
  repeat' first
    | with_reducible assumption
    | with_reducible apply State.vecInt_kept

theorem execVcmpeqVs_kept (slot : Fin 16384) (vd : Fin 32) (vs1 : Fin 32) (vs2 : Fin 32) (vm : Bool) (s : State) :
    ∃ t, execVcmpeqVs slot vd vs1 vs2 vm s = .next t ∧ Kept s t := by
  refine ⟨_, rfl, ?_⟩
  try dsimp only
  have h := Kept.refl s
  repeat' first
    | with_reducible assumption
    | with_reducible apply State.vecCmp_kept

theorem execVadd_kept (slot : Fin 16384) (vd : Fin 32) (vs1 : Fin 32) (vs2 : Fin 32) (vm : Bool) (s : State) :
    ∃ t, execVadd slot vd vs1 vs2 vm s = .next t ∧ Kept s t := by
  refine ⟨_, rfl, ?_⟩
  try dsimp only
  have h := Kept.refl s
  repeat' first
    | with_reducible assumption
    | with_reducible apply State.vecInt_kept

theorem execVcmpltu_kept (slot : Fin 16384) (vd : Fin 32) (vs1 : Fin 32) (vs2 : Fin 32) (vm : Bool) (s : State) :
    ∃ t, execVcmpltu slot vd vs1 vs2 vm s = .next t ∧ Kept s t := by
  refine ⟨_, rfl, ?_⟩
  try dsimp only
  have h := Kept.refl s
  repeat' first
    | with_reducible assumption
    | with_reducible apply State.vecCmp_kept

theorem execVcfg_kept (slot : Fin 16384) (vd : Fin 32) (vs1 : Fin 32) (vs2 : Fin 32) (vm : Bool) (s : State) :
    ∃ t, execVcfg slot vd vs1 vs2 vm s = .next t ∧ Kept s t := by
  refine ⟨_, rfl, ?_⟩
  try dsimp only
  have h := Kept.refl s
  repeat' first
    | with_reducible assumption
    | with_reducible apply State.vecConfig_kept

theorem execVstUnit_kept (slot : Fin 16384) (vd : Fin 32) (vs1 : Fin 32) (vs2 : Fin 32) (vm : Bool) (s : State) :
    ∃ t, execVstUnit slot vd vs1 vs2 vm s = .next t ∧ Kept s t := by
  refine ⟨_, rfl, ?_⟩
  try dsimp only
  have h := Kept.refl s
  repeat' first
    | with_reducible assumption
    | with_reducible apply State.vecAccess_kept

theorem execVaddVs_kept (slot : Fin 16384) (vd : Fin 32) (vs1 : Fin 32) (vs2 : Fin 32) (vm : Bool) (s : State) :
    ∃ t, execVaddVs slot vd vs1 vs2 vm s = .next t ∧ Kept s t := by
  refine ⟨_, rfl, ?_⟩
  try dsimp only
  have h := Kept.refl s
  repeat' first
    | with_reducible assumption
    | with_reducible apply State.vecInt_kept

theorem execVcmpeq_kept (slot : Fin 16384) (vd : Fin 32) (vs1 : Fin 32) (vs2 : Fin 32) (vm : Bool) (s : State) :
    ∃ t, execVcmpeq slot vd vs1 vs2 vm s = .next t ∧ Kept s t := by
  refine ⟨_, rfl, ?_⟩
  try dsimp only
  have h := Kept.refl s
  repeat' first
    | with_reducible assumption
    | with_reducible apply State.vecCmp_kept

theorem execVmmulx_kept (slot : Fin 16384) (vd : Fin 32) (vs1 : Fin 32) (vs2 : Fin 32) (vm : Bool) (s : State) :
    ∃ t, execVmmulx slot vd vs1 vs2 vm s = .next t ∧ Kept s t := by
  refine ⟨_, rfl, ?_⟩
  try dsimp only
  have h := Kept.refl s
  repeat' first
    | with_reducible assumption
    | with_reducible apply State.vecMod_kept

theorem execVmulhuVs_kept (slot : Fin 16384) (vd : Fin 32) (vs1 : Fin 32) (vs2 : Fin 32) (vm : Bool) (s : State) :
    ∃ t, execVmulhuVs slot vd vs1 vs2 vm s = .next t ∧ Kept s t := by
  refine ⟨_, rfl, ?_⟩
  try dsimp only
  have h := Kept.refl s
  repeat' first
    | with_reducible assumption
    | with_reducible apply State.vecInt_kept

theorem execVor_kept (slot : Fin 16384) (vd : Fin 32) (vs1 : Fin 32) (vs2 : Fin 32) (vm : Bool) (s : State) :
    ∃ t, execVor slot vd vs1 vs2 vm s = .next t ∧ Kept s t := by
  refine ⟨_, rfl, ?_⟩
  try dsimp only
  have h := Kept.refl s
  repeat' first
    | with_reducible assumption
    | with_reducible apply State.vecInt_kept

theorem execVsplat_kept (slot : Fin 16384) (vd : Fin 32) (vs1 : Fin 32) (vs2 : Fin 32) (vm : Bool) (s : State) :
    ∃ t, execVsplat slot vd vs1 vs2 vm s = .next t ∧ Kept s t := by
  refine ⟨_, rfl, ?_⟩
  try dsimp only
  have h := Kept.refl s
  repeat' first
    | with_reducible assumption
    | with_reducible apply State.vecPerm_kept

theorem execVmaxu_kept (slot : Fin 16384) (vd : Fin 32) (vs1 : Fin 32) (vs2 : Fin 32) (vm : Bool) (s : State) :
    ∃ t, execVmaxu slot vd vs1 vs2 vm s = .next t ∧ Kept s t := by
  refine ⟨_, rfl, ?_⟩
  try dsimp only
  have h := Kept.refl s
  repeat' first
    | with_reducible assumption
    | with_reducible apply State.vecInt_kept

theorem execVmred_kept (slot : Fin 16384) (vd : Fin 32) (vs1 : Fin 32) (vs2 : Fin 32) (vm : Bool) (s : State) :
    ∃ t, execVmred slot vd vs1 vs2 vm s = .next t ∧ Kept s t := by
  refine ⟨_, rfl, ?_⟩
  try dsimp only
  have h := Kept.refl s
  repeat' first
    | with_reducible assumption
    | with_reducible apply State.vecMod_kept

theorem execVperm_kept (slot : Fin 16384) (vd : Fin 32) (vs1 : Fin 32) (vs2 : Fin 32) (vm : Bool) (s : State) :
    ∃ t, execVperm slot vd vs1 vs2 vm s = .next t ∧ Kept s t := by
  refine ⟨_, rfl, ?_⟩
  try dsimp only
  have h := Kept.refl s
  repeat' first
    | with_reducible assumption
    | with_reducible apply State.vecPerm_kept

theorem execVindex_kept (slot : Fin 16384) (vd : Fin 32) (vs1 : Fin 32) (vs2 : Fin 32) (vm : Bool) (s : State) :
    ∃ t, execVindex slot vd vs1 vs2 vm s = .next t ∧ Kept s t := by
  refine ⟨_, rfl, ?_⟩
  try dsimp only
  have h := Kept.refl s
  repeat' first
    | with_reducible assumption
    | with_reducible apply State.vecPerm_kept

theorem execVldUnit_kept (slot : Fin 16384) (vd : Fin 32) (vs1 : Fin 32) (vs2 : Fin 32) (vm : Bool) (s : State) :
    ∃ t, execVldUnit slot vd vs1 vs2 vm s = .next t ∧ Kept s t := by
  refine ⟨_, rfl, ?_⟩
  try dsimp only
  have h := Kept.refl s
  repeat' first
    | with_reducible assumption
    | with_reducible apply State.vecAccess_kept

theorem execVmadd_kept (slot : Fin 16384) (vd : Fin 32) (vs1 : Fin 32) (vs2 : Fin 32) (vm : Bool) (s : State) :
    ∃ t, execVmadd slot vd vs1 vs2 vm s = .next t ∧ Kept s t := by
  refine ⟨_, rfl, ?_⟩
  try dsimp only
  have h := Kept.refl s
  repeat' first
    | with_reducible assumption
    | with_reducible apply State.vecMod_kept

theorem execVfmax_kept (slot : Fin 16384) (vd : Fin 32) (vs1 : Fin 32) (vs2 : Fin 32) (vm : Bool) (s : State) :
    ∃ t, execVfmax slot vd vs1 vs2 vm s = .next t ∧ Kept s t := by
  refine ⟨_, rfl, ?_⟩
  try dsimp only
  have h := Kept.refl s
  repeat' first
    | with_reducible assumption
    | with_reducible apply State.vecFloat_kept

theorem execVcmpltuVs_kept (slot : Fin 16384) (vd : Fin 32) (vs1 : Fin 32) (vs2 : Fin 32) (vm : Bool) (s : State) :
    ∃ t, execVcmpltuVs slot vd vs1 vs2 vm s = .next t ∧ Kept s t := by
  refine ⟨_, rfl, ?_⟩
  try dsimp only
  have h := Kept.refl s
  repeat' first
    | with_reducible assumption
    | with_reducible apply State.vecCmp_kept

theorem execVmul_kept (slot : Fin 16384) (vd : Fin 32) (vs1 : Fin 32) (vs2 : Fin 32) (vm : Bool) (s : State) :
    ∃ t, execVmul slot vd vs1 vs2 vm s = .next t ∧ Kept s t := by
  refine ⟨_, rfl, ?_⟩
  try dsimp only
  have h := Kept.refl s
  repeat' first
    | with_reducible assumption
    | with_reducible apply State.vecInt_kept

theorem execVblendVs_kept (slot : Fin 16384) (vd : Fin 32) (vs1 : Fin 32) (vs2 : Fin 32) (vm : Bool) (s : State) :
    ∃ t, execVblendVs slot vd vs1 vs2 vm s = .next t ∧ Kept s t := by
  refine ⟨_, rfl, ?_⟩
  try dsimp only
  have h := Kept.refl s
  repeat' first
    | with_reducible assumption
    | with_reducible apply State.vecBlend_kept

theorem execVshrs_kept (slot : Fin 16384) (vd : Fin 32) (vs1 : Fin 32) (vs2 : Fin 32) (vm : Bool) (s : State) :
    ∃ t, execVshrs slot vd vs1 vs2 vm s = .next t ∧ Kept s t := by
  refine ⟨_, rfl, ?_⟩
  try dsimp only
  have h := Kept.refl s
  repeat' first
    | with_reducible assumption
    | with_reducible apply State.vecInt_kept

theorem execVsubVs_kept (slot : Fin 16384) (vd : Fin 32) (vs1 : Fin 32) (vs2 : Fin 32) (vm : Bool) (s : State) :
    ∃ t, execVsubVs slot vd vs1 vs2 vm s = .next t ∧ Kept s t := by
  refine ⟨_, rfl, ?_⟩
  try dsimp only
  have h := Kept.refl s
  repeat' first
    | with_reducible assumption
    | with_reducible apply State.vecInt_kept

theorem execVminuVs_kept (slot : Fin 16384) (vd : Fin 32) (vs1 : Fin 32) (vs2 : Fin 32) (vm : Bool) (s : State) :
    ∃ t, execVminuVs slot vd vs1 vs2 vm s = .next t ∧ Kept s t := by
  refine ⟨_, rfl, ?_⟩
  try dsimp only
  have h := Kept.refl s
  repeat' first
    | with_reducible assumption
    | with_reducible apply State.vecInt_kept

theorem execVfmin_kept (slot : Fin 16384) (vd : Fin 32) (vs1 : Fin 32) (vs2 : Fin 32) (vm : Bool) (s : State) :
    ∃ t, execVfmin slot vd vs1 vs2 vm s = .next t ∧ Kept s t := by
  refine ⟨_, rfl, ?_⟩
  try dsimp only
  have h := Kept.refl s
  repeat' first
    | with_reducible assumption
    | with_reducible apply State.vecFloat_kept

theorem execVldIndexed_kept (slot : Fin 16384) (vd : Fin 32) (vs1 : Fin 32) (vs2 : Fin 32) (vm : Bool) (s : State) :
    ∃ t, execVldIndexed slot vd vs1 vs2 vm s = .next t ∧ Kept s t := by
  refine ⟨_, rfl, ?_⟩
  try dsimp only
  have h := Kept.refl s
  repeat' first
    | with_reducible assumption
    | with_reducible apply State.vecAccess_kept

theorem execVfsqrt_kept (slot : Fin 16384) (vd : Fin 32) (vs1 : Fin 32) (vs2 : Fin 32) (vm : Bool) (s : State) :
    ∃ t, execVfsqrt slot vd vs1 vs2 vm s = .next t ∧ Kept s t := by
  refine ⟨_, rfl, ?_⟩
  try dsimp only
  have h := Kept.refl s
  repeat' first
    | with_reducible assumption
    | with_reducible apply State.vecFloat_kept

theorem execVmulhu_kept (slot : Fin 16384) (vd : Fin 32) (vs1 : Fin 32) (vs2 : Fin 32) (vm : Bool) (s : State) :
    ∃ t, execVmulhu slot vd vs1 vs2 vm s = .next t ∧ Kept s t := by
  refine ⟨_, rfl, ?_⟩
  try dsimp only
  have h := Kept.refl s
  repeat' first
    | with_reducible assumption
    | with_reducible apply State.vecInt_kept

theorem execVxor_kept (slot : Fin 16384) (vd : Fin 32) (vs1 : Fin 32) (vs2 : Fin 32) (vm : Bool) (s : State) :
    ∃ t, execVxor slot vd vs1 vs2 vm s = .next t ∧ Kept s t := by
  refine ⟨_, rfl, ?_⟩
  try dsimp only
  have h := Kept.refl s
  repeat' first
    | with_reducible assumption
    | with_reducible apply State.vecInt_kept

theorem execVfmul_kept (slot : Fin 16384) (vd : Fin 32) (vs1 : Fin 32) (vs2 : Fin 32) (vm : Bool) (s : State) :
    ∃ t, execVfmul slot vd vs1 vs2 vm s = .next t ∧ Kept s t := by
  refine ⟨_, rfl, ?_⟩
  try dsimp only
  have h := Kept.refl s
  repeat' first
    | with_reducible assumption
    | with_reducible apply State.vecFloat_kept

theorem execVshru_kept (slot : Fin 16384) (vd : Fin 32) (vs1 : Fin 32) (vs2 : Fin 32) (vm : Bool) (s : State) :
    ∃ t, execVshru slot vd vs1 vs2 vm s = .next t ∧ Kept s t := by
  refine ⟨_, rfl, ?_⟩
  try dsimp only
  have h := Kept.refl s
  repeat' first
    | with_reducible assumption
    | with_reducible apply State.vecInt_kept

theorem execVfdiv_kept (slot : Fin 16384) (vd : Fin 32) (vs1 : Fin 32) (vs2 : Fin 32) (vm : Bool) (s : State) :
    ∃ t, execVfdiv slot vd vs1 vs2 vm s = .next t ∧ Kept s t := by
  refine ⟨_, rfl, ?_⟩
  try dsimp only
  have h := Kept.refl s
  repeat' first
    | with_reducible assumption
    | with_reducible apply State.vecFloat_kept

theorem execVcfgx_kept (slot : Fin 16384) (vd : Fin 32) (vs1 : Fin 32) (vs2 : Fin 32) (vm : Bool) (s : State) :
    ∃ t, execVcfgx slot vd vs1 vs2 vm s = .next t ∧ Kept s t := by
  refine ⟨_, rfl, ?_⟩
  try dsimp only
  have h := Kept.refl s
  repeat' first
    | with_reducible assumption
    | with_reducible apply State.vecConfig_kept

theorem execVldStrided_kept (slot : Fin 16384) (vd : Fin 32) (vs1 : Fin 32) (vs2 : Fin 32) (vm : Bool) (s : State) :
    ∃ t, execVldStrided slot vd vs1 vs2 vm s = .next t ∧ Kept s t := by
  refine ⟨_, rfl, ?_⟩
  try dsimp only
  have h := Kept.refl s
  repeat' first
    | with_reducible assumption
    | with_reducible apply State.vecAccess_kept

theorem execVshiftup_kept (slot : Fin 16384) (vd : Fin 32) (vs1 : Fin 32) (vs2 : Fin 32) (vm : Bool) (s : State) :
    ∃ t, execVshiftup slot vd vs1 vs2 vm s = .next t ∧ Kept s t := by
  refine ⟨_, rfl, ?_⟩
  try dsimp only
  have h := Kept.refl s
  repeat' first
    | with_reducible assumption
    | with_reducible apply State.vecPerm_kept

theorem execVxorVs_kept (slot : Fin 16384) (vd : Fin 32) (vs1 : Fin 32) (vs2 : Fin 32) (vm : Bool) (s : State) :
    ∃ t, execVxorVs slot vd vs1 vs2 vm s = .next t ∧ Kept s t := by
  refine ⟨_, rfl, ?_⟩
  try dsimp only
  have h := Kept.refl s
  repeat' first
    | with_reducible assumption
    | with_reducible apply State.vecInt_kept

theorem execVfadd_kept (slot : Fin 16384) (vd : Fin 32) (vs1 : Fin 32) (vs2 : Fin 32) (vm : Bool) (s : State) :
    ∃ t, execVfadd slot vd vs1 vs2 vm s = .next t ∧ Kept s t := by
  refine ⟨_, rfl, ?_⟩
  try dsimp only
  have h := Kept.refl s
  repeat' first
    | with_reducible assumption
    | with_reducible apply State.vecFloat_kept

theorem execVfoldxor_kept (slot : Fin 16384) (vd : Fin 32) (vs1 : Fin 32) (vs2 : Fin 32) (vm : Bool) (s : State) :
    ∃ t, execVfoldxor slot vd vs1 vs2 vm s = .next t ∧ Kept s t := by
  refine ⟨_, rfl, ?_⟩
  try dsimp only
  have h := Kept.refl s
  repeat' first
    | with_reducible assumption
    | with_reducible apply State.vecOut_kept

theorem execVfsub_kept (slot : Fin 16384) (vd : Fin 32) (vs1 : Fin 32) (vs2 : Fin 32) (vm : Bool) (s : State) :
    ∃ t, execVfsub slot vd vs1 vs2 vm s = .next t ∧ Kept s t := by
  refine ⟨_, rfl, ?_⟩
  try dsimp only
  have h := Kept.refl s
  repeat' first
    | with_reducible assumption
    | with_reducible apply State.vecFloat_kept

theorem execVmsub_kept (slot : Fin 16384) (vd : Fin 32) (vs1 : Fin 32) (vs2 : Fin 32) (vm : Bool) (s : State) :
    ∃ t, execVmsub slot vd vs1 vs2 vm s = .next t ∧ Kept s t := by
  refine ⟨_, rfl, ?_⟩
  try dsimp only
  have h := Kept.refl s
  repeat' first
    | with_reducible assumption
    | with_reducible apply State.vecMod_kept

theorem execVmaxuVs_kept (slot : Fin 16384) (vd : Fin 32) (vs1 : Fin 32) (vs2 : Fin 32) (vm : Bool) (s : State) :
    ∃ t, execVmaxuVs slot vd vs1 vs2 vm s = .next t ∧ Kept s t := by
  refine ⟨_, rfl, ?_⟩
  try dsimp only
  have h := Kept.refl s
  repeat' first
    | with_reducible assumption
    | with_reducible apply State.vecInt_kept

theorem execVfoldadd_kept (slot : Fin 16384) (vd : Fin 32) (vs1 : Fin 32) (vs2 : Fin 32) (vm : Bool) (s : State) :
    ∃ t, execVfoldadd slot vd vs1 vs2 vm s = .next t ∧ Kept s t := by
  refine ⟨_, rfl, ?_⟩
  try dsimp only
  have h := Kept.refl s
  repeat' first
    | with_reducible assumption
    | with_reducible apply State.vecOut_kept

theorem execVblend_kept (slot : Fin 16384) (vd : Fin 32) (vs1 : Fin 32) (vs2 : Fin 32) (vm : Bool) (s : State) :
    ∃ t, execVblend slot vd vs1 vs2 vm s = .next t ∧ Kept s t := by
  refine ⟨_, rfl, ?_⟩
  try dsimp only
  have h := Kept.refl s
  repeat' first
    | with_reducible assumption
    | with_reducible apply State.vecBlend_kept

theorem execVmulVs_kept (slot : Fin 16384) (vd : Fin 32) (vs1 : Fin 32) (vs2 : Fin 32) (vm : Bool) (s : State) :
    ∃ t, execVmulVs slot vd vs1 vs2 vm s = .next t ∧ Kept s t := by
  refine ⟨_, rfl, ?_⟩
  try dsimp only
  have h := Kept.refl s
  repeat' first
    | with_reducible assumption
    | with_reducible apply State.vecInt_kept

theorem execVandVs_kept (slot : Fin 16384) (vd : Fin 32) (vs1 : Fin 32) (vs2 : Fin 32) (vm : Bool) (s : State) :
    ∃ t, execVandVs slot vd vs1 vs2 vm s = .next t ∧ Kept s t := by
  refine ⟨_, rfl, ?_⟩
  try dsimp only
  have h := Kept.refl s
  repeat' first
    | with_reducible assumption
    | with_reducible apply State.vecInt_kept

theorem execVstStrided_kept (slot : Fin 16384) (vd : Fin 32) (vs1 : Fin 32) (vs2 : Fin 32) (vm : Bool) (s : State) :
    ∃ t, execVstStrided slot vd vs1 vs2 vm s = .next t ∧ Kept s t := by
  refine ⟨_, rfl, ?_⟩
  try dsimp only
  have h := Kept.refl s
  repeat' first
    | with_reducible assumption
    | with_reducible apply State.vecAccess_kept

theorem execVstIndexed_kept (slot : Fin 16384) (vd : Fin 32) (vs1 : Fin 32) (vs2 : Fin 32) (vm : Bool) (s : State) :
    ∃ t, execVstIndexed slot vd vs1 vs2 vm s = .next t ∧ Kept s t := by
  refine ⟨_, rfl, ?_⟩
  try dsimp only
  have h := Kept.refl s
  repeat' first
    | with_reducible assumption
    | with_reducible apply State.vecAccess_kept

end Sys2Proof.Machine
end

