-- ==== Sys2Proof/Laws/State.lean ====
section
/-! SUPPORT. What each update of one part of the state does to every field, and the laws of the sparse lists that the
parts stand in. -/

namespace Sys2Proof.Machine

open Sys2Proof

/-! ### Sparse lists by key -/

variable {α : Type}

@[simp] theorem look_put_same (k : Nat) (v : α) (l : List (Nat × α)) : look k (put k v l) = some v := by
  induction l with
  | nil => simp [put, look]
  | cons p l ih =>
    obtain ⟨j, w⟩ := p
    rw [put]
    split_ifs with h1 h2
    · rw [look, if_pos rfl]
    · rw [look, if_pos rfl]
    · rw [look, if_neg h2, ih]

theorem look_put_other {k j : Nat} (h : j ≠ k) (v : α) (l : List (Nat × α)) : look j (put k v l) = look j l := by
  induction l with
  | nil => simp [put, look, Ne.symm h]
  | cons p l ih =>
    obtain ⟨i, w⟩ := p
    rw [put]
    split_ifs with h1 h2
    · rw [look, if_neg (Ne.symm h)]
    · subst h2
      rw [look, if_neg (Ne.symm h), look, if_neg (Ne.symm h)]
    · rw [look, look, ih]

@[simp] theorem look_del_same (k : Nat) (l : List (Nat × α)) : look k (del k l) = none := by
  induction l with
  | nil => rfl
  | cons p l ih =>
    obtain ⟨j, w⟩ := p
    by_cases h : j = k
    · simpa [del, h] using ih
    · simpa [del, h, look] using ih

theorem look_del_other {k j : Nat} (h : j ≠ k) (l : List (Nat × α)) : look j (del k l) = look j l := by
  induction l with
  | nil => rfl
  | cons p l ih =>
    obtain ⟨i, w⟩ := p
    by_cases hi : i = k
    · have : k ≠ j := Ne.symm h
      simpa [del, hi, look, this] using ih
    · by_cases hj : i = j
      · simp [del, look, hj, h]
      · simpa [del, look, hi, hj] using ih

@[simp] theorem look_upd_same (k : Nat) (f : α → α) (l : List (Nat × α)) : look k (upd k f l) = (look k l).map f := by
  induction l with
  | nil => rfl
  | cons p l ih =>
    obtain ⟨j, w⟩ := p
    by_cases h : j = k
    · simp [upd, look, h]
    · simpa [upd, look, h] using ih

theorem look_upd_other {k j : Nat} (h : j ≠ k) (f : α → α) (l : List (Nat × α)) : look j (upd k f l) = look j l := by
  induction l with
  | nil => rfl
  | cons p l ih =>
    obtain ⟨i, w⟩ := p
    by_cases hi : i = k
    · subst hi
      simpa [upd, look, Ne.symm h] using ih
    · by_cases hj : i = j
      · simp [upd, look, hj, h]
      · simpa [upd, look, hi, hj] using ih

/-! ### Reading back a part -/

@[simp] theorem State.job_setJob (s : State) (k : Nat) (j : Job) : (s.setJob k j).job k = some j := look_put_same k j _

@[simp] theorem State.job_modJob (s : State) (k : Nat) (f : Job → Job) : (s.modJob k f).job k = (s.job k).map f :=
  look_upd_same k f _

@[simp] theorem State.job_freeJob (s : State) (k : Nat) : (s.freeJob k).job k = none := look_del_same k _

@[simp] theorem State.inst_setInst (s : State) (i : Nat) (v : Inst) : (s.setInst i v).inst i = v := by
  simp [State.inst, State.setInst]

@[simp] theorem State.inst_modInst (s : State) (i : Nat) (f : Inst → Inst) : (s.modInst i f).inst i = f (s.inst i) :=
  State.inst_setInst s i _

@[simp] theorem State.record_setRecord (s : State) (k : Nat) (r : KeyRecord) : (s.setRecord k r).record k = some r :=
  look_put_same k r _

@[simp] theorem State.record_modRecord (s : State) (k : Nat) (f : KeyRecord → KeyRecord) :
    (s.modRecord k f).record k = (s.record k).map f := look_upd_same k f _

theorem State.job_setJob_other (s : State) {k m : Nat} (h : m ≠ k) (j : Job) : (s.setJob k j).job m = s.job m :=
  look_put_other h j _

theorem State.job_modJob_other (s : State) {k m : Nat} (h : m ≠ k) (f : Job → Job) : (s.modJob k f).job m = s.job m :=
  look_upd_other h f _

theorem State.job_freeJob_other (s : State) {k m : Nat} (h : m ≠ k) : (s.freeJob k).job m = s.job m :=
  look_del_other h _

theorem State.inst_setInst_other (s : State) {i m : Nat} (h : m ≠ i) (v : Inst) : (s.setInst i v).inst m = s.inst m := by
  simp [State.inst, State.setInst, look_put_other h]

theorem State.inst_modInst_other (s : State) {i m : Nat} (h : m ≠ i) (f : Inst → Inst) :
    (s.modInst i f).inst m = s.inst m := State.inst_setInst_other s h _

theorem State.record_setRecord_other (s : State) {k m : Nat} (h : m ≠ k) (r : KeyRecord) :
    (s.setRecord k r).record m = s.record m := look_put_other h r _

theorem State.record_modRecord_other (s : State) {k m : Nat} (h : m ≠ k) (f : KeyRecord → KeyRecord) :
    (s.modRecord k f).record m = s.record m := look_upd_other h f _

/-! ### modPort, field by field -/

@[simp] theorem State.modPort_pending (s : State) (p : Nat) (f : Port → Port) : (s.modPort p f).pending = s.pending := rfl
@[simp] theorem State.modPort_free (s : State) (p : Nat) (f : Port → Port) : (s.modPort p f).free = s.free := rfl
@[simp] theorem State.modPort_out (s : State) (p : Nat) (f : Port → Port) : (s.modPort p f).out = s.out := rfl
@[simp] theorem State.modPort_clk (s : State) (p : Nat) (f : Port → Port) : (s.modPort p f).clk = s.clk := rfl
@[simp] theorem State.modPort_pwr (s : State) (p : Nat) (f : Port → Port) : (s.modPort p f).pwr = s.pwr := rfl
@[simp] theorem State.modPort_warden (s : State) (p : Nat) (f : Port → Port) : (s.modPort p f).warden = s.warden := rfl
@[simp] theorem State.modPort_otp (s : State) (p : Nat) (f : Port → Port) : (s.modPort p f).otp = s.otp := rfl
@[simp] theorem State.modPort_lc (s : State) (p : Nat) (f : Port → Port) : (s.modPort p f).lc = s.lc := rfl
@[simp] theorem State.modPort_start (s : State) (p : Nat) (f : Port → Port) : (s.modPort p f).start = s.start := rfl
@[simp] theorem State.modPort_ports (s : State) (p : Nat) (f : Port → Port) : (s.modPort p f).ports = s.ports.modify p f := rfl
@[simp] theorem State.modPort_insts (s : State) (p : Nat) (f : Port → Port) : (s.modPort p f).insts = s.insts := rfl
@[simp] theorem State.modPort_jobs (s : State) (p : Nat) (f : Port → Port) : (s.modPort p f).jobs = s.jobs := rfl
@[simp] theorem State.modPort_keys (s : State) (p : Nat) (f : Port → Port) : (s.modPort p f).keys = s.keys := rfl
@[simp] theorem State.modPort_ctxs (s : State) (p : Nat) (f : Port → Port) : (s.modPort p f).ctxs = s.ctxs := rfl
@[simp] theorem State.modPort_units (s : State) (p : Nat) (f : Port → Port) : (s.modPort p f).units = s.units := rfl
@[simp] theorem State.modPort_sched (s : State) (p : Nat) (f : Port → Port) : (s.modPort p f).sched = s.sched := rfl
@[simp] theorem State.modPort_clove (s : State) (p : Nat) (f : Port → Port) : (s.modPort p f).clove = s.clove := rfl
@[simp] theorem State.modPort_saffron (s : State) (p : Nat) (f : Port → Port) : (s.modPort p f).saffron = s.saffron := rfl
@[simp] theorem State.modPort_rng (s : State) (p : Nat) (f : Port → Port) : (s.modPort p f).rng = s.rng := rfl
@[simp] theorem State.modPort_gov (s : State) (p : Nat) (f : Port → Port) : (s.modPort p f).gov = s.gov := rfl
@[simp] theorem State.modPort_log (s : State) (p : Nat) (f : Port → Port) : (s.modPort p f).log = s.log := rfl
@[simp] theorem State.modPort_faults (s : State) (p : Nat) (f : Port → Port) : (s.modPort p f).faults = s.faults := rfl
@[simp] theorem State.modPort_card (s : State) (p : Nat) (f : Port → Port) : (s.modPort p f).card = s.card := rfl
@[simp] theorem State.modPort_meas (s : State) (p : Nat) (f : Port → Port) : (s.modPort p f).meas = s.meas := rfl
@[simp] theorem State.modPort_mgmt (s : State) (p : Nat) (f : Port → Port) : (s.modPort p f).mgmt = s.mgmt := rfl
@[simp] theorem State.modPort_trans (s : State) (p : Nat) (f : Port → Port) : (s.modPort p f).trans = s.trans := rfl
@[simp] theorem State.modPort_shelf (s : State) (p : Nat) (f : Port → Port) : (s.modPort p f).shelf = s.shelf := rfl
@[simp] theorem State.modPort_od (s : State) (p : Nat) (f : Port → Port) : (s.modPort p f).od = s.od := rfl
@[simp] theorem State.modPort_cnt (s : State) (p : Nat) (f : Port → Port) : (s.modPort p f).cnt = s.cnt := rfl

/-! ### setInst, field by field -/

@[simp] theorem State.setInst_pending (s : State) (i : Nat) (v : Inst) : (s.setInst i v).pending = s.pending := rfl
@[simp] theorem State.setInst_free (s : State) (i : Nat) (v : Inst) : (s.setInst i v).free = s.free := rfl
@[simp] theorem State.setInst_out (s : State) (i : Nat) (v : Inst) : (s.setInst i v).out = s.out := rfl
@[simp] theorem State.setInst_clk (s : State) (i : Nat) (v : Inst) : (s.setInst i v).clk = s.clk := rfl
@[simp] theorem State.setInst_pwr (s : State) (i : Nat) (v : Inst) : (s.setInst i v).pwr = s.pwr := rfl
@[simp] theorem State.setInst_warden (s : State) (i : Nat) (v : Inst) : (s.setInst i v).warden = s.warden := rfl
@[simp] theorem State.setInst_otp (s : State) (i : Nat) (v : Inst) : (s.setInst i v).otp = s.otp := rfl
@[simp] theorem State.setInst_lc (s : State) (i : Nat) (v : Inst) : (s.setInst i v).lc = s.lc := rfl
@[simp] theorem State.setInst_start (s : State) (i : Nat) (v : Inst) : (s.setInst i v).start = s.start := rfl
@[simp] theorem State.setInst_ports (s : State) (i : Nat) (v : Inst) : (s.setInst i v).ports = s.ports := rfl
@[simp] theorem State.setInst_insts (s : State) (i : Nat) (v : Inst) : (s.setInst i v).insts = put i v s.insts := rfl
@[simp] theorem State.setInst_jobs (s : State) (i : Nat) (v : Inst) : (s.setInst i v).jobs = s.jobs := rfl
@[simp] theorem State.setInst_keys (s : State) (i : Nat) (v : Inst) : (s.setInst i v).keys = s.keys := rfl
@[simp] theorem State.setInst_ctxs (s : State) (i : Nat) (v : Inst) : (s.setInst i v).ctxs = s.ctxs := rfl
@[simp] theorem State.setInst_units (s : State) (i : Nat) (v : Inst) : (s.setInst i v).units = s.units := rfl
@[simp] theorem State.setInst_sched (s : State) (i : Nat) (v : Inst) : (s.setInst i v).sched = s.sched := rfl
@[simp] theorem State.setInst_clove (s : State) (i : Nat) (v : Inst) : (s.setInst i v).clove = s.clove := rfl
@[simp] theorem State.setInst_saffron (s : State) (i : Nat) (v : Inst) : (s.setInst i v).saffron = s.saffron := rfl
@[simp] theorem State.setInst_rng (s : State) (i : Nat) (v : Inst) : (s.setInst i v).rng = s.rng := rfl
@[simp] theorem State.setInst_gov (s : State) (i : Nat) (v : Inst) : (s.setInst i v).gov = s.gov := rfl
@[simp] theorem State.setInst_log (s : State) (i : Nat) (v : Inst) : (s.setInst i v).log = s.log := rfl
@[simp] theorem State.setInst_faults (s : State) (i : Nat) (v : Inst) : (s.setInst i v).faults = s.faults := rfl
@[simp] theorem State.setInst_card (s : State) (i : Nat) (v : Inst) : (s.setInst i v).card = s.card := rfl
@[simp] theorem State.setInst_meas (s : State) (i : Nat) (v : Inst) : (s.setInst i v).meas = s.meas := rfl
@[simp] theorem State.setInst_mgmt (s : State) (i : Nat) (v : Inst) : (s.setInst i v).mgmt = s.mgmt := rfl
@[simp] theorem State.setInst_trans (s : State) (i : Nat) (v : Inst) : (s.setInst i v).trans = s.trans := rfl
@[simp] theorem State.setInst_shelf (s : State) (i : Nat) (v : Inst) : (s.setInst i v).shelf = s.shelf := rfl
@[simp] theorem State.setInst_od (s : State) (i : Nat) (v : Inst) : (s.setInst i v).od = s.od := rfl
@[simp] theorem State.setInst_cnt (s : State) (i : Nat) (v : Inst) : (s.setInst i v).cnt = s.cnt := rfl

/-! ### modInst, field by field -/

@[simp] theorem State.modInst_pending (s : State) (i : Nat) (f : Inst → Inst) : (s.modInst i f).pending = s.pending := rfl
@[simp] theorem State.modInst_free (s : State) (i : Nat) (f : Inst → Inst) : (s.modInst i f).free = s.free := rfl
@[simp] theorem State.modInst_out (s : State) (i : Nat) (f : Inst → Inst) : (s.modInst i f).out = s.out := rfl
@[simp] theorem State.modInst_clk (s : State) (i : Nat) (f : Inst → Inst) : (s.modInst i f).clk = s.clk := rfl
@[simp] theorem State.modInst_pwr (s : State) (i : Nat) (f : Inst → Inst) : (s.modInst i f).pwr = s.pwr := rfl
@[simp] theorem State.modInst_warden (s : State) (i : Nat) (f : Inst → Inst) : (s.modInst i f).warden = s.warden := rfl
@[simp] theorem State.modInst_otp (s : State) (i : Nat) (f : Inst → Inst) : (s.modInst i f).otp = s.otp := rfl
@[simp] theorem State.modInst_lc (s : State) (i : Nat) (f : Inst → Inst) : (s.modInst i f).lc = s.lc := rfl
@[simp] theorem State.modInst_start (s : State) (i : Nat) (f : Inst → Inst) : (s.modInst i f).start = s.start := rfl
@[simp] theorem State.modInst_ports (s : State) (i : Nat) (f : Inst → Inst) : (s.modInst i f).ports = s.ports := rfl
@[simp] theorem State.modInst_insts (s : State) (i : Nat) (f : Inst → Inst) : (s.modInst i f).insts = put i (f (s.inst i)) s.insts := rfl
@[simp] theorem State.modInst_jobs (s : State) (i : Nat) (f : Inst → Inst) : (s.modInst i f).jobs = s.jobs := rfl
@[simp] theorem State.modInst_keys (s : State) (i : Nat) (f : Inst → Inst) : (s.modInst i f).keys = s.keys := rfl
@[simp] theorem State.modInst_ctxs (s : State) (i : Nat) (f : Inst → Inst) : (s.modInst i f).ctxs = s.ctxs := rfl
@[simp] theorem State.modInst_units (s : State) (i : Nat) (f : Inst → Inst) : (s.modInst i f).units = s.units := rfl
@[simp] theorem State.modInst_sched (s : State) (i : Nat) (f : Inst → Inst) : (s.modInst i f).sched = s.sched := rfl
@[simp] theorem State.modInst_clove (s : State) (i : Nat) (f : Inst → Inst) : (s.modInst i f).clove = s.clove := rfl
@[simp] theorem State.modInst_saffron (s : State) (i : Nat) (f : Inst → Inst) : (s.modInst i f).saffron = s.saffron := rfl
@[simp] theorem State.modInst_rng (s : State) (i : Nat) (f : Inst → Inst) : (s.modInst i f).rng = s.rng := rfl
@[simp] theorem State.modInst_gov (s : State) (i : Nat) (f : Inst → Inst) : (s.modInst i f).gov = s.gov := rfl
@[simp] theorem State.modInst_log (s : State) (i : Nat) (f : Inst → Inst) : (s.modInst i f).log = s.log := rfl
@[simp] theorem State.modInst_faults (s : State) (i : Nat) (f : Inst → Inst) : (s.modInst i f).faults = s.faults := rfl
@[simp] theorem State.modInst_card (s : State) (i : Nat) (f : Inst → Inst) : (s.modInst i f).card = s.card := rfl
@[simp] theorem State.modInst_meas (s : State) (i : Nat) (f : Inst → Inst) : (s.modInst i f).meas = s.meas := rfl
@[simp] theorem State.modInst_mgmt (s : State) (i : Nat) (f : Inst → Inst) : (s.modInst i f).mgmt = s.mgmt := rfl
@[simp] theorem State.modInst_trans (s : State) (i : Nat) (f : Inst → Inst) : (s.modInst i f).trans = s.trans := rfl
@[simp] theorem State.modInst_shelf (s : State) (i : Nat) (f : Inst → Inst) : (s.modInst i f).shelf = s.shelf := rfl
@[simp] theorem State.modInst_od (s : State) (i : Nat) (f : Inst → Inst) : (s.modInst i f).od = s.od := rfl
@[simp] theorem State.modInst_cnt (s : State) (i : Nat) (f : Inst → Inst) : (s.modInst i f).cnt = s.cnt := rfl

/-! ### setJob, field by field -/

@[simp] theorem State.setJob_pending (s : State) (k : Nat) (j : Job) : (s.setJob k j).pending = s.pending := rfl
@[simp] theorem State.setJob_free (s : State) (k : Nat) (j : Job) : (s.setJob k j).free = s.free := rfl
@[simp] theorem State.setJob_out (s : State) (k : Nat) (j : Job) : (s.setJob k j).out = s.out := rfl
@[simp] theorem State.setJob_clk (s : State) (k : Nat) (j : Job) : (s.setJob k j).clk = s.clk := rfl
@[simp] theorem State.setJob_pwr (s : State) (k : Nat) (j : Job) : (s.setJob k j).pwr = s.pwr := rfl
@[simp] theorem State.setJob_warden (s : State) (k : Nat) (j : Job) : (s.setJob k j).warden = s.warden := rfl
@[simp] theorem State.setJob_otp (s : State) (k : Nat) (j : Job) : (s.setJob k j).otp = s.otp := rfl
@[simp] theorem State.setJob_lc (s : State) (k : Nat) (j : Job) : (s.setJob k j).lc = s.lc := rfl
@[simp] theorem State.setJob_start (s : State) (k : Nat) (j : Job) : (s.setJob k j).start = s.start := rfl
@[simp] theorem State.setJob_ports (s : State) (k : Nat) (j : Job) : (s.setJob k j).ports = s.ports := rfl
@[simp] theorem State.setJob_insts (s : State) (k : Nat) (j : Job) : (s.setJob k j).insts = s.insts := rfl
@[simp] theorem State.setJob_jobs (s : State) (k : Nat) (j : Job) : (s.setJob k j).jobs = put k j s.jobs := rfl
@[simp] theorem State.setJob_keys (s : State) (k : Nat) (j : Job) : (s.setJob k j).keys = s.keys := rfl
@[simp] theorem State.setJob_ctxs (s : State) (k : Nat) (j : Job) : (s.setJob k j).ctxs = s.ctxs := rfl
@[simp] theorem State.setJob_units (s : State) (k : Nat) (j : Job) : (s.setJob k j).units = s.units := rfl
@[simp] theorem State.setJob_sched (s : State) (k : Nat) (j : Job) : (s.setJob k j).sched = s.sched := rfl
@[simp] theorem State.setJob_clove (s : State) (k : Nat) (j : Job) : (s.setJob k j).clove = s.clove := rfl
@[simp] theorem State.setJob_saffron (s : State) (k : Nat) (j : Job) : (s.setJob k j).saffron = s.saffron := rfl
@[simp] theorem State.setJob_rng (s : State) (k : Nat) (j : Job) : (s.setJob k j).rng = s.rng := rfl
@[simp] theorem State.setJob_gov (s : State) (k : Nat) (j : Job) : (s.setJob k j).gov = s.gov := rfl
@[simp] theorem State.setJob_log (s : State) (k : Nat) (j : Job) : (s.setJob k j).log = s.log := rfl
@[simp] theorem State.setJob_faults (s : State) (k : Nat) (j : Job) : (s.setJob k j).faults = s.faults := rfl
@[simp] theorem State.setJob_card (s : State) (k : Nat) (j : Job) : (s.setJob k j).card = s.card := rfl
@[simp] theorem State.setJob_meas (s : State) (k : Nat) (j : Job) : (s.setJob k j).meas = s.meas := rfl
@[simp] theorem State.setJob_mgmt (s : State) (k : Nat) (j : Job) : (s.setJob k j).mgmt = s.mgmt := rfl
@[simp] theorem State.setJob_trans (s : State) (k : Nat) (j : Job) : (s.setJob k j).trans = s.trans := rfl
@[simp] theorem State.setJob_shelf (s : State) (k : Nat) (j : Job) : (s.setJob k j).shelf = s.shelf := rfl
@[simp] theorem State.setJob_od (s : State) (k : Nat) (j : Job) : (s.setJob k j).od = s.od := rfl
@[simp] theorem State.setJob_cnt (s : State) (k : Nat) (j : Job) : (s.setJob k j).cnt = s.cnt := rfl

/-! ### modJob, field by field -/

@[simp] theorem State.modJob_pending (s : State) (k : Nat) (f : Job → Job) : (s.modJob k f).pending = s.pending := rfl
@[simp] theorem State.modJob_free (s : State) (k : Nat) (f : Job → Job) : (s.modJob k f).free = s.free := rfl
@[simp] theorem State.modJob_out (s : State) (k : Nat) (f : Job → Job) : (s.modJob k f).out = s.out := rfl
@[simp] theorem State.modJob_clk (s : State) (k : Nat) (f : Job → Job) : (s.modJob k f).clk = s.clk := rfl
@[simp] theorem State.modJob_pwr (s : State) (k : Nat) (f : Job → Job) : (s.modJob k f).pwr = s.pwr := rfl
@[simp] theorem State.modJob_warden (s : State) (k : Nat) (f : Job → Job) : (s.modJob k f).warden = s.warden := rfl
@[simp] theorem State.modJob_otp (s : State) (k : Nat) (f : Job → Job) : (s.modJob k f).otp = s.otp := rfl
@[simp] theorem State.modJob_lc (s : State) (k : Nat) (f : Job → Job) : (s.modJob k f).lc = s.lc := rfl
@[simp] theorem State.modJob_start (s : State) (k : Nat) (f : Job → Job) : (s.modJob k f).start = s.start := rfl
@[simp] theorem State.modJob_ports (s : State) (k : Nat) (f : Job → Job) : (s.modJob k f).ports = s.ports := rfl
@[simp] theorem State.modJob_insts (s : State) (k : Nat) (f : Job → Job) : (s.modJob k f).insts = s.insts := rfl
@[simp] theorem State.modJob_jobs (s : State) (k : Nat) (f : Job → Job) : (s.modJob k f).jobs = upd k f s.jobs := rfl
@[simp] theorem State.modJob_keys (s : State) (k : Nat) (f : Job → Job) : (s.modJob k f).keys = s.keys := rfl
@[simp] theorem State.modJob_ctxs (s : State) (k : Nat) (f : Job → Job) : (s.modJob k f).ctxs = s.ctxs := rfl
@[simp] theorem State.modJob_units (s : State) (k : Nat) (f : Job → Job) : (s.modJob k f).units = s.units := rfl
@[simp] theorem State.modJob_sched (s : State) (k : Nat) (f : Job → Job) : (s.modJob k f).sched = s.sched := rfl
@[simp] theorem State.modJob_clove (s : State) (k : Nat) (f : Job → Job) : (s.modJob k f).clove = s.clove := rfl
@[simp] theorem State.modJob_saffron (s : State) (k : Nat) (f : Job → Job) : (s.modJob k f).saffron = s.saffron := rfl
@[simp] theorem State.modJob_rng (s : State) (k : Nat) (f : Job → Job) : (s.modJob k f).rng = s.rng := rfl
@[simp] theorem State.modJob_gov (s : State) (k : Nat) (f : Job → Job) : (s.modJob k f).gov = s.gov := rfl
@[simp] theorem State.modJob_log (s : State) (k : Nat) (f : Job → Job) : (s.modJob k f).log = s.log := rfl
@[simp] theorem State.modJob_faults (s : State) (k : Nat) (f : Job → Job) : (s.modJob k f).faults = s.faults := rfl
@[simp] theorem State.modJob_card (s : State) (k : Nat) (f : Job → Job) : (s.modJob k f).card = s.card := rfl
@[simp] theorem State.modJob_meas (s : State) (k : Nat) (f : Job → Job) : (s.modJob k f).meas = s.meas := rfl
@[simp] theorem State.modJob_mgmt (s : State) (k : Nat) (f : Job → Job) : (s.modJob k f).mgmt = s.mgmt := rfl
@[simp] theorem State.modJob_trans (s : State) (k : Nat) (f : Job → Job) : (s.modJob k f).trans = s.trans := rfl
@[simp] theorem State.modJob_shelf (s : State) (k : Nat) (f : Job → Job) : (s.modJob k f).shelf = s.shelf := rfl
@[simp] theorem State.modJob_od (s : State) (k : Nat) (f : Job → Job) : (s.modJob k f).od = s.od := rfl
@[simp] theorem State.modJob_cnt (s : State) (k : Nat) (f : Job → Job) : (s.modJob k f).cnt = s.cnt := rfl

/-! ### freeJob, field by field -/

@[simp] theorem State.freeJob_pending (s : State) (k : Nat) : (s.freeJob k).pending = s.pending := rfl
@[simp] theorem State.freeJob_free (s : State) (k : Nat) : (s.freeJob k).free = s.free := rfl
@[simp] theorem State.freeJob_out (s : State) (k : Nat) : (s.freeJob k).out = s.out := rfl
@[simp] theorem State.freeJob_clk (s : State) (k : Nat) : (s.freeJob k).clk = s.clk := rfl
@[simp] theorem State.freeJob_pwr (s : State) (k : Nat) : (s.freeJob k).pwr = s.pwr := rfl
@[simp] theorem State.freeJob_warden (s : State) (k : Nat) : (s.freeJob k).warden = s.warden := rfl
@[simp] theorem State.freeJob_otp (s : State) (k : Nat) : (s.freeJob k).otp = s.otp := rfl
@[simp] theorem State.freeJob_lc (s : State) (k : Nat) : (s.freeJob k).lc = s.lc := rfl
@[simp] theorem State.freeJob_start (s : State) (k : Nat) : (s.freeJob k).start = s.start := rfl
@[simp] theorem State.freeJob_ports (s : State) (k : Nat) : (s.freeJob k).ports = s.ports := rfl
@[simp] theorem State.freeJob_insts (s : State) (k : Nat) : (s.freeJob k).insts = s.insts := rfl
@[simp] theorem State.freeJob_jobs (s : State) (k : Nat) : (s.freeJob k).jobs = del k s.jobs := rfl
@[simp] theorem State.freeJob_keys (s : State) (k : Nat) : (s.freeJob k).keys = s.keys := rfl
@[simp] theorem State.freeJob_ctxs (s : State) (k : Nat) : (s.freeJob k).ctxs = s.ctxs := rfl
@[simp] theorem State.freeJob_units (s : State) (k : Nat) : (s.freeJob k).units = s.units := rfl
@[simp] theorem State.freeJob_sched (s : State) (k : Nat) : (s.freeJob k).sched = s.sched := rfl
@[simp] theorem State.freeJob_clove (s : State) (k : Nat) : (s.freeJob k).clove = s.clove := rfl
@[simp] theorem State.freeJob_saffron (s : State) (k : Nat) : (s.freeJob k).saffron = s.saffron := rfl
@[simp] theorem State.freeJob_rng (s : State) (k : Nat) : (s.freeJob k).rng = s.rng := rfl
@[simp] theorem State.freeJob_gov (s : State) (k : Nat) : (s.freeJob k).gov = s.gov := rfl
@[simp] theorem State.freeJob_log (s : State) (k : Nat) : (s.freeJob k).log = s.log := rfl
@[simp] theorem State.freeJob_faults (s : State) (k : Nat) : (s.freeJob k).faults = s.faults := rfl
@[simp] theorem State.freeJob_card (s : State) (k : Nat) : (s.freeJob k).card = s.card := rfl
@[simp] theorem State.freeJob_meas (s : State) (k : Nat) : (s.freeJob k).meas = s.meas := rfl
@[simp] theorem State.freeJob_mgmt (s : State) (k : Nat) : (s.freeJob k).mgmt = s.mgmt := rfl
@[simp] theorem State.freeJob_trans (s : State) (k : Nat) : (s.freeJob k).trans = s.trans := rfl
@[simp] theorem State.freeJob_shelf (s : State) (k : Nat) : (s.freeJob k).shelf = s.shelf := rfl
@[simp] theorem State.freeJob_od (s : State) (k : Nat) : (s.freeJob k).od = s.od := rfl
@[simp] theorem State.freeJob_cnt (s : State) (k : Nat) : (s.freeJob k).cnt = s.cnt := rfl

/-! ### modUnit, field by field -/

@[simp] theorem State.modUnit_pending (s : State) (u : Nat) (f : UnitInfo → UnitInfo) : (s.modUnit u f).pending = s.pending := rfl
@[simp] theorem State.modUnit_free (s : State) (u : Nat) (f : UnitInfo → UnitInfo) : (s.modUnit u f).free = s.free := rfl
@[simp] theorem State.modUnit_out (s : State) (u : Nat) (f : UnitInfo → UnitInfo) : (s.modUnit u f).out = s.out := rfl
@[simp] theorem State.modUnit_clk (s : State) (u : Nat) (f : UnitInfo → UnitInfo) : (s.modUnit u f).clk = s.clk := rfl
@[simp] theorem State.modUnit_pwr (s : State) (u : Nat) (f : UnitInfo → UnitInfo) : (s.modUnit u f).pwr = s.pwr := rfl
@[simp] theorem State.modUnit_warden (s : State) (u : Nat) (f : UnitInfo → UnitInfo) : (s.modUnit u f).warden = s.warden := rfl
@[simp] theorem State.modUnit_otp (s : State) (u : Nat) (f : UnitInfo → UnitInfo) : (s.modUnit u f).otp = s.otp := rfl
@[simp] theorem State.modUnit_lc (s : State) (u : Nat) (f : UnitInfo → UnitInfo) : (s.modUnit u f).lc = s.lc := rfl
@[simp] theorem State.modUnit_start (s : State) (u : Nat) (f : UnitInfo → UnitInfo) : (s.modUnit u f).start = s.start := rfl
@[simp] theorem State.modUnit_ports (s : State) (u : Nat) (f : UnitInfo → UnitInfo) : (s.modUnit u f).ports = s.ports := rfl
@[simp] theorem State.modUnit_insts (s : State) (u : Nat) (f : UnitInfo → UnitInfo) : (s.modUnit u f).insts = s.insts := rfl
@[simp] theorem State.modUnit_jobs (s : State) (u : Nat) (f : UnitInfo → UnitInfo) : (s.modUnit u f).jobs = s.jobs := rfl
@[simp] theorem State.modUnit_keys (s : State) (u : Nat) (f : UnitInfo → UnitInfo) : (s.modUnit u f).keys = s.keys := rfl
@[simp] theorem State.modUnit_ctxs (s : State) (u : Nat) (f : UnitInfo → UnitInfo) : (s.modUnit u f).ctxs = s.ctxs := rfl
@[simp] theorem State.modUnit_units (s : State) (u : Nat) (f : UnitInfo → UnitInfo) : (s.modUnit u f).units = s.units.modify u f := rfl
@[simp] theorem State.modUnit_sched (s : State) (u : Nat) (f : UnitInfo → UnitInfo) : (s.modUnit u f).sched = s.sched := rfl
@[simp] theorem State.modUnit_clove (s : State) (u : Nat) (f : UnitInfo → UnitInfo) : (s.modUnit u f).clove = s.clove := rfl
@[simp] theorem State.modUnit_saffron (s : State) (u : Nat) (f : UnitInfo → UnitInfo) : (s.modUnit u f).saffron = s.saffron := rfl
@[simp] theorem State.modUnit_rng (s : State) (u : Nat) (f : UnitInfo → UnitInfo) : (s.modUnit u f).rng = s.rng := rfl
@[simp] theorem State.modUnit_gov (s : State) (u : Nat) (f : UnitInfo → UnitInfo) : (s.modUnit u f).gov = s.gov := rfl
@[simp] theorem State.modUnit_log (s : State) (u : Nat) (f : UnitInfo → UnitInfo) : (s.modUnit u f).log = s.log := rfl
@[simp] theorem State.modUnit_faults (s : State) (u : Nat) (f : UnitInfo → UnitInfo) : (s.modUnit u f).faults = s.faults := rfl
@[simp] theorem State.modUnit_card (s : State) (u : Nat) (f : UnitInfo → UnitInfo) : (s.modUnit u f).card = s.card := rfl
@[simp] theorem State.modUnit_meas (s : State) (u : Nat) (f : UnitInfo → UnitInfo) : (s.modUnit u f).meas = s.meas := rfl
@[simp] theorem State.modUnit_mgmt (s : State) (u : Nat) (f : UnitInfo → UnitInfo) : (s.modUnit u f).mgmt = s.mgmt := rfl
@[simp] theorem State.modUnit_trans (s : State) (u : Nat) (f : UnitInfo → UnitInfo) : (s.modUnit u f).trans = s.trans := rfl
@[simp] theorem State.modUnit_shelf (s : State) (u : Nat) (f : UnitInfo → UnitInfo) : (s.modUnit u f).shelf = s.shelf := rfl
@[simp] theorem State.modUnit_od (s : State) (u : Nat) (f : UnitInfo → UnitInfo) : (s.modUnit u f).od = s.od := rfl
@[simp] theorem State.modUnit_cnt (s : State) (u : Nat) (f : UnitInfo → UnitInfo) : (s.modUnit u f).cnt = s.cnt := rfl

/-! ### setRecord, field by field -/

@[simp] theorem State.setRecord_pending (s : State) (k : Nat) (r : KeyRecord) : (s.setRecord k r).pending = s.pending := rfl
@[simp] theorem State.setRecord_free (s : State) (k : Nat) (r : KeyRecord) : (s.setRecord k r).free = s.free := rfl
@[simp] theorem State.setRecord_out (s : State) (k : Nat) (r : KeyRecord) : (s.setRecord k r).out = s.out := rfl
@[simp] theorem State.setRecord_clk (s : State) (k : Nat) (r : KeyRecord) : (s.setRecord k r).clk = s.clk := rfl
@[simp] theorem State.setRecord_pwr (s : State) (k : Nat) (r : KeyRecord) : (s.setRecord k r).pwr = s.pwr := rfl
@[simp] theorem State.setRecord_warden (s : State) (k : Nat) (r : KeyRecord) : (s.setRecord k r).warden = s.warden := rfl
@[simp] theorem State.setRecord_otp (s : State) (k : Nat) (r : KeyRecord) : (s.setRecord k r).otp = s.otp := rfl
@[simp] theorem State.setRecord_lc (s : State) (k : Nat) (r : KeyRecord) : (s.setRecord k r).lc = s.lc := rfl
@[simp] theorem State.setRecord_start (s : State) (k : Nat) (r : KeyRecord) : (s.setRecord k r).start = s.start := rfl
@[simp] theorem State.setRecord_ports (s : State) (k : Nat) (r : KeyRecord) : (s.setRecord k r).ports = s.ports := rfl
@[simp] theorem State.setRecord_insts (s : State) (k : Nat) (r : KeyRecord) : (s.setRecord k r).insts = s.insts := rfl
@[simp] theorem State.setRecord_jobs (s : State) (k : Nat) (r : KeyRecord) : (s.setRecord k r).jobs = s.jobs := rfl
@[simp] theorem State.setRecord_keys (s : State) (k : Nat) (r : KeyRecord) : (s.setRecord k r).keys = { s.keys with records := put k r s.keys.records } := rfl
@[simp] theorem State.setRecord_ctxs (s : State) (k : Nat) (r : KeyRecord) : (s.setRecord k r).ctxs = s.ctxs := rfl
@[simp] theorem State.setRecord_units (s : State) (k : Nat) (r : KeyRecord) : (s.setRecord k r).units = s.units := rfl
@[simp] theorem State.setRecord_sched (s : State) (k : Nat) (r : KeyRecord) : (s.setRecord k r).sched = s.sched := rfl
@[simp] theorem State.setRecord_clove (s : State) (k : Nat) (r : KeyRecord) : (s.setRecord k r).clove = s.clove := rfl
@[simp] theorem State.setRecord_saffron (s : State) (k : Nat) (r : KeyRecord) : (s.setRecord k r).saffron = s.saffron := rfl
@[simp] theorem State.setRecord_rng (s : State) (k : Nat) (r : KeyRecord) : (s.setRecord k r).rng = s.rng := rfl
@[simp] theorem State.setRecord_gov (s : State) (k : Nat) (r : KeyRecord) : (s.setRecord k r).gov = s.gov := rfl
@[simp] theorem State.setRecord_log (s : State) (k : Nat) (r : KeyRecord) : (s.setRecord k r).log = s.log := rfl
@[simp] theorem State.setRecord_faults (s : State) (k : Nat) (r : KeyRecord) : (s.setRecord k r).faults = s.faults := rfl
@[simp] theorem State.setRecord_card (s : State) (k : Nat) (r : KeyRecord) : (s.setRecord k r).card = s.card := rfl
@[simp] theorem State.setRecord_meas (s : State) (k : Nat) (r : KeyRecord) : (s.setRecord k r).meas = s.meas := rfl
@[simp] theorem State.setRecord_mgmt (s : State) (k : Nat) (r : KeyRecord) : (s.setRecord k r).mgmt = s.mgmt := rfl
@[simp] theorem State.setRecord_trans (s : State) (k : Nat) (r : KeyRecord) : (s.setRecord k r).trans = s.trans := rfl
@[simp] theorem State.setRecord_shelf (s : State) (k : Nat) (r : KeyRecord) : (s.setRecord k r).shelf = s.shelf := rfl
@[simp] theorem State.setRecord_od (s : State) (k : Nat) (r : KeyRecord) : (s.setRecord k r).od = s.od := rfl
@[simp] theorem State.setRecord_cnt (s : State) (k : Nat) (r : KeyRecord) : (s.setRecord k r).cnt = s.cnt := rfl

/-! ### modRecord, field by field -/

@[simp] theorem State.modRecord_pending (s : State) (k : Nat) (f : KeyRecord → KeyRecord) : (s.modRecord k f).pending = s.pending := rfl
@[simp] theorem State.modRecord_free (s : State) (k : Nat) (f : KeyRecord → KeyRecord) : (s.modRecord k f).free = s.free := rfl
@[simp] theorem State.modRecord_out (s : State) (k : Nat) (f : KeyRecord → KeyRecord) : (s.modRecord k f).out = s.out := rfl
@[simp] theorem State.modRecord_clk (s : State) (k : Nat) (f : KeyRecord → KeyRecord) : (s.modRecord k f).clk = s.clk := rfl
@[simp] theorem State.modRecord_pwr (s : State) (k : Nat) (f : KeyRecord → KeyRecord) : (s.modRecord k f).pwr = s.pwr := rfl
@[simp] theorem State.modRecord_warden (s : State) (k : Nat) (f : KeyRecord → KeyRecord) : (s.modRecord k f).warden = s.warden := rfl
@[simp] theorem State.modRecord_otp (s : State) (k : Nat) (f : KeyRecord → KeyRecord) : (s.modRecord k f).otp = s.otp := rfl
@[simp] theorem State.modRecord_lc (s : State) (k : Nat) (f : KeyRecord → KeyRecord) : (s.modRecord k f).lc = s.lc := rfl
@[simp] theorem State.modRecord_start (s : State) (k : Nat) (f : KeyRecord → KeyRecord) : (s.modRecord k f).start = s.start := rfl
@[simp] theorem State.modRecord_ports (s : State) (k : Nat) (f : KeyRecord → KeyRecord) : (s.modRecord k f).ports = s.ports := rfl
@[simp] theorem State.modRecord_insts (s : State) (k : Nat) (f : KeyRecord → KeyRecord) : (s.modRecord k f).insts = s.insts := rfl
@[simp] theorem State.modRecord_jobs (s : State) (k : Nat) (f : KeyRecord → KeyRecord) : (s.modRecord k f).jobs = s.jobs := rfl
@[simp] theorem State.modRecord_keys (s : State) (k : Nat) (f : KeyRecord → KeyRecord) : (s.modRecord k f).keys = { s.keys with records := upd k f s.keys.records } := rfl
@[simp] theorem State.modRecord_ctxs (s : State) (k : Nat) (f : KeyRecord → KeyRecord) : (s.modRecord k f).ctxs = s.ctxs := rfl
@[simp] theorem State.modRecord_units (s : State) (k : Nat) (f : KeyRecord → KeyRecord) : (s.modRecord k f).units = s.units := rfl
@[simp] theorem State.modRecord_sched (s : State) (k : Nat) (f : KeyRecord → KeyRecord) : (s.modRecord k f).sched = s.sched := rfl
@[simp] theorem State.modRecord_clove (s : State) (k : Nat) (f : KeyRecord → KeyRecord) : (s.modRecord k f).clove = s.clove := rfl
@[simp] theorem State.modRecord_saffron (s : State) (k : Nat) (f : KeyRecord → KeyRecord) : (s.modRecord k f).saffron = s.saffron := rfl
@[simp] theorem State.modRecord_rng (s : State) (k : Nat) (f : KeyRecord → KeyRecord) : (s.modRecord k f).rng = s.rng := rfl
@[simp] theorem State.modRecord_gov (s : State) (k : Nat) (f : KeyRecord → KeyRecord) : (s.modRecord k f).gov = s.gov := rfl
@[simp] theorem State.modRecord_log (s : State) (k : Nat) (f : KeyRecord → KeyRecord) : (s.modRecord k f).log = s.log := rfl
@[simp] theorem State.modRecord_faults (s : State) (k : Nat) (f : KeyRecord → KeyRecord) : (s.modRecord k f).faults = s.faults := rfl
@[simp] theorem State.modRecord_card (s : State) (k : Nat) (f : KeyRecord → KeyRecord) : (s.modRecord k f).card = s.card := rfl
@[simp] theorem State.modRecord_meas (s : State) (k : Nat) (f : KeyRecord → KeyRecord) : (s.modRecord k f).meas = s.meas := rfl
@[simp] theorem State.modRecord_mgmt (s : State) (k : Nat) (f : KeyRecord → KeyRecord) : (s.modRecord k f).mgmt = s.mgmt := rfl
@[simp] theorem State.modRecord_trans (s : State) (k : Nat) (f : KeyRecord → KeyRecord) : (s.modRecord k f).trans = s.trans := rfl
@[simp] theorem State.modRecord_shelf (s : State) (k : Nat) (f : KeyRecord → KeyRecord) : (s.modRecord k f).shelf = s.shelf := rfl
@[simp] theorem State.modRecord_od (s : State) (k : Nat) (f : KeyRecord → KeyRecord) : (s.modRecord k f).od = s.od := rfl
@[simp] theorem State.modRecord_cnt (s : State) (k : Nat) (f : KeyRecord → KeyRecord) : (s.modRecord k f).cnt = s.cnt := rfl

/-! ### modOpMem, field by field -/

@[simp] theorem State.modOpMem_pending (s : State) (e : Nat) (f : Mem → Mem) : (s.modOpMem e f).pending = s.pending := rfl
@[simp] theorem State.modOpMem_free (s : State) (e : Nat) (f : Mem → Mem) : (s.modOpMem e f).free = s.free := rfl
@[simp] theorem State.modOpMem_out (s : State) (e : Nat) (f : Mem → Mem) : (s.modOpMem e f).out = s.out := rfl
@[simp] theorem State.modOpMem_clk (s : State) (e : Nat) (f : Mem → Mem) : (s.modOpMem e f).clk = s.clk := rfl
@[simp] theorem State.modOpMem_pwr (s : State) (e : Nat) (f : Mem → Mem) : (s.modOpMem e f).pwr = s.pwr := rfl
@[simp] theorem State.modOpMem_warden (s : State) (e : Nat) (f : Mem → Mem) : (s.modOpMem e f).warden = s.warden := rfl
@[simp] theorem State.modOpMem_otp (s : State) (e : Nat) (f : Mem → Mem) : (s.modOpMem e f).otp = s.otp := rfl
@[simp] theorem State.modOpMem_lc (s : State) (e : Nat) (f : Mem → Mem) : (s.modOpMem e f).lc = s.lc := rfl
@[simp] theorem State.modOpMem_start (s : State) (e : Nat) (f : Mem → Mem) : (s.modOpMem e f).start = s.start := rfl
@[simp] theorem State.modOpMem_ports (s : State) (e : Nat) (f : Mem → Mem) : (s.modOpMem e f).ports = s.ports := rfl
@[simp] theorem State.modOpMem_insts (s : State) (e : Nat) (f : Mem → Mem) : (s.modOpMem e f).insts = s.insts := rfl
@[simp] theorem State.modOpMem_jobs (s : State) (e : Nat) (f : Mem → Mem) : (s.modOpMem e f).jobs = s.jobs := rfl
@[simp] theorem State.modOpMem_keys (s : State) (e : Nat) (f : Mem → Mem) : (s.modOpMem e f).keys = s.keys := rfl
@[simp] theorem State.modOpMem_ctxs (s : State) (e : Nat) (f : Mem → Mem) : (s.modOpMem e f).ctxs = s.ctxs := rfl
@[simp] theorem State.modOpMem_units (s : State) (e : Nat) (f : Mem → Mem) : (s.modOpMem e f).units = s.units := rfl
@[simp] theorem State.modOpMem_sched (s : State) (e : Nat) (f : Mem → Mem) : (s.modOpMem e f).sched = s.sched := rfl
@[simp] theorem State.modOpMem_clove (s : State) (e : Nat) (f : Mem → Mem) : (s.modOpMem e f).clove = s.clove.modify e f := rfl
@[simp] theorem State.modOpMem_saffron (s : State) (e : Nat) (f : Mem → Mem) : (s.modOpMem e f).saffron = s.saffron := rfl
@[simp] theorem State.modOpMem_rng (s : State) (e : Nat) (f : Mem → Mem) : (s.modOpMem e f).rng = s.rng := rfl
@[simp] theorem State.modOpMem_gov (s : State) (e : Nat) (f : Mem → Mem) : (s.modOpMem e f).gov = s.gov := rfl
@[simp] theorem State.modOpMem_log (s : State) (e : Nat) (f : Mem → Mem) : (s.modOpMem e f).log = s.log := rfl
@[simp] theorem State.modOpMem_faults (s : State) (e : Nat) (f : Mem → Mem) : (s.modOpMem e f).faults = s.faults := rfl
@[simp] theorem State.modOpMem_card (s : State) (e : Nat) (f : Mem → Mem) : (s.modOpMem e f).card = s.card := rfl
@[simp] theorem State.modOpMem_meas (s : State) (e : Nat) (f : Mem → Mem) : (s.modOpMem e f).meas = s.meas := rfl
@[simp] theorem State.modOpMem_mgmt (s : State) (e : Nat) (f : Mem → Mem) : (s.modOpMem e f).mgmt = s.mgmt := rfl
@[simp] theorem State.modOpMem_trans (s : State) (e : Nat) (f : Mem → Mem) : (s.modOpMem e f).trans = s.trans := rfl
@[simp] theorem State.modOpMem_shelf (s : State) (e : Nat) (f : Mem → Mem) : (s.modOpMem e f).shelf = s.shelf := rfl
@[simp] theorem State.modOpMem_od (s : State) (e : Nat) (f : Mem → Mem) : (s.modOpMem e f).od = s.od := rfl
@[simp] theorem State.modOpMem_cnt (s : State) (e : Nat) (f : Mem → Mem) : (s.modOpMem e f).cnt = s.cnt := rfl

/-! ### send, field by field -/

@[simp] theorem State.send_pending (s : State) (o : Outbound) : (s.send o).pending = s.pending := rfl
@[simp] theorem State.send_free (s : State) (o : Outbound) : (s.send o).free = s.free := rfl
@[simp] theorem State.send_out (s : State) (o : Outbound) : (s.send o).out = s.out ++ [o] := rfl
@[simp] theorem State.send_clk (s : State) (o : Outbound) : (s.send o).clk = s.clk := rfl
@[simp] theorem State.send_pwr (s : State) (o : Outbound) : (s.send o).pwr = s.pwr := rfl
@[simp] theorem State.send_warden (s : State) (o : Outbound) : (s.send o).warden = s.warden := rfl
@[simp] theorem State.send_otp (s : State) (o : Outbound) : (s.send o).otp = s.otp := rfl
@[simp] theorem State.send_lc (s : State) (o : Outbound) : (s.send o).lc = s.lc := rfl
@[simp] theorem State.send_start (s : State) (o : Outbound) : (s.send o).start = s.start := rfl
@[simp] theorem State.send_ports (s : State) (o : Outbound) : (s.send o).ports = s.ports := rfl
@[simp] theorem State.send_insts (s : State) (o : Outbound) : (s.send o).insts = s.insts := rfl
@[simp] theorem State.send_jobs (s : State) (o : Outbound) : (s.send o).jobs = s.jobs := rfl
@[simp] theorem State.send_keys (s : State) (o : Outbound) : (s.send o).keys = s.keys := rfl
@[simp] theorem State.send_ctxs (s : State) (o : Outbound) : (s.send o).ctxs = s.ctxs := rfl
@[simp] theorem State.send_units (s : State) (o : Outbound) : (s.send o).units = s.units := rfl
@[simp] theorem State.send_sched (s : State) (o : Outbound) : (s.send o).sched = s.sched := rfl
@[simp] theorem State.send_clove (s : State) (o : Outbound) : (s.send o).clove = s.clove := rfl
@[simp] theorem State.send_saffron (s : State) (o : Outbound) : (s.send o).saffron = s.saffron := rfl
@[simp] theorem State.send_rng (s : State) (o : Outbound) : (s.send o).rng = s.rng := rfl
@[simp] theorem State.send_gov (s : State) (o : Outbound) : (s.send o).gov = s.gov := rfl
@[simp] theorem State.send_log (s : State) (o : Outbound) : (s.send o).log = s.log := rfl
@[simp] theorem State.send_faults (s : State) (o : Outbound) : (s.send o).faults = s.faults := rfl
@[simp] theorem State.send_card (s : State) (o : Outbound) : (s.send o).card = s.card := rfl
@[simp] theorem State.send_meas (s : State) (o : Outbound) : (s.send o).meas = s.meas := rfl
@[simp] theorem State.send_mgmt (s : State) (o : Outbound) : (s.send o).mgmt = s.mgmt := rfl
@[simp] theorem State.send_trans (s : State) (o : Outbound) : (s.send o).trans = s.trans := rfl
@[simp] theorem State.send_shelf (s : State) (o : Outbound) : (s.send o).shelf = s.shelf := rfl
@[simp] theorem State.send_od (s : State) (o : Outbound) : (s.send o).od = s.od := rfl
@[simp] theorem State.send_cnt (s : State) (o : Outbound) : (s.send o).cnt = s.cnt := rfl

/-! ### sendAll, field by field -/

@[simp] theorem State.sendAll_pending (s : State) (os : List Outbound) : (s.sendAll os).pending = s.pending := rfl
@[simp] theorem State.sendAll_free (s : State) (os : List Outbound) : (s.sendAll os).free = s.free := rfl
@[simp] theorem State.sendAll_out (s : State) (os : List Outbound) : (s.sendAll os).out = s.out ++ os := rfl
@[simp] theorem State.sendAll_clk (s : State) (os : List Outbound) : (s.sendAll os).clk = s.clk := rfl
@[simp] theorem State.sendAll_pwr (s : State) (os : List Outbound) : (s.sendAll os).pwr = s.pwr := rfl
@[simp] theorem State.sendAll_warden (s : State) (os : List Outbound) : (s.sendAll os).warden = s.warden := rfl
@[simp] theorem State.sendAll_otp (s : State) (os : List Outbound) : (s.sendAll os).otp = s.otp := rfl
@[simp] theorem State.sendAll_lc (s : State) (os : List Outbound) : (s.sendAll os).lc = s.lc := rfl
@[simp] theorem State.sendAll_start (s : State) (os : List Outbound) : (s.sendAll os).start = s.start := rfl
@[simp] theorem State.sendAll_ports (s : State) (os : List Outbound) : (s.sendAll os).ports = s.ports := rfl
@[simp] theorem State.sendAll_insts (s : State) (os : List Outbound) : (s.sendAll os).insts = s.insts := rfl
@[simp] theorem State.sendAll_jobs (s : State) (os : List Outbound) : (s.sendAll os).jobs = s.jobs := rfl
@[simp] theorem State.sendAll_keys (s : State) (os : List Outbound) : (s.sendAll os).keys = s.keys := rfl
@[simp] theorem State.sendAll_ctxs (s : State) (os : List Outbound) : (s.sendAll os).ctxs = s.ctxs := rfl
@[simp] theorem State.sendAll_units (s : State) (os : List Outbound) : (s.sendAll os).units = s.units := rfl
@[simp] theorem State.sendAll_sched (s : State) (os : List Outbound) : (s.sendAll os).sched = s.sched := rfl
@[simp] theorem State.sendAll_clove (s : State) (os : List Outbound) : (s.sendAll os).clove = s.clove := rfl
@[simp] theorem State.sendAll_saffron (s : State) (os : List Outbound) : (s.sendAll os).saffron = s.saffron := rfl
@[simp] theorem State.sendAll_rng (s : State) (os : List Outbound) : (s.sendAll os).rng = s.rng := rfl
@[simp] theorem State.sendAll_gov (s : State) (os : List Outbound) : (s.sendAll os).gov = s.gov := rfl
@[simp] theorem State.sendAll_log (s : State) (os : List Outbound) : (s.sendAll os).log = s.log := rfl
@[simp] theorem State.sendAll_faults (s : State) (os : List Outbound) : (s.sendAll os).faults = s.faults := rfl
@[simp] theorem State.sendAll_card (s : State) (os : List Outbound) : (s.sendAll os).card = s.card := rfl
@[simp] theorem State.sendAll_meas (s : State) (os : List Outbound) : (s.sendAll os).meas = s.meas := rfl
@[simp] theorem State.sendAll_mgmt (s : State) (os : List Outbound) : (s.sendAll os).mgmt = s.mgmt := rfl
@[simp] theorem State.sendAll_trans (s : State) (os : List Outbound) : (s.sendAll os).trans = s.trans := rfl
@[simp] theorem State.sendAll_shelf (s : State) (os : List Outbound) : (s.sendAll os).shelf = s.shelf := rfl
@[simp] theorem State.sendAll_od (s : State) (os : List Outbound) : (s.sendAll os).od = s.od := rfl
@[simp] theorem State.sendAll_cnt (s : State) (os : List Outbound) : (s.sendAll os).cnt = s.cnt := rfl

/-! ### take, field by field -/

@[simp] theorem State.take_pending (s : State) (n : Nat) : (s.take n).2.pending = s.pending := rfl
@[simp] theorem State.take_free (s : State) (n : Nat) : (s.take n).2.free = s.free + n := rfl
@[simp] theorem State.take_out (s : State) (n : Nat) : (s.take n).2.out = s.out := rfl
@[simp] theorem State.take_clk (s : State) (n : Nat) : (s.take n).2.clk = s.clk := rfl
@[simp] theorem State.take_pwr (s : State) (n : Nat) : (s.take n).2.pwr = s.pwr := rfl
@[simp] theorem State.take_warden (s : State) (n : Nat) : (s.take n).2.warden = s.warden := rfl
@[simp] theorem State.take_otp (s : State) (n : Nat) : (s.take n).2.otp = s.otp := rfl
@[simp] theorem State.take_lc (s : State) (n : Nat) : (s.take n).2.lc = s.lc := rfl
@[simp] theorem State.take_start (s : State) (n : Nat) : (s.take n).2.start = s.start := rfl
@[simp] theorem State.take_ports (s : State) (n : Nat) : (s.take n).2.ports = s.ports := rfl
@[simp] theorem State.take_insts (s : State) (n : Nat) : (s.take n).2.insts = s.insts := rfl
@[simp] theorem State.take_jobs (s : State) (n : Nat) : (s.take n).2.jobs = s.jobs := rfl
@[simp] theorem State.take_keys (s : State) (n : Nat) : (s.take n).2.keys = s.keys := rfl
@[simp] theorem State.take_ctxs (s : State) (n : Nat) : (s.take n).2.ctxs = s.ctxs := rfl
@[simp] theorem State.take_units (s : State) (n : Nat) : (s.take n).2.units = s.units := rfl
@[simp] theorem State.take_sched (s : State) (n : Nat) : (s.take n).2.sched = s.sched := rfl
@[simp] theorem State.take_clove (s : State) (n : Nat) : (s.take n).2.clove = s.clove := rfl
@[simp] theorem State.take_saffron (s : State) (n : Nat) : (s.take n).2.saffron = s.saffron := rfl
@[simp] theorem State.take_rng (s : State) (n : Nat) : (s.take n).2.rng = s.rng := rfl
@[simp] theorem State.take_gov (s : State) (n : Nat) : (s.take n).2.gov = s.gov := rfl
@[simp] theorem State.take_log (s : State) (n : Nat) : (s.take n).2.log = s.log := rfl
@[simp] theorem State.take_faults (s : State) (n : Nat) : (s.take n).2.faults = s.faults := rfl
@[simp] theorem State.take_card (s : State) (n : Nat) : (s.take n).2.card = s.card := rfl
@[simp] theorem State.take_meas (s : State) (n : Nat) : (s.take n).2.meas = s.meas := rfl
@[simp] theorem State.take_mgmt (s : State) (n : Nat) : (s.take n).2.mgmt = s.mgmt := rfl
@[simp] theorem State.take_trans (s : State) (n : Nat) : (s.take n).2.trans = s.trans := rfl
@[simp] theorem State.take_shelf (s : State) (n : Nat) : (s.take n).2.shelf = s.shelf := rfl
@[simp] theorem State.take_od (s : State) (n : Nat) : (s.take n).2.od = s.od := rfl
@[simp] theorem State.take_cnt (s : State) (n : Nat) : (s.take n).2.cnt = s.cnt := rfl

/-! ### bump, field by field -/

@[simp] theorem State.bump_pending (s : State) (key pos n : Nat) : (s.bump key pos n).pending = s.pending := rfl
@[simp] theorem State.bump_free (s : State) (key pos n : Nat) : (s.bump key pos n).free = s.free := rfl
@[simp] theorem State.bump_out (s : State) (key pos n : Nat) : (s.bump key pos n).out = s.out := rfl
@[simp] theorem State.bump_clk (s : State) (key pos n : Nat) : (s.bump key pos n).clk = s.clk := rfl
@[simp] theorem State.bump_pwr (s : State) (key pos n : Nat) : (s.bump key pos n).pwr = s.pwr := rfl
@[simp] theorem State.bump_warden (s : State) (key pos n : Nat) : (s.bump key pos n).warden = s.warden := rfl
@[simp] theorem State.bump_otp (s : State) (key pos n : Nat) : (s.bump key pos n).otp = s.otp := rfl
@[simp] theorem State.bump_lc (s : State) (key pos n : Nat) : (s.bump key pos n).lc = s.lc := rfl
@[simp] theorem State.bump_start (s : State) (key pos n : Nat) : (s.bump key pos n).start = s.start := rfl
@[simp] theorem State.bump_ports (s : State) (key pos n : Nat) : (s.bump key pos n).ports = s.ports := rfl
@[simp] theorem State.bump_insts (s : State) (key pos n : Nat) : (s.bump key pos n).insts = s.insts := rfl
@[simp] theorem State.bump_jobs (s : State) (key pos n : Nat) : (s.bump key pos n).jobs = s.jobs := rfl
@[simp] theorem State.bump_keys (s : State) (key pos n : Nat) : (s.bump key pos n).keys = s.keys := rfl
@[simp] theorem State.bump_ctxs (s : State) (key pos n : Nat) : (s.bump key pos n).ctxs = s.ctxs := rfl
@[simp] theorem State.bump_units (s : State) (key pos n : Nat) : (s.bump key pos n).units = s.units := rfl
@[simp] theorem State.bump_sched (s : State) (key pos n : Nat) : (s.bump key pos n).sched = s.sched := rfl
@[simp] theorem State.bump_clove (s : State) (key pos n : Nat) : (s.bump key pos n).clove = s.clove := rfl
@[simp] theorem State.bump_saffron (s : State) (key pos n : Nat) : (s.bump key pos n).saffron = s.saffron := rfl
@[simp] theorem State.bump_rng (s : State) (key pos n : Nat) : (s.bump key pos n).rng = s.rng := rfl
@[simp] theorem State.bump_gov (s : State) (key pos n : Nat) : (s.bump key pos n).gov = s.gov := rfl
@[simp] theorem State.bump_log (s : State) (key pos n : Nat) : (s.bump key pos n).log = s.log := rfl
@[simp] theorem State.bump_faults (s : State) (key pos n : Nat) : (s.bump key pos n).faults = s.faults := rfl
@[simp] theorem State.bump_card (s : State) (key pos n : Nat) : (s.bump key pos n).card = s.card := rfl
@[simp] theorem State.bump_meas (s : State) (key pos n : Nat) : (s.bump key pos n).meas = s.meas := rfl
@[simp] theorem State.bump_mgmt (s : State) (key pos n : Nat) : (s.bump key pos n).mgmt = s.mgmt := rfl
@[simp] theorem State.bump_trans (s : State) (key pos n : Nat) : (s.bump key pos n).trans = s.trans := rfl
@[simp] theorem State.bump_shelf (s : State) (key pos n : Nat) : (s.bump key pos n).shelf = s.shelf := rfl
@[simp] theorem State.bump_od (s : State) (key pos n : Nat) : (s.bump key pos n).od = s.od := rfl
@[simp] theorem State.bump_cnt (s : State) (key pos n : Nat) : (s.bump key pos n).cnt = putNum (1024 * key + pos) (s.counter key pos + n) s.cnt := rfl

/-! ### setCounter, field by field -/

@[simp] theorem State.setCounter_pending (s : State) (key pos n : Nat) : (s.setCounter key pos n).pending = s.pending := rfl
@[simp] theorem State.setCounter_free (s : State) (key pos n : Nat) : (s.setCounter key pos n).free = s.free := rfl
@[simp] theorem State.setCounter_out (s : State) (key pos n : Nat) : (s.setCounter key pos n).out = s.out := rfl
@[simp] theorem State.setCounter_clk (s : State) (key pos n : Nat) : (s.setCounter key pos n).clk = s.clk := rfl
@[simp] theorem State.setCounter_pwr (s : State) (key pos n : Nat) : (s.setCounter key pos n).pwr = s.pwr := rfl
@[simp] theorem State.setCounter_warden (s : State) (key pos n : Nat) : (s.setCounter key pos n).warden = s.warden := rfl
@[simp] theorem State.setCounter_otp (s : State) (key pos n : Nat) : (s.setCounter key pos n).otp = s.otp := rfl
@[simp] theorem State.setCounter_lc (s : State) (key pos n : Nat) : (s.setCounter key pos n).lc = s.lc := rfl
@[simp] theorem State.setCounter_start (s : State) (key pos n : Nat) : (s.setCounter key pos n).start = s.start := rfl
@[simp] theorem State.setCounter_ports (s : State) (key pos n : Nat) : (s.setCounter key pos n).ports = s.ports := rfl
@[simp] theorem State.setCounter_insts (s : State) (key pos n : Nat) : (s.setCounter key pos n).insts = s.insts := rfl
@[simp] theorem State.setCounter_jobs (s : State) (key pos n : Nat) : (s.setCounter key pos n).jobs = s.jobs := rfl
@[simp] theorem State.setCounter_keys (s : State) (key pos n : Nat) : (s.setCounter key pos n).keys = s.keys := rfl
@[simp] theorem State.setCounter_ctxs (s : State) (key pos n : Nat) : (s.setCounter key pos n).ctxs = s.ctxs := rfl
@[simp] theorem State.setCounter_units (s : State) (key pos n : Nat) : (s.setCounter key pos n).units = s.units := rfl
@[simp] theorem State.setCounter_sched (s : State) (key pos n : Nat) : (s.setCounter key pos n).sched = s.sched := rfl
@[simp] theorem State.setCounter_clove (s : State) (key pos n : Nat) : (s.setCounter key pos n).clove = s.clove := rfl
@[simp] theorem State.setCounter_saffron (s : State) (key pos n : Nat) : (s.setCounter key pos n).saffron = s.saffron := rfl
@[simp] theorem State.setCounter_rng (s : State) (key pos n : Nat) : (s.setCounter key pos n).rng = s.rng := rfl
@[simp] theorem State.setCounter_gov (s : State) (key pos n : Nat) : (s.setCounter key pos n).gov = s.gov := rfl
@[simp] theorem State.setCounter_log (s : State) (key pos n : Nat) : (s.setCounter key pos n).log = s.log := rfl
@[simp] theorem State.setCounter_faults (s : State) (key pos n : Nat) : (s.setCounter key pos n).faults = s.faults := rfl
@[simp] theorem State.setCounter_card (s : State) (key pos n : Nat) : (s.setCounter key pos n).card = s.card := rfl
@[simp] theorem State.setCounter_meas (s : State) (key pos n : Nat) : (s.setCounter key pos n).meas = s.meas := rfl
@[simp] theorem State.setCounter_mgmt (s : State) (key pos n : Nat) : (s.setCounter key pos n).mgmt = s.mgmt := rfl
@[simp] theorem State.setCounter_trans (s : State) (key pos n : Nat) : (s.setCounter key pos n).trans = s.trans := rfl
@[simp] theorem State.setCounter_shelf (s : State) (key pos n : Nat) : (s.setCounter key pos n).shelf = s.shelf := rfl
@[simp] theorem State.setCounter_od (s : State) (key pos n : Nat) : (s.setCounter key pos n).od = s.od := rfl
@[simp] theorem State.setCounter_cnt (s : State) (key pos n : Nat) : (s.setCounter key pos n).cnt = putNum (1024 * key + pos) n s.cnt := rfl

end Sys2Proof.Machine
end

