-- ==== Sys2Proof/Laws/Shared.lean ====
section
/-! SUPPORT. What the operations that most commands go through do, said once: the step of a recipe instruction, and an
operation of a job in step 5. -/

namespace Sys2Proof.Machine

open Sys2Proof

/-- Two changes of one entry are one. -/
theorem upd_upd {α : Type} (k : Nat) (f g : α → α) (l : List (Nat × α)) : upd k f (upd k g l) = upd k (f ∘ g) l := by
  simp only [upd, List.map_map]
  refine List.map_congr_left fun p _ => ?_
  by_cases h : p.1 = k <;> simp [h]

/-- The last run set is the one that stands. -/
@[simp] theorem State.setRun_setRun (s : State) (k : Nat) (r q : Run) : (s.setRun k r).setRun k q = s.setRun k q := by
  simp only [State.setRun, State.modJob, upd_upd]
  rfl

/-- The job and the run of a slot after its run is set. -/
theorem State.running_setRun {s : State} {k : Nat} {j : Job} {r : Run} (h : s.running k = some (j, r)) (q : Run) :
    (s.setRun k q).running k = some ({ j with run := some q }, q) := by
  unfold State.running at *
  rw [State.setRun, State.job_modJob]
  cases hj : s.job k with
  | none => simp [hj] at h
  | some x =>
    simp only [hj] at h
    split at h
    · obtain ⟨y, hy, e⟩ := Option.map_eq_some_iff.1 h
      cases e
      simp_all
    · cases h

/-- An instruction whose word stands, which does not stall and whose charge the budget allows, acts on the charged
run (R346, R354, R360). -/
theorem State.instr_acts {s : State} {k w : Nat} {j : Job} {r : Run} {o : Op} (h : s.running k = some (j, r))
    (page : r.trapPage = none) (word : r.word = some w) (it : o.isIt r w = true) (go : o.stalls r = false)
    (budget : r.used + (if r.baseCharged then 0 else o.charge j r) ≤ r.budget) :
    s.instr k o = o.act (s.setRun k { r with used := r.used + if r.baseCharged then 0 else o.charge j r }) j
      { r with used := r.used + if r.baseCharged then 0 else o.charge j r } := by
  unfold State.instr
  simp only [h, page, word, it, go, Option.isSome_none, Bool.false_eq_true, if_false, Bool.not_true, Bool.or_self,
    Nat.not_lt.2 budget]

/-- The same instruction beyond the budget traps with BUDGET before it acts (R354). -/
theorem State.instr_budget {s : State} {k w : Nat} {j : Job} {r : Run} {o : Op} (h : s.running k = some (j, r))
    (page : r.trapPage = none) (word : r.word = some w) (it : o.isIt r w = true) (go : o.stalls r = false)
    (budget : r.budget < r.used + (if r.baseCharged then 0 else o.charge j r)) :
    s.instr k o = s.trapAt k 1 (o.elem r) := by
  unfold State.instr
  simp only [h, page, word, it, go, Option.isSome_none, Bool.false_eq_true, if_false, Bool.not_true, Bool.or_self,
    budget, if_true]

/-- A word outside CODE traps with ACCESS (R350). -/
theorem State.instr_noWord {s : State} {k : Nat} {j : Job} {r : Run} (o : Op) (h : s.running k = some (j, r))
    (page : r.trapPage = none) (word : r.word = none) : s.instr k o = s.trap k 5 := by
  unfold State.instr
  simp only [h, page, word, Option.isSome_none, Bool.false_eq_true, if_false]

/-- An instruction on registers alone writes its run and goes on. -/
theorem State.simple_runs {s : State} {k w charge : Nat} {j : Job} {r : Run} {isIt : Nat → Bool} {f : Run → Run}
    (h : s.running k = some (j, r)) (page : r.trapPage = none) (word : r.word = some w) (it : isIt w = true)
    (budget : r.used + (if r.baseCharged then 0 else charge) ≤ r.budget) :
    s.simple k isIt charge f =
      s.setRun k (f { r with used := r.used + if r.baseCharged then 0 else charge }).next := by
  unfold State.simple
  rw [State.instr_acts h page word it rfl budget]
  exact State.setRun_setRun ..

/-- An operation of a job in step 5 whose opcode is the command's own. -/
theorem State.runOp_runs {s : State} {k : Nat} {test : Opc → Bool} {f : State → Job → State} {j : Job}
    (h : s.job k = some j) (run : j.phase = .running) (is : test (entryOpc j.entry) = true) :
    s.runOp k test f = f s j := by
  unfold State.runOp
  simp only [h, run, is, beq_self_eq_true, Bool.and_self, if_true]

end Sys2Proof.Machine
end

