-- ==== Sys2Proof/Laws/Symmetric.lean ====
section
/-! SUPPORT. The lengths of what the symmetric algorithms put out: AES blocks, counter mode, GCM tags, sponges. -/

namespace Sys2Proof.Machine

open Sys2Proof

theorem xorBytes_length (a b : Bytes) : (xorBytes a b).length = min a.length b.length := by
  induction a generalizing b with
  | nil => simp [xorBytes]
  | cons x a ih => cases b <;> simp [xorBytes, ih, Nat.succ_min_succ]

theorem le_length (n v : Nat) : (le n v).length = n := by
  induction n generalizing v with
  | zero => rfl
  | succ n ih => simp [le, ih]

theorem be_length (n v : Nat) : (be n v).length = n := by simp [be, le_length]

/-- Every word of a key expansion has four bytes, and there are as many as asked for. -/
theorem expandKey_words (nk n i rc : Nat) (ws : List (List Nat)) (hw : ∀ w ∈ ws, w.length = 4) (hn : 0 < nk)
    (hl : nk ≤ ws.length) : (∀ w ∈ expandKey nk n i rc ws, w.length = 4) ∧ (expandKey nk n i rc ws).length = n + ws.length := by
  induction n generalizing i rc ws with
  | zero => exact ⟨hw, by simp [expandKey]⟩
  | succ n ih =>
    have head : (ws.headD []).length = 4 := by
      cases ws with
      | nil => simp at hl; omega
      | cons w ws => exact hw w (by simp)
    have old : (ws.getD (nk - 1) []).length = 4 := by
      rw [List.getD_eq_getElem _ _ (by omega)]
      exact hw _ (List.getElem_mem _)
    unfold expandKey
    have step : ∀ (t' : List Nat) (rc' : Nat), t'.length = 4 →
        (∀ w ∈ expandKey nk n (i + 1) rc' (List.zipWith (· ^^^ ·) (ws.getD (nk - 1) []) t' :: ws), w.length = 4) ∧
        (expandKey nk n (i + 1) rc' (List.zipWith (· ^^^ ·) (ws.getD (nk - 1) []) t' :: ws)).length =
          n + 1 + ws.length := by
      intro t' rc' ht
      obtain ⟨a, b⟩ := ih (i + 1) rc' (List.zipWith (· ^^^ ·) (ws.getD (nk - 1) []) t' :: ws)
        (fun w h => by
          rcases List.mem_cons.1 h with rfl | h
          · rw [List.length_zipWith, old, ht]; rfl
          · exact hw w h)
        (by simp; omega)
      exact ⟨a, by rw [b, List.length_cons]; omega⟩
    have rot : ((ws.headD []).drop 1 ++ (ws.headD []).take 1).length = 4 := by
      rw [List.length_append, List.length_drop, List.length_take, head]; rfl
    dsimp only
    split
    · split
      · next a r e =>
        rw [e] at rot
        exact step _ _ (by simpa using rot)
      · next e => rw [e] at rot; simp at rot
    · split
      · exact step _ _ (by rw [List.length_map]; exact head)
      · exact step _ _ head

/-- Every round key has 16 bytes, and there are ten, or fourteen, and one more. -/
theorem roundKeys_lengths {key : Bytes} (h : key.length = 16 ∨ key.length = 32) :
    (roundKeys key).length = key.length / 4 + 7 ∧ ∀ k ∈ roundKeys key, k.length = 16 := by
  have nk : 0 < key.length / 4 := by omega
  let first : List (List Nat) := (List.range (key.length / 4)).map fun i => (slice (4 * i) 4 key).map (·.toNat)
  have hf : ∀ w ∈ first.reverse, w.length = 4 := by
    intro w hw
    obtain ⟨i, hi, rfl⟩ := List.mem_map.1 (List.mem_reverse.1 hw)
    have := List.mem_range.1 hi
    simp only [slice, List.length_map, List.length_take, List.length_drop]
    omega
  obtain ⟨a, b⟩ := expandKey_words (key.length / 4) (4 * (key.length / 4 + 7) - key.length / 4) (key.length / 4) 1
    first.reverse hf nk (by simp [first])
  refine ⟨by simp [roundKeys], fun k hk => ?_⟩
  obtain ⟨r, hr, rfl⟩ := List.mem_map.1 hk
  have hr := List.mem_range.1 hr
  rw [List.length_flatten]
  have len : ((expandKey (key.length / 4) (4 * (key.length / 4 + 7) - key.length / 4) (key.length / 4) 1
      first.reverse).reverse.drop (4 * r) |>.take 4).length = 4 := by
    rw [List.length_take, List.length_drop, List.length_reverse, b, List.length_reverse]
    simp only [first, List.length_map, List.length_range]
    omega
  have all : ∀ w ∈ ((expandKey (key.length / 4) (4 * (key.length / 4 + 7) - key.length / 4) (key.length / 4) 1
      first.reverse).reverse.drop (4 * r) |>.take 4), w.length = 4 := fun w hw =>
    a w (List.mem_reverse.1 (List.mem_of_mem_drop (List.mem_of_mem_take hw)))
  have : (((expandKey (key.length / 4) (4 * (key.length / 4 + 7) - key.length / 4) (key.length / 4) 1
      first.reverse).reverse.drop (4 * r) |>.take 4).map List.length) = List.replicate 4 4 :=
    List.eq_replicate_iff.2 ⟨by rw [List.length_map, len], fun n hn => by
      obtain ⟨w, hw, rfl⟩ := List.mem_map.1 hn
      exact all w hw⟩
  exact (congrArg List.sum this).trans rfl

@[simp] theorem shiftRows_length (s : List Nat) : (shiftRows s).length = 16 := by simp [shiftRows]

@[simp] theorem invShiftRows_length (s : List Nat) : (invShiftRows s).length = 16 := by simp [invShiftRows]

/-- A block cipher under a key of 16 or 32 bytes puts out 16 bytes, whatever it is given. -/
theorem aesEnc_length {key : Bytes} (h : key.length = 16 ∨ key.length = 32) (b : Bytes) :
    (aesEnc key b).length = 16 := by
  obtain ⟨n, k⟩ := roundKeys_lengths h
  have last : ((roundKeys key).getD ((roundKeys key).length - 1) []).length = 16 := by
    rw [List.getD_eq_getElem _ _ (by omega)]
    exact k _ (List.getElem_mem _)
  unfold aesEnc cipherBlock
  simp only [List.length_map, addKey, List.length_zipWith, last, shiftRows_length, min_self]

/-- The tag before it is cut has 16 bytes. -/
theorem gcmTag_length {key : Bytes} (h : key.length = 16 ∨ key.length = 32) (iv aad ct : Bytes) :
    (gcmTag key iv aad ct).length = 16 := by
  simp [gcmTag, xorBytes_length, be_length, aesEnc_length h]

/-- Counter mode keeps the length. -/
theorem gctr_length {key : Bytes} (h : key.length = 16 ∨ key.length = 32) (j0 m : Bytes) :
    (gctr key j0 m).length = m.length := by
  unfold gctr
  rw [List.length_flatMap]
  have e : ((List.range (ceilDiv m.length 16)).map fun i =>
      (xorBytes (slice (16 * i) 16 m) (aesEnc key (counterBlock j0 (i + 1)))).length) =
      (List.range (ceilDiv m.length 16)).map fun i => min 16 (m.length - 16 * i) := by
    refine List.map_congr_left fun i _ => ?_
    simp only [xorBytes_length, aesEnc_length h, slice, List.length_take, List.length_drop]
    omega
  rw [e]
  have s : ∀ n, ((List.range n).map fun i => min 16 (m.length - 16 * i)).sum = min (16 * n) m.length := by
    intro n
    induction n with
    | zero => simp
    | succ n ih =>
      rw [List.range_succ, List.map_append, List.sum_append, ih]
      simp only [List.map_cons, List.map_nil, List.sum_cons, List.sum_nil]
      omega
  rw [s, ceilDiv]
  omega

/-! ### Keccak -/

@[simp] theorem keccakBytes_length (b : Bytes) : (keccakBytes b).length = 200 := by
  simp only [keccakBytes, ofLanes, List.length_flatMap, le_length]
  rfl

theorem absorbBlocks_length (rate n : Nat) (m st : Bytes) (h : st.length = 200) :
    (absorbBlocks rate n m st).length = 200 := by
  induction n generalizing m st with
  | zero => exact h
  | succ n ih => exact ih _ _ (keccakBytes_length _)

theorem squeeze_length (rate n : Nat) (st : Bytes) (hr : rate ≤ 200) (h : st.length = 200) :
    (squeeze rate n st).length = n * rate := by
  induction n generalizing st with
  | zero => simp [squeeze]
  | succ n ih =>
    simp only [squeeze, List.length_append, List.length_take, h, ih _ (keccakBytes_length _), Nat.succ_mul]
    omega

/-- A sponge puts out as many bytes as asked for. -/
theorem sponge_length {rate : Nat} (dom : Nat) (m : Bytes) (out : Nat) (hp : 0 < rate) (hr : rate ≤ 200) :
    (sponge rate dom m out).length = out := by
  unfold sponge
  simp only [List.length_take]
  rw [squeeze_length _ _ _ hr (absorbBlocks_length _ _ _ (zeros 200) List.length_replicate)]
  refine Nat.min_eq_left ?_
  have := Nat.div_add_mod (out + rate - 1) rate
  have := Nat.mod_lt (out + rate - 1) hp
  rw [ceilDiv, Nat.mul_comm]
  omega

@[simp] theorem sha3_256_length (m : Bytes) : (sha3_256 m).length = 32 := sponge_length _ _ _ (by decide) (by decide)

@[simp] theorem shake128_length (m : Bytes) (n : Nat) : (shake128 m n).length = n :=
  sponge_length _ _ _ (by decide) (by decide)

@[simp] theorem shake256_length (m : Bytes) (n : Nat) : (shake256 m n).length = n :=
  sponge_length _ _ _ (by decide) (by decide)

@[simp] theorem kmac128_length (key msg cust : Bytes) (n : Nat) : (kmac128 key msg cust n).length = n :=
  sponge_length _ _ _ (by decide) (by decide)

@[simp] theorem kmac256_length (key msg cust : Bytes) (n : Nat) : (kmac256 key msg cust n).length = n :=
  sponge_length _ _ _ (by decide) (by decide)

end Sys2Proof.Machine
end

