-- ==== Sys2Proof/Tests/Slice0.lean ====
section
/-! SUPPORT. Tests of the model: ill-formed commands that the checks of WellFormed refuse, a state that meets the
premises of each statement, the values that the standards' own examples and the manual's tables give, and what single
commands do on small states. -/

namespace Sys2Proof.Tests

open Sys2Proof Sys2Proof.Machine Sys2Proof.Claims

set_option Elab.async false

/-! ### Ill-formed commands -/

/-- A request whose SEQ does not fit in 8 bytes. -/
def badSeq : ZReq := { seq := 2 ^ 64 }

theorem test_ill_formed_requests_refused : ∀ c ∈ [Instr.tamperAck badSeq [], .read badSeq {}, .write badSeq {} [],
    .describe badSeq {}, .next badSeq {}, .txnBegin badSeq, .txnCommit badSeq 0, .txnRollback badSeq 0,
    .blockOpen badSeq {} 0 0, .blockData badSeq {} 0 [], .blockClose badSeq {} [], .blockAbort badSeq,
    .subscribe badSeq 0 0, .unsubscribe badSeq, .restart badSeq 0, .keepalive badSeq, .close badSeq,
    .timeSet badSeq [], .lcRequest badSeq 0 (zeros 32), .debugAllow badSeq [], .archiveRatchet badSeq [],
    .logClear badSeq [], .logCheckRun badSeq [], .retry badSeq 0 true, .retire badSeq 0, .resetInstance badSeq 0,
    .accept badSeq 0, .approve badSeq 0, .configSave badSeq 0, .configLoad badSeq 0, .backup badSeq 0,
    .restore badSeq 0 {}, .protect badSeq 0, .unprotect badSeq 0, .cancel badSeq 0, .unknownService (.zynbo badSeq 0)],
    wellFormed c = false := by decide +kernel

theorem test_ill_formed_values_refused (v : Bytes) (h : v.length = 65536) : ∀ c ∈ [Instr.tamperAck {} v,
    .write {} {} v, .timeSet {} v, .debugAllow {} v, .archiveRatchet {} v, .logClear {} v, .logCheckRun {} v],
    wellFormed c = false := by
  intro c hc
  simp only [List.mem_cons, List.not_mem_nil, or_false] at hc
  rcases hc with rfl | rfl | rfl | rfl | rfl | rfl | rfl <;>
    (change (ZReq.fits {} && decide (v.length < 2 ^ 16)) = false; rw [h]; decide)

theorem test_ill_formed_measurements_refused : ∀ c ∈ [Instr.mainRailLoss .v12 (2 ^ 32) 0, .mainRailLoss .v12 0 (2 ^ 32),
    .holdupMeasure (2 ^ 32) 0, .holdupMeasure 0 (2 ^ 32), .tamperLoopPulse (2 ^ 32), .canTemperatureLimit (-273151),
    .canTemperatureLimit (2 ^ 31), .thermalPause (-273151), .thermalPause (2 ^ 31), .thermalResume (-273151),
    .thermalResume (2 ^ 31), .startCold (2 ^ 16) 0 0 false, .startCold 0 (2 ^ 32) 0 false, .startCold 0 0 (2 ^ 32) false,
    .startWarm (2 ^ 16) 0 0, .startWarm 0 (2 ^ 32) 0, .startWarm 0 0 (2 ^ 32), .katComplete [387],
    .tempoWindow (2 ^ 32), .governorTick (2 ^ 32) 0 0, .governorTick 0 (2 ^ 32) 0, .governorTick 0 0 (2 ^ 31),
    .governorTick 0 0 (-273151), .selfTestVisit 0 true (2 ^ 64) 0, .selfTestVisit 0 true 0 (2 ^ 64),
    .linkStateChange 256, .graceTimerExpiry (2 ^ 32)], wellFormed c = false := by decide +kernel

theorem test_ill_formed_firmware_refused : ∀ f ∈ [({ version := 2 ^ 32 } : FwImage),
    { present := true, digest := zeros 65 }, { digest := [0] }],
    wellFormed (.firmwareAuthenticated f {} {}) = false ∧ wellFormed (.firmwareAuthenticated {} f {}) = false ∧
      wellFormed (.firmwareAuthenticated {} {} f) = false := by decide +kernel

theorem test_ill_formed_times_and_addresses_refused : ∀ c ∈ [Instr.ptmDialogue 0 (2 ^ 63) 0 true,
    .ptmDialogue 0 (-2 ^ 63 - 1) 0 true, .ptmDialogue 0 0 (2 ^ 64) true, .ptpMessage 0 256 0 0 0 true,
    .ptpMessage 0 0 4096 0 0 true, .ptpMessage 0 0 0 (2 ^ 64) 0 true, .ptpMessage 0 0 0 0 (2 ^ 63) true,
    .ptpMessage 0 0 0 0 (-2 ^ 63 - 1) true, .addressResolution true (zeros 4) 0, .addressResolution false (zeros 16) 0,
    .addressResolution false (zeros 4) 4096, .replayDiscard 0 (2 ^ 64) true], wellFormed c = false := by decide +kernel

theorem test_ill_formed_sessions_refused : ∀ c ∈ [
    Instr.open1 none 0 256 (zeros 32) (zeros 32) (zeros 1184), .open1 none 0 0 (zeros 31) (zeros 32) (zeros 1184),
    .open1 none 0 0 (zeros 32) (zeros 33) (zeros 1184), .open1 none 0 0 (zeros 32) (zeros 32) (zeros 1183),
    .open3 0 [], .blockOpen {} {} 256 0, .blockOpen {} {} 0 (2 ^ 32), .blockData {} {} (2 ^ 16) [],
    .blockData {} {} 0 (zeros 1025), .blockClose {} {} (zeros 31), .subscribe {} 256 0, .subscribe {} 0 (2 ^ 16),
    .lcRequest {} 256 (zeros 32), .lcRequest {} 0 (zeros 31), .dbgResponse [], .dbgLcRequest 256 (zeros 32),
    .dbgLcRequest 0 (zeros 33), .approve {} 256, .configSave {} 256, .configLoad {} 256, .backup {} 256,
    .restore {} 256 {}, .protect {} 256, .unprotect {} 256, .cancel {} 256], wellFormed c = false := by decide +kernel

theorem test_ill_formed_readback_refused (l : List Bool) (h : l.length = 65536) :
    wellFormed (.lcWipeDone l) = false := by
  change decide (l.length < 2 ^ 16) = false
  rw [h]; decide

theorem test_ill_formed_port_commands_refused : ∀ c ∈ [Instr.instReset 0 0 0 256,
    .openSlotWrite 0 0 { key := zeros 233 }, .registerWrite (.ctrl 0) (2 ^ 24) 4 0, .registerWrite (.ctrl 0) 0 3 0,
    .engineCommandDone 1 0 .done 0, .engineCommandDone 7 0 .done 0, .engineCommandDone 2 0 .done (2 ^ 32),
    .statefulBuildBlock (2 ^ 24), .leafBlockJournaled (2 ^ 24), .data 0 0 3 0 false, .dataLast 0 0 3 0 false],
    wellFormed c = false := by decide +kernel

theorem test_ill_formed_inputs_refused (l : List FragEntry) (b : Bytes) (h : l.length = 65536)
    (hb : b.length = 2 ^ 30 + 1) : ∀ i ∈ [({ srcTable := l } : JobInput), { dstTable := l }, { ptes := [(2 ^ 64, 0)] },
    { data := b }], wellFormed (.jobInputArrived 0 i) = false := by
  intro i hi
  simp only [List.mem_cons, List.not_mem_nil, or_false] at hi
  rcases hi with rfl | rfl | rfl | rfl <;> (change JobInput.fits _ = false; simp [JobInput.fits, h, hb])

theorem test_ill_formed_places_refused : ∀ l ∈ [MemLoc.sequencerBank 72 0 none, .sequencerBank 0 (2 ^ 32) none,
    .sequencerBank 0 0 (some 16384), .cloveLine 72 0, .cloveLine 0 8192, .keyCacheLine (2 ^ 32) none,
    .keyCacheLine 0 (some (2 ^ 24)), .contextTable 16384, .vaultRecord (2 ^ 24), .vaultOther (2 ^ 32) none none,
    .vaultOther 0 (some (2 ^ 16)) none, .vaultOther 0 none (some 16384)], wellFormed (.scrub l .none) = false := by
  decide +kernel

theorem test_ill_formed_stage_refused : wellFormed (.watchdogExpiry (.control [16384]) true) = false := by decide +kernel

theorem test_ill_formed_cards_refused : ∀ c ∈ [
    Instr.cardAuthenticated { role := 3, keyDigest := zeros 32 }, .cardAuthenticated { role := 1, keyDigest := zeros 31 },
    .cardAuthenticated { role := 1, keyDigest := zeros 32, token := some (zeros 31) },
    .restore {} 0 { generation := 2 ^ 32 }, .restore {} 0 { segments := 8193 },
    .restore {} 0 { found := true, imageId := zeros 15 }], wellFormed c = false := by decide +kernel

theorem test_ill_formed_reply_refused (b : Bytes) (h : b.length = 2 ^ 32) :
    wellFormed (.cardOpDone { content := b }) = false := by
  change CardReply.fits _ = false
  simp [CardReply.fits, h]

theorem test_ill_formed_images_refused : ∀ m ∈ [({ queues := List.replicate 1025 {} } : MigImage),
    { queues := [{ log2 := 32 }] }, { queues := [{ vector := 2048 }] }, { queues := [{ fetchIndex := 2 ^ 16 }] },
    { queues := [{ postIndex := 2 ^ 16 }] }, { records := [{ index := 2 ^ 24 }] }, { records := [{ gen := 2 ^ 32 }] },
    { records := [{ cls := 256 }] }, { records := [{ origin := 256 }] }, { records := [{ ivUsed := 2 ^ 64 }] },
    { peers := [{ index := 2 ^ 24 }] }, { peers := [{ gen := 2 ^ 32 }] }, { peers := [{ sigSet := 256 }] },
    { peers := [{ mlkemSet := 256 }] }, { completions := [(1024, zeros 32)] }, { completions := [(0, [])] },
    { squashed := [(1024, 0)] }], wellFormed (.migRestoreDone 0 m) = false := by decide +kernel

theorem test_well_formed_commands_accepted : ∀ c ∈ [Instr.add 16383 31 31 31, .tamperMeshCheck true,
    .mainRailLoss .v3v3 (2 ^ 32 - 1) (2 ^ 32 - 1), .canTemperatureLimit (-273150), .read { seq := 2 ^ 64 - 1 } {},
    .registerWrite (.vf 1023) (2 ^ 24 - 1) 8 0, .jobInputArrived 0 {}], wellFormed c = true := by decide +kernel

/-! ### States that meet the premises of the statements: recipe instructions -/

/-- A recipe header: CODE_LEN 4, DATA_LEN 4,096, 4 KiB of scratch and output, 1 MiB of vault scratch, 4 KiB in each
Clove window, every family of INVOKE (Table - Recipe header). -/
def header : Bytes :=
  zeros 64 ++ fields [(4, 4), (4, 4096)] ++ zeros 12 ++
    fields [(2, 4), (2, 4), (2, 1), (2, 0), (2, 4), (2, 4), (8, 2 ^ 64 - 1)] ++ zeros 24

/-- A run at a one-word recipe. Its g registers: 1 to 9 hold the bases of the windows, 10 the last byte of DATA, 11 the
byte after DATA, the rest 7. -/
def runWith (w : Nat) : Run :=
  { package := header ++ le 4 w, budget := 2 ^ 24
    g := [0, 0x100000, 0x200000, 0x300000, 0x340000, 0x380000, 0x400000, 0x100000000, 0x10000000000, 0x100000000000,
      0x100FFF, 0x101000] ++ List.replicate 20 7 }

/-- Its job: 64 bytes of input, 4,096 of output, a region of 8 public and 8 matrix lines. -/
def jobWith (r : Run) : Job :=
  { phase := .running, told := [9], run := some r, input := zeros 64
    region := some { publicLines := 8, matrixBase := 8, matrixLines := 8 }
    entry := { opcode := 0x0E01, srcLen := 64, dstLen := 4096 } }

/-- The state after reset with one running recipe. -/
def stateWith (r : Run) : State := { State.reset with jobs := [(0, jobWith r)] }

theorem ofLe_le_four (w : Nat) (h : w < 2 ^ 32) : ofLe (le 4 w) = w := by
  simp only [le, ofLe, BitVec.toNat_ofNat]
  omega

theorem word_of_header {r : Run} {w : Nat} (package : r.package = header ++ le 4 w) (pc : r.pc = 0)
    (h : w < 2 ^ 32) : r.word = some w := by
  have len : r.codeLen = 4 := by rw [Run.codeLen, package]; rfl
  have code : fieldLe 128 4 (header ++ le 4 w) = ofLe (le 4 w) := rfl
  unfold Run.word
  simp only [len, pc, package]
  exact congrArg some (code.trans (ofLe_le_four w h))

theorem at_of {r : Run} {w charge : Nat} (package : r.package = header ++ le 4 w) (pc : r.pc = 0)
    (page : r.trapPage = none) (fresh : r.baseCharged = false) (budget : r.used + charge ≤ r.budget)
    (h : w < 2 ^ 32) : At (stateWith r) (0 : Fin 16384) (jobWith r) r w charge :=
  ⟨rfl, page, word_of_header package pc h, by rw [due, fresh]; exact budget⟩

theorem at_with (w charge : Nat) (h : w < 2 ^ 32) (c : charge ≤ 2 ^ 24) :
    At (stateWith (runWith w)) (0 : Fin 16384) (jobWith (runWith w)) (runWith w) w charge :=
  at_of rfl rfl rfl rfl (by simpa [runWith] using c) h

theorem wordA_lt {major rd rs1 rs2 funct : Nat} (a : major < 64) (b : rd < 32) (c : rs1 < 32) (d : rs2 < 32)
    (e : funct < 2048) : wordA major rd rs1 rs2 funct < 2 ^ 32 := by
  unfold wordA; omega

theorem wordI_lt {major rd rs1 : Nat} {imm : BitVec 16} (a : major < 64) (b : rd < 32) (c : rs1 < 32) :
    wordI major rd rs1 imm < 2 ^ 32 := by
  unfold wordI; have := imm.isLt; omega

/-- The machine stands at a register instruction, whatever its registers. -/
theorem at_wordA (major funct charge : Nat) (rd rs1 rs2 : Fin 32) (a : major < 64) (b : funct < 2048)
    (c : charge ≤ 2 ^ 24) : ∃ s j r, At s (0 : Fin 16384) j r (wordA major rd rs1 rs2 funct) charge ∧
      r = runWith (wordA major rd rs1 rs2 funct) :=
  ⟨_, _, _, at_with _ _ (wordA_lt a rd.isLt rs1.isLt rs2.isLt b) c, rfl⟩

theorem at_wordI (major charge : Nat) (rd rs1 : Fin 32) (imm : BitVec 16) (a : major < 64) (c : charge ≤ 2 ^ 24) :
    ∃ s j r, At s (0 : Fin 16384) j r (wordI major rd rs1 imm) charge ∧ r = runWith (wordI major rd rs1 imm) :=
  ⟨_, _, _, at_with _ _ (wordI_lt a rd.isLt rs1.isLt) c, rfl⟩

theorem test_meets_integer_registers : ∀ o ∈ regOps ++ divOps, ∀ rd rs1 rs2 : Fin 32, ∃ s j r,
    At s (0 : Fin 16384) j r (wordA 0x00 rd rs1 rs2 o.funct) o.charge := by
  intro o ho rd rs1 rs2
  have h : ∀ o ∈ regOps ++ divOps, o.funct < 2048 ∧ o.charge ≤ 2 ^ 24 := by decide
  obtain ⟨s, j, r, at_, -⟩ := at_wordA 0 o.funct o.charge rd rs1 rs2 (by omega) (h o ho).1 (h o ho).2
  exact ⟨s, j, r, at_⟩

theorem test_meets_divisors : ∀ o ∈ divOps, (∃ s j r, At s (0 : Fin 16384) j r (wordA 0 1 2 31 o.funct) o.charge ∧
    r.reg 31 ≠ 0) ∧ ∃ s j r, At s (0 : Fin 16384) j r (wordA 0 1 2 0 o.funct) o.charge ∧ r.reg 0 = 0 := by
  intro o ho
  have h : ∀ o ∈ divOps, o.funct < 2048 ∧ o.charge ≤ 2 ^ 24 := by decide
  obtain ⟨s, j, r, a, e⟩ := at_wordA 0 o.funct o.charge 1 2 31 (by omega) (h o ho).1 (h o ho).2
  obtain ⟨s', j', r', a', -⟩ := at_wordA 0 o.funct o.charge 1 2 0 (by omega) (h o ho).1 (h o ho).2
  refine ⟨⟨s, j, r, a, ?_⟩, s', j', r', a', rfl⟩
  rw [e]; change (7 : BitVec 64) ≠ 0; decide

theorem test_meets_immediates : (∀ o ∈ immOps, ∀ rd rs1 : Fin 32, ∃ imm s j r, o.ok imm = true ∧
    At s (0 : Fin 16384) j r (wordI o.major rd rs1 imm) 1) ∧
    ∀ (rd rs1 : Fin 32) (imm : BitVec 16), ∃ s j r, At s (0 : Fin 16384) j r (wordI 0x06 rd rs1 imm) 1 := by
  constructor
  · intro o ho rd rs1
    have h : ∀ o ∈ immOps, o.major < 64 ∧ (o.ok 0x003F = true ∨ o.ok 0x007F = true ∨ o.ok 0x00BF = true ∨
        o.ok 0x00FF = true) := by decide
    obtain ⟨m, k⟩ := h o ho
    obtain ⟨imm, ok⟩ : ∃ imm, o.ok imm = true := by
      rcases k with k | k | k | k <;> exact ⟨_, k⟩
    obtain ⟨s, j, r, a, -⟩ := at_wordI o.major 1 rd rs1 imm m (by decide)
    exact ⟨imm, s, j, r, ok, a⟩
  · intro rd rs1 imm
    obtain ⟨s, j, r, a, -⟩ := at_wordI 0x06 1 rd rs1 imm (by decide) (by decide)
    exact ⟨s, j, r, a⟩

theorem test_meets_register_laws : (runWith 0).g.length = 32 ∧ (runWith 0).v.length = 32 ∧ (31 : Nat) < 32 := by decide

/-- Each store at the last place of a window that it can reach: DATA, SCRATCH, OUT and the vault scratch hold it in the
run's own memory. -/
theorem test_meets_stores : ∀ o ∈ storeOps, ∀ p ∈ [((1 : Fin 32), Win.data), (2, .scratch), (6, .out)],
    ∃ s j r, At s (0 : Fin 16384) j r (wordI o.major 31 p.1 (BitVec.ofNat 16 (4096 - o.bytes))) 2 ∧
      reachable s j r true (addr r p.1 (BitVec.ofNat 16 (4096 - o.bytes))) o.bytes p.2 (4096 - o.bytes) ∧
      ownWindow p.2 = true := by
  intro o ho p hp
  have h : ∀ o ∈ storeOps, o.major < 64 := by decide
  refine ⟨_, _, _, at_with _ 2 (wordI_lt (h o ho) (31 : Fin 32).isLt p.1.isLt) (by decide), ?_⟩
  revert o p
  unfold reachable
  decide +kernel

theorem test_meets_paged_store : ∃ s j r, At s (0 : Fin 16384) j r (wordI 0x0C 31 7 0x0FF8) 2 ∧
    reachable s j r true (addr r 7 0x0FF8) 8 .vscratch 0x0FF8 ∧ ownWindow .vscratch = true :=
  ⟨_, _, { runWith (wordI 0x0C 31 7 0x0FF8) with resident := [0x100000] },
    at_of rfl rfl rfl rfl (by decide) (by decide), by unfold reachable; decide +kernel, rfl⟩

theorem test_meets_float_store : ∃ s j r, At s (0 : Fin 16384) j r (wordI 0x1A 31 1 0x0FF8) 2 ∧
    reachable s j r true (addr r 1 0x0FF8) 8 .data 0x0FF8 ∧ ownWindow .data = true :=
  ⟨_, _, _, at_with _ _ (by decide) (by decide), by unfold reachable; decide +kernel, rfl⟩

theorem test_meets_clove_stores : ∀ o ∈ storeOps, ∀ p ∈ [((3 : Fin 32), Win.pub), (4, .mat)],
    ∃ s j r, At s (0 : Fin 16384) j r (wordI o.major 31 p.1 (BitVec.ofNat 16 (4096 - o.bytes))) 2 ∧
      reachable s j r true (addr r p.1 (BitVec.ofNat 16 (4096 - o.bytes))) o.bytes p.2 (4096 - o.bytes) ∧
      (p.2 = .pub ∨ p.2 = .mat) ∧ (regionAt j (p.2 == .mat)).1 < s.clove.length := by
  intro o ho p hp
  have h : ∀ o ∈ storeOps, o.major < 64 := by decide
  refine ⟨_, _, _, at_with _ 2 (wordI_lt (h o ho) (31 : Fin 32).isLt p.1.isLt) (by decide), ?_⟩
  revert o p
  unfold reachable
  decide +kernel

/-- Each load at the last place of the windows; CODE from g0, JOB and INPUT besides. -/
theorem test_meets_loads : ∀ o ∈ loadOps, ∀ p ∈ [((0 : Fin 32), Win.code, 4), (1, .data, 4096), (2, .scratch, 4096),
    (3, .pub, 4096), (4, .mat, 4096), (5, .job, 256), (6, .out, 4096), (9, .input, 64)], o.bytes ≤ p.2.2 →
    ∃ s j r, At s (0 : Fin 16384) j r (wordI o.major 31 p.1 (BitVec.ofNat 16 (p.2.2 - o.bytes)))
        (if p.2.1 = .input then 16 else 2) ∧
      reachable s j r false (addr r p.1 (BitVec.ofNat 16 (p.2.2 - o.bytes))) o.bytes p.2.1 (p.2.2 - o.bytes) := by
  intro o ho p hp hl
  have h : ∀ o ∈ loadOps, o.major < 64 := by decide
  refine ⟨_, _, _, at_with _ _ (wordI_lt (h o ho) (31 : Fin 32).isLt p.1.isLt) (by split <;> decide), ?_⟩
  revert o p
  unfold reachable
  decide +kernel

theorem test_meets_float_load : ∃ s j r, At s (0 : Fin 16384) j r (wordI 0x19 31 9 0x0038) 16 ∧
    reachable s j r false (addr r 9 0x0038) 8 .input 0x38 :=
  ⟨_, _, _, at_with _ _ (by decide) (by decide), by unfold reachable; decide +kernel⟩

/-- A load past the end of DATA (cause 3) and a store into CODE (cause 5) and to an odd address (cause 4). -/
theorem test_meets_trapping_accesses :
    (∀ o ∈ loadOps, ∃ s j r, s.access j r false (addr r 11 0) o.bytes = .trap 3 ∧
      At s (0 : Fin 16384) j r (wordI o.major 31 11 0) (loadCharge o.bytes 11 0 j r)) ∧
    (∀ o ∈ storeOps, ∃ s j r, s.access j r true (addr r 0 0) (min 4 o.bytes) = .trap 5 ∧
      At s (0 : Fin 16384) j r (wordI o.major 31 0 0) 2) ∧
    ∀ o ∈ storeOps, o.bytes ≠ 1 → ∃ s j r, s.access j r true (addr r 1 1) o.bytes = .trap 4 ∧
      At s (0 : Fin 16384) j r (wordI o.major 31 1 1) 2 := by
  refine ⟨fun o ho => ?_, fun o ho => ?_, fun o ho hb => ?_⟩
  · have h : ∀ o ∈ loadOps, o.major < 64 := by decide
    have hc : ∀ o ∈ loadOps, ∀ w, loadCharge o.bytes 11 0 (jobWith (runWith w)) (runWith w) ≤ 2 ^ 24 := by
      intro o ho w; unfold loadCharge; split <;> decide
    refine ⟨_, _, _, ?_, at_with _ _ (wordI_lt (h o ho) (31 : Fin 32).isLt (11 : Fin 32).isLt) (hc o ho _)⟩
    revert o
    decide +kernel
  · have h : ∀ o ∈ storeOps, o.major < 64 := by decide
    refine ⟨_, _, _, ?_, at_with _ _ (wordI_lt (h o ho) (31 : Fin 32).isLt (0 : Fin 32).isLt) (by decide)⟩
    revert o
    decide +kernel
  · have h : ∀ o ∈ storeOps, o.major < 64 := by decide
    refine ⟨_, _, _, ?_, at_with _ _ (wordI_lt (h o ho) (31 : Fin 32).isLt (1 : Fin 32).isLt) (by decide)⟩
    revert o
    decide +kernel

theorem test_meets_branches : (∀ o ∈ branchOps, ∀ (rs1 rs2 : Fin 32) (imm : BitVec 16), ∃ s j r,
      At s (0 : Fin 16384) j r (wordI o.major rs1 rs2 imm) 1) ∧
    (∀ (rd : Fin 32) (off : BitVec 21), ∃ s j r,
      At s (0 : Fin 16384) j r (0x16 * 2 ^ 26 + rd.val * 2 ^ 21 + off.toNat) 1) ∧
    ∀ (rd rs1 : Fin 32) (imm : BitVec 16), ∃ s j r, At s (0 : Fin 16384) j r (wordI 0x17 rd rs1 imm) 1 := by
  refine ⟨fun o ho a b imm => ?_, fun rd off => ?_, fun rd rs1 imm => ?_⟩
  · have h : ∀ o ∈ branchOps, o.major < 64 := by decide
    exact ⟨_, _, _, at_with _ _ (wordI_lt (h o ho) a.isLt b.isLt) (by decide)⟩
  · have := off.isLt
    have := rd.isLt
    exact ⟨_, _, _, at_with _ _ (by omega) (by decide)⟩
  · exact ⟨_, _, _, at_with _ _ (wordI_lt (by decide) rd.isLt rs1.isLt) (by decide)⟩

theorem test_meets_float_words (rd rs1 rs2 : Fin 32) : (∀ o ∈ floatOps, ∃ s j r,
      At s (0 : Fin 16384) j r (wordA 0x18 rd rs1 rs2 o.funct) o.charge) ∧
    (∀ f ∈ [0x010, 0x011, 0x012, 0x013], ∃ s j r, At s (0 : Fin 16384) j r (wordA 0x18 rd rs1 rs2 f) 2) ∧
    ∀ rel : Fin 3, ∃ s j r, At s (0 : Fin 16384) j r (wordA 0x1B rd rs1 rs2 rel) 2 := by
  refine ⟨fun o ho => ?_, fun f hf => ?_, fun rel => ?_⟩
  · have h : ∀ o ∈ floatOps, o.funct < 2048 ∧ o.charge ≤ 2 ^ 24 := by decide
    exact ⟨_, _, _, at_with _ _ (wordA_lt (by decide) rd.isLt rs1.isLt rs2.isLt (h o ho).1) (h o ho).2⟩
  · have h : ∀ f ∈ [0x010, 0x011, 0x012, 0x013], f < 2048 := by decide
    exact ⟨_, _, _, at_with _ _ (wordA_lt (by decide) rd.isLt rs1.isLt rs2.isLt (h f hf)) (by decide)⟩
  · exact ⟨_, _, _, at_with _ _ (wordA_lt (by decide) rd.isLt rs1.isLt rs2.isLt (by omega)) (by decide)⟩

/-- Every control register of the table is named by an IMM16, in its low bits and below an upper part that is not 0. -/
theorem test_meets_control_registers (major : Nat) (h : major < 64) (rd rs1 : Fin 32) :
    ∀ n ∈ [0x001, 0x002, 0x003, 0x004, 0x010, 0x020, 0x021, 0x022, 0x030], ∃ imm : BitVec 16,
      imm.toNat % 4096 = n ∧ ∃ s j r, At s (0 : Fin 16384) j r (wordI major rd rs1 imm) 1 := by
  intro n hn
  have h2 : ∀ n ∈ [0x001, 0x002, 0x003, 0x004, 0x010, 0x020, 0x021, 0x022, 0x030],
      (BitVec.ofNat 16 (0xF000 + n)).toNat % 4096 = n := by decide
  exact ⟨_, h2 n hn, _, _, _, at_with _ _ (wordI_lt h rd.isLt rs1.isLt) (by decide)⟩

/-- A vector instruction of every family, at every register and either VM. -/
theorem at_vec (r : Nat → Run) (hr : ∀ w, (r w).package = header ++ le 4 w ∧ (r w).pc = 0 ∧ (r w).trapPage = none ∧
    (r w).baseCharged = false ∧ (r w).used + 2 ^ 20 ≤ (r w).budget) (major low charge : Nat) (vd vs1 vs2 : Fin 32)
    (vm : Bool) (a : major < 64) (b : low < 1024) (c : charge ≤ 2 ^ 20) : ∃ s j,
    At s (0 : Fin 16384) j (r (wordA major vd vs1 vs2 (1024 * (if vm then 1 else 0) + low)))
      (wordA major vd vs1 vs2 (1024 * (if vm then 1 else 0) + low)) charge := by
  obtain ⟨p, q, t, f, u⟩ := hr (wordA major vd vs1 vs2 (1024 * (if vm then 1 else 0) + low))
  exact ⟨_, _, at_of p q t f (by omega) (wordA_lt a vd.isLt vs1.isLt vs2.isLt (by split <;> omega))⟩

/-- A run whose vectors hold 3,328 in every 32-bit element, at a width and with all its elements active. -/
def vecWith (ew w : Nat) : Run :=
  { runWith w with
    v := List.replicate 32 ((List.range 32).foldl (fun x _ => x <<< 32 ||| 3328) 0#1024), ew := ew, vl := 128 / 2 ^ ew }

theorem vecWith_stands (ew w : Nat) : (vecWith ew w).package = header ++ le 4 w ∧ (vecWith ew w).pc = 0 ∧
    (vecWith ew w).trapPage = none ∧ (vecWith ew w).baseCharged = false ∧
    (vecWith ew w).used + 2 ^ 20 ≤ (vecWith ew w).budget := ⟨rfl, rfl, rfl, rfl, by simp [vecWith, runWith]⟩

theorem at_vecWith (ew major low charge : Nat) (vd vs1 vs2 : Fin 32) (vm : Bool) (a : major < 64) (b : low < 1024)
    (c : charge ≤ 2 ^ 20) : ∃ s j, At s (0 : Fin 16384) j
      (vecWith ew (wordA major vd vs1 vs2 (1024 * (if vm then 1 else 0) + low)))
      (wordA major vd vs1 vs2 (1024 * (if vm then 1 else 0) + low)) charge :=
  at_vec _ (vecWith_stands ew) major low charge vd vs1 vs2 vm a b c

theorem test_meets_vector_configuration (vd vs1 vs2 : Fin 32) (vm : Bool) : (∀ ew : Fin 4, ∃ s j r,
      At s (0 : Fin 16384) j r (wordA 0x30 vd vs1 vs2 (1024 * (if vm then 1 else 0) + (256 * ew.val + 0x00))) 1) ∧
    ∃ s j r, At s (0 : Fin 16384) j r (wordA 0x30 vd vs1 vs2 (1024 * (if vm then 1 else 0) + 0x01)) 1 :=
  ⟨fun ew => by obtain ⟨s, j, h⟩ := at_vecWith 0 0x30 (256 * ew.val) 1 vd vs1 vs2 vm (by decide) (by omega) (by decide)
                exact ⟨s, j, _, h⟩,
   by obtain ⟨s, j, h⟩ := at_vecWith 0 0x30 1 1 vd vs1 vs2 vm (by decide) (by decide) (by decide)
      exact ⟨s, j, _, h⟩⟩

theorem test_meets_vector_integers : (∀ o ∈ vecInts, ∀ (scalar : Bool) (ew : Fin 4) (vs1 vs2 : Fin 32), ∃ s j r,
      At s (0 : Fin 16384) j r (wordA (if scalar then 0x34 else 0x33) 30 vs1 vs2 (1024 * 1 + o.vfunct)) o.charge ∧
      r.ew = ew) ∧
    (∀ o ∈ vecCmps, ∀ (scalar : Bool) (ew : Fin 4) (vs1 vs2 : Fin 32), ∃ s j r,
      At s (0 : Fin 16384) j r (wordA (if scalar then 0x34 else 0x33) 31 vs1 vs2 (1024 * 0 + o.vfunct)) 2 ∧
      r.ew = ew) ∧
    ∀ (scalar : Bool) (ew : Fin 4) (vd vs1 vs2 : Fin 32), ∃ s j r,
      At s (0 : Fin 16384) j r (wordA (if scalar then 0x34 else 0x33) vd vs1 vs2 0x18) 2 ∧ r.ew = ew := by
  have hi : ∀ o ∈ vecInts, o.vfunct < 1024 ∧ o.charge ≤ 2 ^ 20 := by decide
  have hc : ∀ o ∈ vecCmps, o.vfunct < 1024 := by decide
  refine ⟨fun o ho scalar ew vs1 vs2 => ?_, fun o ho scalar ew vs1 vs2 => ?_, fun scalar ew vd vs1 vs2 => ?_⟩
  · obtain ⟨s, j, h⟩ := at_vecWith ew (if scalar then 0x34 else 0x33) o.vfunct o.charge 30 vs1 vs2 true
      (by split <;> decide) (hi o ho).1 (hi o ho).2
    exact ⟨s, j, _, h, rfl⟩
  · obtain ⟨s, j, h⟩ := at_vecWith ew (if scalar then 0x34 else 0x33) o.vfunct 2 31 vs1 vs2 false
      (by split <;> decide) (hc o ho) (by decide)
    exact ⟨s, j, _, h, rfl⟩
  · obtain ⟨s, j, h⟩ := at_vecWith ew (if scalar then 0x34 else 0x33) 0x18 2 vd vs1 vs2 false
      (by split <;> decide) (by decide) (by decide)
    exact ⟨s, j, _, h, rfl⟩

/-- At each width that a modulus goes with, all elements are below it: 3,328 is q - 1 for the least of them. -/
theorem test_meets_modular : ∀ o ∈ vecMods, ∀ p ∈ [(0, 3329, 1), (1, 8380417, 2), (2, 12289, 2)], ∃ s j r,
    At s (0 : Fin 16384) j r (wordA 0x35 30 0 1 (1024 * 1 + (256 * p.1 + o.vfunct))) o.charge ∧ r.ew = p.2.2 ∧
    ∀ i < 128 / 2 ^ p.2.2, (BitVec.ofNat (8 * 2 ^ p.2.2) ((r.vreg 0).toNat / 2 ^ (8 * 2 ^ p.2.2 * i))).toNat < p.2.1 ∧
      ((r.reg 12).setWidth (8 * 2 ^ p.2.2)).toNat < p.2.1 := by
  intro o ho p hp
  have hi : ∀ o ∈ vecMods, o.vfunct < 256 ∧ o.charge ≤ 2 ^ 20 := by decide
  have hm : ∀ p ∈ [(0, 3329, 1), (1, 8380417, 2), (2, 12289, 2)], p.1 < 3 := by decide
  have := (hi o ho).1
  have := hm p hp
  obtain ⟨s, j, h⟩ := at_vecWith p.2.2 0x35 (256 * p.1 + o.vfunct) o.charge 30 0 1 true (by decide) (by omega)
    (hi o ho).2
  refine ⟨s, j, _, h, rfl, ?_⟩
  clear h
  generalize wordA 0x35 _ _ _ _ = w
  clear * - hp
  revert p
  simp only [vecWith, Run.vreg, Run.reg, runWith]
  decide +kernel

theorem test_meets_float_lanes : ∀ o ∈ vecFloats, ∀ vs1 vs2 : Fin 32, ∃ s j r,
    At s (0 : Fin 16384) j r (wordA 0x36 30 vs1 vs2 (1024 * 1 + o.vfunct)) o.charge ∧ r.ew = 3 := by
  intro o ho vs1 vs2
  have hi : ∀ o ∈ vecFloats, o.vfunct < 1024 ∧ o.charge ≤ 2 ^ 20 := by decide
  obtain ⟨s, j, h⟩ := at_vecWith 3 0x36 o.vfunct o.charge 30 vs1 vs2 true (by decide) (hi o ho).1 (hi o ho).2
  exact ⟨s, j, _, h, rfl⟩

theorem test_meets_permutations : (∀ o ∈ vecPerms, ∀ ew : Fin 4, o.illegal 30 0 31 = false ∧ ∃ s j r,
      At s (0 : Fin 16384) j r (wordA 0x37 30 0 31 (1024 * 1 + o.vfunct)) o.charge ∧ r.ew = ew) ∧
    ∀ p ∈ [(0x01, 2), (0x08, 4), (0x09, 4), (0x0A, 4)], ∀ (ew : Fin 4) (vd vs1 vs2 : Fin 32) (vm : Bool), ∃ s j r,
      At s (0 : Fin 16384) j r (wordA 0x37 vd vs1 vs2 (1024 * (if vm then 1 else 0) + p.1)) p.2 ∧ r.ew = ew := by
  refine ⟨fun o ho ew => ?_, fun p hp ew vd vs1 vs2 vm => ?_⟩
  · have hi : ∀ o ∈ vecPerms, o.vfunct < 1024 ∧ o.charge ≤ 2 ^ 20 ∧ o.illegal 30 0 31 = false := by decide
    obtain ⟨s, j, h⟩ := at_vecWith ew 0x37 o.vfunct o.charge 30 0 31 true (by decide) (hi o ho).1 (hi o ho).2.1
    exact ⟨(hi o ho).2.2, s, j, _, h, rfl⟩
  · have hi : ∀ p ∈ [(0x01, 2), (0x08, 4), (0x09, 4), (0x0A, 4)], p.1 < 1024 ∧ p.2 ≤ 2 ^ 20 := by decide
    obtain ⟨s, j, h⟩ := at_vecWith ew 0x37 p.1 p.2 vd vs1 vs2 vm (by decide) (hi p hp).1 (hi p hp).2
    exact ⟨s, j, _, h, rfl⟩

/-- The element addresses of the tests of vector loads and stores: unit from DATA, a stride of 8, offsets of 0. -/
def addrWith (ew w : Nat) : Run :=
  { vecWith ew w with v := List.replicate 32 0, g := [0, 0x100000, 8] ++ List.replicate 29 0 }

theorem addrWith_stands (ew w : Nat) : (addrWith ew w).package = header ++ le 4 w ∧ (addrWith ew w).pc = 0 ∧
    (addrWith ew w).trapPage = none ∧ (addrWith ew w).baseCharged = false ∧
    (addrWith ew w).used + 2 ^ 20 ≤ (addrWith ew w).budget := ⟨rfl, rfl, rfl, rfl, by simp [addrWith, vecWith, runWith]⟩

theorem test_meets_vector_accesses : ∀ o ∈ vecLoads ++ vecStores, ∀ store : Bool, ∃ s j r,
    At s (0 : Fin 16384) j r (wordA (if store then 0x32 else 0x31) 3 1 2 (1024 * 0 + 256 * o.mode)) 2 ∧
    r.used + 2 + 4 * r.vl ≤ r.budget ∧ r.ew = 3 ∧ r.vl = 16 ∧
    ∀ i ∈ r.actives false, ∃ w off, ownWindow w = true ∧
      reachable s j r store (elemAddress r o.mode 1 2 i) (2 ^ r.ew) w off := by
  intro o ho store
  have hi : ∀ o ∈ vecLoads ++ vecStores, o.mode < 3 := by decide
  have hm := hi o ho
  refine ⟨_, _, _, at_of (addrWith_stands 3 _).1 rfl rfl rfl (by simp [addrWith, vecWith, runWith])
    (wordA_lt (by split <;> decide) (by decide) (by decide) (by decide) (by omega)), by
      simp [addrWith, vecWith, runWith], rfl, rfl, ?_⟩
  intro i hi
  refine ⟨.data, elemAddress (addrWith 3 0) o.mode 1 2 i - 0x100000, rfl, ?_⟩
  revert o store i
  unfold reachable
  decide +kernel

/-- The same run with its base past the end of DATA. -/
def pastData (w : Nat) : Run := { addrWith 3 w with g := [0, 0x101000, 8] ++ List.replicate 29 0 }

theorem pastData_actives (w : Nat) : ((pastData w).actives false) = List.range 16 := by
  have h : (pastData w).active false = fun i => decide (i < 16) := by
    funext i; simp [Run.active, pastData, addrWith, vecWith, runWith]; rfl
  have e : (pastData w).ew = 3 := rfl
  rw [Run.actives, h, e]
  decide

theorem test_meets_vector_traps : (∀ o ∈ vecInts, ∀ vs1 vs2 : Fin 32, ∃ s j r,
      At s (0 : Fin 16384) j r (wordA 0x33 31 vs1 vs2 (1024 + o.vfunct)) 0) ∧
    (∀ o ∈ vecLoads, ∀ vs1 vs2 : Fin 32, ∃ s j r,
      At s (0 : Fin 16384) j r (wordA 0x31 31 vs1 vs2 (1024 + 256 * o.mode)) 0) ∧
    ∀ o ∈ vecLoads ++ vecStores, ∀ store : Bool, ∃ s j r,
      At s (0 : Fin 16384) j r (wordA (if store then 0x32 else 0x31) 3 1 2 (1024 * 0 + 256 * o.mode)) 2 ∧ r.ew = 3 ∧
      (r.actives false).head? = some 0 ∧ s.access j r store (elemAddress r o.mode 1 2 0) (2 ^ r.ew) = .trap 3 := by
  refine ⟨fun o ho vs1 vs2 => ?_, fun o ho vs1 vs2 => ?_, fun o ho store => ?_⟩
  · have hi : ∀ o ∈ vecInts, o.vfunct < 1024 := by decide
    have := hi o ho
    exact ⟨_, _, _, at_with _ _ (wordA_lt (by decide) (by decide) vs1.isLt vs2.isLt (by omega)) (by decide)⟩
  · have hi : ∀ o ∈ vecLoads, o.mode < 3 := by decide
    have := hi o ho
    exact ⟨_, _, _, at_with _ _ (wordA_lt (by decide) (by decide) vs1.isLt vs2.isLt (by omega)) (by decide)⟩
  · have hi : ∀ o ∈ vecLoads ++ vecStores, o.mode < 3 := by decide
    have := hi o ho
    refine ⟨_, _, pastData _, at_of rfl rfl rfl rfl (by simp [pastData, addrWith, vecWith, runWith])
      (wordA_lt (by split <;> decide) (by decide) (by decide) (by decide) (by omega)), rfl, ?_, ?_⟩
    · rw [pastData_actives]; rfl
    · revert o store
      decide +kernel

theorem test_meets_element_laws : (vecWith 3 0).v.length = 32 ∧ (vecWith 3 0).ew < 4 ∧ 15 < vcap 3 ∧
    (vecWith 3 0).active true 15 = false := by decide +kernel

/-! ### Engine commands -/

/-- A run at an ECMD of a kind whose registers 1 and 2 hold its two words. -/
def cmdRun (kind : Nat) (cmd prm : BitVec 64) : Run :=
  { runWith (wordA 0x20 0 1 2 kind) with g := [0, cmd, prm] ++ List.replicate 29 0 }

theorem at_cmdRun (kind charge : Nat) (cmd prm : BitVec 64) (h : kind < 2048) (c : charge ≤ 2 ^ 24) :
    At (stateWith (cmdRun kind cmd prm)) (0 : Fin 16384) (jobWith (cmdRun kind cmd prm)) (cmdRun kind cmd prm)
      (wordA 0x20 0 1 2 kind) charge :=
  at_of rfl rfl rfl rfl (by simpa [cmdRun, runWith] using c) (wordA_lt (by decide) (by decide) (by decide) (by decide) h)

/-- State in DATA, message in SCRATCH, COUNT 1, the greatest RATE. -/
theorem test_meets_hash_commands : ∀ o ∈ hashCmds, ∃ cmd prm s j r,
    At s (0 : Fin 16384) j r (wordA 0x20 0 1 2 o.kind) (1 + (2 + o.perCount * cmdCount cmd)) ∧
    (majorOf (wordA 0x20 0 1 2 o.kind) = 0x20 ∧ functOf (wordA 0x20 0 1 2 o.kind) % 16 = o.kind ∧
      r.reg (rs1Of (wordA 0x20 0 1 2 o.kind)) = cmd ∧ r.reg (rs2Of (wordA 0x20 0 1 2 o.kind)) = prm) ∧
    r.outstanding o.kind < 4 ∧ cmdCount cmd = 1 ∧ cmdOp cmd = o.op ∧ rateOk (prmHigh prm) = true ∧ cmdA cmd % 8 = 0 ∧
    s.engineWin j r (cmdA cmd) o.bytes = some (.data, 0) ∧ cmdA prm % 8 = 0 ∧
    s.engineWin j r (cmdA prm) (o.message (cmdCount cmd) prm) = some (.scratch, 0) := by
  intro o ho
  have h : ∀ o ∈ hashCmds, o.kind < 2048 ∧ 1 + (2 + o.perCount * cmdCount (BitVec.ofNat 64 (o.op * 2 ^ 56 + 2 ^ 48 +
      0x100000))) ≤ 2 ^ 24 := by decide +kernel
  refine ⟨BitVec.ofNat 64 (o.op * 2 ^ 56 + 2 ^ 48 + 0x100000), BitVec.ofNat 64 (168 * 2 ^ 48 + 0x200000), _, _, _,
    at_cmdRun o.kind _ (BitVec.ofNat 64 (o.op * 2 ^ 56 + 2 ^ 48 + 0x100000)) (BitVec.ofNat 64 (168 * 2 ^ 48 + 0x200000))
      (h o ho).1 (h o ho).2, ?_⟩
  revert o
  decide +kernel

/-- The greatest LEN that DATA and OUT hold, from DATA to OUT. -/
theorem test_meets_dma : ∃ cmd prm s j r, At s (0 : Fin 16384) j r (wordA 0x20 0 1 2 8)
      (1 + (2 + ceilDiv (prmHigh prm) 64)) ∧ EcmdAt r (wordA 0x20 0 1 2 8) 8 cmd prm ∧ r.outstanding 8 < 4 ∧
    prmHigh prm = 4096 ∧ s.dmaWin j r false (cmdA cmd) 4096 = some (.data, 0) ∧
    s.dmaWin j r true (cmdA prm) 4096 = some (.out, 0) ∧ missing r .data (cmdA cmd) 4096 = [] ∧
    missing r .out (cmdA prm) 4096 = [] :=
  ⟨BitVec.ofNat 64 (2 ^ 56 + 0x100000), BitVec.ofNat 64 (4096 * 2 ^ 48 + 0x400000), _, _, _,
    at_cmdRun 8 _ (BitVec.ofNat 64 (2 ^ 56 + 0x100000)) (BitVec.ofNat 64 (4096 * 2 ^ 48 + 0x400000)) (by decide)
      (by decide +kernel), by unfold EcmdAt; decide +kernel⟩

/-- A run at an EWAIT of a kind with a list of results. -/
def waitRun (kind : Nat) (l : List EngineResult) : Run := { runWith (wordA 0x21 31 0 0 kind) with results := l }

theorem at_waitRun (kind : Nat) (l : List EngineResult) (h : kind < 2048) :
    At (stateWith (waitRun kind l)) (0 : Fin 16384) (jobWith (waitRun kind l)) (waitRun kind l)
      (wordA 0x21 31 0 0 kind) 1 :=
  at_of rfl rfl rfl rfl (by simp [waitRun, runWith])
    (wordA_lt (by decide) (by decide) (by decide) (by decide) h)

/-- Each RESULT of a first result that is there, and no result of the kind. -/
theorem test_meets_waits : (∀ n : Fin 16, ∃ s j r, At s (0 : Fin 16384) j r (wordA 0x21 31 0 0 3) 1 ∧
      r.results.find? (·.kind == 3) = some { kind := 3, word := BitVec.ofNat 64 n.val, ready := true } ∧
      bits (BitVec.ofNat 64 n.val).toNat 3 0 = n.val) ∧
    (∃ s j r, At s (0 : Fin 16384) j r (wordA 0x21 31 0 0 3) 1 ∧ r.results.find? (·.kind == 3) = none) ∧
    majorOf (wordA 0x21 31 0 0 3) = 0x21 ∧ rdOf (wordA 0x21 31 0 0 3) = 31 ∧ functOf (wordA 0x21 31 0 0 3) = 3 := by
  refine ⟨fun n => ⟨_, _, _, at_waitRun 3 [{ kind := 2 }, { kind := 3, word := BitVec.ofNat 64 n.val, ready := true }]
    (by decide), ?_⟩, ⟨_, _, _, at_waitRun 3 [{ kind := 2 }] (by decide), rfl⟩, by decide⟩
  revert n
  decide +kernel

/-- A key record of the run's own. -/
def scopedRecord : KeyRecord := { gen := 1, cls := 3, flags := 0x40 }

/-- A handle of the run (record 0), and one that no record has. -/
theorem test_meets_retain : (∃ s j r, At s (0 : Fin 16384) j r (wordA 0x20 0 1 2 10) 5 ∧ r.outstanding 10 < 4 ∧
      rs1Of (wordA 0x20 0 1 2 10) = 1 ∧ j.runKeys.contains (r.reg 1) = true ∧
      (s.viewIn j.runKeys j.inst (r.reg 1)).isSome = true) ∧
    ∃ s j r, At s (0 : Fin 16384) j r (wordA 0x20 0 1 2 10) 5 ∧ j.runKeys.contains (r.reg 1) = false := by
  refine ⟨⟨{ State.reset with
      jobs := [(0, { jobWith (cmdRun 10 1 0) with runKeys := [1] })]
      keys := { State.reset.keys with records := [(0, scopedRecord)] } }, _, _,
    ⟨rfl, rfl, (at_cmdRun 10 5 1 0 (by decide) (by decide)).word, by decide⟩, by decide +kernel⟩,
    ⟨_, _, _, at_cmdRun 10 5 2 0 (by decide) (by decide), by decide +kernel⟩⟩

/-- An invoke block of a HASH with SHA-384 of no bytes to SCRATCH. -/
def hashBlock : Bytes :=
  fields [(2, 0x0B21), (6, 0), (8, 0), (8, 0), (8, 0), (4, 0), (4, 64), (8, 0x200000), (8, 0), (8, 0)]

/-- A run at an INVOKE with the block at the start of DATA. -/
def invokeRun : Run := { cmdRun 9 0x100000 0 with mem := Mem.writeN [] 0x100000 hashBlock }

theorem test_meets_invoke : ∃ s s1 j q r blk y out en,
    At s (0 : Fin 16384) j r (wordA 0x20 0 1 2 9) (1 + s.invokeCharge (blockEntry blk)) ∧
    (majorOf (wordA 0x20 0 1 2 9) = 0x20 ∧ functOf (wordA 0x20 0 1 2 9) % 16 = 9 ∧ rs1Of (wordA 0x20 0 1 2 9) = 1 ∧
      r.outstanding 9 < 4 ∧ (r.reg 1).toNat % 2 ^ 48 = 0x100000) ∧ s.invokeBlock j r 0x100000 = some blk ∧
    s1 = s.setRun 0 (paid r (1 + s.invokeCharge (blockEntry blk))) ∧
    ((entryOpc (blockEntry blk)).fam = 0x0B ∧ (entryOpc (blockEntry blk)).op = 1 ∧ bit r.families 0x0B = true ∧
      (blockEntry blk).key0 = 0 ∧ (blockEntry blk).key1 = 0 ∧ (blockEntry blk).srcLen = 0) ∧
    s1.invokeFails j (blockEntry blk) = none ∧
    s1.invokePages j (paid r (1 + s.invokeCharge (blockEntry blk))) (blockEntry blk) = some [] ∧
    q = s1.invokedJob j (blockEntry blk) [] [] none ∧
    hashOp s1 q = { res := { output := out }, engine := en } ∧
    s1.dmaWin { j with run := some (paid r (1 + s.invokeCharge (blockEntry blk))) }
      (paid r (1 + s.invokeCharge (blockEntry blk))) true (blockEntry blk).dst.toNat
      (min (blockEntry blk).dstLen.toNat (dstBytes (blockEntry blk))) = some y ∧ ownWindow y.1 = true := by
  have c : 1 + (stateWith invokeRun).invokeCharge (blockEntry hashBlock) ≤ 2 ^ 24 := by decide +kernel
  refine ⟨stateWith invokeRun, _, jobWith invokeRun, _, invokeRun, hashBlock, (.scratch, 0), _, _,
    at_of rfl rfl rfl rfl ?_ (by decide), by decide +kernel, by decide +kernel, rfl, by decide +kernel,
    by decide +kernel, by decide +kernel, rfl, rfl, by decide +kernel, rfl⟩
  have : invokeRun.used = 0 ∧ invokeRun.budget = 2 ^ 24 := by decide
  omega

theorem test_meets_undefined_commands : (∀ kind ∈ [3, 4], ∃ s j r, At s (0 : Fin 16384) j r (wordA 0x20 0 1 2 kind) 3 ∧
      r.outstanding kind < 4 ∧ cmdOp (r.reg 1) = 3) ∧
    ∀ kind ∈ [0, 1, 5, 6, 7, 11, 12, 13, 14, 15], ∃ s j r, At s (0 : Fin 16384) j r (wordA 0x20 0 1 2 kind) 1 ∧
      r.outstanding kind < 4 := by
  constructor
  · intro kind h
    have k : ∀ kind ∈ [3, 4], kind < 2048 := by decide
    refine ⟨_, _, _, at_cmdRun kind 3 0x0300000000000000 0 (k kind h) (by decide), ?_⟩
    revert kind
    decide +kernel
  · intro kind h
    have k : ∀ kind ∈ [0, 1, 5, 6, 7, 11, 12, 13, 14, 15], kind < 2048 := by decide
    refine ⟨_, _, _, at_cmdRun kind 1 0 0 (k kind h) (by decide), ?_⟩
    revert kind
    decide +kernel

/-- A word outside CODE, a charge above the budget, an undefined word, HALT, a wait for a page. -/
theorem test_meets_fetch : (∃ (s : State) (j : Job) (r : Run), s.running 0 = some (j, r) ∧ r.trapPage = none ∧ r.word = none) ∧
    (∀ o ∈ regOps ++ divOps, ∃ (s : State) (j : Job) (r : Run), s.running 0 = some (j, r) ∧ r.trapPage = none ∧
      r.word = some (wordA 0x00 1 2 3 o.funct) ∧ r.budget < r.used + due r o.charge) ∧
    (∃ (s : State) (j : Job) (r : Run), s.running 0 = some (j, r) ∧ r.trapPage = none ∧ r.word = some (0xBFFFFFFF#32).toNat ∧
      knownWord (0xBFFFFFFF#32).toNat = false ∧ majorOf (0xBFFFFFFF#32).toNat < 0x30 ∧ r.used ≤ r.budget) ∧
    (∃ s j r, At s (0 : Fin 16384) j r (wordA 0x25 0 31 0 0) 1 ∧ r.reg 31 ≠ 0) ∧
    (∃ s j r, At s (0 : Fin 16384) j r (wordA 0x25 0 0 0 0) 1 ∧ r.reg 0 = 0) ∧
    ∃ (s : State) (j : Job) (r : Run), s.running 0 = some (j, r) ∧ r.trapPage = some 0x100000 := by
  refine ⟨⟨stateWith { runWith 0 with pc := 4 }, _, _, rfl, rfl, by decide +kernel⟩, fun o ho => ?_,
    ⟨stateWith (runWith 0xBFFFFFFF), _, _, rfl, rfl, word_of_header rfl rfl (by decide), by decide +kernel⟩,
    ⟨_, _, _, at_with _ _ (by decide) (by decide), by decide +kernel⟩,
    ⟨_, _, _, at_with _ _ (by decide) (by decide), rfl⟩,
    ⟨stateWith { runWith 0 with trapPage := some 0x100000 }, _, _, rfl, rfl⟩⟩
  have h : ∀ o ∈ regOps ++ divOps, o.funct < 2048 ∧ 0 < o.charge := by decide
  refine ⟨stateWith { runWith (wordA 0x00 1 2 3 o.funct) with used := 2 ^ 24 }, _, _, rfl, rfl,
    word_of_header rfl rfl (wordA_lt (by decide) (by decide) (by decide) (by decide) (h o ho).1), ?_⟩
  have := (h o ho).2
  change 2 ^ 24 < 2 ^ 24 + o.charge
  omega

/-! ### Ring arithmetic and wide multiply-accumulate engines -/

/-- Command and parameter word of a Clove command on public lines 0, 64 and 200 to 128, COUNT 1, VALUE 1. -/
def cloveWords (op mode : Nat) : BitVec 64 × BitVec 64 :=
  (BitVec.ofNat 64 (op * 2 ^ 56 + mode * 2 ^ 52 + 128 * 2 ^ 40 + 64 * 2 ^ 20 + 2 ^ 12),
   BitVec.ofNat 64 (2 ^ 32 + 200 * 2 ^ 22))

/-- A region with every public line but the last 16. -/
def wideRegion : Region := { engine := 71, publicLines := 240 }

/-- A job of the device firmware on it. -/
def cloveJob : Job := { phase := .running, region := some wideRegion, entry := { opcode := 0x0111 } }

/-- The state after reset with that job. -/
def cloveState : State := { State.reset with jobs := [(0, cloveJob)] }

theorem issues_at (op mode : Nat) (h : cmdOp (cloveWords op mode).1 = op) :
    Issues cloveState (0 : Fin 16384) cloveJob wideRegion op (cloveWords op mode).1 :=
  ⟨rfl, rfl, rfl, rfl, h, by decide +kernel, by decide +kernel⟩

theorem test_meets_clove : ∀ row ∈ cloveRows, ∀ mode ∈ row.modes,
    Issues cloveState (0 : Fin 16384) cloveJob wideRegion row.op (cloveWords row.op mode).1 ∧
    Accepts row (cloveCmd (cloveWords row.op mode).1 (cloveWords row.op mode).2) wideRegion := by
  have h : ∀ row ∈ cloveRows, ∀ mode ∈ row.modes,
      let c := cloveCmd (cloveWords row.op mode).1 (cloveWords row.op mode).2
      cmdOp (cloveWords row.op mode).1 = row.op ∧ c.mode ∈ row.modes ∧ c.shares ≠ 1 ∧ c.count ≠ 0 ∧
      row.value c = true ∧ (row.a c ≠ 0 → sealedAt c.a = false ∧ wideRegion.holds c.a (row.a c) = true) ∧
      (row.b c ≠ 0 → sealedAt c.b = false ∧ wideRegion.holds c.b (row.b c) = true) ∧
      (row.flag ≠ 0 → sealedAt c.flag = false ∧ wideRegion.holds c.flag row.flag = true) ∧
      (row.d c ≠ 0 → (c.dst / 256 = 0 ∨ c.dst / 256 = 2 ∧ wideRegion.staged = false) ∧
        wideRegion.holds c.dst (row.d c) = true) := by decide +kernel
  intro row hr mode hm
  obtain ⟨o, a, b, c, d, e, f, g, i⟩ := h row hr mode hm
  exact ⟨issues_at _ _ o, ⟨a, b, c, d, e, f, g, i⟩⟩

theorem test_meets_clove_results : (∀ p ∈ [(0x05, 1), (0x06, 4), (0x21, 5), (0x22, 7)],
      Issues cloveState (0 : Fin 16384) cloveJob wideRegion p.1 (cloveWords p.1 p.2).1 ∧
      (cloveCmd (cloveWords p.1 p.2).1 (cloveWords p.1 p.2).2).bcast = false) ∧
    Issues cloveState (0 : Fin 16384) cloveJob wideRegion 0x26 (cloveWords 0x26 5).1 ∧
    cloveState.rowBits cloveJob (cloveCmd (cloveWords 0x26 5).1 (cloveWords 0x26 5).2) ≤ 64 * 4096 ∧
    Accepts { cmd := .cloveStreamMatvec, op := 0x26, modes := [5]
              a := fun _ => ceilDiv (cloveState.rowBits cloveJob (cloveCmd (cloveWords 0x26 5).1 (cloveWords 0x26 5).2)) 4096
              b := fun _ => 1, d := CloveCmd.lines, cost := fun _ => 0 }
      (cloveCmd (cloveWords 0x26 5).1 (cloveWords 0x26 5).2) wideRegion := by
  refine ⟨fun p hp => ?_, issues_at _ _ (by decide +kernel), by decide +kernel, ?_⟩
  · have h : ∀ p ∈ [(0x05, 1), (0x06, 4), (0x21, 5), (0x22, 7)], cmdOp (cloveWords p.1 p.2).1 = p.1 ∧
        (cloveCmd (cloveWords p.1 p.2).1 (cloveWords p.1 p.2).2).bcast = false := by decide +kernel
    exact ⟨issues_at _ _ (h p hp).1, (h p hp).2⟩
  · constructor <;> decide +kernel

/-- A mode that no row has, SHARES 1, COUNT 0. -/
theorem test_meets_bad_clove_commands : ∀ row ∈ cloveRows, ∀ p ∈ [(0, 1, 2 ^ 12), (row.modes.headD 0, 4, 2 ^ 12),
    (row.modes.headD 0, 0, 0)], ∃ cmd : BitVec 64, Issues cloveState (0 : Fin 16384) cloveJob wideRegion row.op cmd ∧
      ((cloveCmd cmd 0).mode ∉ row.modes ∨ (cloveCmd cmd 0).shares = 1 ∨ (cloveCmd cmd 0).count = 0) := by
  intro row hr p hp
  have h : ∀ row ∈ cloveRows, ∀ p ∈ [(0, 1, 2 ^ 12), (row.modes.headD 0, 4, 2 ^ 12), (row.modes.headD 0, 0, 0)],
      let cmd := BitVec.ofNat 64 (row.op * 2 ^ 56 + p.1 * 2 ^ 52 + p.2.1 * 2 ^ 48 + p.2.2)
      cmdOp cmd = row.op ∧
      ((cloveCmd cmd 0).mode ∉ row.modes ∨ (cloveCmd cmd 0).shares = 1 ∨ (cloveCmd cmd 0).count = 0) := by
    decide +kernel
  obtain ⟨a, b⟩ := h row hr p hp
  exact ⟨_, ⟨rfl, rfl, rfl, rfl, a, by decide +kernel, by decide +kernel⟩, b⟩

/-- A Saffron command word. -/
def saffronWord (op field win dst a b exp pos : Nat) : BitVec 64 :=
  BitVec.ofNat 64 (op * 2 ^ 56 + field * 2 ^ 52 + win * 2 ^ 48 + 3 * 2 ^ 44 + dst * 2 ^ 36 + a * 2 ^ 28 + b * 2 ^ 20 +
    exp * 2 ^ 12 + pos)

/-- Unit 17 after reset. -/
theorem test_meets_saffron_unit : State.reset.saffron.length = 18 ∧ State.reset.saffron[(17 : Fin 18).val]? = some {} ∧
    ({} : Saffron).bank.length = 32 ∧ ({} : Saffron).file.length = 128 := by decide +kernel

/-- MAC, MAC_SHIFT, ACC_OUT and ACC_CLEAR at the last places of both stores. -/
theorem test_meets_saffron_mac : (∀ op ∈ [0x01, 0x02],
      let cmd := saffronWord op 0 0 0xFF 0xFF 0x80 0 0
      let c := saffronCmd cmd
      bits cmd.toNat 63 56 = op ∧ operandOk c.a 1 = true ∧ operandOk c.b 1 = true ∧ c.leaks [c.a, c.b] = false ∧
      (0 : BitVec 640).toNat + (({} : Saffron).limb c.a).toNat * (({} : Saffron).limb c.b).toNat < 2 ^ 640) ∧
    (∀ op ∈ [0x01, 0x02],
      let cmd := saffronWord op 0 0 0 0x1F 0xFF 0 0
      let c := saffronCmd cmd
      bits cmd.toNat 63 56 = op ∧ operandOk c.a 1 = true ∧ operandOk c.b 1 = true ∧ c.leaks [c.a, c.b] = false) ∧
    (∀ dst ∈ [0x00, 0x1F, 0x80, 0xFF],
      bits (saffronWord 0x03 0 0 dst 0 0 0 0).toNat 63 56 = 0x03 ∧
      operandOk (saffronCmd (saffronWord 0x03 0 0 dst 0 0 0 0)).dst 1 = true) ∧
    bits (saffronWord 0x04 0 0 0 0 0 0 0).toNat 63 56 = 0x04 := by decide +kernel

/-- FMUL in every field of its own modulus, at the last place; FMUL_SEL with the widest window over a table in the file. -/
theorem test_meets_saffron_products : (∀ p ∈ [(1, 1), (2, 1), (3, 2), (4, 2), (5, 3), (6, 3), (7, 1), (8, 1), (9, 2), (10, 2)],
      let cmd := saffronWord 0x10 p.1 0 (0x100 - p.2) 0x80 0x90 0 0
      let c := saffronCmd cmd
      bits cmd.toNat 63 56 = 0x10 ∧ c.w = some p.2 ∧ c.field ≠ 14 ∧ operandOk c.dst p.2 = true ∧
      operandOk c.a p.2 = true ∧ operandOk c.b p.2 = true ∧ c.leaks [c.a, c.b] = false) ∧
    (∀ win ∈ [1, 5],
      let cmd := saffronWord 0x11 3 win 0 2 0x80 0x1F (256 - win)
      let c := saffronCmd cmd
      bits cmd.toNat 63 56 = 0x11 ∧ c.w = some 2 ∧ c.field ≠ 14 ∧ within 1 c.win 5 = true ∧
      operandOk c.dst 2 = true ∧ operandOk c.a 2 = true ∧ operandOk c.b (2 ^ c.win * 2) = true ∧ inBank c.exp = true ∧
      operandOk c.exp ((c.pos + c.win - 1) / 256 + 1) = true ∧ c.leaks [c.a, c.b, c.exp] = false) ∧
    (let cmd := saffronWord 0x10 5 0 0x80 0x1D 0x80 0 0
     let c := saffronCmd cmd
     bits cmd.toNat 63 56 = 0x10 ∧ c.w = some 3 ∧ operandOk c.dst 3 = true ∧ operandOk c.a 3 = true ∧
     operandOk c.b 3 = true ∧ c.leaks [c.a, c.b] = true) := by decide +kernel

theorem test_meets_saffron_moves : (let cmd := saffronWord 0x20 14 0 0xFC 0x1C 0 0 0
     let c := saffronCmd cmd
     bits cmd.toNat 63 56 = 0x20 ∧ c.w = some 4 ∧ operandOk c.dst 4 = true ∧ operandOk c.a 4 = true ∧
     inBank c.a = true ∧ inBank c.dst = false) ∧
    (let cmd := saffronWord 0x21 14 0 0x1C 0 0 0 0
     let c := saffronCmd cmd
     bits cmd.toNat 63 56 = 0x21 ∧ c.w = some 4 ∧ operandOk c.dst 4 = true) := by decide +kernel

/-! ### Built-in operations -/

/-- A job in step 8 with an opcode, KEY0 a handle of instance 0 (or 0) and PARAM. -/
def opJob (fam set op : Nat) (key0 param : Nat := 0) (input : Bytes := []) : Job :=
  { phase := .running, input := input
    entry := { opcode := BitVec.ofNat 16 (256 * fam + 16 * set + op), key0 := BitVec.ofNat 64 key0
               param := BitVec.ofNat 64 param } }

/-- The state after reset with one job in the last slot. -/
def opState (j : Job) : State := { State.reset with jobs := [(16383, j)] }

theorem opAt_of {j : Job} {fam op : Nat} (phase : j.phase = .running)
    (h : entryOpc j.entry = ⟨fam, (entryOpc j.entry).set, op⟩) (d : (entryOpc j.entry).defined = true) :
    OpAt (opState j) (16383 : Fin 16384) j fam op := ⟨rfl, phase, h, d⟩

/-- The job carries the opcode that its arguments spell. -/
def spells (fam set op : Nat) : Prop :=
  entryOpc (opJob fam set op).entry = ⟨fam, set, op⟩ ∧ (entryOpc (opJob fam set op).entry).defined = true

theorem opAt_job {fam set op : Nat} (key0 param : Nat) (input : Bytes) (h : spells fam set op) :
    OpAt (opState (opJob fam set op key0 param input)) (16383 : Fin 16384) (opJob fam set op key0 param input) fam op ∧
      setOf (opJob fam set op key0 param input) = set := by
  obtain ⟨a, b⟩ := h
  have e : entryOpc (opJob fam set op key0 param input).entry = ⟨fam, set, op⟩ := a
  have d : (entryOpc (opJob fam set op key0 param input).entry).defined = true := b
  exact ⟨opAt_of rfl (by rw [e]) d, congrArg Opc.set e⟩

theorem test_meets_key_generations : (∀ o ∈ pairRows, ∀ n ∈ o.sets, ∃ s j, OpAt s (16383 : Fin 16384) j o.fam 1 ∧
      setOf j = n) ∧
    ∀ n ∈ [1, 2], ∃ s j, OpAt s (16383 : Fin 16384) j 3 1 ∧ setOf j = n ∧ s.shields j = true ∧
      bit j.entry.param.toNat 3 = true := by
  have h : ∀ o ∈ pairRows, ∀ n ∈ o.sets, spells o.fam n 1 := by unfold spells; decide +kernel
  refine ⟨fun o ho n hn => ⟨_, _, opAt_job 0 0 [] (h o ho n hn)⟩, fun n hn => ?_⟩
  refine ⟨opState { opJob 3 n 1 0 8 with cls := 9, origin := some 0 }, { opJob 3 n 1 0 8 with cls := 9, origin := some 0 },
    opAt_of rfl ?_ ?_, ?_⟩ <;> (revert n; decide +kernel)

theorem test_meets_fndsa_signing : ∀ n ∈ [1, 2], ∃ s j, OpAt s (16383 : Fin 16384) j 3 2 ∧ setOf j = n ∧
    j.input = zeros 255 ++ [1] ∧ (zeros 255).length = ctxLen j.entry := by
  intro n hn
  have h : ∀ n ∈ [1, 2], spells 3 n 2 := by unfold spells; decide +kernel
  refine ⟨_, _, (opAt_job 1 255 (zeros 255 ++ [1]) (h n hn)).1, (opAt_job 1 255 (zeros 255 ++ [1]) (h n hn)).2, rfl, ?_⟩
  clear h
  revert n
  decide +kernel

/-- Encapsulation to the key of KEY0, and decapsulation, each with and without a record to keep; a key in the input that
its length refuses. -/
theorem test_meets_kems : (∀ o ∈ kemRows, ∀ n ∈ o.sets, ∀ op ∈ [2, 3], o.fam ≠ 0x0C → ∃ s j,
      OpAt s (16383 : Fin 16384) j o.fam op ∧ setOf j = n ∧ (∃ c, j.encapsulate = some c) ∧
      j.carries (asked j) = true) ∧
    (∀ o ∈ kemRows, ∀ n ∈ o.sets, ∃ s j, OpAt s (16383 : Fin 16384) j o.fam 2 ∧ setOf j = n ∧ j.entry.key0 = 0 ∧
      publicOk o.fam (setOf j) j.input = false) ∧
    ∀ o ∈ kemRows, ∀ n ∈ o.sets, ∀ op ∈ [4, 5], ∃ s j, OpAt s (16383 : Fin 16384) j o.fam op ∧ setOf j = n ∧
      decodeRoom s ∧ j.carries (asked j) = true ∧
      (o.fam ≠ 0x0C → ∃ ss, kemShared (entryOpc j.entry) j.key0 j.pub0 j.input = some ss) := by
  have h : ∀ o ∈ kemRows, ∀ n ∈ o.sets, ∀ op ∈ [2, 3, 4, 5], spells o.fam n op := by unfold spells; decide +kernel
  refine ⟨fun o ho n hn op hop f => ?_, fun o ho n hn => ?_, fun o ho n hn op hop => ?_⟩
  · refine ⟨_, _, (opAt_job 1 0 [] (h o ho n hn op ?_)).1, (opAt_job 1 0 [] (h o ho n hn op ?_)).2, ?_, ?_⟩
    · revert op; decide
    · revert op; decide
    · have e : entryOpc (opJob o.fam n op 1 0 []).entry = ⟨o.fam, n, op⟩ := (h o ho n hn op (by revert op; decide)).1
      have k : (opJob o.fam n op 1 0 []).entry.key0 ≠ 0 := by simp [opJob]
      rw [Job.encapsulate, e, bne_iff_ne.2 k]
      clear e k
      simp only [kemRows, List.mem_cons, List.not_mem_nil, or_false] at ho
      rcases ho with rfl | rfl | rfl | rfl
      · exact ⟨_, rfl⟩
      · exact ⟨_, rfl⟩
      · exact ⟨_, rfl⟩
      · exact absurd rfl f
    · clear f
      revert o n op
      decide +kernel
  · refine ⟨_, _, (opAt_job 0 0 [] (h o ho n hn 2 (by decide))).1, (opAt_job 0 0 [] (h o ho n hn 2 (by decide))).2, rfl, ?_⟩
    revert o n
    decide +kernel
  · refine ⟨_, _, (opAt_job 1 0 [] (h o ho n hn op ?_)).1, (opAt_job 1 0 [] (h o ho n hn op ?_)).2, ?_, ?_, fun f => ?_⟩
    · revert op; decide
    · revert op; decide
    · unfold decodeRoom
      revert o n op
      decide +kernel
    · revert o n op
      decide +kernel
    · have e : entryOpc (opJob o.fam n op 1 0 []).entry = ⟨o.fam, n, op⟩ := (h o ho n hn op (by revert op; decide)).1
      rw [e]
      clear e
      simp only [kemRows, List.mem_cons, List.not_mem_nil, or_false] at ho
      rcases ho with rfl | rfl | rfl | rfl
      · exact ⟨_, rfl⟩
      · exact ⟨_, rfl⟩
      · exact ⟨_, rfl⟩
      · exact absurd rfl f

/-- A signing job with PARAM 0x1000 (a context of 0 bytes, hash 1). -/
theorem test_meets_signing : ∀ o ∈ signRows, ∀ n ∈ o.sets, ∃ s j, OpAt s (16383 : Fin 16384) j o.fam o.op ∧
    setOf j = n ∧ j.entry.key0 ≠ 0 ∧ o.ok j.entry = true ∧ j.input = [] ++ [7] ∧
    ([] : Bytes).length = o.ctx j.entry := by
  have h : ∀ o ∈ signRows, ∀ n ∈ o.sets, spells o.fam n o.op := by unfold spells; decide +kernel
  intro o ho n hn
  refine ⟨_, _, (opAt_job 1 0x1000 [7] (h o ho n hn)).1, (opAt_job 1 0x1000 [7] (h o ho n hn)).2, ?_⟩
  revert o n
  decide +kernel

/-- A verifying job with a record's key. -/
theorem test_meets_verification : ∀ o ∈ verifyRows, ∀ n ∈ o.sets, ∃ s j, ∃ x : SigInput,
    OpAt s (16383 : Fin 16384) j o.fam o.op ∧ setOf j = n ∧ j.input = (if j.entry.key0 = 0 then x.pk else []) ++ x.ctx ++ x.sig ++ x.body ∧
    (j.entry.key0 ≠ 0 → x.pk = j.pub0) ∧ (j.entry.key0 = 0 → x.pk.length = o.pk (setOf j)) ∧
    x.ctx.length = o.ctx j.entry ∧ x.sig.length = o.sig (setOf j) ∧ o.ok j.entry x.pk = true := by
  have h : ∀ o ∈ verifyRows, ∀ n ∈ o.sets, spells o.fam n o.op ∧ 0 = o.ctx (opJob o.fam n o.op 1 0x1000).entry ∧
      o.ok (opJob o.fam n o.op 1 0x1000).entry [] = true := by unfold spells; decide +kernel
  intro o ho n hn
  obtain ⟨a, b, c⟩ := h o ho n hn
  refine ⟨_, _, ⟨[], [], zeros (o.sig n), [7]⟩, (opAt_job 1 0x1000 (zeros (o.sig n) ++ [7]) a).1,
    (opAt_job 1 0x1000 (zeros (o.sig n) ++ [7]) a).2, ?_, fun _ => rfl, fun k => ?_, b, ?_, c⟩
  · rw [if_neg (by simp [opJob])]; rfl
  · exact absurd k (by simp [opJob])
  · rw [(opAt_job 1 0x1000 (zeros (o.sig n) ++ [7]) a).2]; exact List.length_replicate

/-- The same with the key in the input, for the sets whose key only its length is asked of. -/
theorem test_meets_verification_by_input : ∀ o ∈ verifyRows, o.fam ∈ [2, 3, 4] → ∀ n ∈ o.sets, ∃ s j, ∃ x : SigInput,
    OpAt s (16383 : Fin 16384) j o.fam o.op ∧ setOf j = n ∧ j.entry.key0 = 0 ∧
    j.input = x.pk ++ x.ctx ++ x.sig ++ x.body ∧ x.pk.length = o.pk (setOf j) ∧ x.ctx.length = o.ctx j.entry ∧
    x.sig.length = o.sig (setOf j) ∧ o.ok j.entry x.pk = true := by
  have h : ∀ o ∈ verifyRows, o.fam ∈ [2, 3, 4] → ∀ n ∈ o.sets, spells o.fam n o.op ∧
      0 = o.ctx (opJob o.fam n o.op 0 0).entry ∧ ∀ pk, o.ok (opJob o.fam n o.op 0 0).entry pk = true := by
    intro o ho f
    simp only [verifyRows, List.mem_cons, List.not_mem_nil, or_false] at ho
    have g2 : ∀ n ∈ [1, 2, 3], spells 2 n 4 ∧ 0 = ctxLen (opJob 2 n 4 0 0).entry ∧
        prehashOk (opJob 2 n 4 0 0).entry = true := by unfold spells; decide +kernel
    have g3 : ∀ n ∈ [1, 2], spells 3 n 4 ∧ 0 = ctxLen (opJob 3 n 4 0 0).entry := by unfold spells; decide +kernel
    have g4 : ∀ n ∈ [1, 2, 3, 4, 5, 6, 7, 8, 9, 10, 11, 12], spells 4 n 4 ∧ 0 = ctxLen (opJob 4 n 4 0 0).entry ∧
        prehashOk (opJob 4 n 4 0 0).entry = true := by unfold spells; decide +kernel
    rcases ho with rfl | rfl | rfl | rfl | rfl | rfl | rfl
    · exact fun n hn => ⟨(g2 n hn).1, (g2 n hn).2.1, fun _ => (g2 n hn).2.2⟩
    · exact fun n hn => ⟨(g3 n hn).1, (g3 n hn).2, fun _ => rfl⟩
    · exact fun n hn => ⟨(g4 n hn).1, (g4 n hn).2.1, fun _ => (g4 n hn).2.2⟩
    all_goals exact absurd f (by decide)
  intro o ho f n hn
  obtain ⟨a, b, c⟩ := h o ho f n hn
  refine ⟨_, _, ⟨zeros (o.pk n), [], zeros (o.sig n), [7]⟩, (opAt_job 0 0 (zeros (o.pk n) ++ zeros (o.sig n) ++ [7]) a).1,
    (opAt_job 0 0 (zeros (o.pk n) ++ zeros (o.sig n) ++ [7]) a).2, rfl, ?_, ?_, b, ?_, c _⟩
  · simp [opJob]
  · rw [(opAt_job 0 0 _ a).2]; exact List.length_replicate
  · rw [(opAt_job 0 0 _ a).2]; exact List.length_replicate

/-- An LMS parameter block with the tree of height 10, and a public key of its typecodes. -/
def lmsParams : Bytes := fields [(4, 1), (4, 6), (4, 4), (16, 0)]

def lmsKey : Bytes := be 4 6 ++ be 4 4 ++ zeros 48

theorem test_meets_stateful : (∃ s j, OpAt s (16383 : Fin 16384) j 5 1 ∧
      (statefulTrees (setOf j) j.input).isSome = true ∧ asked j = 1) ∧
    (∃ s j, OpAt s (16383 : Fin 16384) j 5 1 ∧ statefulTrees (setOf j) j.input = none) ∧
    (∃ s j, OpAt s (16383 : Fin 16384) j 5 1 ∧ (statefulTrees (setOf j) j.input).isSome = true ∧ asked j ≠ 1) ∧
    (∃ s j, OpAt s (16383 : Fin 16384) j 5 2 ∧ (statefulTrees (setOf j) j.params0).isSome = true ∧ j.leaf = some 1023) ∧
    (∃ s j, OpAt s (16383 : Fin 16384) j 5 4 ∧ j.entry.key0 ≠ 0 ∧ j.input = zeros 1 ++ [7] ∧
      (zeros 1).length = bits j.entry.param.toNat 31 0) ∧
    (∃ s j, OpAt s (16383 : Fin 16384) j 5 4 ∧ j.entry.key0 = 0 ∧ j.input = lmsKey ++ zeros 1 ++ [7] ∧
      lmsKey.length = bits j.entry.param.toNat 39 32 ∧ statefulKeyOk (setOf j) lmsKey = true ∧
      (zeros 1).length = bits j.entry.param.toNat 31 0) ∧
    ∃ s j, OpAt s (16383 : Fin 16384) j 5 5 ∧ s.shields j = false := by
  have h : spells 5 1 1 ∧ spells 5 1 2 ∧ spells 5 1 4 ∧ spells 5 1 5 := by unfold spells; decide +kernel
  obtain ⟨h1, h2, h4, h5⟩ := h
  refine ⟨⟨_, _, (opAt_job 0 1 lmsParams h1).1, by decide +kernel⟩, ⟨_, _, (opAt_job 0 1 [] h1).1, by decide +kernel⟩,
    ⟨_, _, (opAt_job 0 3 lmsParams h1).1, by decide +kernel⟩,
    ⟨opState { opJob 5 1 2 1 with params0 := lmsParams, leaf := some 1023 }, _, opAt_of rfl ?_ h2.2, by decide +kernel⟩,
    ⟨_, _, (opAt_job 1 1 (zeros 1 ++ [7]) h4).1, by decide +kernel⟩,
    ⟨_, _, (opAt_job 0 (56 * 2 ^ 32 + 1) (lmsKey ++ zeros 1 ++ [7]) h4).1, by decide +kernel⟩,
    ⟨_, _, (opAt_job 1 0 [] h5).1, by decide +kernel⟩⟩
  exact h2.1

/-- A peer's key that its length refuses; OAEP encryption to a record's key, and decryption of a ciphertext below the
modulus and of one at it. That a peer's key is a point, and that a padding is right, are the algorithms' answers. -/
theorem test_meets_agreement_and_oaep : (∀ n ∈ [1, 2, 3, 6, 7], ∃ s j, OpAt s (16383 : Fin 16384) j 8 6 ∧ setOf j = n ∧
      ecKeyOk (setOf j) j.input = false) ∧
    (∀ n ∈ [1, 2, 3, 6, 7], ∃ s j, OpAt s (16383 : Fin 16384) j 8 7 ∧ setOf j = n ∧ j.carries (asked j) = true) ∧
    (∀ n ∈ [1, 2, 3], ∃ s j, OpAt s (16383 : Fin 16384) j 9 6 ∧ setOf j = n ∧ rsaHashOk j.entry = true ∧
      j.entry.key0 ≠ 0) ∧
    (∃ s j, OpAt s (16383 : Fin 16384) j 9 6 ∧ setOf j = 1 ∧ rsaHashOk j.entry = true ∧ j.entry.key0 = 0 ∧
      rsaKeyOk (setOf j) (j.input.take (128 * (setOf j + 1) + 4)) = true) ∧
    (∃ s j ct, OpAt s (16383 : Fin 16384) j 9 7 ∧ rsaHashOk j.entry = true ∧ j.input = zeros 255 ++ ct ∧
      (zeros 255).length = ctxLen j.entry ∧ ofBe ct < ofBe (j.pub0.take (128 * (setOf j + 1)))) ∧
    ∃ s j ct, OpAt s (16383 : Fin 16384) j 9 7 ∧ rsaHashOk j.entry = true ∧ j.input = [] ++ ct ∧
      ([] : Bytes).length = ctxLen j.entry ∧ ofBe (j.pub0.take (128 * (setOf j + 1))) = ofBe ct := by
  have h : (∀ n ∈ [1, 2, 3, 6, 7], spells 8 n 6 ∧ spells 8 n 7) ∧ (∀ n ∈ [1, 2, 3], spells 9 n 6 ∧ spells 9 n 7) := by
    unfold spells; decide +kernel
  obtain ⟨e, r⟩ := h
  refine ⟨fun n hn => ⟨_, _, (opAt_job 1 0 [] (e n hn).1).1, (opAt_job 1 0 [] (e n hn).1).2, ?_⟩,
    fun n hn => ⟨_, _, (opAt_job 1 0 [] (e n hn).2).1, (opAt_job 1 0 [] (e n hn).2).2, ?_⟩,
    fun n hn => ⟨_, _, (opAt_job 1 0x6000 [] (r n hn).1).1, (opAt_job 1 0x6000 [] (r n hn).1).2, ?_⟩,
    ⟨_, _, (opAt_job 0 0x1000 ([0x80] ++ zeros 255 ++ be 4 65537) (r 1 (by decide)).1).1, by decide +kernel⟩,
    ⟨opState { opJob 9 1 7 1 0x10FF (zeros 511) with pub0 := [0x80] ++ zeros 255 ++ be 4 65537 }, _, zeros 256,
      opAt_of rfl ?_ (r 1 (by decide)).2.2, by decide +kernel⟩,
    ⟨opState { opJob 9 1 7 1 0x1000 ([0x80] ++ zeros 255) with pub0 := [0x80] ++ zeros 255 ++ be 4 65537 }, _,
      [0x80] ++ zeros 255, opAt_of rfl ?_ (r 1 (by decide)).2.2, by decide +kernel⟩⟩
  · clear e r; revert n; decide +kernel
  · clear e r; revert n; decide +kernel
  · clear e r; revert n; decide +kernel
  · exact (r 1 (by decide)).2.1
  · exact (r 1 (by decide)).2.1

/-- GCM with an IV in the input and one drawn; no additional data; the shortest and the longest tag. -/
theorem test_meets_gcm : ∀ set ∈ [1, 2], ∀ n ∈ [4, 16], (∃ s s' j j' iv pt,
      OpAt s (16383 : Fin 16384) j 0x0A 1 ∧ OpAt s' (16383 : Fin 16384) j' 0x0A 2 ∧ aesTag j.entry = some n ∧
      aesTag j'.entry = some n ∧ j.key0.length ∈ [16, 32] ∧ j'.key0 = j.key0 ∧ iv = zeros 12 ∧
      aadLen j.entry = 0 ∧ aadLen j'.entry = 0 ∧ pt = [7] ∧ ivIn j.entry = 12 ∧ j.input = iv ++ [] ++ pt) ∧
    ∃ s j, OpAt s (16383 : Fin 16384) j 0x0A 1 ∧ aesTag j.entry = some n ∧ aadLen j.entry = 0 ∧ ivIn j.entry = 0 ∧
      j.random = zeros 12 ∧ j.input = [] ++ [7] := by
  intro set hs n hn
  refine ⟨⟨opState { opJob 0x0A set 1 1 (n * 2 ^ 32) (zeros 12 ++ [7]) with key0 := zeros 16 },
    opState { opJob 0x0A set 2 1 (n * 2 ^ 32) [] with key0 := zeros 16 }, _, _, _, _, opAt_of rfl ?_ ?_, opAt_of rfl ?_ ?_,
    ?_, ?_, ?_, rfl, rfl, ?_, ?_, rfl, ?_, ?_⟩,
    ⟨opState { opJob 0x0A set 1 1 (n * 2 ^ 32 + 2 ^ 40) [7] with random := zeros 12 }, _, opAt_of rfl ?_ ?_, ?_⟩⟩ <;>
    (revert set n; decide +kernel)

/-- GMAC, key wrap, XTS (UNIT_LEN 16, a short last unit) and frame batches (two frames, the longest first). -/
theorem test_meets_aes : (∃ s j, OpAt s (16383 : Fin 16384) j 0x0A 3 ∧ aesTag j.entry = some 16 ∧ ivIn j.entry = 12 ∧
      j.input = zeros 12 ++ [7]) ∧
    (∃ s j, OpAt s (16383 : Fin 16384) j 0x0A 4 ∧ aesTag j.entry = some 4 ∧ ivIn j.entry = 12 ∧
      j.input = zeros 12 ++ [7] ++ zeros 4) ∧
    (∃ s j, OpAt s (16383 : Fin 16384) j 0x0A 5) ∧
    (∃ s j, OpAt s (16383 : Fin 16384) j 0x0A 6 ∧ j.input.length % 8 = 0 ∧ 24 = j.input.length) ∧
    (∀ op ∈ [7, 8], ∃ s j u, OpAt s (16383 : Fin 16384) j 0x0A op ∧ (zeros 16).length = 16 ∧
      j.input = zeros 16 ++ zeros 33 ∧ u = bits j.entry.param.toNat 23 0 ∧ u = 16) ∧
    ∀ set ∈ [1, 2, 3, 4], ∀ op ∈ [1, 2], (∃ s j, OpAt s (16383 : Fin 16384) j 0x0F op ∧ setOf j = set ∧
        j.frames.isSome = true ∧ (j.frames.map (·.length)) = some 2) ∧
      ∃ s j, OpAt s (16383 : Fin 16384) j 0x0F op ∧ setOf j = set ∧ j.frames.isSome = false := by
  have h : (∀ op ∈ [3, 4, 5, 6, 7, 8], spells 0x0A 1 op) ∧ ∀ set ∈ [1, 2, 3, 4], ∀ op ∈ [1, 2], spells 0x0F set op := by
    unfold spells; decide +kernel
  obtain ⟨a, f⟩ := h
  refine ⟨⟨_, _, (opAt_job 1 (16 * 2 ^ 32) (zeros 12 ++ [7]) (a 3 (by decide))).1, by decide +kernel⟩,
    ⟨_, _, (opAt_job 1 (4 * 2 ^ 32) (zeros 12 ++ [7] ++ zeros 4) (a 4 (by decide))).1, by decide +kernel⟩,
    ⟨_, _, (opAt_job 1 0 [] (a 5 (by decide))).1⟩,
    ⟨_, _, (opAt_job 1 0 (zeros 24) (a 6 (by decide))).1, by decide +kernel⟩,
    fun op hop => ⟨_, _, 16, (opAt_job 1 16 (zeros 16 ++ zeros 33) (a op ?_)).1, ?_⟩, fun set hs op hop => ⟨?_, ?_⟩⟩
  · revert op; decide
  · revert op; clear a f; decide +kernel
  · let m := fields [(4, 0), (4, 2048), (40, 0), (4, 2048), (4, 1), (40, 0)] ++ zeros 2049
    refine ⟨_, _, (opAt_job 1 2 m (f set hs op hop)).1, (opAt_job 1 2 m (f set hs op hop)).2, ?_⟩
    clear a f
    revert set op
    decide +kernel
  · refine ⟨_, _, (opAt_job 1 1 [] (f set hs op hop)).1, (opAt_job 1 1 [] (f set hs op hop)).2, ?_⟩
    clear a f
    revert set op
    decide +kernel

/-- MAC and MAC_VERIFY in one job, and over a context; CTX_CLOSE; a context that no job names. -/
theorem test_meets_macs : (∀ set ∈ [1, 10, 11, 12], ∀ op ∈ [2, 3], ∃ s j sb, OpAt s (16383 : Fin 16384) j 0x0B op ∧
      setOf j = set ∧ macTag (entryOpc j.entry) j.entry = some 4 ∧ bits j.entry.param.toNat 63 62 = 0 ∧
      sb = zeros (if 11 ≤ set then 255 else 0) ∧ sb.length = (if 11 ≤ setOf j then bits j.entry.param.toNat 47 40 else 0) ∧
      j.input = sb ++ zeros 4 ++ [7]) ∧
    (∀ op ∈ [2, 3], ∃ s j, OpAt s (16383 : Fin 16384) j 0x0B op ∧ macTag (entryOpc j.entry) j.entry = some 4 ∧
      bits j.entry.param.toNat 63 62 = 3 ∧ look (4096 * j.inst + j.entry.ctx.toNat) s.ctxs = some {}) ∧
    (∃ s j, OpAt s (16383 : Fin 16384) j 0x0B 4 ∧ s.shields j = false ∧ j.runKeys = []) ∧
    ∃ (s : State) (x : Ctx), look (4096 * (1023 : Fin 1024).val + (4095 : Fin 4096).val) s.ctxs = some x ∧ s.jobs = [] := by
  refine ⟨fun set hs op hop => ?_, fun op hop => ?_, ?_, ⟨{ State.reset with ctxs := [(4194303, {})] }, _, rfl, rfl⟩⟩
  · have h : ∀ set ∈ [1, 10, 11, 12], ∀ op ∈ [2, 3], spells 0x0B set op := by unfold spells; decide +kernel
    refine ⟨_, _, _, (opAt_job 1 (255 * 2 ^ 40 + 4) (zeros (if 11 ≤ set then 255 else 0) ++ zeros 4 ++ [7]) (h set hs op hop)).1,
      (opAt_job 1 (255 * 2 ^ 40 + 4) (zeros (if 11 ≤ set then 255 else 0) ++ zeros 4 ++ [7]) (h set hs op hop)).2, ?_, ?_,
      rfl, ?_, rfl⟩ <;> (clear h; revert set op; decide +kernel)
  · refine ⟨{ opState (opJob 0x0B 1 op 1 (3 * 2 ^ 62 + 4)) with ctxs := [(0, {})] }, opJob 0x0B 1 op 1 (3 * 2 ^ 62 + 4),
      ⟨rfl, rfl, ?_, ?_⟩, ?_⟩ <;> (revert op; decide +kernel)
  · exact ⟨_, _, (opAt_job 1 0 [] (set := 1) ⟨by decide +kernel, by decide +kernel⟩).1, by decide +kernel⟩

/-- HASH in each stage, with the longest output of SHAKE; MEASURE with room for its record and one byte short of it;
QUOTE. -/
theorem test_meets_hashes : (∀ stage ∈ [0, 1, 2, 3], ∃ s j, OpAt s (16383 : Fin 16384) j 0x0B 1 ∧
      bits j.entry.param.toNat 63 62 = stage ∧ hashOut (entryOpc j.entry) j.entry = some 16777216 ∧
      look (4096 * j.inst + j.entry.ctx.toNat) s.ctxs = some {}) ∧
    (∃ s j, OpAt s (16383 : Fin 16384) j 0x10 2 ∧ s.meas.mlog.length + 65536 ≤ 131072) ∧
    (∀ l : List MLogEntry, l.length = 65537 → ∃ s j, OpAt s (16383 : Fin 16384) j 0x10 2 ∧ 131072 < s.meas.mlog.length + 65536) ∧
    ∃ s j, OpAt s (16383 : Fin 16384) j 0x10 3 := by
  have h : spells 0x10 0 2 ∧ spells 0x10 0 3 := by unfold spells; decide +kernel
  refine ⟨fun n hn => ?_, ⟨_, _, (opAt_job 0 0 [] h.1).1, by decide +kernel⟩, fun l hl =>
    ⟨{ opState (opJob 0x10 0 2) with meas := { State.reset.meas with mlog := l } }, opJob 0x10 0 2,
      ⟨rfl, rfl, h.1.1, h.1.2⟩, ?_⟩, ⟨_, _, (opAt_job 0 0 [] h.2).1⟩⟩
  · refine ⟨{ opState (opJob 0x0B 12 1 0 (n * 2 ^ 62 + 2 ^ 24)) with ctxs := [(0, {})] },
      opJob 0x0B 12 1 0 (n * 2 ^ 62 + 2 ^ 24), ⟨rfl, rfl, ?_, ?_⟩, ?_⟩ <;> (clear h; revert n; decide +kernel)
  · change 131072 < l.length + 65536
    omega


/-- Key management on engines: derivation and release at the shortest and the longest OUT_LEN, a pair outside R397, a
flag that KEY0 does not carry, wrapping, unwrapping, export and proof. -/
theorem test_meets_key_management :
    (∃ s j, OpAt s (16383 : Fin 16384) j 0x0C 3 ∧ setOf j = 0 ∧ kmPair j.entry = true ∧ j.carries (asked j) = true) ∧
    (∃ s j, OpAt s (16383 : Fin 16384) j 0x0C 3 ∧ setOf j = 0 ∧ kmPair j.entry = false) ∧
    (∃ s j, OpAt s (16383 : Fin 16384) j 0x0C 3 ∧ setOf j = 0 ∧ j.carries (asked j) = false) ∧
    (∀ n ∈ [16, 64], ∃ s j, OpAt s (16383 : Fin 16384) j 0x0C 4 ∧ setOf j = 0 ∧ n = bits j.entry.param.toNat 7 0) ∧
    (∀ op ∈ [5, 7, 12], ∃ s j, OpAt s (16383 : Fin 16384) j 0x0C op ∧ setOf j = 0) ∧
    ∃ s j, OpAt s (16383 : Fin 16384) j 0x0C 6 ∧ setOf j = 0 ∧ kmPair j.entry = true ∧ j.input.length % 8 = 0 ∧
      16 ≤ j.input.length := by
  have h : ∀ op ∈ [3, 4, 5, 6, 7, 12], spells 0x0C 0 op := by unfold spells; decide +kernel
  refine ⟨?_, ?_, ?_, fun n hn => ?_, fun op hop => ?_, ?_⟩
  · exact ⟨_, _, (opAt_job 1 0x0A220300 [] (h 3 (by decide))).1, (opAt_job 1 0x0A220300 [] (h 3 (by decide))).2,
      by decide +kernel⟩
  · exact ⟨_, _, (opAt_job 1 0x0A110300 [] (h 3 (by decide))).1, (opAt_job 1 0x0A110300 [] (h 3 (by decide))).2,
      by decide +kernel⟩
  · exact ⟨_, _, (opAt_job 1 0x0A220302 [] (h 3 (by decide))).1, (opAt_job 1 0x0A220302 [] (h 3 (by decide))).2,
      by decide +kernel⟩
  · refine ⟨_, _, (opAt_job 1 n [] (h 4 (by decide))).1, (opAt_job 1 n [] (h 4 (by decide))).2, ?_⟩
    clear h; revert n; decide +kernel
  · exact ⟨_, _, (opAt_job 1 0 [] (h op (by revert op; decide))).1, (opAt_job 1 0 [] (h op (by revert op; decide))).2⟩
  · exact ⟨_, _, (opAt_job 1 0x0A110100 (zeros 16) (h 6 (by decide))).1,
      (opAt_job 1 0x0A110100 (zeros 16) (h 6 (by decide))).2, by decide +kernel⟩

/-- The header of an export blob of an empty body, under the domain that stands after reset. -/
def blobHead : Bytes :=
  ascii "KQ9KEXPT" ++ fields [(2, 1), (2, 0), (4, 0)] ++ zeros 80 ++
  (fields [(8, 1), (1, 3), (1, 0), (2, 0x0A22), (4, 2)] ++ zeros 48) ++ zeros 16

theorem slice_append_left {o n : Nat} {a b : Bytes} (h : o + n ≤ a.length) : slice o n (a ++ b) = slice o n a := by
  unfold slice
  rw [List.drop_append_of_le_length (by omega), List.take_append_of_le_length (by rw [List.length_drop]; omega)]

/-- A blob whose tag is the one that its key gives opens. -/
theorem blob_opens : ∃ t : Bytes, t.length = 16 ∧ State.reset.blobBody (blobHead ++ t) = some [] := by
  have hk : (State.reset.exportKey (zeros 16)).length = 32 := kmac256_length _ _ _ _
  have ht := gcmTag_length (key := State.reset.exportKey (zeros 16)) (.inr hk) (zeros 12) blobHead []
  refine ⟨_, ht, ?_⟩
  generalize hg : gcmTag (State.reset.exportKey (zeros 16)) (zeros 12) blobHead [] = t at ht
  have hl : blobHead.length = 176 := by decide +kernel
  have f : ∀ {o n : Nat}, o + n ≤ 176 → slice o n (blobHead ++ t) = slice o n blobHead :=
    fun h => slice_append_left (by rw [hl]; exact h)
  have g : ∀ {o n : Nat}, o + n ≤ 176 → Machine.fieldLe o n (blobHead ++ t) = Machine.fieldLe o n blobHead :=
    fun h => congrArg ofLe (f h)
  have h0 : (blobHead ++ t).take 8 = blobHead.take 8 := f (o := 0) (n := 8) (by decide)
  have ht6 : (blobHead ++ t).take 176 = blobHead := by rw [List.take_append_of_le_length (by omega), ← hl, List.take_length]
  have hd : (blobHead ++ t).drop (176 + 0) = t := by rw [Nat.add_zero, ← hl]; exact List.drop_left ..
  have hs : slice 176 0 (blobHead ++ t) = [] := by simp [slice]
  have n0 : Machine.fieldLe 12 4 (blobHead ++ t) = 0 := (g (by decide)).trans (by decide +kernel)
  have i0 : slice 80 16 (blobHead ++ t) = zeros 16 := (f (by decide)).trans (by decide +kernel)
  have v0 : slice 160 12 (blobHead ++ t) = zeros 12 := (f (by decide)).trans (by decide +kernel)
  have c : (blobHead.take 8 == ascii "KQ9KEXPT" && Machine.fieldLe 8 2 blobHead == 1 && (176 + 16 : Nat) == 192 + 0 &&
    slice 48 32 blobHead == State.reset.keys.domainId &&
    Machine.fieldLe 112 4 blobHead + Machine.fieldLe 116 4 blobHead == 0) = true := by decide +kernel
  unfold State.blobBody
  dsimp only
  rw [n0, i0, v0, hs, hd, ht6, h0, g (o := 8) (n := 2) (by decide), f (o := 48) (n := 32) (by decide),
    g (o := 112) (n := 4) (by decide), g (o := 116) (n := 4) (by decide), List.length_append, hl, ht]
  rw [if_pos c, gcmOpen, if_pos]
  · rfl
  · rw [hg, ht, ← ht, List.take_length]

/-- Importing a blob that does not open, and one that does. -/
theorem test_meets_import : (∃ s j, OpAt s (16383 : Fin 16384) j 0x0C 8 ∧ setOf j = 0 ∧ s.blobBody j.input = none) ∧
    ∃ s j a n, OpAt s (16383 : Fin 16384) j 0x0C 8 ∧ setOf j = 0 ∧ s.blobBody j.input = some [] ∧
      a = (j.input.drop 96).take 64 ∧ n = Machine.fieldLe 16 4 a ∧
      floatFlagOk (Machine.fieldLe 8 1 a) (BitVec.ofNat 16 (Machine.fieldLe 10 2 a)) (Machine.fieldLe 12 4 a &&& 0x8F) = true := by
  have h : spells 0x0C 0 8 := by unfold spells; decide +kernel
  refine ⟨⟨_, _, (opAt_job 0 0 [] h).1, (opAt_job 0 0 [] h).2, by decide +kernel⟩, ?_⟩
  obtain ⟨t, ht, hb⟩ := blob_opens
  refine ⟨_, _, _, _, (opAt_job 0 0 (blobHead ++ t) h).1, (opAt_job 0 0 (blobHead ++ t) h).2, hb, rfl, rfl, ?_⟩
  change floatFlagOk (Machine.fieldLe 8 1 (slice 96 64 (blobHead ++ t))) (BitVec.ofNat 16 (Machine.fieldLe 10 2 (slice 96 64 (blobHead ++ t))))
    (Machine.fieldLe 12 4 (slice 96 64 (blobHead ++ t)) &&& 0x8F) = true
  rw [slice_append_left (by decide +kernel)]
  decide +kernel

/-- The state after reset with one job in the last slot, and the key store given. -/
def keyState (j : Job) (f : KeyStore → KeyStore) : State := { opState j with keys := f State.reset.keys }

theorem opAt_keys {fam set op : Nat} (key0 param : Nat) (input : Bytes) (f : KeyStore → KeyStore) (h : spells fam set op) :
    OpAt (keyState (opJob fam set op key0 param input) f) (16383 : Fin 16384) (opJob fam set op key0 param input) fam op ∧
      setOf (opJob fam set op key0 param input) = set :=
  ⟨⟨rfl, rfl, (opAt_job key0 param input h).1.opcode, (opAt_job key0 param input h).1.defined⟩, (opAt_job key0 param input h).2⟩

/-- Records made, deleted where the handle is still good and where it is not, a peer's secret set, a peer revoked, and
an update message that its header refuses. That a message passes rests on two signatures, the algorithms' answer. -/
theorem test_meets_record_changes :
    (∃ s j, OpAt s (16383 : Fin 16384) j 0x0C 2 ∧ setOf j = 0 ∧ s.shields j = false ∧ j.runKeys = [] ∧ j.region = none ∧
      kmPair j.entry = true ∧ s.freeIndex.isSome = true) ∧
    (∃ s j, OpAt s (16383 : Fin 16384) j 0x0C 9 ∧ setOf j = 0 ∧ s.shields j = false ∧ j.runKeys = [] ∧ j.region = none ∧
      kmPair j.entry = true ∧ s.freeIndex.isSome = true ∧
      bindingPublicOk (BitVec.ofNat 16 (bits j.entry.param.toNat 31 16)) j.input = true) ∧
    (∀ g ∈ [1, 2], ∃ s j r, OpAt s (16383 : Fin 16384) j 0x0C 10 ∧ setOf j = 0 ∧ s.shields j = false ∧ j.runKeys = [] ∧
      j.region = none ∧ s.record (handleIndex j.entry.key0) = some r ∧ r.gen = g ∧ handleGen j.entry.key0 = 1) ∧
    (∃ s j p r, OpAt s (16383 : Fin 16384) j 0x0C 13 ∧ setOf j = 0 ∧ s.shields j = false ∧ j.runKeys = [] ∧
      j.region = none ∧ look (handleIndex j.entry.key0 - peerBase) s.keys.peers = some p ∧
      p.gen = handleGen j.entry.key0 ∧ s.record (handleIndex j.entry.key1) = some r ∧ r.gen = handleGen j.entry.key1) ∧
    (∃ s j p, OpAt s (16383 : Fin 16384) j 0x0C 14 ∧ setOf j = 0 ∧ s.shields j = false ∧ j.runKeys = [] ∧
      j.region = none ∧ look (handleIndex j.entry.key0 - peerBase) s.keys.peers = some p ∧
      p.gen = handleGen j.entry.key0) ∧
    (∀ op ∈ [11, 15], ∃ s j, OpAt s (16383 : Fin 16384) j 0x0C op ∧ setOf j = 0 ∧ s.shields j = false ∧ j.runKeys = [] ∧
      j.region = none) ∧
    ∃ s j e, OpAt s (16383 : Fin 16384) j 0x0C 1 ∧ setOf j = 0 ∧ s.shields j = false ∧ j.runKeys = [] ∧
      j.region = none ∧ s.judgeUpdate j.input = .error e := by
  have h : ∀ op ∈ [1, 2, 9, 10, 11, 13, 14, 15], spells 0x0C 0 op := by unfold spells; decide +kernel
  refine ⟨⟨_, _, (opAt_job 0 0x0A110100 [] (h 2 (by decide))).1, (opAt_job 0 0x0A110100 [] (h 2 (by decide))).2,
      by decide +kernel⟩,
    ⟨_, _, (opAt_job 0 (0x0410 * 65536 + 0x0800) (zeros 32) (h 9 (by decide))).1,
      (opAt_job 0 (0x0410 * 65536 + 0x0800) (zeros 32) (h 9 (by decide))).2, by decide +kernel⟩,
    fun g hg => ⟨_, _, { gen := g }, (opAt_keys 16385 0 [] (fun k => { k with records := [(1, { gen := g })] })
      (h 10 (by decide))).1, (opAt_keys 16385 0 [] (fun k => { k with records := [(1, { gen := g })] })
      (h 10 (by decide))).2, ?_⟩, ?_, ?_,
    fun op hop => ⟨_, _, (opAt_job 1 0 [] (h op ?_)).1, (opAt_job 1 0 [] (h op ?_)).2, ?_⟩,
    ⟨_, _, (3, .inputRejected), (opAt_job 0 0 [] (h 1 (by decide))).1, (opAt_job 0 0 [] (h 1 (by decide))).2, rfl,
      rfl, rfl, rfl⟩⟩
  · clear h; revert g; decide +kernel
  · obtain ⟨a, b⟩ := opAt_keys (0x800001 * 16384 + 1) 0 []
      (fun k => { k with records := [(0, { gen := 0 })], peers := [(1, { gen := 1 })] }) (h 13 (by decide))
    exact ⟨_, _, { gen := 1 }, { gen := 0 }, a, b, by clear h a b; decide +kernel⟩
  · refine ⟨_, _, { gen := 1 }, (opAt_keys (0x800001 * 16384 + 1) 0 [] (fun k => { k with peers := [(1, { gen := 1 })] })
      (h 14 (by decide))).1, (opAt_keys (0x800001 * 16384 + 1) 0 [] (fun k => { k with peers := [(1, { gen := 1 })] })
      (h 14 (by decide))).2, by clear h; decide +kernel⟩
  · revert op; decide
  · revert op; decide
  · clear h; revert op; decide +kernel

/-- NOP, FENCE, reseeding, the shortest and the longest RANDOM_GENERATE and one beyond each end; recipes: a run, a
package that its header refuses, and the others; an opcode of no chapter. That a package's signature verifies is the
algorithm's answer. -/
theorem test_meets_utility : (∀ op ∈ [0, 1], ∃ s j, OpAt s (16383 : Fin 16384) j 0x10 op ∧ setOf j = 0) ∧
    (∀ n ∈ [0, 1, 16777216, 16777217], ∃ s j, OpAt s (16383 : Fin 16384) j 0x0D 1 ∧ n = bits j.entry.param.toNat 31 0) ∧
    (∃ s j, OpAt s (16383 : Fin 16384) j 0x0D 2) ∧
    (∃ s j, ∃ r : Run, OpAt s (16383 : Fin 16384) j 0x0E 1 ∧ j.told.contains 9 = false ∧ j.run = some r) ∧
    (∃ s j, OpAt s (16383 : Fin 16384) j 0x0E 2 ∧ s.shields j = false ∧ j.runKeys = [] ∧ s.packageOk j.input = false) ∧
    (∀ op ∈ [3, 4], ∃ s j, OpAt s (16383 : Fin 16384) j 0x0E op ∧ s.shields j = false) ∧
    ∃ (s : State) (j : Job), s.job (16383 : Fin 16384) = some j ∧ j.phase = .dispatched ∧ (entryOpc j.entry).defined = false := by
  have h : spells 0x10 0 0 ∧ spells 0x10 0 1 ∧ spells 0x0D 0 1 ∧ spells 0x0D 0 2 ∧ spells 0x0E 0 1 ∧ spells 0x0E 0 2 ∧
      spells 0x0E 0 3 ∧ spells 0x0E 0 4 := by unfold spells; decide +kernel
  obtain ⟨u0, u1, r1, r2, p1, p2, p3, p4⟩ := h
  refine ⟨fun op hop => ?_, fun n hn => ⟨_, _, (opAt_job 0 n [] r1).1, ?_⟩, ⟨_, _, (opAt_job 0 0 [] r2).1⟩,
    ⟨opState { opJob 0x0E 0 1 with run := some {} }, { opJob 0x0E 0 1 with run := some {} }, {},
      ⟨rfl, rfl, p1.1, p1.2⟩, rfl, rfl⟩,
    ⟨_, _, (opAt_job 0 0 [] p2).1, by decide +kernel⟩, fun op hop => ?_,
    ⟨opState { opJob 0 0 0 with phase := .dispatched }, _, rfl, by decide +kernel⟩⟩
  · simp only [List.mem_cons, List.not_mem_nil, or_false] at hop
    obtain rfl | rfl := hop
    exacts [⟨_, _, opAt_job 0 0 [] u0⟩, ⟨_, _, opAt_job 0 0 [] u1⟩]
  · clear u0 u1 r1 r2 p1 p2 p3 p4; revert n; decide +kernel
  · simp only [List.mem_cons, List.not_mem_nil, or_false] at hop
    obtain rfl | rfl := hop
    exacts [⟨_, _, (opAt_job 0 0 [] p3).1, by decide +kernel⟩, ⟨_, _, (opAt_job 0 0 [] p4).1, by decide +kernel⟩]

/-! ### Power, tamper and start -/

/-- A device that has started and serves. -/
def readyState : State := { State.reset with
  start := { State.reset.start with phase := .ready, ladder := .full, began := true }
  pwr := { State.reset.pwr with dieOn := true, stage := .normal, rail12 := true, rail3v3 := true } }

theorem test_meets_power_fail :
    (∃ (load stored : Nat) (s : State), s.pwr.stage = .normal ∧ s.pwr.dieOn = true ∧ s.start.phase = .ready ∧ 0 < load ∧
      30000000 * load = (stored - 600) * 1000000000) ∧
    (∃ s : State, s.pwr.stage ≠ .normal) ∧
    (∃ s : State, s.pwr.stage = .rideThrough ∧ s.lc.transition = none) ∧
    (∃ s : State, s.pwr.stage = .inFlight ∧ s.jobs ≠ [] ∧ (s.jobs.map (·.1)).Nodup ∧ s.pwr.rail12 = false) ∧
    (∃ s : State, s.pwr.stage = .flushing ∧ s.pwr.rail12 = true ∧ s.pwr.rail3v3 = true ∧ s.start.phase = .ready ∧
      s.faults.deferred = []) ∧
    (∃ s : State, s.pwr.stage = .flushing ∧ s.pwr.rail12 = true ∧ s.pwr.rail3v3 = false) ∧
    ∃ s : State, s.faults.open_.length < 64 ∧ logTakes s 2 := by
  refine ⟨⟨80000, 3000, readyState, rfl, rfl, rfl, by decide, by decide⟩,
    ⟨{ readyState with pwr := { readyState.pwr with stage := .flushing } }, by decide +kernel⟩,
    ⟨{ readyState with pwr := { readyState.pwr with stage := .rideThrough } }, rfl, rfl⟩,
    ⟨{ readyState with pwr := { readyState.pwr with stage := .inFlight, rail12 := false }, jobs := [(16383, {})] }, rfl,
      by decide +kernel⟩,
    ⟨{ readyState with pwr := { readyState.pwr with stage := .flushing } }, rfl, rfl, rfl, rfl, rfl⟩,
    ⟨{ readyState with pwr := { readyState.pwr with stage := .flushing, rail3v3 := false } }, rfl, rfl, rfl⟩,
    ⟨readyState, by decide +kernel, by unfold logTakes; decide +kernel⟩⟩

/-- A state whose OTP words read as a life-cycle state. -/
def otpState (v : Nat) (s : State) : State := { s with otp := { s.otp with
  copies := List.replicate 3 (BitVec.ofNat 64 (2 ^ (8 * v) - 1)), intents := List.replicate 8 (List.replicate 3 0) } }

theorem test_meets_tamper :
    (∃ s : State, s.pwr.dieOn = true ∧ s.start.began = true ∧ s.start.phase ≠ .halted ∧ s.lc.transition = none) ∧
    (∃ s : State, s.pwr.dieOn = false) ∧
    (∃ s : State, s.warden.loopMode = 2 ∧ s.warden.loopRun = 2 ∧ s.warden.loopCondition = false) ∧
    (∃ s : State, s.warden.loopMode = 3 ∧ s.warden.loopRun = 2 ∧ s.warden.loopCondition = false) ∧
    (∃ s : State, s.warden.loopMode = 1) ∧ (∃ s : State, s.warden.loopMode = 3 ∧ s.warden.loopRun < 2) ∧
    (∀ v ∈ [1, 2, 3], ∃ s : State, s.start.phase = .ready ∧ s.lcState = v ∧ s.pwr.stage ≠ .inFlight ∧
      s.pwr.stage ≠ .flushing ∧ s.warden.debugFlag = false) ∧
    (∃ s : State, s.start.phase = .halted) ∧
    (∃ s : State, s.card.vdd = true ∧ s.card.op.state = 1) ∧
    (∃ s : State, s.gov.vcore = 650 ∧ s.pwr.thermalPaused = false ∧ logTakes s 3) ∧
    ∃ s : State, s.pwr.thermalPaused = true := by
  have loop (m r : Nat) : ∃ s : State, s.warden.loopMode = m ∧ s.warden.loopRun = r ∧ s.warden.loopCondition = false :=
    ⟨{ readyState with warden := { readyState.warden with loopMode := m, loopRun := r, loopCondition := false } },
      rfl, rfl, rfl⟩
  refine ⟨⟨readyState, rfl, rfl, by decide +kernel, rfl⟩,
    ⟨{ readyState with pwr := { readyState.pwr with dieOn := false } }, rfl⟩, loop 2 2, loop 3 2,
    (loop 1 0).imp fun s h => h.1, (loop 3 1).imp fun s h => ⟨h.1, by rw [h.2.1]; decide⟩, fun v hv => ?_,
    ⟨{ readyState with start := { readyState.start with phase := .halted } }, rfl⟩,
    ⟨{ readyState with card := { readyState.card with vdd := true, op := { readyState.card.op with state := 1 } } },
      rfl, rfl⟩,
    ⟨{ readyState with gov := { readyState.gov with vcore := 650 } }, rfl, rfl, by unfold logTakes; decide +kernel⟩,
    ⟨{ readyState with pwr := { readyState.pwr with thermalPaused := true } }, rfl⟩⟩
  refine ⟨otpState v readyState, rfl, ?_⟩
  revert v
  decide +kernel

theorem test_meets_starts :
    (∀ v ∈ [0, 1, 2, 3, 4, 5], ∃ s : State, s.pwr.rail12 = true ∧ s.pwr.rail3v3 = true ∧ (s.port 0).perst = false ∧
      s.pwr.stage = .off ∧ s.shelf = none ∧ settledWords s v) ∧
    (∀ v ∈ [0, 1, 2, 3, 4, 5], ∃ s : State, s.start.draining = some .restart ∧ s.jobs = [] ∧ s.pwr.stage = .normal ∧
      s.warden.debugFlag = false ∧ settledWords s v) ∧
    (∃ s : State, s.start.phase = .selfTest ∧ s.start.katDone = false ∧ 386 < s.units.length) ∧
    (∀ j : Fin 16, ∃ s : State, s.rng.internal.length = 16 ∧ (s.rng.internal.getD j {}).instantiated = false ∧
      (∀ i < j.val, (s.rng.internal.getD i {}).instantiated = true) ∧ 2 ≤ s.rng.internalBlocks) ∧
    (∃ s : State, s.start.seedDone = false ∧ s.start.phase = .selfTest) ∧
    (∃ (a : FwImage) (s : State), s.start.phase = .firmware ∧ s.start.katDone = true ∧ s.odNum 0x130007 = 0 ∧
      a.present = true ∧ a.mldsaOk = true ∧ a.ecdsaOk = true ∧ s.otp.fwMin = a.version) ∧
    (∃ (a b : FwImage) (s : State), s.start.phase = .firmware ∧ s.start.katDone = true ∧ s.accepts a = false ∧
      s.accepts b = false ∧ s.card.detect = false) ∧
    (∃ s : State, s.start.phase = .archive ∧ s.start.fwDone = true ∧ s.start.seedDone = true ∧ s.warden.latch = true) ∧
    (∃ s : State, s.start.phase = .archive ∧ s.start.fwDone = true ∧ s.start.seedDone = true ∧
      s.warden.cellLost = true) ∧
    (∃ s : State, s.start.phase = .archive ∧ s.start.fwDone = true ∧ s.start.seedDone = true ∧ s.warden.latch = false ∧
      s.warden.cellLost = false ∧ (deviceRoot s.otp).isSome = true ∧ s.card.markerSet = false ∧
      s.start.readOnly = false ∧ s.keys.archiveGen < s.otp.genBits) ∧
    ∃ s : State, s.start.phase = .archive ∧ s.start.fwDone = true ∧ s.start.seedDone = true ∧ s.warden.latch = false ∧
      s.warden.cellLost = false ∧ (deviceRoot s.otp).isSome = true ∧ s.card.markerSet = false ∧
      s.start.readOnly = false ∧ s.otp.genBits = s.keys.archiveGen := by
  have settled : ∀ v ∈ [0, 1, 2, 3, 4, 5], ∀ s : State, settledWords (otpState v s) v := by
    have h : ∀ v ∈ [0, 1, 2, 3, 4, 5], settledWords (otpState v State.reset) v := by unfold settledWords; decide +kernel
    exact fun v hv _ => h v hv
  refine ⟨fun v hv => ⟨otpState v { readyState with pwr := { readyState.pwr with stage := .off }, ports := List.replicate 4 { perst := false } },
      rfl, rfl,
      by revert v; decide +kernel, rfl, rfl, settled v hv _⟩,
    fun v hv => ⟨otpState v { readyState with start := { readyState.start with draining := some .restart } }, rfl, rfl,
      rfl, rfl, settled v hv _⟩,
    ⟨{ readyState with start := { readyState.start with phase := .selfTest, katDone := false } }, rfl, rfl,
      by decide +kernel⟩,
    fun j => ⟨{ readyState with rng := { readyState.rng with internalBlocks := 2
                                                             internal := (List.range 16).map fun i =>
      { instantiated := decide (i < j.val) } } }, by revert j; decide +kernel⟩,
    ⟨{ readyState with start := { readyState.start with phase := .selfTest, seedDone := false } }, rfl, rfl⟩,
    ⟨{ present := true, mldsaOk := true, ecdsaOk := true },
      { readyState with start := { readyState.start with phase := .firmware, katDone := true } }, rfl, rfl,
      by decide +kernel⟩,
    ⟨{}, {}, { readyState with start := { readyState.start with phase := .firmware, katDone := true } }, rfl, rfl,
      by decide +kernel⟩, ?_, ?_, ?_, ?_⟩
  · exact ⟨{ readyState with
      start := { readyState.start with phase := .archive, fwDone := true, seedDone := true }
      warden := { readyState.warden with latch := true } }, rfl, rfl, rfl, rfl⟩
  · exact ⟨{ readyState with
      start := { readyState.start with phase := .archive, fwDone := true, seedDone := true }
      warden := { readyState.warden with cellLost := true } }, rfl, rfl, rfl, rfl⟩
  · exact ⟨{ readyState with
      start := { readyState.start with phase := .archive, fwDone := true, seedDone := true }
      otp := { readyState.otp with genBits := 4096 } }, rfl, rfl, rfl, by decide +kernel⟩
  · exact ⟨{ readyState with
      start := { readyState.start with phase := .archive, fwDone := true, seedDone := true } }, rfl, rfl, rfl,
      by decide +kernel⟩

/-- A sample that is the source's first, at the last place of the pool; one that ends a run of the cut-off. -/
theorem test_meets_noise : (∀ i : Fin 18, ∃ (s : State) (n : Source), s.sourcesRun = true ∧ s.sourceEnabled i = true ∧
      s.rng.sources[i.val]? = some n ∧ n.retired = false ∧ (n.sample (sourceKind i) true).2 = 0 ∧ n.admitted = true ∧
      s.rng.running = true ∧ s.rng.ready = none ∧ s.rng.poolPos = 511 ∧
      s.rng.credit + (cutOffs (sourceKind i) n.vonNeumann).1 < 32000) ∧
    (∀ i : Fin 18, ∃ (s : State) (n : Source), s.sourcesRun = true ∧ s.sourceEnabled i = true ∧
      s.rng.sources[i.val]? = some n ∧ n.retired = false ∧ (n.sample (sourceKind i) true).2 ≠ 0 ∧
      s.faults.open_.length < 62) ∧
    ∃ s : State, s.internalServes = true := by
  refine ⟨fun i => ⟨{ readyState with rng := { readyState.rng with
      sources := List.replicate 18 { admitted := true }, running := true, ready := none, poolPos := 511, credit := 0 } },
      { admitted := true }, by revert i; decide +kernel⟩,
    fun i => ⟨{ readyState with rng := { readyState.rng with
      sources := List.replicate 18 { run := (cutOffs (sourceKind i) false).2.1 - 1, last := true } } },
      { run := (cutOffs (sourceKind i) false).2.1 - 1, last := true }, by revert i; decide +kernel⟩,
    ⟨{ readyState with rng := { readyState.rng with internal := [{ instantiated := true, seeded := true }] } },
      by decide +kernel⟩⟩

theorem test_meets_tempo_and_power :
    (∃ s : State, s.pwr.dieOn = true ∧ 999 = s.gov.calmWindows) ∧
    (∃ s : State, s.pwr.dieOn = true ∧ s.gov.calmWindows = 998) ∧
    (∃ (mw cap : Nat) (mc : Int) (s : State), s.pwr.dieOn = true ∧
      cap = min (s.odNum 0x120006) (capLimit mc (s.odNum 0x11000D)) ∧ 98 * (1000 * cap) < 100 * mw ∧
      s.gov.floor + 10 = s.gov.vcore) ∧
    ∃ (mw cap : Nat) (mc : Int) (s : State), s.pwr.dieOn = true ∧
      cap = min (s.odNum 0x120006) (capLimit mc (s.odNum 0x11000D)) ∧ 98 * (1000 * cap) < 100 * mw ∧
      s.gov.vcore < s.gov.floor + 10 := by
  refine ⟨⟨{ readyState with gov := { readyState.gov with calmWindows := 999 } }, rfl, rfl⟩,
    ⟨{ readyState with gov := { readyState.gov with calmWindows := 998 } }, rfl, rfl⟩,
    ⟨4294967295, _, 25000, { readyState with gov := { readyState.gov with floor := 700, vcore := 710 } }, rfl, rfl,
      by decide +kernel⟩,
    ⟨4294967295, _, 25000, { readyState with gov := { readyState.gov with floor := 700, vcore := 700 } }, rfl, rfl,
      by decide +kernel⟩⟩

/-! ### Management sessions and the dictionary -/

/-- A request in the last frame that a session takes. -/
def lastReq : ZReq := { session := 5, seq := 4294967294, requestId := 7 }

/-- An open session of a role, in the band of the fourth port. -/
def client (role : Nat) (block : Option BlockTransfer := none) : Session :=
  { id := 5, opened := true, role := role, inBand := some 3, block := block }

/-- A device that serves one session. -/
def served (x : Session) : State := { readyState with mgmt := { readyState.mgmt with sessions := [x] } }

theorem requests_of {s : State} {role : Nat} {b : Option BlockTransfer} (h : s.session 5 = some (client role b))
    (z : s.zynboServes = true) : Requests s lastReq (client role b) :=
  ⟨h, z, rfl, rfl, rfl, ⟨by decide, by simp [client], by simp [client]⟩, rfl⟩

theorem requests_served (role : Nat) (b : Option BlockTransfer) : Requests (served (client role b)) lastReq (client role b) :=
  requests_of rfl rfl

/-- A credential record of an identifier and a role, enabled on both channels. -/
def credBytes (id role : Nat) : Bytes := fields [(8, id), (1, role), (1, 1), (6, 0)] ++ zeros 1952

/-- Openings beyond the limits, refused, and begun; the two ends of an opening; timeouts; each request; frames that
belong to no session, do not verify, or are old. That an OPEN_3 signature verifies is the algorithm's answer. -/
theorem test_meets_sessions :
    (∃ (s : State) (c : Bytes), s.zynboServes = true ∧ (s.takeDatagram none).isSome = true ∧
      s.mgmt.sessions.length = 15 ∧ (s.mgmt.sessions.filter fun x => !x.opened).length = 3 ∧ s.internalServes = true ∧
      s.credential 9 = some c ∧ s.openingRefused none 9 0 = false) ∧
    (∃ s : State, s.zynboServes = true ∧ (s.takeDatagram (some 0)).isSome = true ∧ 16 = s.mgmt.sessions.length) ∧
    (∃ s : State, s.zynboServes = true ∧ (s.takeDatagram (some 0)).isSome = true ∧ s.mgmt.sessions.length < 16 ∧
      (s.mgmt.sessions.filter fun x => !x.opened).length < 4 ∧ s.internalServes = true ∧
      s.openingRefused (some 0) 0 0 = true) ∧
    (∃ (s : State) (x : Session), s.session 5 = some x ∧ x.opened = false ∧ s.zynboServes = true ∧
      s.now < x.startedAt + 10000000000) ∧
    (∃ (s : State) (x : Session), s.session 5 = some x ∧ x.opened = true) ∧
    (∃ (s : State) (r : CredRefusal) (b : Nat), s.mgmt.refusals.find? (·.credId == 9) = some r ∧ r.blockedAt = some b) ∧
    (∃ (s : State) (x : Session), Requests s lastReq x ∧ x.role = 3 ∧ s.lc.transition = none ∧ s.warning = false) ∧
    (∃ (s : State) (x : Session), Requests s lastReq x ∧ x.role = 2) ∧
    (knownService 0x7F = false) ∧
    (∃ s : State, s.session 5 = none) ∧
    ∃ (s : State) (x : Session), s.session 5 = some x ∧ x.fresh 100 = false := by
  refine ⟨?_, ⟨served {} |> fun s => { s with mgmt := { s.mgmt with sessions := List.replicate 16 {} } }, by decide +kernel⟩,
    ⟨{ readyState with rng := { readyState.rng with internal := [{ instantiated := true, seeded := true }] } },
      by decide +kernel⟩,
    ⟨served { id := 5 }, { id := 5 }, by decide +kernel⟩, ⟨served (client 1), client 1, rfl, rfl⟩,
    ⟨{ readyState with mgmt := { readyState.mgmt with refusals := [{ credId := 9, blockedAt := some 0 }] } }, _, 0, rfl, rfl⟩,
    ⟨_, _, requests_served 3 none, rfl, rfl, rfl⟩, ⟨_, _, requests_served 2 none, rfl⟩, by decide, ⟨readyState, rfl⟩,
    ⟨served { client 1 with rxHigh := 164 }, { client 1 with rxHigh := 164 }, rfl, by decide⟩⟩
  refine ⟨{ readyState with
    mgmt := { readyState.mgmt with sessions := List.replicate 3 {} ++ List.replicate 12 { opened := true } }
    rng := { readyState.rng with internal := [{ instantiated := true, seeded := true }] }
    start := { readyState.start with mounted := true }
    od := [(0x101001, credBytes 9 3), (0x290001, [1])] }, credBytes 9 3, by decide +kernel⟩

/-- A state that serves one session, with a transaction. -/
def inTxn (x : Session) (t : Txn) : State := { served x with mgmt := { (served x).mgmt with txn := t } }

theorem requests_inTxn (role : Nat) (t : Txn) : Requests (inTxn (client role) t) lastReq (client role) := requests_of rfl rfl

/-- The transaction of the session that `client` gives. -/
def ownTxn (staged : List (Nat × Bytes)) : Txn := { open_ := true, id := 4294967295, session := 5, staged := staged }

/-- LIFE_CYCLE_STATE as its table defines it. -/
def lifeDef : EntryDef := { ty := .u 1, access := .ro, role := 1, persistent := false }

/-- POWER_CAP_W as its table defines it. -/
def capDef : EntryDef := { ty := .u 1, access := .rwt, role := 3, persistent := true, lo := 25, hi := 60, default := .num 60 }

theorem test_meets_reads_and_writes :
    (∃ s x k, Requests s lastReq x ∧ entryDef k = none) ∧
    (∃ s x k d, Requests s lastReq x ∧ entryDef k = some d ∧ s.hidden x k = false ∧ keyNum k ≠ 0x230005 ∧ x.role < d.role) ∧
    (∃ s x k d, Requests s lastReq x ∧ s.entryCheck x k true = .ok d ∧ d.access ≠ .wo ∧ d.ty.isDomain = false) ∧
    (∃ s x k d, Requests s lastReq x ∧ s.entryCheck x k false = .ok d ∧ d.access = .ro) ∧
    (∃ s x k e, Requests s lastReq x ∧ s.nextSeen x 1025 k = some e) ∧
    (∃ s x k d v, Requests s lastReq x ∧ s.entryCheck x k false = .ok d ∧ d.access = .rwt ∧ d.ty.isDomain = false ∧
      d.ty.sizeOk v.length = true ∧ lengthOk (keyNum k) v.length = true ∧ rangeOk (keyNum k) d v = true ∧
      s.ownsTxn x = false) ∧
    ∃ s x k d v, Requests s lastReq x ∧ s.entryCheck x k false = .ok d ∧ d.access = .rwt ∧ d.ty.isDomain = false ∧
      d.ty.sizeOk v.length = true ∧ lengthOk (keyNum k) v.length = true ∧ rangeOk (keyNum k) d v = true ∧
      s.ownsTxn x = true ∧ s.halted = false ∧ stageFits (stage (keyNum k) v s.mgmt.txn.staged) = true := by
  exact ⟨⟨_, _, ⟨0xFFFF, 0⟩, requests_served 1 none, by decide +kernel⟩,
    ⟨_, _, ⟨0x1200, 6⟩, capDef, requests_served 1 none, rfl, by decide +kernel⟩,
    ⟨_, _, ⟨0x1001, 2⟩, lifeDef, requests_served 1 none, rfl, by decide +kernel⟩,
    ⟨_, _, ⟨0x1001, 2⟩, lifeDef, requests_served 1 none, rfl, rfl⟩,
    ⟨_, _, ⟨0x1001, 2⟩, ⟨0x1001, 3⟩, requests_served 1 none, by decide +kernel⟩,
    ⟨_, _, ⟨0x1200, 6⟩, capDef, [60], requests_served 3 none, rfl, by decide +kernel⟩,
    ⟨_, _, ⟨0x1200, 6⟩, capDef, [25], requests_inTxn 3 (ownTxn []), rfl, by decide +kernel⟩⟩

theorem test_meets_transactions :
    (∃ s x, Requests s lastReq x ∧ s.halted = false ∧ s.mgmt.txn.open_ = false) ∧
    (∃ s x, Requests s lastReq x ∧ s.halted = false ∧ s.mgmt.txn.open_ = true) ∧
    (∃ s x, ∃ id : BitVec 32, Requests s lastReq x ∧ s.halted = false ∧ s.ownsTxn x = true ∧ s.mgmt.txn.id = id.toNat ∧
      s.warning = false ∧ s.lc.transition = none ∧ s.firstRefused s.mgmt.txn.staged = none ∧
      (s.mgmt.txn.staged.map (·.1)).Nodup ∧ ∃ p ∈ s.mgmt.txn.staged, p.1 ≠ 0x230005 ∧ p.1 ≠ 0x1F0007) ∧
    (∃ s x k, ∃ id : BitVec 32, Requests s lastReq x ∧ s.halted = false ∧ s.ownsTxn x = true ∧
      s.mgmt.txn.id = id.toNat ∧ s.warning = false ∧ s.lc.transition = none ∧
      s.firstRefused s.mgmt.txn.staged = some k) ∧
    (∃ s x, Requests s lastReq x ∧ s.halted = false ∧ s.ownsTxn x = false) ∧
    ∃ (s : State) (x : Session), s.mgmt.txn.open_ = true ∧ s.session s.mgmt.txn.session = some x :=
  ⟨⟨_, _, requests_served 3 none, rfl, rfl⟩, ⟨_, _, requests_inTxn 3 (ownTxn []), rfl, rfl⟩,
    ⟨_, _, 4294967295, requests_inTxn 3 (ownTxn [(0x120006, [25]), (0x130007, [1])]), rfl, by decide +kernel⟩,
    ⟨_, _, 0x210006, 4294967295, requests_inTxn 3 (ownTxn [(0x210006, le 2 799), (0x210007, le 2 799)]), rfl,
      by decide +kernel⟩,
    ⟨_, _, requests_served 3 none, rfl, rfl⟩, ⟨inTxn (client 3) (ownTxn []), client 3, rfl, rfl⟩⟩

/-- SHIELD_QUANTA as its table defines it. -/
def quantaDef : EntryDef := { ty := .domain 128, access := .rwt, role := 3, persistent := true, default := .quanta }

/-- UPDATE_SUBMIT as its table defines it. -/
def submitDef : EntryDef := { ty := .domain 16777216, access := .wo, role := 2, persistent := false }

/-- A transfer of a value of one segment and one byte. -/
def transfer (write : Bool) (segs : List (Nat × Bytes)) : BlockTransfer :=
  { key := 0x230009, write := write, total := 1025, snapshot := zeros 1025, segs := segs }

/-- The segments of that value, and all but the last. -/
def allSegs : List (Nat × Bytes) := [(0, zeros 1024), (1, [0])]

def someSegs : List (Nat × Bytes) := [(0, zeros 1024)]

/-- Transfers opened; a segment of a write and of a read, the last one short, and one past the end; transfers closed
with all segments under a digest of another length, and without them; a transfer timed out. -/
theorem test_meets_blocks :
    (∃ s x k d, Requests s lastReq x ∧ s.entryCheck x k true = .ok d ∧ d.access ≠ .wo ∧
      s.blockBusy x (keyNum k) d = false ∧ x.block = none) ∧
    (∃ s x k d, Requests s lastReq x ∧ s.entryCheck x k false = .ok d ∧ d.access ≠ .ro ∧ d.ty.sizeOk 1025 = true ∧
      lengthOk (keyNum k) 1025 = true ∧ s.blockBusy x (keyNum k) d = false ∧ x.block = none ∧ s.halted = false) ∧
    (∀ w : Bool, ∃ s x k b d, Requests s lastReq x ∧ x.block = some b ∧ b.key = keyNum k ∧
      s.entryCheck x k (!b.write) = .ok d ∧ b.write = w ∧ 1024 * 1 < b.total ∧ b.total ≤ 1024 * 2 ∧
      min 1024 (b.total - 1024 * 1) = [(0 : BitVec 8)].length) ∧
    (∃ s x k b d v digest, Requests s lastReq x ∧ x.block = some b ∧ b.key = keyNum k ∧
      s.entryCheck x k (!b.write) = .ok d ∧ b.write = true ∧ isCredential b.key = false ∧ b.content = some v ∧
      sha3_256 v ≠ digest) ∧
    (∃ s x k b d, Requests s lastReq x ∧ x.block = some b ∧ b.key = keyNum k ∧
      s.entryCheck x k (!b.write) = .ok d ∧ b.write = true ∧ isCredential b.key = false ∧ b.content = none) ∧
    ∃ (s : State) (x : Session) (b : BlockTransfer), s.session 5 = some x ∧ x.block = some b := by
  refine ⟨⟨_, _, ⟨0x2000, 1⟩, quantaDef, requests_served 4 none, rfl, by decide +kernel⟩,
    ⟨_, _, ⟨0x2300, 9⟩, submitDef, requests_served 4 none, rfl, by decide +kernel⟩,
    fun w => ⟨_, _, ⟨0x2300, 9⟩, transfer w [], submitDef, requests_served 4 (some (transfer w [])), rfl, rfl, ?_,
      rfl, by change 1024 < 1025; decide, by change 1025 ≤ 2048; decide,
      by change min 1024 (1025 - 1024 * 1) = 1; decide⟩,
    ⟨_, _, ⟨0x2300, 9⟩, transfer true allSegs, submitDef, zeros 1025, [],
      requests_served 4 (some (transfer true allSegs)), rfl, rfl, rfl, rfl, by decide +kernel,
      by decide +kernel, ?_⟩,
    ⟨_, _, ⟨0x2300, 9⟩, transfer true someSegs, submitDef,
      requests_served 4 (some (transfer true someSegs)), rfl, rfl, rfl, rfl, by decide +kernel,
      by decide +kernel⟩,
    ⟨served (client 4 (some (transfer true []))), client 4 (some (transfer true [])), _, rfl, rfl⟩⟩
  · cases w <;> rfl
  · exact fun h => absurd (congrArg List.length h) (by rw [sha3_256_length]; decide)

/-! ### Writes that act, the life cycle and debug -/

/-- An entry of CUSTODY_CARDS: serial 3, a digest of zeros. -/
def cardEntry : Bytes := fields [(8, 3)] ++ zeros 40

/-- A state with the card of that entry seated, identified and enrolled, in tier A and in its mirror. -/
def withCard (s : State) : State := { s with
  card := { s.card with state := .ready, step := 8, role := 2, serial := 3, keyDigest := []
                        cardMirror := [(0, cardEntry ++ s.mirrorTag cardEntry "KQ9-CARD-MIRROR")] }
  od := [(0x280010, cardEntry)], start := { s.start with mounted := true } }

theorem card_present (s : State) : (withCard s).cardPresent = true := by
  have tag : (withCard s).mirrorTag cardEntry "KQ9-CARD-MIRROR" = s.mirrorTag cardEntry "KQ9-CARD-MIRROR" := rfl
  have len : (s.mirrorTag cardEntry "KQ9-CARD-MIRROR").length = 32 := kmac256_length _ _ _ _
  have n48 : cardEntry.length = 48 := by decide +kernel
  have e1 : slice 48 32 (cardEntry ++ s.mirrorTag cardEntry "KQ9-CARD-MIRROR") =
      s.mirrorTag cardEntry "KQ9-CARD-MIRROR" := by
    rw [slice, ← n48, List.drop_left, ← len, List.take_length]
  have e2 : (cardEntry ++ s.mirrorTag cardEntry "KQ9-CARD-MIRROR").take 48 = cardEntry := by
    rw [← n48, List.take_left]
  have e3 : entryNames (cardEntry ++ s.mirrorTag cardEntry "KQ9-CARD-MIRROR") 3 [] = true := by
    unfold entryNames
    rw [Machine.fieldLe, slice_append_left (by rw [n48]; decide), slice_append_left (by rw [n48]; decide)]
    decide +kernel
  have mirror : ((withCard s).card.cardMirror.any fun m => entryNames m.2 3 [] &&
      slice 48 32 m.2 == (withCard s).mirrorTag (m.2.take 48) "KQ9-CARD-MIRROR") = true := by
    change (([(0, cardEntry ++ s.mirrorTag cardEntry "KQ9-CARD-MIRROR")] : List (Nat × Bytes)).any fun m =>
      entryNames m.2 3 [] && slice 48 32 m.2 == (withCard s).mirrorTag (m.2.take 48) "KQ9-CARD-MIRROR") = true
    rw [List.any_cons, e2, tag, e1, e3]
    simp
  have tierA : (cardEntries 32 ((withCard s).odBytes 0x280010)).any (fun e => entryNames e 3 []) = true := by
    change (cardEntries 32 cardEntry).any (fun e => entryNames e 3 []) = true
    decide +kernel
  have enrolled : (withCard s).cardEnrolled 3 [] = true := by
    unfold State.cardEnrolled
    split
    · exact tierA
    · exact mirror
  exact enrolled

theorem entryCheck_card {s : State} {x : Session} {k : OdKey} {d : EntryDef} (hd : entryDef k = some d)
    (hh : s.hidden x k = false) (hr : d.role ≤ x.role) (h5 : d.role ≠ 5) (hc : s.cardPresent = true) :
    s.entryCheck x k false = .ok d := by
  have : ¬ x.role < d.role := by omega
  simp [State.entryCheck, hd, hh, h5, hc, this]

/-- A WO entry of one number, with the card or without. -/
def actDef (role : Nat) (card : Bool) : EntryDef :=
  { ty := .u 4, access := .wo, role := role, persistent := false, card := card, hi := 4294967295 }

theorem writes_card {s : State} (key : Nat) (h : s.session 5 = some (client 4)) (z : s.zynboServes = true)
    (hd : entryDef (keyOf key) = some (actDef 4 true)) (hh : s.hidden (client 4) (keyOf key) = false)
    (hc : s.cardPresent = true) (hl : lengthOk key 4 = true) : WritesOnce s lastReq (client 4) key 4 :=
  ⟨requests_of h z, ⟨_, entryCheck_card hd hh (Nat.le_refl 4) (show 4 ≠ 5 by decide) hc, rfl, rfl, rfl⟩, hl⟩

/-- A device that serves a CUSTODIAN with a card. -/
def carded (f : State → State) : State := withCard (f (served (client 4)))

theorem writes_carded (f : State → State) (key : Nat) (h : (f (served (client 4))).session 5 = some (client 4))
    (z : (f (served (client 4))).zynboServes = true) (hd : entryDef (keyOf key) = some (actDef 4 true))
    (hh : (keyOf key).index.toNat < 0x1800 ∨ 0x1BFF < (keyOf key).index.toNat) (hl : lengthOk key 4 = true) :
    WritesOnce (carded f) lastReq (client 4) key 4 := by
  refine writes_card key h z hd ?_ (card_present _) hl
  unfold State.hidden client
  simp only [Bool.and_eq_false_iff, decide_eq_false_iff_not]
  omega

theorem test_meets_acting_writes :
    (∃ s x, WritesOnce s lastReq x 0x11000B 4 ∧ s.halted = true) ∧
    (∃ s x, WritesOnce s lastReq x 0x11000B 4 ∧ s.halted = false) ∧
    (∃ s x, ∃ v : Bytes, WritesOnce s lastReq x 0x290026 v.length ∧ s.halted = false ∧ s.timeState = 0) ∧
    (∃ s x, ∃ v : Bytes, WritesOnce s lastReq x 0x290026 v.length ∧ s.halted = false ∧ s.timeState ≠ 0) ∧
    (∃ s x, WritesOnce s lastReq x 0x250006 4 ∧ s.halted = false ∧ s.lcState = 3 ∧ s.lc.transition = none) ∧
    (∃ s x, WritesOnce s lastReq x 0x250006 4 ∧ s.halted = false ∧ s.lcState ≠ 3) ∧
    (∃ s x, WritesOnce s lastReq x 0x23000D 4 ∧ s.halted = false ∧ s.otp.genBits = 4095 ∧ s.start.readOnly = false ∧
      s.lc.transition = none) ∧
    (∃ s x, WritesOnce s lastReq x 0x270003 4 ∧ s.halted = false ∧ s.warning = false ∧ s.lc.transition = none ∧
      s.canCommit = true) ∧
    ∃ s x, WritesOnce s lastReq x 0x270007 4 ∧ s.halted = false := by
  have time (f : State → State) (h : (f (served (client 3))).session 5 = some (client 3))
      (z : (f (served (client 3))).zynboServes = true)
      (e : (f (served (client 3))).entryCheck (client 3) (keyOf 0x290026) false =
        .ok { ty := .time64, access := .wo, role := 3, persistent := false }) :
      WritesOnce (f (served (client 3))) lastReq (client 3) 0x290026 (zeros 8).length :=
    ⟨requests_of h z, ⟨_, e, rfl, rfl, rfl⟩, rfl⟩
  refine ⟨⟨carded fun s => { s with start := { s.start with phase := .halted } }, _, writes_carded _ _ rfl rfl
      (by decide +kernel) (by decide) rfl, rfl⟩,
    ⟨carded id, _, writes_carded _ _ rfl rfl (by decide +kernel) (by decide) rfl, rfl⟩,
    ⟨_, _, zeros 8, time (fun s => { s with od := [(0x290020, [0])] }) rfl rfl (by decide +kernel), rfl, by decide +kernel⟩,
    ⟨_, _, zeros 8, time (fun s => { s with clk := { s.clk with devTime := some 0, timeState := 2 } }) rfl rfl
      (by decide +kernel), rfl, by decide +kernel⟩,
    ⟨carded (otpState 3), _, writes_carded _ _ rfl rfl (by decide +kernel) (by decide) rfl, rfl, ?_, rfl⟩,
    ⟨carded (otpState 2), _, writes_carded _ _ rfl rfl (by decide +kernel) (by decide) rfl, rfl, ?_⟩,
    ⟨carded fun s => { s with otp := { s.otp with genBits := 4095 } }, _, writes_carded _ _ rfl rfl (by decide +kernel)
      (by decide) rfl, rfl, rfl, rfl, rfl⟩,
    ⟨carded id, _, writes_carded _ _ rfl rfl (by decide +kernel) (by decide) rfl, rfl, rfl, rfl, rfl⟩,
    ⟨served (client 2), client 2, ⟨requests_served 2 none, ⟨actDef 2 false, by decide +kernel, rfl, rfl, rfl⟩, rfl⟩,
      rfl⟩⟩
  · change (otpState 3 State.reset).lcState = 3
    decide +kernel
  · change (otpState 2 State.reset).lcState ≠ 3
    decide +kernel

/-- A device in TEST that serves a FACTORY session, with a digest for FACTORY and one for SCRAP in its OTP. -/
def tokenState (d : Bytes) : State := otpState 1 { served (client 5) with
  otp := { State.reset.otp with dFactory := some d, dScrapV := some d } }

theorem token_accepted (c : LcChannel) (target : Nat) (h : (c, target) = (.session 5, 2) ∨ (c, target) = (.debug, 5)) :
    (tokenState (sha3_256 (zeros 32))).lcRefusal c target (zeros 32) = none := by
  generalize hd : sha3_256 (zeros 32) = d
  have v : (tokenState d).lcState = 1 := by
    change (otpState 1 State.reset).lcState = 1
    decide +kernel
  have i : (tokenState d).freeIntent = some 0 := by
    change (otpState 1 State.reset).freeIntent = some 0
    decide +kernel
  have w : (tokenState d).warning = false ∧ (tokenState d).inTransition = false ∧ (tokenState d).ready = true ∧
      (tokenState d).lc.tokenFails = 0 := ⟨rfl, rfl, rfl, rfl⟩
  have t : (tokenState d).tokenDigests 2 = [d] ∧ (tokenState d).tokenDigests 5 = [d] := ⟨rfl, rfl⟩
  unfold State.lcRefusal
  obtain h | h := h <;> cases h <;> simp [v, i, w, t, hd, successor, State.lcChannelOk]

theorem token_refused (c : LcChannel) (target : Nat) (h : (c, target) = (.session 5, 2) ∨ (c, target) = (.debug, 5)) :
    (tokenState []).lcRefusal c target (zeros 32) = some 6 := by
  have hd : sha3_256 (zeros 32) ≠ [] := fun e => absurd (congrArg List.length e) (by rw [sha3_256_length]; decide)
  have v : (tokenState []).lcState = 1 := by
    change (otpState 1 State.reset).lcState = 1
    decide +kernel
  have i : (tokenState []).freeIntent = some 0 := by
    change (otpState 1 State.reset).freeIntent = some 0
    decide +kernel
  have w : (tokenState []).warning = false ∧ (tokenState []).inTransition = false ∧ (tokenState []).ready = true ∧
      (tokenState []).lc.tokenFails = 0 := ⟨rfl, rfl, rfl, rfl⟩
  have t : (tokenState []).tokenDigests 2 = [[]] ∧ (tokenState []).tokenDigests 5 = [[]] := ⟨rfl, rfl⟩
  unfold State.lcRefusal
  obtain h | h := h <;> cases h <;> simp [v, i, w, t, hd, successor, State.lcChannelOk]

/-- Transition requests that pass every check, that fail the first, and whose token is wrong, from a session and at the
debug port; the end of a wipe; challenges open, closed and expired; a waiting record. That the signature of a debug
response verifies is the algorithm's answer. -/
theorem test_meets_transitions :
    (∃ s x target i, WritesOnce s lastReq x 0x250001 36 ∧ s.halted = false ∧ target < 256 ∧
      s.lcRefusal (.session x.role) target (zeros 32) = none ∧ s.freeIntent = some i) ∧
    (∀ n ∈ [1, 6], ∃ s x target, WritesOnce s lastReq x 0x250001 36 ∧ s.halted = false ∧ target < 256 ∧
      s.lcRefusal (.session x.role) target (zeros 32) = some n) ∧
    (∃ (s : State) (t0 : Transition), s.lc.transition = some t0 ∧ t0.wiping = true ∧ s.warning = false ∧
      s.otp.copies.length = 3 ∧ t0.target = 5) ∧
    (∃ s : State, s.pwr.dieOn = true ∧ s.lcState ≠ 5 ∧ s.internalServes = true) ∧
    (∃ s : State, s.pwr.dieOn = true ∧ s.lcState = 5) ∧
    (∃ s : State, s.pwr.dieOn = true ∧ s.lcState ≠ 5 ∧ s.responseRefused [] = true) ∧
    (∃ (s : State) (target i : Nat), s.pwr.dieOn = true ∧ s.lcState ≠ 5 ∧
      s.lcRefusal .debug target (zeros 32) = none ∧ s.freeIntent = some i) ∧
    (∀ n ∈ [1, 6], ∃ (s : State) (target : Nat), s.pwr.dieOn = true ∧ s.lcState ≠ 5 ∧
      s.lcRefusal .debug target (zeros 32) = some n) ∧
    (∃ (s : State) (c : Bytes) (n : Nat), s.lc.challenge = some (c, n)) ∧
    ∃ (s : State) (e : Event) (rest : List Event), s.log.buffer = e :: rest ∧ s.canCommit = true := by
  have writes : ∀ d, WritesOnce (tokenState d) lastReq (client 5) 0x250001 36 := by
    intro d
    refine ⟨requests_of rfl rfl, ⟨{ ty := .octets 36, access := .wo, role := 4, persistent := false }, ?_, rfl, rfl, rfl⟩,
      rfl⟩
    change (tokenState []).entryCheck (client 5) (keyOf 0x250001) false = _
    decide +kernel
  have intent : ∀ d, (tokenState d).freeIntent = some 0 := by
    intro d
    change (tokenState []).freeIntent = some 0
    decide +kernel
  have life : ∀ d, (tokenState d).lcState ≠ 5 := by
    intro d
    change (tokenState []).lcState ≠ 5
    decide +kernel
  refine ⟨⟨_, _, 2, 0, writes _, rfl, by decide, token_accepted _ _ (.inl rfl), intent _⟩, fun n hn => ?_,
    ⟨{ readyState with lc := { readyState.lc with transition := some { target := 5, wiping := true } } }, _, rfl, rfl, rfl,
      rfl, rfl⟩,
    ⟨{ readyState with rng := { readyState.rng with internal := [{ instantiated := true, seeded := true }] } },
      by decide +kernel⟩, ⟨otpState 5 readyState, rfl, by decide +kernel⟩, ⟨readyState, rfl, by decide +kernel⟩,
    ⟨tokenState (sha3_256 (zeros 32)), 5, 0, rfl, life _, token_accepted _ _ (.inr rfl), intent _⟩, fun n hn => ?_,
    ⟨{ readyState with lc := { readyState.lc with challenge := some ([], 0) } }, _, _, rfl⟩,
    ⟨{ readyState with log := { readyState.log with buffer := [{}] } }, _, _, rfl, by decide +kernel⟩⟩
  · simp only [List.mem_cons, List.not_mem_nil, or_false] at hn
    obtain rfl | rfl := hn
    · exact ⟨_, _, 255, writes [], rfl, by decide, by decide +kernel⟩
    · exact ⟨_, _, 2, writes [], rfl, by decide, token_refused _ _ (.inl rfl)⟩
  · simp only [List.mem_cons, List.not_mem_nil, or_false] at hn
    obtain rfl | rfl := hn
    · exact ⟨tokenState [], 255, rfl, life _, by decide +kernel⟩
    · exact ⟨tokenState [], 5, rfl, life _, token_refused _ _ (.inr rfl)⟩

/-! ### Ports, time and the mailbox -/

/-- A device that uses its four ports, the last one holding the last instance. -/
def portState (perst : Bool) : State := { readyState with
  start := { readyState.start with bifurcation := 3 }
  ports := [{}, {}, {}, { perst := perst, linkUp := !perst, base := 1023, count := 1 }]
  od := [(0x140043, le 2 1039)] }

/-- That device with its last instance in a state. -/
def vfState (n : Inst) : State := { portState false with insts := [(1023, n)] }

/-- That device at a time. -/
def clockState (n : Nat) : State := { portState false with clk := { (portState false).clk with uptimeNs := n } }

theorem test_meets_ports :
    (∃ s : State, s.ports.length = 4 ∧ (s.port (3 : Fin 4)).perst = true) ∧
    (∃ s : State, (s.port (3 : Fin 4)).perst = false) ∧
    (∃ s : State, s.ports.length = 4 ∧ s.portLives (3 : Fin 4) = true) ∧
    (∃ s : State, s.portLives (3 : Fin 4) = false) ∧
    (∀ st ∈ [InstState.created, .enabled, .frozen], ∃ s : State, 4 ≤ (1023 : Fin 1024).val ∧
      (s.inst (1023 : Fin 1024)).state = st) ∧
    (∃ s : State, s.portLives (3 : Fin 4) = true ∧ (s.port (3 : Fin 4)).perst = true) ∧
    (∃ s : State, s.portLives (3 : Fin 4) = true ∧ (s.port (3 : Fin 4)).perst = false ∧
      s.now = (s.port (3 : Fin 4)).perstAt + 100000000 - 1) ∧
    (∃ s : State, s.portLives (3 : Fin 4) = true ∧ (s.port (3 : Fin 4)).perst = false ∧
      (s.port (3 : Fin 4)).perstAt + 100000000 = s.now ∧ s.start.phase = .ready) ∧
    ∃ s : State, s.portLives (3 : Fin 4) = true ∧ (s.port (3 : Fin 4)).perst = false ∧
      (s.port (3 : Fin 4)).perstAt + 100000000 = s.now ∧ s.start.phase ≠ .ready ∧ s.start.phase ≠ .halted ∧
      s.lcState ∈ [1, 2, 3, 4] := by
  refine ⟨⟨portState true, rfl, rfl⟩, ⟨portState false, rfl⟩, ⟨portState true, rfl, by decide +kernel⟩,
    ⟨readyState, by decide +kernel⟩, fun st _ => ⟨vfState { state := st }, by decide, rfl⟩,
    ⟨portState true, by decide +kernel⟩, ⟨clockState 99999999, by decide +kernel⟩,
    ⟨clockState 100000000, by decide +kernel⟩,
    ⟨{ clockState 100000000 with start := { (portState false).start with phase := .archive } }, by decide +kernel⟩⟩

/-- A state with one entry of the dictionary set. -/
def odState (k : Nat) (v : Bytes) (s : State) : State := { s with od := [(k, v)] }

/-- Completions with and without a permission for a job before and after its input; a cached entry; each time source
chosen and not chosen; frames of the port's VLAN and of another, the port's own address and another. -/
theorem test_meets_translations_and_time :
    (∀ ph ∈ [JobPhase.dispatched, .pinned, .running, .computed], ∃ (s : State) (j : Job),
      s.job (16383 : Fin 16384) = some j ∧ j.phase = ph) ∧
    (∃ (s : State) (e : AtcEntry), s.trans.atc.find? (fun e => e.inst == (1023 : Fin 1024).val && e.meets 4095 1) = some e) ∧
    (∀ p : Fin 4, ∃ s : State, p.val < s.ports.length ∧ s.odNum 0x290020 = p.val + 2 ∧ (s.port p).linkUp = true ∧
      s.clk.devTime.isSome = true) ∧
    (∀ p : Fin 4, ∃ s : State, p.val < s.ports.length ∧ s.odNum 0x290020 ≠ p.val + 2) ∧
    (∃ (s : State) (vlan : Nat), vlan ≠ s.odNum 0x290009) ∧
    (∃ (s : State) (vlan domain : Nat), vlan = s.odNum 0x290009 ∧ s.odNum 0x290020 = 1 ∧ domain = s.odNum 0x290023) ∧
    (∃ (s : State) (vlan : Nat), vlan = s.odNum 0x290009 ∧ s.odNum 0x290020 ≠ 1) ∧
    (∃ s : State, s.odNum 0x290020 = 1 ∧ s.clk.devTime.isSome = true ∧ s.clk.timeState = 2) ∧
    (∃ s : State, s.clk.devTime.isSome = true ∧ s.clk.timeState = 3 ∧ logTakes s 2) ∧
    (∃ (s : State) (a : Bytes) (vlan : Nat), vlan = s.odNum 0x290009 ∧ s.ownAddress false a = true) ∧
    ∃ (s : State) (a : Bytes) (vlan : Nat), vlan = s.odNum 0x290009 ∧ s.ownAddress false a = false := by
  refine ⟨fun ph _ => ⟨opState { phase := ph }, _, rfl, rfl⟩,
    ⟨{ readyState with trans := { readyState.trans with atc := [{ inst := 1023, base := 0, len := 4096 }] } },
      { inst := 1023, base := 0, len := 4096 }, by decide +kernel⟩,
    fun p => ⟨odState 0x290020 [BitVec.ofNat 8 (p.val + 2)] { readyState with
      ports := List.replicate 4 { linkUp := true }, clk := { readyState.clk with devTime := some 0 } },
      by revert p; decide +kernel⟩,
    fun p => ⟨odState 0x290020 [0] readyState, by revert p; decide +kernel⟩, ⟨readyState, 65535, by decide +kernel⟩,
    ⟨odState 0x290020 [1] readyState, _, _, rfl, by decide +kernel, rfl⟩,
    ⟨odState 0x290020 [0] readyState, _, rfl, by decide +kernel⟩,
    ⟨odState 0x290020 [1] { readyState with clk := { readyState.clk with devTime := some 0, timeState := 2 } },
      by decide +kernel⟩,
    ⟨{ readyState with clk := { readyState.clk with devTime := some 0, timeState := 3 } }, rfl, rfl,
      by unfold logTakes; decide +kernel⟩,
    ⟨odState 0x290006 [10, 0, 0, 1] readyState, [10, 0, 0, 1], _, rfl, by decide +kernel⟩,
    ⟨readyState, zeros 4, _, rfl, by decide +kernel⟩⟩

/-- The largest configuration. -/
def topArgs : CreateArgs := { n := 1023, qpCount := 1023, vecCount := 128, weight := 4096 }

/-- Every command about an instance, in each state it takes, in one it does not, and out of range; a configuration that
is too large; states of a mailbox. -/
theorem test_meets_mailbox :
    (∀ row ∈ mailRows topArgs 0 0 0, ∃ s : State, s.ports.length = 4 ∧ s.mailServed (3 : Fin 4) = true ∧
      s.mailRange (3 : Fin 4) (4 : BitVec 16).toNat = false) ∧
    (∀ row ∈ mailRows topArgs 0 0 0, ∃ s : State, s.ports.length = 4 ∧ s.mailServed (3 : Fin 4) = true ∧
      s.mailRange (3 : Fin 4) (1023 : BitVec 16).toNat = true ∧ (s.inst (1023 : BitVec 16).toNat).state ∉ row.states ∧
      (row.code = 1 → s.configOk (3 : Fin 4) (configOf topArgs) = true) ∧
      (row.code = 3 → s.configOk (3 : Fin 4) (configOver topArgs (s.inst (1023 : BitVec 16).toNat)) = true)) ∧
    (∃ s : State, MailOpen s 3 ∧ Names s 3 topArgs.n [.unallocated] ∧ (s.inst topArgs.n.toNat).migBusy = none ∧
      s.configOk (3 : Fin 4) (configOf topArgs) = true ∧ s.shareTakes (3 : Fin 4) (configOf topArgs) (0, 0) = true) ∧
    (∃ s : State, MailOpen s 3 ∧ s.mailRange (3 : Fin 4) topArgs.n.toNat = true ∧
      s.configOk (3 : Fin 4) (configOf { topArgs with qpCount := 1024 }) = false) ∧
    (∃ s : State, MailOpen s 3 ∧ Names s 3 topArgs.n [.created, .frozen] ∧
      s.configOk (3 : Fin 4) (configOver topArgs (s.inst topArgs.n.toNat)) = true ∧
      s.shareTakes (3 : Fin 4) (configOver topArgs (s.inst topArgs.n.toNat))
        ((s.inst topArgs.n.toNat).qpCount, (s.inst topArgs.n.toNat).vecCount) = true) ∧
    (∀ st, ∃ s : State, MailOpen s 3 ∧ Names s 3 1023 [st] ∧ (s.inst (1023 : BitVec 16).toNat).migBusy = none) := by
  have open_ : ∀ n : Inst, MailOpen (vfState n) 3 := fun n => ⟨rfl, rfl, rfl⟩
  have range : ∀ n : Inst, (vfState n).mailRange (3 : Fin 4) 1023 = true := fun n => by
    change (vfState {}).mailRange (3 : Fin 4) 1023 = true
    decide +kernel
  refine ⟨fun _ _ => ⟨vfState {}, rfl, rfl, by decide +kernel⟩, fun row h => ?_,
    ⟨vfState {}, open_ _, ⟨range _, by decide +kernel⟩, rfl, by decide +kernel⟩,
    ⟨vfState {}, open_ _, range _, by decide +kernel⟩,
    ⟨vfState { state := .frozen }, open_ _, ⟨range _, by decide +kernel⟩, by decide +kernel⟩,
    fun st => ⟨vfState { state := st }, open_ _, ⟨range _, List.mem_singleton.2 rfl⟩, rfl⟩⟩
  refine ⟨vfState { state := if row.states.contains .unallocated then .created else .unallocated }, rfl, rfl, range _, ?_, ?_⟩
  · change (if row.states.contains .unallocated then InstState.created else .unallocated) ∉ row.states
    simp only [mailRows, List.mem_cons, List.not_mem_nil, or_false] at h
    rcases h with rfl | rfl | rfl | rfl | rfl | rfl | rfl | rfl | rfl | rfl | rfl | rfl <;> decide
  · refine ⟨fun _ => ?_, fun _ => ?_⟩
    · change (vfState {}).configOk (3 : Fin 4) (configOf topArgs) = true
      decide +kernel
    · change (vfState {}).configOk (3 : Fin 4) (configOf topArgs) = true
      decide +kernel

/-- The ends of freezes, resets and destructions, with and without a job of the instance. -/
theorem test_meets_instance_states :
    (∃ s : State, (s.inst (1023 : Fin 1024)).drain = some .freeze ∧ s.jobsOf (1023 : Fin 1024) = []) ∧
    (∃ s : State, (s.inst (1023 : Fin 1024)).drain = some .freeze ∧ s.jobsOf (1023 : Fin 1024) ≠ []) ∧
    (∃ s : State, (s.inst (1023 : Fin 1024)).state = .resetting ∧ s.jobsOf (1023 : Fin 1024) = [] ∧
      (s.inst (1023 : Fin 1024)).wasEnabled = false ∧ (s.inst (1023 : Fin 1024)).reseeding = false) ∧
    (∃ s : State, (s.inst (1023 : Fin 1024)).state = .resetting ∧ s.jobsOf (1023 : Fin 1024) = [] ∧
      (s.inst (1023 : Fin 1024)).wasEnabled = true ∧ (s.inst (1023 : Fin 1024)).reseeding = true ∧
      (s.inst (1023 : Fin 1024)).drbg.seeded = true) ∧
    ∃ s : State, (s.inst (1023 : Fin 1024)).state = .destroying ∧ s.jobsOf (1023 : Fin 1024) = [] :=
  ⟨⟨vfState { drain := some .freeze }, rfl, rfl⟩,
    ⟨{ vfState { drain := some .freeze } with jobs := [(0, { inst := 1023 })] }, rfl, by decide +kernel⟩,
    ⟨vfState { state := .resetting }, rfl, rfl, rfl, rfl⟩,
    ⟨vfState { state := .resetting, wasEnabled := true, reseeding := true, drbg := { seeded := true } }, rfl, rfl, rfl, rfl,
      rfl⟩,
    ⟨vfState { state := .destroying }, rfl, rfl⟩⟩

/-- A migration at work, with a domain or without, and one record that stays behind or none. -/
def migState (w : MigWork) (domain : Option Bytes) (records : List (Nat × KeyRecord)) : State :=
  { vfState { migBusy := some w } with keys := { (vfState {}).keys with domainSecret := domain, records := records } }

theorem test_meets_migration :
    (∃ s : State, ∃ w : MigWork, (s.inst (1023 : Fin 1024)).migBusy = some w ∧ w.save = true ∧ s.keys.domainSecret = none) ∧
    (∃ s : State, ∃ w : MigWork, (s.inst (1023 : Fin 1024)).migBusy = some w ∧ w.save = true ∧
      s.keys.domainSecret ≠ none ∧ w.omitOthers = false ∧
      ∃ r ∈ s.keys.records, r.2.owner = (1023 : Fin 1024).val ∧ (r.2.flag 2 = false ∨ r.2.flag 4 = true)) ∧
    (∃ s : State, ∃ w : MigWork, (s.inst (1023 : Fin 1024)).migBusy = some w ∧ w.save = true ∧
      s.keys.domainSecret ≠ none ∧ w.omitOthers = true) ∧
    (∃ s : State, ∃ w : MigWork, (s.inst (1023 : Fin 1024)).migBusy = some w ∧ w.save = true ∧
      s.keys.domainSecret ≠ none ∧
      ¬∃ r ∈ s.keys.records, r.2.owner = (1023 : Fin 1024).val ∧ (r.2.flag 2 = false ∨ r.2.flag 4 = true)) ∧
    (∃ s : State, ∃ w : MigWork, (s.inst (1023 : Fin 1024)).migBusy = some w ∧ w.save = false ∧
      s.portOf (1023 : Fin 1024) = some 3 ∧ s.keys.domainSecret ≠ none ∧
      s.imageCheck (1023 : Fin 1024) 3 { tagOk := true, domain := s.keys.domainId, inst := 1023, config := topArgs } = .ok) := by
  refine ⟨⟨migState { save := true } none [], _, rfl, rfl, rfl⟩,
    ⟨migState { save := true, omitOthers := false } (some []) [(0, { owner := 1023 })], _, rfl, rfl, by decide +kernel⟩,
    ⟨migState { save := true, omitOthers := true } (some []) [], _, rfl, rfl, by decide +kernel⟩,
    ⟨migState { save := true } (some []) [], _, rfl, rfl, by decide +kernel, by decide +kernel⟩,
    ⟨migState { save := false } (some []) [], _, rfl, rfl, by decide +kernel⟩⟩

/-- Open slots: a user of another port, a key that its class does not take, a key for the last slot, empty and full;
slot numbers at the end of the range and beyond it. -/
theorem test_meets_open_slots :
    (∃ s : State, s.ports.length = 4 ∧ s.mailServed (3 : Fin 4) = true ∧ s.portOf (4 : BitVec 16).toNat ≠ some (3 : Fin 4).val) ∧
    (∃ (s : State) (a : OpenSlotArgs), s.ports.length = 4 ∧ s.mailServed (3 : Fin 4) = true ∧
      s.portOf a.user.toNat = some (3 : Fin 4).val ∧ openSlotOk a = false) ∧
    (∀ full : Bool, ∃ (s : State) (a : OpenSlotArgs), s.ports.length = 4 ∧ s.mailServed (3 : Fin 4) = true ∧
      s.portOf a.user.toNat = some (3 : Fin 4).val ∧ openSlotOk a = true ∧ s.mailClosed = false ∧ a.slotNo = 1023 ∧
      (look (1024 * (3 : Fin 4).val + a.slotNo.toNat) s.keys.slots).isSome = full) ∧
    ∃ s : State, MailOpen s 3 ∧ 1023 < (1024 : BitVec 16).toNat ∧ (1023 : BitVec 16).toNat ≤ 1023 := by
  refine ⟨⟨vfState {}, rfl, rfl, by decide +kernel⟩, ⟨vfState {}, { user := 1023 }, rfl, rfl, by decide +kernel⟩,
    fun full => ?_, ⟨vfState {}, ⟨rfl, rfl, rfl⟩, by decide⟩⟩
  refine ⟨{ vfState {} with keys := { (vfState {}).keys with slots := if full then [(4095, {})] else [] } },
    { slotNo := 1023, user := 1023, cls := 5, keyLen := 64, binding := 0x0B40 }, rfl, rfl, ?_⟩
  revert full
  decide +kernel

/-! ### Rings, the job path and the engines -/

/-- The last instance with a last queue pair. -/
def qpInst (st : InstState) (x : Qp) : Inst := { state := st, qpCount := 1023, qps := List.replicate 1022 {} ++ [x] }

def qpState (st : InstState) (x : Qp) : State := vfState (qpInst st x)

theorem last_of (n : Nat) (x : Qp) : (List.replicate n ({} : Qp) ++ [x])[n]? = some x := by simp

theorem qp_last {s : State} {st : InstState} {x : Qp} (h : s.inst 1023 = qpInst st x) :
    s.qp (1023 : Fin 1024) (1022 : Fin 1023) = some x := by
  change (s.inst 1023).qps[1022]? = some x
  rw [h]
  exact last_of 1022 x

theorem works (x : Qp) (a : x.state = .active) (e : x.enable = true) :
    Works (qpState .enabled x) (1023 : Fin 1024) (1022 : Fin 1023) x :=
  ⟨qp_last rfl, a, e, rfl, Nat.zero_lt_succ 63⟩

/-- A job of the last queue pair. -/
def ringJob : Job := { inst := 1023, qp := 1022 }

/-- QP_CTRL in each state of a queue pair and its instance, with jobs and without; a doorbell that fills the ring and
one that says one entry more, for the smallest and the largest ring; a withdrawal of all that is held, and one of more
than the ring holds; a completion doorbell on a full ring, and one that says more. -/
theorem test_meets_doorbells :
    (∀ st ∈ [InstState.enabled, .created], ∃ (s : State) (x : Qp), ∃ v : BitVec 32, s.qp (1023 : Fin 1024) (1022 : Fin 1023) = some x ∧
      x.state = .disabled ∧ s.instState (1023 : Fin 1024) = st ∧ 4 = v.toNat / 16 % 16) ∧
    (∃ (s : State) (x : Qp), ∃ v : BitVec 32, s.qp (1023 : Fin 1024) (1022 : Fin 1023) = some x ∧ x.state = .active ∧
      v.toNat / 16 % 16 ≠ x.log2) ∧
    (∃ (s : State) (x : Qp), ∃ v : BitVec 32, s.qp (1023 : Fin 1024) (1022 : Fin 1023) = some x ∧ x.state = .active ∧
      v.toNat / 16 % 16 = x.log2 ∧ v.getLsbD 1 ≠ x.ordered) ∧
    (∃ (s : State) (x : Qp), s.qp (1023 : Fin 1024) (1022 : Fin 1023) = some x ∧ x.state = .active ∧ x.errCode ≠ 7 ∧
      s.jobsOfQp (1023 : Fin 1024) (1022 : Fin 1023) = []) ∧
    (∃ (s : State) (x : Qp), s.qp (1023 : Fin 1024) (1022 : Fin 1023) = some x ∧ x.state = .active ∧ x.errCode ≠ 7 ∧
      s.jobsOfQp (1023 : Fin 1024) (1022 : Fin 1023) ≠ []) ∧
    (∀ l ∈ [4, 16], ∃ (s : State) (x : Qp), ∃ index : BitVec 17, Works s (1023 : Fin 1024) (1022 : Fin 1023) x ∧ x.log2 = l ∧
      index.toNat < 2 * 2 ^ x.log2 ∧
      x.held + (index.toNat + 2 * 2 ^ x.log2 - x.p) % (2 * 2 ^ x.log2) = 2 ^ x.log2) ∧
    (∀ l ∈ [4, 16], ∃ (s : State) (x : Qp), ∃ index : BitVec 17, Works s (1023 : Fin 1024) (1022 : Fin 1023) x ∧ x.log2 = l ∧
      index.toNat < 2 * 2 ^ x.log2 ∧
      x.held + (index.toNat + 2 * 2 ^ x.log2 - x.p) % (2 * 2 ^ x.log2) = 2 ^ x.log2 + 1) ∧
    (∃ (s : State) (x : Qp), ∃ index : BitVec 17, Works s (1023 : Fin 1024) (1022 : Fin 1023) x ∧ 2 * 2 ^ x.log2 = index.toNat) ∧
    (∃ (s : State) (x : Qp), ∃ index : BitVec 17, Works s (1023 : Fin 1024) (1022 : Fin 1023) x ∧ index.toNat < 2 * 2 ^ x.log2 ∧
      (x.p + 2 * 2 ^ x.log2 - index.toNat) % (2 * 2 ^ x.log2) = x.held) ∧
    (∃ (s : State) (x : Qp), ∃ index : BitVec 17, Works s (1023 : Fin 1024) (1022 : Fin 1023) x ∧ index.toNat < 2 * 2 ^ x.log2 ∧
      (x.p + 2 * 2 ^ x.log2 - index.toNat) % (2 * 2 ^ x.log2) = 2 ^ x.log2 + 1 ∧ x.held ≤ 2 ^ x.log2) ∧
    (∃ (s : State) (x : Qp), s.qp (1023 : Fin 1024) (1022 : Fin 1023) = some x ∧ x.state = .disabled) ∧
    (∃ (s : State) (x : Qp), ∃ index : BitVec 17, Works s (1023 : Fin 1024) (1022 : Fin 1023) x ∧ index.toNat < 2 * 2 ^ x.log2 ∧
      (x.q + 2 * 2 ^ x.log2 - index.toNat) % (2 * 2 ^ x.log2) = 2 ^ x.log2 ∧ (s.inst (1023 : Fin 1024)).held = []) ∧
    ∃ (s : State) (x : Qp), ∃ index : BitVec 17, Works s (1023 : Fin 1024) (1022 : Fin 1023) x ∧ index.toNat < 2 * 2 ^ x.log2 ∧
      (x.q + 2 * 2 ^ x.log2 - index.toNat) % (2 * 2 ^ x.log2) = 2 ^ x.log2 + 1 := by
  refine ⟨fun st _ => ⟨qpState st {}, {}, 0x40, qp_last rfl, rfl, rfl, by decide⟩,
    ⟨qpState .enabled { state := .active }, { state := .active }, 0x50, qp_last rfl, rfl, by decide⟩,
    ⟨qpState .enabled { state := .active }, { state := .active }, 0x42, qp_last rfl, rfl, by decide, by decide⟩,
    ⟨qpState .enabled { state := .active }, { state := .active }, qp_last rfl, rfl, by decide, rfl⟩,
    ⟨{ qpState .enabled { state := .active } with jobs := [(0, ringJob)] }, { state := .active }, qp_last rfl, rfl,
      by decide, by decide +kernel⟩,
    fun l hl => ⟨_, { state := .active, enable := true, log2 := l }, BitVec.ofNat 17 (2 ^ l), works _ rfl rfl, rfl,
      by revert l; decide +kernel⟩,
    fun l hl => ⟨_, { state := .active, enable := true, log2 := l }, BitVec.ofNat 17 (2 ^ l + 1), works _ rfl rfl, rfl,
      by revert l; decide +kernel⟩,
    ⟨_, { state := .active, enable := true }, 32, works _ rfl rfl, by decide +kernel⟩,
    ⟨_, { state := .active, enable := true, p := 16 }, 0, works _ rfl rfl, by decide +kernel⟩,
    ⟨_, { state := .active, enable := true, p := 5 }, 20, works _ rfl rfl, by decide +kernel⟩,
    ⟨qpState .enabled {}, {}, qp_last rfl, rfl⟩,
    ⟨_, { state := .active, enable := true, q := 16 }, 0, works _ rfl rfl, by decide +kernel, by decide +kernel, rfl⟩,
    ⟨_, { state := .active, enable := true, q := 17 }, 0, works _ rfl rfl, by decide +kernel⟩⟩

/-- A state with one job in the last slot, of an entry. -/
def entryState (ph : JobPhase) (e : SqEntry) : State := opState { phase := ph, entry := e }

/-- Entries whose key fails, whose length is one byte beyond 2^30, whose output space is short, that need a sequencer
only. -/
theorem test_meets_pinning :
    (∃ (s : State) (x : Qp), Works s (1023 : Fin 1024) (1022 : Fin 1023) x ∧ x.fetching ≠ 0 ∧
      s.ringBlocked (1023 : Fin 1024) (x.sqBase.toNat + 64 * ((x.c + x.cache.length) % (2 * x.n) % x.n)) false = false) ∧
    (∃ (s : State) (j : Job) (n : Nat), s.job (16383 : Fin 16384) = some j ∧ j.phase = .dispatched ∧
      (entryOpc j.entry).defined = true ∧ j.told = [] ∧ namesCtx j.entry = false ∧
      s.keyFails [] j.inst j.entry = some n) ∧
    (∃ (s : State) (j : Job) (d : Nat), s.job (16383 : Fin 16384) = some j ∧ j.phase = .dispatched ∧
      (entryOpc j.entry).defined = true ∧ j.told = [] ∧ namesCtx j.entry = false ∧
      s.keyFails [] j.inst j.entry = none ∧ s.entryViews [] j.inst j.entry = (none, none) ∧
      lengthFails j.entry = some d) ∧
    (∃ (s : State) (j : Job) (n : Nat), s.job (16383 : Fin 16384) = some j ∧ j.phase = .dispatched ∧
      (entryOpc j.entry).defined = true ∧ j.told = [] ∧ namesCtx j.entry = false ∧
      s.keyFails [] j.inst j.entry = none ∧ s.entryViews [] j.inst j.entry = (none, none) ∧
      lengthFails j.entry = none ∧ outputShort j.entry none none = some n) ∧
    ∃ s j, Plain s (16383 : Fin 16384) j ∧ s.openSequencers ≠ [] ∧ needsBus j.entry = false ∧ j.entry.srcLen = 0 := by
  refine ⟨⟨_, { state := .active, enable := true, fetching := 1 }, works _ rfl rfl, by decide, by decide +kernel⟩,
    ⟨entryState .dispatched { opcode := 0x0114 }, _, 0, rfl, rfl, by decide +kernel⟩,
    ⟨entryState .dispatched { opcode := 0x0B21, srcLen := 1073741825 }, _, 1073741825, rfl, rfl, by decide +kernel⟩,
    ⟨entryState .dispatched { opcode := 0x0D01, param := 16 }, _, 16, rfl, rfl, by decide +kernel⟩,
    ⟨entryState .dispatched { opcode := 0x1000 }, { entry := { opcode := 0x1000 } }, ?_, by decide +kernel⟩⟩
  constructor <;> first | rfl | decide +kernel

/-- HASH of one byte, its source in a fragment table or not. -/
def hashEntry (table : Bool) : SqEntry :=
  { opcode := 0x0B21, srcLen := 1, flags := if table then 1 else 0, srcFrags := if table then 1 else 0 }

/-- A state whose cached translations deny every read. -/
def denied (s : State) : State :=
  { s with trans := { s.trans with atc := [{ inst := 0, base := 0, len := 2 ^ 64 }] } }

theorem test_meets_input :
    (∃ (s : State) (j : Job) (input : JobInput) (x : Nat), s.job (16383 : Fin 16384) = some j ∧ j.phase = .pinned ∧
      (s.tablesFail j.inst j.entry input.ptes).1 = some x) ∧
    (∃ (s : State) (j : Job) (input : JobInput) (d : Nat), s.job (16383 : Fin 16384) = some j ∧ j.phase = .pinned ∧
      (s.tablesFail j.inst j.entry input.ptes).1 = none ∧ badTable j.entry input = some d) ∧
    (∃ (s : State) (j : Job) (input : JobInput) (d : Nat), s.job (16383 : Fin 16384) = some j ∧ j.phase = .pinned ∧
      (s.tablesFail j.inst j.entry input.ptes).1 = none ∧ badTable j.entry input = none ∧
      ((s.tablesFail j.inst j.entry input.ptes).2.sidesFail j.inst j.entry input).1 = some d) ∧
    ∃ (s : State) (j : Job) (input : JobInput), s.job (16383 : Fin 16384) = some j ∧ j.phase = .pinned ∧
      (s.tablesFail j.inst j.entry input.ptes).1 = none ∧ badTable j.entry input = none ∧
      ((s.tablesFail j.inst j.entry input.ptes).2.sidesFail j.inst j.entry input).1 = none ∧
      updateLengths j.entry (fit j.entry.srcLen.toNat input.data) = none ∧ (entryOpc j.entry).fam ≠ 5 ∧
      usesSrc j.entry = true :=
  ⟨⟨denied (entryState .pinned (hashEntry true)), { phase := .pinned, entry := hashEntry true }, {}, 0, rfl, rfl,
      by decide +kernel⟩,
    ⟨entryState .pinned (hashEntry true), { phase := .pinned, entry := hashEntry true }, {}, 0, rfl, rfl,
      by decide +kernel⟩,
    ⟨denied (entryState .pinned (hashEntry false)), { phase := .pinned, entry := hashEntry false }, {}, 0, rfl, rfl,
      by decide +kernel⟩,
    ⟨entryState .pinned (hashEntry false), { phase := .pinned, entry := hashEntry false }, { data := [7] }, rfl, rfl,
      by decide +kernel⟩⟩

/-- A queue pair with a finished job whose turn it is. -/
def postState (x : Qp) (e : SqEntry) : State :=
  { qpState .enabled x with jobs := [(16383, { ringJob with phase := .finished, entry := e })] }

theorem posts (x : Qp) (e : SqEntry) (a : x.state = .active) (n : x.enable = true) (f : x.errCode ≠ 7) :
    Posts (postState x e) (16383 : Fin 16384) { ringJob with phase := .finished, entry := e } x := by
  refine ⟨rfl, rfl, qp_last rfl, fun h hh => ?_, ?_, a, n, f⟩
  · cases (show h ∈ ([] : List HeldCompletion) from hh)
  unfold State.postTurn
  simp [State.jobsOfQp, postState, ringJob]

theorem test_meets_posting :
    (∃ s j x, Posts s (16383 : Fin 16384) j x ∧
      s.ringBlocked j.inst (x.cqBase.toNat + 32 * (x.q % x.n)) true = false ∧ j.posts = true ∧ x.full = false ∧
      j.corrected = none ∧ s.faults.open_.length < 64) ∧
    (∃ s j x, Posts s (16383 : Fin 16384) j x ∧
      s.ringBlocked j.inst (x.cqBase.toNat + 32 * (x.q % x.n)) true = false ∧ j.posts = false) ∧
    ∃ s j x, Posts s (16383 : Fin 16384) j x ∧
      s.ringBlocked j.inst (x.cqBase.toNat + 32 * (x.q % x.n)) true = false ∧ j.posts = true ∧ x.full = true :=
  ⟨⟨_, _, { state := .active, enable := true, q := 31, d := 16 }, posts _ {} rfl rfl (by decide), by decide +kernel⟩,
    ⟨_, _, { state := .active, enable := true }, posts _ { flags := 64 } rfl rfl (by decide), by decide +kernel⟩,
    ⟨_, _, { state := .active, enable := true, q := 16 }, posts _ {} rfl rfl (by decide), by decide +kernel⟩⟩

/-- An operation whose only command an engine takes next. -/
def engineState (u : Nat) : State := { readyState with
  jobs := [(16383, { phase := .computed, issued := true })]
  sched := { readyState.sched with waiting := [{ kind := unitKind u, slot := 16383, cost := 1 }] } }

theorem test_meets_engines :
    (∀ u ∈ [(72 : Fin 387), 144, 288, 360, 378], ∃ s w j, LastCommand s u w j ∧ j.result.status = .ok ∧
      j.result.acts = [] ∧ j.result.streamed = 0 ∧ (s.units.getD u {}).corrected.length < 15 ∧
      s.faults.open_.length < 64 ∧ s.units.length = 387 ∧ (s.units.getD u {}).state = .active) ∧
    (∃ (s : State) (j : Job) (o : Nat), s.job (16383 : Fin 16384) = some j ∧ j.phase = .ready ∧ j.shielded = true ∧
      j.origin = some o ∧ 0 < j.quantum ∧ j.result.status = .ok ∧ j.result.acts = [] ∧ j.result.streamed = 0) ∧
    (∃ (s : State) (x : Qp) (since : Nat), s.qp (1023 : Fin 1024) (1022 : Fin 1023) = some x ∧ x.waitSince = some since ∧
      x.waitTold = false) ∧
    (∃ s : State, s.start.draining ≠ none) ∧
    (∀ d ∈ [InstDrain.reset, .freeze], ∃ s : State, (s.inst (1023 : Fin 1024)).drain = some d) ∧
    ∃ (s : State) (j : Job) (since : Nat), s.job (16383 : Fin 16384) = some j ∧ j.phase = .dispatched ∧
      j.waitSince = some since := by
  refine ⟨fun u hu => ⟨engineState u, { kind := unitKind u, slot := 16383, cost := 1 }, { phase := .computed, issued := true },
      ⟨?_, ?_, ?_, rfl, rfl, rfl, ?_⟩, rfl, rfl, rfl, ?_⟩,
    ⟨opState { phase := .ready, shielded := true, origin := some 0, quantum := 1 }, _, 0, rfl, rfl, rfl, rfl, by decide,
      rfl, rfl, rfl⟩,
    ⟨qpState .enabled { waitSince := some 0 }, { waitSince := some 0 }, 0, qp_last rfl, rfl, rfl⟩,
    ⟨{ readyState with start := { readyState.start with draining := some .restart } }, by decide +kernel⟩,
    fun d _ => ⟨vfState { drain := some d }, rfl⟩, ⟨opState { waitSince := some 0 }, _, 0, rfl, rfl, rfl⟩⟩ <;>
    (revert u; decide +kernel)

/-- A stateful record of the last instance, enabled. -/
def treeState (st : Nat) (f : Stateful) : State := { vfState { state := .enabled } with
  keys := { (vfState {}).keys with records := [(7, { owner := 1023, state := st, stateful := some f })] } }

theorem test_meets_registers :
    (∃ (s : State) (x : Qp) (p : Nat), s.portOf (1023 : Fin 1024) = some p ∧ s.mailServed p = true ∧
      s.hasRegs (1023 : Fin 1024) = true ∧ s.qp (1023 : Fin 1024) (1022 : Fin 1023) = some x ∧ x.state = .disabled) ∧
    (∃ (s : State) (x : Qp) (p : Nat) (v : BitVec 64), s.portOf (1023 : Fin 1024) = some p ∧ s.mailServed p = true ∧
      s.hasRegs (1023 : Fin 1024) = true ∧ s.qp (1023 : Fin 1024) (1022 : Fin 1023) = some x ∧ x.state = .active ∧
      v &&& 0xFFFFF000 ≠ x.sqBase &&& 0xFFFFFFFF) ∧
    (∃ s : State, s.ports.length = 4 ∧ s.mailServed (3 : Fin 4) = true ∧ (s.port (3 : Fin 4)).mbxBusy = false ∧
      (s.port (3 : Fin 4)).mbxReq.length = 256 ∧ slice 0 2 (s.port (3 : Fin 4)).mbxReq = le 2 2) ∧
    (∀ b : Bool, ∃ s : State, s.hasRegs (1023 : Fin 1024) = true ∧ (s.inst (1023 : Fin 1024)).spillEnable = b) ∧
    (∃ s : State, (s.inst (1023 : Fin 1024)).spillBusy = true ∧ (s.inst (1023 : Fin 1024)).spillEnable = false) ∧
    (∀ f ∈ [({ buildDone := 1, buildTotal := 3 } : Stateful), { buildDone := 1, buildTotal := 2 }],
      ∃ (s : State) (r : KeyRecord), s.record 7 = some r ∧ r.stateful = some f ∧ s.instState r.owner = .enabled ∧ s.start.phase = .ready ∧
        r.state = 1) ∧
    (∃ (s : State) (r : KeyRecord) (b : Stateful), s.record 7 = some r ∧ r.stateful = some b ∧ s.instState r.owner = .enabled ∧ s.start.phase = .ready ∧
      r.state ≠ 1) ∧
    ∀ due : Bool, ∃ (s : State) (r : KeyRecord) (b : Stateful), s.record 7 = some r ∧ r.stateful = some b ∧ b.journalDue = due ∧ s.start.readOnly = false := by
  refine ⟨⟨qpState .enabled {}, {}, 3, by decide +kernel, rfl, by decide +kernel, qp_last rfl, rfl⟩,
    ⟨qpState .enabled { state := .active }, { state := .active }, 3, 0x1000, by decide +kernel, rfl, by decide +kernel,
      qp_last rfl, rfl, by decide +kernel⟩,
    ⟨{ portState false with ports := [{}, {}, {}, { mbxReq := le 2 2 ++ zeros 254 }] }, by decide +kernel⟩,
    fun b => ⟨vfState { state := .enabled, spillEnable := b }, by cases b <;> decide +kernel, rfl⟩,
    ⟨vfState { spillBusy := true }, rfl, rfl⟩, fun f _ => ⟨treeState 1 f, _, rfl, rfl, rfl, rfl, rfl⟩,
    ⟨treeState 0 {}, _, _, rfl, rfl, rfl, rfl, by decide⟩,
    fun due => ⟨treeState 0 { journalDue := due }, _, _, rfl, rfl, rfl, rfl⟩⟩

/-! ### Digest windows, care of units and faults -/

/-- A device of four ports whose last digest window is as given. -/
def windowState (x : Window) (f : Measure → Measure := id) : State := { portState false with
  meas := f { State.reset.meas with windows := [{}, {}, {}, x] } }

theorem owns (x : Window) (f : Measure → Measure)
    (h : (f { State.reset.meas with windows := [{}, {}, {}, x] }).windows = [{}, {}, {}, x]) (o : x.owner = some 3) :
    Owns (windowState x f) 3 3 x :=
  ⟨rfl, by change (f _).windows[3]? = some x; rw [h]; rfl, o⟩

/-- A window that takes a message. -/
def taking (n limit : Nat) (wctrl : BitVec 32) : Window :=
  { owner := some 3, token := 9, wctrl := wctrl, active := true, alg := 3, message := zeros n, limit := limit }

theorem test_meets_windows :
    (∀ o ∈ [none, some 0, some 3], ∃ (s : State) (x : Window), s.windowsWork (3 : Fin 4) = true ∧
      s.meas.windows[(3 : Fin 4).val]? = some x ∧ x.owner = o) ∧
    (∃ s x, Owns s 3 3 x ∧ x.active = true ∧ x.message.length + 8 = x.limit) ∧
    (∃ s x, Owns s 3 3 x ∧ x.active = true ∧ x.limit < x.message.length + 8) ∧
    (∃ s x, ∃ v : BitVec 64, Owns s 3 3 x ∧ x.active = true ∧
      (x.message ++ (le 8 v.toNat).take (x.wctrl.toNat / 256 % 16)).length = x.limit ∧ x.wctrl.getLsbD 22 = false) ∧
    (∃ s x, ∃ v : BitVec 64, Owns s 3 3 x ∧ x.active = true ∧
      (x.message ++ (le 8 v.toNat).take (x.wctrl.toNat / 256 % 16)).length = x.limit ∧ x.wctrl.getLsbD 22 = true ∧
      x.alg = 3 ∧ s.meas.mlog.length + 65536 ≤ 131072 ∧ s.meas.mr.length = 40 ∧
      8 + 8 * (3 : Fin 4).val + x.wctrl.toNat / 2 ^ 16 % 8 = 39) ∧
    (∃ s x, ∃ v : BitVec 64, Owns s 3 3 x ∧ x.active = true ∧
      (x.message ++ (le 8 v.toNat).take (x.wctrl.toNat / 256 % 16)).length ≠ x.limit) ∧
    (∀ d : Bool, ∃ s x, Owns s 3 3 x ∧ x.done = d) := by
  refine ⟨fun o _ => ⟨windowState { owner := o }, { owner := o }, rfl, rfl, rfl⟩,
    ⟨_, taking 0 8 0, owns _ id rfl rfl, by decide +kernel⟩, ⟨_, taking 1 8 0, owns _ id rfl rfl, by decide +kernel⟩,
    ⟨_, taking 1 9 0x800, 0, owns _ id rfl rfl, by decide +kernel⟩,
    ⟨_, taking 1 1 0x470000, 0, owns _ (fun m => { m with mr := List.replicate 40 (zeros 48) }) rfl rfl, by decide +kernel⟩,
    ⟨_, taking 1 9 0, 0, owns _ id rfl rfl, by decide +kernel⟩, fun d => ⟨_, { owner := some 3, done := d },
      owns { owner := some 3, done := d } id rfl rfl, rfl⟩⟩

/-- A device whose first ring arithmetic engine is as given, every other unit ACTIVE. -/
def unitState (x : UnitInfo) : State := { readyState with units := List.replicate 72 ({} : UnitInfo) ++ [x] ++ List.replicate 314 {} }

theorem unit_is (x : UnitInfo) : UnitIs (unitState x) (72 : Fin 387) x := by
  change (List.replicate 72 ({} : UnitInfo) ++ [x] ++ List.replicate 314 ({} : UnitInfo))[72]? = some x
  rw [List.getElem?_append_left (by simp), List.getElem?_append_right (by simp)]
  simp

/-- Visits whose ratio stays below the first mark, reaches it, and reaches the second. -/
theorem test_meets_visits :
    (∃ s x, UnitIs s (72 : Fin 387) x ∧ s.start.phase = .ready ∧ s.odNum 0x130020 = 1 ∧ s.visited (72 : Fin 387) = true ∧
      x.state = .active ∧ s.faults.open_.length < 64) ∧
    ∀ p ∈ [(2048, 2000, 240), (42, 40, 500), (43, 40, 750)], ∃ s x, UnitIs s (72 : Fin 387) x ∧ s.start.phase = .ready ∧
      s.odNum 0x130020 = 1 ∧ s.visited (72 : Fin 387) = true ∧ p.1 ≤ 2048 ∧ p.2.1 ≠ 0 ∧ x.warned = false ∧
      driftOf ((x.ratios ++ [10000 * p.1 / p.2.1]).drop (x.ratios.length + 1 - 16)) (s.otp.birthRatios.getD 72 10000) =
        p.2.2 ∧ s.odNum 0x210006 = 500 ∧ s.odNum 0x210007 = 750 ∧ x.state = .active ∧
      s.minActive (unitKind 72) ≤ ((s.unitsIn (unitKind 72) .active).filter (· != 72)).length := by
  refine ⟨⟨_, {}, unit_is _, by decide +kernel⟩, fun p hp => ⟨_, {}, unit_is _, ?_⟩⟩
  revert p
  decide +kernel

/-- Findings of a scrub, expiries, promotions and retirements. -/
theorem test_meets_care :
    (∃ (s : State) (r : KeyRecord), s.start.phase = .ready ∧ s.record 7 = some r ∧ r.inS = false ∧ r.inA = false ∧
      s.faults.open_.length < 64) ∧
    (∃ (s : State) (j : Job), s.start.phase = .ready ∧ s.job 16383 = some j ∧ j.phase = .running ∧
      s.faults.open_.length < 64) ∧
    (∃ s : State, s.pwr.dieOn = true ∧ s.halted = false ∧ s.lc.transition = none) ∧
    (∃ s x, UnitIs s (72 : Fin 387) x ∧ s.pwr.dieOn = true ∧ s.halted = false ∧ x.state = .active ∧
      s.faults.open_.length < 64) ∧
    (∃ (s : State) (x : Window), s.pwr.dieOn = true ∧ s.halted = false ∧ s.meas.windows[(3 : Fin 4).val]? = some x ∧
      s.faults.open_.length < 64) ∧
    (∃ s x, UnitIs s (72 : Fin 387) x ∧ x.state = .spare ∧ (72 : Fin 387).val ∈ s.faults.pendingVisits ∧ logTakes s 1) ∧
    ∀ busy : Bool, ∃ s x, UnitIs s (72 : Fin 387) x ∧ x.state = .retiring ∧ s.unitBusy (72 : Fin 387) = busy := by
  refine ⟨⟨{ readyState with keys := { readyState.keys with records := [(7, {})] } }, _, rfl, rfl, rfl, rfl, by decide +kernel⟩,
    ⟨{ readyState with jobs := [(16383, { phase := .running })] }, _, rfl, rfl, rfl, by decide +kernel⟩,
    ⟨readyState, rfl, rfl, rfl⟩, ⟨_, {}, unit_is _, by decide +kernel⟩, ⟨windowState {}, {}, by decide +kernel⟩,
    ⟨{ unitState { state := .spare } with faults := { State.reset.faults with pendingVisits := [72] } }, { state := .spare },
      unit_is _, rfl, by decide, by unfold logTakes; decide +kernel⟩, fun busy => ?_⟩
  refine ⟨{ unitState { state := .retiring } with
    jobs := if busy then [(0, { region := some { engine := 0 } })] else [] }, { state := .retiring }, unit_is _, rfl, ?_⟩
  cases busy <;> decide +kernel

/-- DISPOSE as its table defines it. -/
def disposeDef : EntryDef := { ty := .octets 8, access := .wo, role := 2, persistent := false }

/-- A device that serves one OPERATOR's session, with one open record about its last instance and a unit in a state. -/
def faultState (r : FaultRecord) (v : UnitInfo) : State := { vfState { state := .enabled } with
  mgmt := { State.reset.mgmt with sessions := [client 2] }
  units := List.replicate 72 ({} : UnitInfo) ++ [v] ++ List.replicate 314 {}
  faults := { State.reset.faults with open_ := [r] } }

/-- A record of the first ring arithmetic engine, which allows every disposition. -/
def engineFault : FaultRecord := { id := 0xFFFFFFFF, source := 2, kind := 2, inst := 1023, allowed := 15 }

theorem disposes (r : FaultRecord) (v : UnitInfo) (code : Nat) (i : r.id = 0xFFFFFFFF) (n : r.inst = 1023)
    (a : r.allowed.testBit (code - 1) = true) : Disposes (faultState r v) lastReq (client 2) 0xFFFFFFFF code r := by
  refine ⟨requests_of rfl rfl, ⟨disposeDef, rfl⟩, ?_, ?_, ⟨rfl, rfl, rfl⟩, a⟩
  · change [r].find? (·.id == 0xFFFFFFFF) = some r
    rw [List.find?_cons_of_pos (by rw [i]; rfl)]
  · intro p h
    cases h
    rw [n]
    change (vfState {}).portOf 1023 = some 3
    decide +kernel

theorem fault_unit (r : FaultRecord) (v : UnitInfo) : UnitIs (faultState r v) (unitIndex 2 0) v := unit_is v

/-- Records that each disposition closes, of a unit that was retried and of one that was not; no record; records whose
timer ends, during a warning and not. -/
theorem test_meets_dispositions :
    (∀ code ∈ [1, 2], ∀ retried : Bool, ∃ s x r v, Disposes s lastReq x 0xFFFFFFFF code r ∧ r.kind ≠ 0 ∧ r.source ≠ 0x0F ∧
      r.source ≠ 0x12 ∧ UnitIs s (unitIndex r.kind r.number) v ∧ v.retried = retried ∧ v.state = .quarantined ∧
      unitKind (unitIndex r.kind r.number) = r.kind ∧
      s.minActive r.kind ≤ ((s.unitsIn r.kind .active).filter (· != unitIndex r.kind r.number)).length) ∧
    (∃ s x r, Disposes s lastReq x 0xFFFFFFFF 3 r ∧ 4 ≤ r.inst ∧ r.inst ≠ 0xFFFF ∧
      (s.inst r.inst).state ∈ [.created, .enabled, .frozen]) ∧
    (∃ s x r, Disposes s lastReq x 0xFFFFFFFF 4 r) ∧
    (∃ s x, Requests s lastReq x ∧ (∃ d, s.entryCheck x (keyOf 0x260003) false = .ok d) ∧
      s.faultRecord (0xFFFFFFFF : BitVec 32).toNat = none) ∧
    (∀ e ∈ [0, 1], ∃ (s : State) (r : FaultRecord) (v : UnitInfo), s.faultRecord 0xFFFFFFFF = some r ∧ s.warning = false ∧
      r.escalation = e ∧ r.kind ≠ 0 ∧ r.source ≠ 0x0F ∧ r.source ≠ 0x12 ∧ UnitIs s (unitIndex r.kind r.number) v ∧
      v.state = .quarantined ∧ unitKind (unitIndex r.kind r.number) = r.kind ∧
      s.minActive r.kind ≤ ((s.unitsIn r.kind .active).filter (· != unitIndex r.kind r.number)).length) ∧
    ∃ (s : State) (r : FaultRecord), s.faultRecord 0xFFFFFFFF = some r ∧ s.warning = true := by
  have least : ∀ e b, (faultState { engineFault with escalation := e } { state := .quarantined, retried := b }).minActive 2 ≤
      (((faultState { engineFault with escalation := e } { state := .quarantined, retried := b }).unitsIn 2 .active).filter
        (· != unitIndex 2 0)).length := by
    intro e b
    change (faultState engineFault { state := .quarantined, retried := b }).minActive 2 ≤
      (((faultState engineFault { state := .quarantined, retried := b }).unitsIn 2 .active).filter (· != unitIndex 2 0)).length
    cases b <;> decide +kernel
  refine ⟨fun code hc b => ⟨_, _, engineFault, { state := .quarantined, retried := b }, disposes _ _ code rfl rfl ?_,
      by decide, by decide, by decide, fault_unit _ _, rfl, rfl, by decide, least 0 b⟩,
    ⟨_, _, engineFault, disposes _ {} 3 rfl rfl (by decide), by decide, by decide, by decide +kernel⟩,
    ⟨_, _, engineFault, disposes _ {} 4 rfl rfl (by decide)⟩,
    ⟨served (client 2), client 2, requests_served 2 none, ⟨disposeDef, rfl⟩, rfl⟩,
    fun e _ => ⟨faultState { engineFault with escalation := e } { state := .quarantined, retried := false },
      { engineFault with escalation := e }, { state := .quarantined, retried := false }, ?_, rfl, rfl, by change (2 : Nat) ≠ 0; decide,
      by change (2 : Nat) ≠ 15; decide, by change (2 : Nat) ≠ 18; decide, fault_unit _ _, rfl,
      by change unitKind 72 = 2; decide, least e false⟩,
    ⟨{ faultState engineFault {} with pwr := { readyState.pwr with stage := .flushing } }, engineFault, by decide +kernel,
      rfl⟩⟩
  · revert code; decide
  · change [({ engineFault with escalation := e } : FaultRecord)].find? (·.id == 0xFFFFFFFF) = _
    rw [List.find?_cons_of_pos rfl]

/-! ### Custody cards -/

/-- A device that serves, with its card port as given. -/
def portCard (c : Card) : State := { readyState with card := c }

theorem test_meets_identification :
    (∃ s : State, s.card.detect = false) ∧
    (∃ s : State, s.cardServes = true ∧ s.card.detect = true ∧ s.card.state = .empty ∧ s.card.op.state ≠ 1) ∧
    (∃ s : State, s.cardServes = true ∧ s.card.step = 4 ∧ s.recoveryWanted = false ∧ s.internalServes = true) ∧
    (∃ s : State, s.cardServes = true ∧ s.card.step = 4 ∧ s.recoveryWanted = true ∧ s.card.fallback = false) ∧
    (∃ s : State, s.cardServes = true ∧ s.card.step = 4 ∧ s.now + 10000000 + 1 = s.card.vddAt + 1000000000) ∧
    (∃ s : State, s.cardServes = true ∧ s.card.step = 4 ∧ s.card.vddAt + 1000000000 = s.now + 10000000 ∧
      s.recoveryWanted = false) ∧
    (∀ n ∈ [0, 1], ∃ s : State, s.cardServes = true ∧ s.card.step = 7 ∧ s.card.op.state = n) ∧
    (∀ n ∈ [0, 1], ∀ op ∈ [4, 5], ∃ s : State, s.card.detect = true ∧ s.card.op.state = n ∧ s.card.op.op = op) ∧
    (∃ s : State, s.card.state = .ready ∧ s.card.step = 8) ∧ ∃ s : State, s.card.op.state = 2 := by
  refine ⟨⟨portCard { detect := false }, rfl⟩, ⟨portCard { detect := true }, rfl, rfl, rfl, by decide⟩,
    ⟨{ portCard { step := 4 } with rng := { readyState.rng with internal := [{ instantiated := true, seeded := true }] } },
      by decide +kernel⟩,
    ⟨portCard { step := 4, op := { state := 1, op := 4 } }, rfl, rfl, rfl, rfl⟩,
    ⟨{ portCard { step := 4 } with clk := { readyState.clk with uptimeNs := 989999999 } }, rfl, rfl, by decide +kernel⟩,
    ⟨{ portCard { step := 4 } with clk := { readyState.clk with uptimeNs := 990000000 } }, rfl, rfl, by decide +kernel⟩,
    fun n _ => ⟨portCard { step := 7, op := { state := n } }, rfl, rfl, rfl⟩,
    fun n _ op _ => ⟨portCard { detect := true, op := { state := n, op := op } }, rfl, rfl, rfl⟩,
    ⟨portCard { state := .ready, step := 8 }, rfl, rfl⟩, ⟨portCard { op := { state := 2 } }, rfl⟩⟩

theorem writes_card_op (f : State → State) (h : (f (served (client 4))).session 5 = some (client 4))
    (z : (f (served (client 4))).zynboServes = true) (n : (f (served (client 4))).halted = false)
    (q : (f (served (client 4))).warning = false ∧ (f (served (client 4))).lc.transition = none ∧
      (f (served (client 4))).lc.debugOpen = false ∧ (f (served (client 4))).warden.debugFlag = false) :
    WritesCardOp (carded f) lastReq (client 4) :=
  have w := writes_carded f 0x280003 h z (by decide +kernel) (by decide) rfl
  ⟨w.request, w.entry.imp fun _ d => d.1, n, q⟩

/-- A card port whose operation stands in a state, the card's protection as given. -/
def cardOpAs (n : Nat) (perm temp : Bool) (s : State) : State :=
  { s with card := { s.card with op := { s.card.op with state := n }, protPerm := perm, protTemp := temp } }

theorem test_meets_card_operations :
    (∀ n ∈ [0, 3], ∃ s x, WritesCardOp s lastReq x ∧ s.card.op.state = n ∧ s.card.protPerm = false ∧
      s.card.protTemp = false ∧ s.testRootInUse = false ∧ s.otp.genBits = 0) ∧
    (∃ s x, WritesCardOp s lastReq x ∧ s.card.op.state = 0 ∧ s.card.protPerm = false ∧ s.card.protTemp = false ∧
      s.configFits = true) ∧
    (∀ p ∈ [(true, false), (false, true)], ∃ s x, WritesCardOp s lastReq x ∧ s.card.op.state = 0 ∧
      s.card.protPerm = p.1 ∧ s.card.protTemp = p.2) ∧
    (∀ n ∈ [1, 2], ∃ s x, WritesCardOp s lastReq x ∧ s.card.op.state = n) ∧
    (∀ code ∈ [1, 2, 3, 4, 5, 6, 7], ∃ s : State, RunsCardOp s code ∧ s.card.approvals = [] ∧ s.card.recovery = false) ∧
    (∃ s : State, RunsCardOp s 1 ∧ s.card.approvals.length = 7 ∧ ∀ a ∈ s.card.approvals, a.serial ≠ s.card.serial) ∧
    (∃ s : State, RunsCardOp s 1 ∧ s.card.approvals.length = 8) ∧
    (∃ s : State, RunsCardOp s 3 ∧ s.mgmt.txn.open_ = false) ∧
    (∃ (s : State) (content : Bytes) (l staged : List (Nat × Bytes)), RunsCardOp s 3 ∧ s.mgmt.txn.open_ = true ∧
      s.mgmt.txn.session.toNat = s.card.op.session ∧ parseConfig 256 content = some l ∧
      stageAll s.mgmt.txn.staged l = some staged) ∧
    (∃ s : State, RunsCardOp s 4 ∧ s.card.op.done + 1 = s.card.op.total) ∧
    (∃ (s : State) (v : Snapshot), RunsCardOp s 4 ∧ s.card.op.total = s.card.op.done ∧ s.card.image = some v ∧
      s.card.recovery = false) ∧
    ∃ (s : State) (a : Approval), s.card.approvals[(7 : Fin 8).val]? = some a := by
  have w (n : Nat) (perm temp : Bool) : WritesCardOp (carded (cardOpAs n perm temp)) lastReq (client 4) :=
    writes_card_op _ rfl rfl rfl ⟨rfl, rfl, rfl, rfl⟩
  have root (n : Nat) : (carded (cardOpAs n false false)).testRootInUse = false := by
    change State.reset.testRootInUse = false
    decide +kernel
  have fits : (carded (cardOpAs 0 false false)).configFits = true := by
    change ({ State.reset with od := [(0x280010, cardEntry)] } : State).configFits = true
    decide +kernel
  refine ⟨fun n _ => ⟨_, _, w n false false, rfl, rfl, rfl, root n, rfl⟩, ⟨_, _, w 0 false false, rfl, rfl, rfl, fits⟩,
    fun p _ => ⟨_, _, w 0 p.1 p.2, rfl, rfl, rfl⟩, fun n _ => ⟨_, _, w n false false, rfl⟩,
    fun code _ => ⟨portCard { step := 8, op := { state := 1, op := code } }, ⟨rfl, rfl, rfl⟩, rfl, rfl⟩,
    ⟨portCard { step := 8, serial := 8, op := { state := 1, op := 1 }, approvals := List.replicate 7 {} }, ⟨rfl, rfl, rfl⟩,
      by decide +kernel⟩,
    ⟨portCard { step := 8, op := { state := 1, op := 1 }, approvals := List.replicate 8 {} }, ⟨rfl, rfl, rfl⟩, rfl⟩,
    ⟨portCard { step := 8, op := { state := 1, op := 3 } }, ⟨rfl, rfl, rfl⟩, rfl⟩,
    ⟨{ portCard { step := 8, op := { state := 1, op := 3 } } with mgmt := { readyState.mgmt with txn := { open_ := true } } },
      fields [(2, 0x1200), (1, 6), (1, 0), (4, 1), (1, 25)], [(0x120006, [25])], [(0x120006, [25])], ⟨rfl, rfl, rfl⟩, rfl,
      rfl, by decide +kernel⟩,
    ⟨portCard { step := 8, op := { state := 1, op := 4, done := 2, total := 3 } }, ⟨rfl, rfl, rfl⟩, rfl⟩,
    ⟨portCard { step := 8, op := { state := 1, op := 4, done := 3, total := 3 }, image := some {} }, {}, ⟨rfl, rfl, rfl⟩, rfl,
      rfl, rfl⟩,
    ⟨portCard { approvals := List.replicate 8 {} }, {}, rfl⟩⟩
/-! ### The whole block -/

/-- A step of a block that is ready, of the block's shape, that changes it: the main rail's loss. -/
theorem test_meets_whole_block : ∃ s t : State, Inv s ∧ s.pending ≠ [] ∧ step s = .next t ∧ t.pwr.stage ≠ s.pwr.stage := by
  refine ⟨{ readyState with pending := [.mainRailLoss .v12 45000 1200] }, _, ?_, by decide, rfl, ?_⟩
  · constructor <;> first | decide +kernel | (unfold cloveOk; decide +kernel)
  · decide +kernel

theorem test_meets_empty_queue : ∃ s : State, s.pending = [] := ⟨State.reset, rfl⟩
/-! ### Values that the standards and the manual's own examples give -/

/-- The check value of CRC-32C over the digits 1 to 9. -/
theorem test_crc32c_check_value : crc32c [0x31, 0x32, 0x33, 0x34, 0x35, 0x36, 0x37, 0x38, 0x39] = 0xE3069283 := by
  decide +kernel

/-- FIPS 180-4: SHA-256 of "abc". -/
theorem test_sha256_abc : sha256 [0x61, 0x62, 0x63] =
    [0xBA, 0x78, 0x16, 0xBF, 0x8F, 0x01, 0xCF, 0xEA, 0x41, 0x41, 0x40, 0xDE, 0x5D, 0xAE, 0x22, 0x23, 0xB0, 0x03,
      0x61, 0xA3, 0x96, 0x17, 0x7A, 0x9C, 0xB4, 0x10, 0xFF, 0x61, 0xF2, 0x00, 0x15, 0xAD] := by decide +kernel

/-- FIPS 180-4: SHA-384 of "abc". -/
theorem test_sha384_abc : sha384 [0x61, 0x62, 0x63] =
    [0xCB, 0x00, 0x75, 0x3F, 0x45, 0xA3, 0x5E, 0x8B, 0xB5, 0xA0, 0x3D, 0x69, 0x9A, 0xC6, 0x50, 0x07, 0x27, 0x2C,
      0x32, 0xAB, 0x0E, 0xDE, 0xD1, 0x63, 0x1A, 0x8B, 0x60, 0x5A, 0x43, 0xFF, 0x5B, 0xED, 0x80, 0x86, 0x07, 0x2B,
      0xA1, 0xE7, 0xCC, 0x23, 0x58, 0xBA, 0xEC, 0xA1, 0x34, 0xC8, 0x25, 0xA7] := by decide +kernel

/-- FIPS 202: SHA3-256 of the empty string. -/
theorem test_sha3_256_empty : sha3_256 [] =
    [0xA7, 0xFF, 0xC6, 0xF8, 0xBF, 0x1E, 0xD7, 0x66, 0x51, 0xC1, 0x47, 0x56, 0xA0, 0x61, 0xD6, 0x62, 0xF5, 0x80,
      0xFF, 0x4D, 0xE4, 0x3B, 0x49, 0xFA, 0x82, 0xD8, 0x0A, 0x4B, 0x80, 0xF8, 0x43, 0x4A] := by decide +kernel

/-- FIPS 197, appendix C.1: one block under a 128-bit key. -/
theorem test_aes128_block : aesEnc ((List.range 16).map (BitVec.ofNat 8)) ((List.range 16).map fun i => BitVec.ofNat 8 (17 * i)) =
    [0x69, 0xC4, 0xE0, 0xD8, 0x6A, 0x7B, 0x04, 0x30, 0xD8, 0xCD, 0xB7, 0x80, 0x70, 0xB4, 0xC5, 0x5A] := by decide +kernel

/-- Table - Cap limits by inlet temperature and airflow: 50 W at 50 degrees and 1.5 m/s (the example of R451). -/
theorem test_cap_of_the_example : capLimit 50000 15 = 50 ∧ capLimit 40000 10 = 45 ∧ capLimit (-15000) 20 = 35 := by decide

/-- The state after a command. -/
def after (c : Instr) (s : State) : State :=
  match exec c s with
  | .next t => t
  | _ => s

/-- The example of R64: 1.2 J in the bank at 45 W leave no ride-through and a window of 13 ms; 1.95 J leave the full
10 ms and 20 ms. -/
theorem test_shortened_ride_through :
    (after (.mainRailLoss .v12 45000 1200) readyState).pwr.rideNs = 0 ∧
    (after (.mainRailLoss .v12 45000 1200) readyState).pwr.windowNs / 1000000 = 13 ∧
    (after (.mainRailLoss .v12 45000 1950) readyState).pwr.rideNs = 10000000 ∧
    (after (.mainRailLoss .v12 45000 1950) readyState).pwr.windowNs = 20000000 := by decide +kernel

/-- Table - Timeline of a refused and a repeated transaction: mode 3 is refused on the shipped link and taken on a loop
of 4.75 kilohm. -/
theorem test_supervised_loop_needs_its_resistor :
    State.commitRefuses { State.reset with warden := { State.reset.warden with loopOhm := 10 } } [] 0x110009 [3] = true ∧
    State.commitRefuses { State.reset with warden := { State.reset.warden with loopOhm := 4750 } } [] 0x110009 [3] = false := by
  decide +kernel

/-- Table - Clove commands of one ML-DSA-65 verification, without the 2 issue handshakes of each command. -/
theorem test_clove_costs_of_the_example :
    let five : CloveCmd := ⟨2, 1, 0, 0, 0, 5, 20, 0, false⟩
    let six : CloveCmd := ⟨2, 1, 0, 0, 0, 6, 8192, 0, false⟩
    (opTransform ntt).cost five 1 false false false = 60 ∧ (opTransform ntt).cost six 1 false false false = 72 ∧
    (opTransform ntt).cost { six with count := 1 } 1 false false false = 12 ∧ opDot.cost five 1 false false false = 22 ∧
    opPmul.cost { six with bcast := true } 1 false false false = 36 ∧
    (opSum fun u v q => u + q - v).cost six 1 false false false = 36 := by decide

/-- A queue pair of 16 entries, as Table - Index timeline on a 16-entry ring has it. -/
def ring16 (c p : Nat) : State := qpState .enabled { state := .active, enable := true, c := c, p := p }

/-- What a command leaves of the last queue pair's C, P and ERROR_CODE. -/
def ringAfter (c : Instr) (s : State) : Option (Nat × Nat × Nat) :=
  ((after c s).qp 1023 1022).map fun x => (x.c, x.p, x.errCode.toNat)

/-- The doorbells at 0, 4 and 9 us of the table: exactly full, 14 of 16, and SQ_OVERFLOW. -/
theorem test_doorbells_of_the_example : ringAfter (.sqDoorbell 1023 1022 16) (ring16 0 0) = some (0, 16, 0) ∧
    ringAfter (.sqDoorbell 1023 1022 19) (ring16 5 16) = some (5, 19, 0) ∧
    ringAfter (.sqDoorbell 1023 1022 23) (ring16 6 19) = some (6, 19, 1) := by decide +kernel

/-- The withdrawal at 7 us, and the one that comes when the dispatcher has reached C = 17. -/
theorem test_withdrawals_of_the_example : ringAfter (.sqWithdraw 1023 1022 16) (ring16 6 19) = some (6, 16, 0) ∧
    ringAfter (.sqWithdraw 1023 1022 16) (ring16 17 19) = some (17, 17, 0) := by decide +kernel

/-- A run at a word whose registers and widths are those of the gather example of R383: 16 elements of 8 bytes. -/
def gatherRun (w : Nat) : Run :=
  { vecWith 3 w with g := [0, 0, 0, 0, 0, 0x10000000000, 0x100000000000, 16, 12] ++ List.replicate 23 0 }

/-- Its job, with an input of 16 U64 values. -/
def gatherState (w : Nat) : State :=
  { State.reset with jobs := [(0, { jobWith (gatherRun w) with
    input := zeros 128, entry := { opcode := 0x0E01, srcLen := 128, dstLen := 4096 } })] }

/-- The unit-stride load of the example is charged 34 handshakes. -/
theorem test_unit_load_charge : (((after (.vldUnit 0 9 6 0 false) (gatherState (wordA 0x31 9 6 0 0))).running 0).map fun p =>
    (p.2.used, p.2.pc)) = some (34, 4) := by decide +kernel

end Sys2Proof.Tests
end

section
namespace Sys2Proof.Machine

open Sys2Proof

/-! ### Parts of the state that a kind of operation leaves alone

Each of the three blanks below empties the fields that one kind of operation may change, so that one equation of
blanked states says everything the operation keeps, and chains of operations go through by rewriting. -/

/-- The state without what sending changes: what has been sent, the ports' registers, sessions and counters. -/
def State.unsent (s : State) : State := { s with out := [], ports := [], mgmt := {}, cnt := [] }

/-- The state without what reporting changes besides: the event log with its next SEQ, the windows' alarms and the
card's operation. -/
def State.untold (s : State) : State :=
  { s.unsent with log := {}, card := {}, meas := {}
                  warden := { s.warden with nextSeq := 0, lostRecords := 0 } }

/-- The state without what the work of jobs changes: jobs, instances, records, engines, random numbers, the event log
with its next SEQ, and what has been sent. -/
def State.unworked (s : State) : State :=
  { s with
    free := 0, out := [], insts := [], jobs := [], keys := {}, ctxs := [], sched := {}, clove := [], saffron := []
    rng := {}, log := {}, cnt := [], warden := { s.warden with nextSeq := 0, lostRecords := 0 } }

/-- What a blanked state shows is the same in two states whose blanked states are equal. -/
theorem State.field_eq {β : Type} {blank : State → State} {s t : State} (h : blank t = blank s) (g : State → β)
    (shows : ∀ s, g (blank s) = g s) : g t = g s := by
  rw [← shows t, ← shows s, h]

/-- What sending keeps, reporting keeps. -/
theorem State.untold_of_unsent {s t : State} (h : t.unsent = s.unsent) : t.untold = s.untold :=
  State.field_eq h State.untold fun _ => rfl

/-- What every step of a loop keeps, the loop keeps. -/
theorem State.forEach_keeps {α β : Type} (g : State → β) {f : State → α → State} (hf : ∀ t x, g (f t x) = g t)
    (l : List α) (s : State) : g (s.forEach l f) = g s := by
  induction l generalizing s with
  | nil => rfl
  | cons x l ih => exact (ih (f s x)).trans (hf s x)

/-- What holds before a loop and is kept by each of its steps holds after it. -/
theorem State.forEach_rec {α : Type} {P : State → Prop} {f : State → α → State} {l : List α} {s : State} (h : P s)
    (step : ∀ t, ∀ x ∈ l, P t → P (f t x)) : P (s.forEach l f) := by
  induction l generalizing s with
  | nil => exact h
  | cons x l ih =>
    exact ih (step s x (by simp) h) fun t y hy => step t y (List.mem_cons_of_mem x hy)

/-- What one of two states keeps of the other, their choice keeps. -/
theorem State.ite_keeps {β : Type} (g : State → β) {c : Prop} [Decidable c] {s t : State} (h : g t = g s) :
    g (if c then t else s) = g s := by
  split
  · exact h
  · rfl

@[simp] theorem State.forEach_nil {α : Type} (s : State) (f : State → α → State) : s.forEach [] f = s := rfl

theorem State.forEach_cons {α : Type} (s : State) (x : α) (l : List α) (f : State → α → State) :
    s.forEach (x :: l) f = (f s x).forEach l f := rfl

/-! ### Events -/

/-- An event changes the log, its next SEQ and the counters, and nothing else (R501, R505, R506). -/
theorem State.raise_eq (s : State) (c : EventCode) (v i : Nat) (d : Bytes) : ∃ l n m r,
    s.raise c v i d = { s with log := l, cnt := n, warden := { s.warden with nextSeq := m, lostRecords := r } } := by
  unfold State.raise
  dsimp only
  split
  · exact ⟨_, _, _, _, rfl⟩
  · split
    · split
      · exact ⟨_, _, _, _, rfl⟩
      · exact ⟨_, _, _, _, rfl⟩
    · exact ⟨_, _, _, _, rfl⟩

theorem State.raise_keeps {β : Type} (g : State → β)
    (hg : ∀ (s : State) l n m r,
      g { s with log := l, cnt := n, warden := { s.warden with nextSeq := m, lostRecords := r } } = g s)
    (s : State) (c : EventCode) (v i : Nat) (d : Bytes) : g (s.raise c v i d) = g s := by
  obtain ⟨l, n, m, r, h⟩ := s.raise_eq c v i d
  rw [h, hg]

@[simp] theorem State.raise_untold (s : State) (c : EventCode) (v i : Nat) (d : Bytes) :
    (s.raise c v i d).untold = s.untold := s.raise_keeps State.untold (fun _ _ _ _ _ => rfl) ..

@[simp] theorem State.raise_unworked (s : State) (c : EventCode) (v i : Nat) (d : Bytes) :
    (s.raise c v i d).unworked = s.unworked := s.raise_keeps State.unworked (fun _ _ _ _ _ => rfl) ..

/-- What an event of its code's own severity keeps. -/
theorem State.event_keeps {β : Type} (g : State → β)
    (hg : ∀ (s : State) l n m r,
      g { s with log := l, cnt := n, warden := { s.warden with nextSeq := m, lostRecords := r } } = g s)
    (s : State) (c : EventCode) (d : Bytes) : g (s.event c d) = g s := s.raise_keeps g hg ..

@[simp] theorem State.event_untold (s : State) (c : EventCode) (d : Bytes) : (s.event c d).untold = s.untold :=
  s.raise_untold ..

@[simp] theorem State.event_unworked (s : State) (c : EventCode) (d : Bytes) :
    (s.event c d).unworked = s.unworked := s.raise_unworked ..

/-- The log takes a record: it waits with the next SEQ, and nothing but the log and that SEQ changes. -/
theorem State.raise_taken {s : State} {v : Nat} (place : s.log.hasPlace v = true) (full : s.log.full = false)
    (c : EventCode) (i : Nat) (d : Bytes) : ∃ e, e.code = BitVec.ofNat 16 c.code ∧ e.severity = v ∧
      e.seq = s.warden.nextSeq ∧ e.victim = none ∧ s.raise c v i d = { s with
        log := { s.log with droppedNow := 0, buffer := s.log.buffer ++ [e] }
        warden := { s.warden with nextSeq := s.warden.nextSeq + 1, lostRecords := 0 } } := by
  unfold State.raise
  simp only [place, full, Bool.not_true, Bool.false_eq_true, if_false]
  exact ⟨_, rfl, rfl, rfl, rfl, rfl⟩

@[simp] theorem State.conflict_untold (s : State) (kind ident inst : Nat) (who : Bytes) :
    (s.conflict kind ident inst who).untold = s.untold := by
  unfold State.conflict
  extract_lets
  split
  · exact State.raise_untold ..
  · rfl

@[simp] theorem State.conflict_unworked (s : State) (kind ident inst : Nat) (who : Bytes) :
    (s.conflict kind ident inst who).unworked = s.unworked := by
  unfold State.conflict
  extract_lets
  split
  · exact State.raise_unworked ..
  · rfl

/-! ### Sending -/

@[simp] theorem State.bump_unworked (s : State) (key pos n : Nat) : (s.bump key pos n).unworked = s.unworked := rfl

@[simp] theorem State.bump_untold (s : State) (key pos n : Nat) : (s.bump key pos n).untold = s.untold := rfl

@[simp] theorem State.send_unsent (s : State) (o : Outbound) : (s.send o).unsent = s.unsent := rfl

@[simp] theorem State.modPort_unsent (s : State) (p : Nat) (f : Port → Port) : (s.modPort p f).unsent = s.unsent := rfl

@[simp] theorem State.modSession_unsent (s : State) (id : BitVec 32) (f : Session → Session) :
    (s.modSession id f).unsent = s.unsent := rfl

@[simp] theorem State.raisePf_unsent (s : State) (p v : Nat) : (s.raisePf p v).unsent = s.unsent := by
  unfold State.raisePf
  split <;> rfl

@[simp] theorem State.portEvent_unsent (s : State) (p : Nat) (e : PortEvent) : (s.portEvent p e).unsent = s.unsent := by
  unfold State.portEvent
  dsimp only
  split <;> simp

@[simp] theorem State.portEventAll_unsent (s : State) (e : PortEvent) : (s.portEventAll e).unsent = s.unsent :=
  State.forEach_keeps State.unsent (fun t p => t.portEvent_unsent p e) ..

@[simp] theorem State.pushWindow_unsent (s : State) (p : Nat) (e : Bool) (f : Bytes) :
    (s.pushWindow p e f).unsent = s.unsent := by
  unfold State.pushWindow
  split
  · simp
  · split <;> simp

@[simp] theorem State.sendFrame_unsent (s : State) (id : BitVec 32) (kind : Nat) (p : Bytes) :
    (s.sendFrame id kind p).unsent = s.unsent := by
  unfold State.sendFrame
  split
  · rfl
  · dsimp only
    split <;> simp

@[simp] theorem State.publish_unsent (s : State) (e : Event) : (s.publish e).unsent = s.unsent := by
  refine State.forEach_keeps State.unsent (fun t x => ?_) ..
  dsimp only
  split <;> simp

/-! ### Sessions -/

@[simp] theorem State.rollback_unsent (s : State) : s.rollback.unsent = s.unsent := by
  unfold State.rollback
  split <;> rfl

@[simp] theorem State.closeSession_unsent (s : State) (id : BitVec 32) : (s.closeSession id).unsent = s.unsent := by
  unfold State.closeSession
  dsimp only
  split
  · exact State.rollback_unsent _
  · rfl

@[simp] theorem State.closeSessions_unsent (s : State) (ids : List (BitVec 32)) :
    (s.closeSessions ids).unsent = s.unsent :=
  State.forEach_keeps State.unsent (fun t id => t.closeSession_unsent id) ..

@[simp] theorem State.closeAllSessions_unsent (s : State) : s.closeAllSessions.unsent = s.unsent :=
  s.closeSessions_unsent _

@[simp] theorem State.followNetwork_unsent (s old : State) : (s.followNetwork old).unsent = s.unsent := by
  unfold State.followNetwork
  split <;> simp

@[simp] theorem State.closeSpent_unsent (s : State) (id : BitVec 32) : (s.closeSpent id).unsent = s.unsent := by
  unfold State.closeSpent
  split
  · rfl
  · split <;> simp

@[simp] theorem State.respond_unsent (s : State) (z : ZReq) (svc : Nat) (r : Reply) :
    (s.respond z svc r).unsent = s.unsent := by
  simp [State.respond]

/-! ### Commits, windows and the card -/

/-- Publishing a record only sends, so that the log stands. -/
@[simp] theorem State.publish_log (s : State) (e : Event) : (s.publish e).log = s.log :=
  State.field_eq (s.publish_unsent e) State.log fun _ => rfl

@[simp] theorem State.ite_bump_log (s : State) (key pos n : Nat) {c : Prop} [Decidable c] :
    (if c then s.bump key pos n else s).log = s.log := State.ite_keeps State.log rfl

/-- The state without what a commit changes: the log and what has been sent. -/
def State.unlogged (s : State) : State := { s.unsent with log := {} }

/-- A commit changes the log, and then only sends. -/
@[simp] theorem State.commitOne_unlogged (s : State) : s.commitOne.unlogged = s.unlogged := by
  unfold State.commitOne
  split
  · rfl
  · exact (State.field_eq (State.publish_unsent ..) State.unlogged fun _ => rfl).trans
      (State.ite_keeps State.unlogged rfl)

@[simp] theorem State.commitOne_untold (s : State) : s.commitOne.untold = s.untold :=
  State.field_eq s.commitOne_unlogged State.untold fun _ => rfl

@[simp] theorem State.commitAll_untold (s : State) : s.commitAll.untold = s.untold := by
  unfold State.commitAll
  split
  · exact State.forEach_keeps State.untold (fun t _ => t.commitOne_untold) ..
  · rfl

@[simp] theorem State.alarmWindows_untold (s : State) : s.alarmWindows.untold = s.untold := rfl

@[simp] theorem State.freeWindow_untold (s : State) (w : Nat) : (s.freeWindow w).untold = s.untold := by
  unfold State.freeWindow
  split
  · exact State.event_untold ..
  · rfl

@[simp] theorem State.freeWindows_untold (s : State) (p : Window → Bool) : (s.freeWindows p).untold = s.untold := by
  refine State.forEach_keeps State.untold (fun t w => ?_) ..
  split
  · exact State.freeWindow_untold ..
  · rfl

@[simp] theorem State.cardPowerDown_untold (s : State) : s.cardPowerDown.untold = s.untold := rfl

@[simp] theorem State.endCardOp_untold (s : State) (st : Status) : (s.endCardOp st).untold = s.untold := by
  unfold State.endCardOp
  dsimp only
  split <;> exact State.event_untold ..

@[simp] theorem State.endCard_untold (s : State) : s.endCard.untold = s.untold := by
  unfold State.endCard
  dsimp only
  split <;> split <;> simp

@[simp] theorem State.extendMr_untold (s : State) (mr source : Nat) (v : Bytes) :
    (s.extendMr mr source v).untold = s.untold := by
  unfold State.extendMr
  split <;> rfl

/-- The same of what only sends. -/
@[simp] theorem State.portEventAll_untold (s : State) (e : PortEvent) : (s.portEventAll e).untold = s.untold :=
  State.untold_of_unsent (s.portEventAll_unsent e)

@[simp] theorem State.aerAll_untold (s : State) (u : Bool) : (s.aerAll u).untold = s.untold := rfl

@[simp] theorem State.rollback_untold (s : State) : s.rollback.untold = s.untold :=
  State.untold_of_unsent s.rollback_unsent

@[simp] theorem State.closeAllSessions_untold (s : State) : s.closeAllSessions.untold = s.untold :=
  State.untold_of_unsent s.closeAllSessions_unsent

end Sys2Proof.Machine
end

section
namespace Sys2Proof.Machine

open Sys2Proof

/-! ### The work of jobs -/

@[simp] theorem State.modInst_unworked (s : State) (i : Nat) (f : Inst → Inst) :
    (s.modInst i f).unworked = s.unworked := rfl

@[simp] theorem State.modQp_unworked (s : State) (i q : Nat) (f : Qp → Qp) :
    (s.modQp i q f).unworked = s.unworked := rfl

@[simp] theorem State.modJob_unworked (s : State) (k : Nat) (f : Job → Job) :
    (s.modJob k f).unworked = s.unworked := rfl

@[simp] theorem State.freeJob_unworked (s : State) (k : Nat) : (s.freeJob k).unworked = s.unworked := rfl

@[simp] theorem State.modOpMem_unworked (s : State) (e : Nat) (f : Mem → Mem) :
    (s.modOpMem e f).unworked = s.unworked := rfl

@[simp] theorem State.when_unworked (s : State) (c : Bool) (f : State → State) :
    (s.when c f).unworked = if c then (f s).unworked else s.unworked := by
  unfold State.when
  split <;> rfl

/-! ### Records that leave -/

@[simp] theorem State.removeRecord_unworked (s : State) (k : Nat) : (s.removeRecord k).unworked = s.unworked := by
  unfold State.removeRecord
  split <;> rfl

@[simp] theorem State.removeRecords_unworked (s : State) (ks : List Nat) :
    (s.removeRecords ks).unworked = s.unworked :=
  State.forEach_keeps State.unworked (fun t k => t.removeRecord_unworked k) ..

@[simp] theorem State.removeSlot_unworked (s : State) (k : Nat) : (s.removeSlot k).unworked = s.unworked := by
  unfold State.removeSlot
  split <;> rfl

@[simp] theorem State.removeSlots_unworked (s : State) (ks : List Nat) : (s.removeSlots ks).unworked = s.unworked :=
  State.forEach_keeps State.unworked (fun t k => t.removeSlot_unworked k) ..

@[simp] theorem State.loseVolatile_unworked (s : State) : s.loseVolatile.unworked = s.unworked :=
  (State.removeSlots_unworked ..).trans (State.removeRecords_unworked ..)

/-- The state without the vault memory encryption key. -/
def State.keyless (s : State) : State := { s with start := { s.start with vmek := none } }

/-- The wipe of the keys changes the records, and of the start no more than the vault memory encryption key (R17). -/
@[simp] theorem State.wipeKeys_unworked (s : State) : s.wipeKeys.unworked = s.keyless.unworked :=
  State.loseVolatile_unworked s.keyless

/-! ### How a job ends -/

@[simp] theorem State.clearRegion_unworked (s : State) (r : Region) : (s.clearRegion r).unworked = s.unworked := by
  unfold State.clearRegion
  dsimp only
  rw [State.modOpMem_unworked]
  exact State.ite_keeps State.unworked rfl

@[simp] theorem State.freeSaffron_unworked (s : State) (k : Nat) : (s.freeSaffron k).unworked = s.unworked := rfl

@[simp] theorem State.dropWaiting_unworked (s : State) (k : Nat) : (s.dropWaiting k).unworked = s.unworked := rfl

@[simp] theorem State.releaseUnits_unworked (s : State) (k : Nat) : (s.releaseUnits k).unworked = s.unworked := by
  unfold State.releaseUnits
  split
  · rfl
  · dsimp only
    split <;> simp

@[simp] theorem State.wipeScoped_unworked (s : State) (k : Nat) : (s.wipeScoped k).unworked = s.unworked := by
  unfold State.wipeScoped
  split
  · rfl
  · refine State.forEach_keeps State.unworked (fun t x => ?_) ..
    split
    · split
      · exact State.removeRecord_unworked ..
      · rfl
    · rfl

@[simp] theorem State.markWaits_unworked (s : State) (i q : Nat) : (s.markWaits i q).unworked = s.unworked := by
  unfold State.markWaits
  split
  · rfl
  · dsimp only
    split
    · refine State.forEach_keeps State.unworked (fun t x => ?_) ..
      exact State.modJob_unworked ..
    · rfl

@[simp] theorem State.collect_unworked (s : State) (k : Nat) : (s.collect k).unworked = s.unworked := by
  unfold State.collect
  split <;> simp

@[simp] theorem State.settle_unworked (s : State) (k : Nat) (r : JobResult) : (s.settle k r).unworked = s.unworked := by
  unfold State.settle
  split <;> simp

@[simp] theorem State.closeLast_unworked (s : State) (j : Job) : (s.closeLast j).unworked = s.unworked := by
  unfold State.closeLast
  split <;> rfl

@[simp] theorem State.endWith_unworked (s : State) (k : Nat) (r : JobResult) :
    (s.endWith k r).unworked = s.unworked := by
  unfold State.endWith
  split
  · rfl
  · dsimp only
    split
    · rfl
    · split <;> simp

@[simp] theorem State.endJob_unworked (s : State) (k : Nat) (st : Status) (d : Nat) :
    (s.endJob k st d).unworked = s.unworked := s.endWith_unworked ..

@[simp] theorem State.returnPlaces_unworked (s : State) (j : Job) : (s.returnPlaces j).unworked = s.unworked := by
  unfold State.returnPlaces
  split <;> rfl

@[simp] theorem State.setIv_unworked (s : State) (k u r : Nat) : (s.setIv k u r).unworked = s.unworked := by
  unfold State.setIv
  split <;> rfl

@[simp] theorem State.returnIv_unworked (s : State) (j : Job) : (s.returnIv j).unworked = s.unworked := by
  unfold State.returnIv
  split
  · exact State.setIv_unworked ..
  · rfl

@[simp] theorem State.freePinned_unworked (s : State) : s.freePinned.unworked = s.unworked := rfl

@[simp] theorem State.checkStopped_unworked (s : State) (i q : Nat) : (s.checkStopped i q).unworked = s.unworked := by
  unfold State.checkStopped
  split
  · rfl
  · split <;> rfl

@[simp] theorem State.releaseSlot_unworked (s : State) (k : Nat) : (s.releaseSlot k).unworked = s.unworked := by
  unfold State.releaseSlot
  split <;> simp

@[simp] theorem State.squashJob_unworked (s : State) (k : Nat) : (s.squashJob k).unworked = s.unworked :=
  s.releaseSlot_unworked k

@[simp] theorem State.squashAll_unworked (s : State) : s.squashAll.unworked = s.unworked :=
  State.forEach_keeps State.unworked (fun t k => t.squashJob_unworked k) ..

@[simp] theorem State.stopAll_unworked (s : State) : s.stopAll.unworked = s.unworked := s.squashAll_unworked

/-! ### Dispatch -/

@[simp] theorem State.fetch_unworked (s : State) (i q : Nat) : (s.fetch i q).unworked = s.unworked := by
  unfold State.fetch
  split
  · rfl
  · split <;> rfl

@[simp] theorem State.drainV_unworked (mark n : Nat) (s : State) : (State.drainV mark n s).unworked = s.unworked := by
  induction n generalizing s with
  | zero => rfl
  | succ n ih =>
    unfold State.drainV
    dsimp only
    split
    · rfl
    · split
      · rfl
      · exact ih _

@[simp] theorem State.makeRoomV_unworked (s : State) (n : Nat) : (s.makeRoomV n).unworked = s.unworked := by
  unfold State.makeRoomV
  split <;> simp

@[simp] theorem State.tierVFull_unworked (s : State) : s.tierVFull.unworked = s.unworked := by
  unfold State.tierVFull
  extract_lets
  split
  · exact State.event_unworked ..
  · rfl

@[simp] theorem State.refuseState_unworked (s : State) (k : Nat) : (s.refuseState k).unworked = s.unworked := by
  unfold State.refuseState
  split <;> simp

@[simp] theorem State.reservePlaces_unworked (s : State) (k : Nat) (j : Job) :
    (s.reservePlaces k j).unworked = s.unworked := by
  unfold State.reservePlaces
  dsimp only
  split
  · rfl
  · split
    · simp
    · split <;> simp

@[simp] theorem State.reserveIv_unworked (s : State) (k : Nat) (j : Job) : (s.reserveIv k j).unworked = s.unworked := by
  unfold State.reserveIv
  split
  · split <;> simp
  · rfl

@[simp] theorem State.checkDispatch_unworked (s : State) (k : Nat) : (s.checkDispatch k).unworked = s.unworked := by
  unfold State.checkDispatch
  split
  · rfl
  · dsimp only
    split
    · rfl
    · split
      · simp
      · split
        · simp
        · split <;> simp

@[simp] theorem State.claim_unworked (s : State) (p i q : Nat) (x : Qp) (e : SqEntry) :
    (s.claim p i q x e).unworked = s.unworked := by
  unfold State.claim
  split
  · rfl
  · dsimp only
    rw [State.fetch_unworked, State.checkDispatch_unworked]
    rfl

@[simp] theorem State.dispatchN_unworked (n : Nat) (s : State) : (State.dispatchN n s).unworked = s.unworked := by
  induction n generalizing s with
  | zero => rfl
  | succ n ih =>
    unfold State.dispatchN
    split
    · split
      · rfl
      · exact (ih _).trans (State.claim_unworked ..)
    · rfl

@[simp] theorem State.noteWaits_unworked (s : State) : s.noteWaits.unworked = s.unworked := by
  refine State.forEach_keeps State.unworked (fun t h => ?_) ..
  split
  · rfl
  · split <;> rfl

@[simp] theorem State.dispatch_unworked (s : State) : s.dispatch.unworked = s.unworked := by
  simp [State.dispatch]

/-! ### Conditioned blocks and draws -/

@[simp] theorem State.condition_unworked (s : State) : s.condition.unworked = s.unworked := by
  unfold State.condition
  split <;> rfl

@[simp] theorem State.handBlock_unworked (s : State) : s.handBlock.unworked = s.unworked := by
  unfold State.handBlock
  split
  · rfl
  · dsimp only
    split
    · rfl
    · split
      · rfl
      · split
        · split <;> rfl
        · split <;> rfl

@[simp] theorem State.endRestart_unworked (s : State) : s.endRestart.unworked = s.unworked := by
  unfold State.endRestart
  split
  · exact State.event_unworked ..
  · rfl

@[simp] theorem State.serveBlocks_unworked (s : State) : s.serveBlocks.unworked = s.unworked := by
  simp [State.serveBlocks]

@[simp] theorem State.ownInstance_unworked (s : State) (p : Nat) : (s.ownInstance p).unworked = s.unworked := by
  unfold State.ownInstance
  dsimp only
  split
  · exact State.serveBlocks_unworked _
  · rfl

@[simp] theorem State.drawInternal_unworked (s : State) (n : Nat) : (s.drawInternal n).2.unworked = s.unworked := by
  suffices h : s.ageInternal.unworked = s.unworked from h
  unfold State.ageInternal
  extract_lets
  split
  · rfl
  · exact State.serveBlocks_unworked _

@[simp] theorem State.skipLeaves_unworked (s : State) (k : Nat) (r : KeyRecord) :
    (s.skipLeaves k r).unworked = s.unworked := by
  unfold State.skipLeaves
  split
  · rfl
  · dsimp only
    split
    · rfl
    · exact State.event_unworked ..

end Sys2Proof.Machine
end

section
namespace Sys2Proof.Machine

open Sys2Proof Sys2Proof.Claims

/-! ### Stages of the power-fail sequence -/

/-- A bank that carries a load for 30 ms above its reserve gives both durations in full (R60). -/
theorem holdupSplit_full {load stored : Nat} (pos : 0 < load)
    (carries : 30000000 * load ≤ (stored - 600) * 1000000000) :
    holdupSplit load stored = (10000000, 20000000) := by
  have avail : 30000000 ≤ (stored - 600) * 1000000000 / load := (Nat.le_div_iff_mul_le pos).2 carries
  unfold holdupSplit
  rw [if_neg (Nat.pos_iff_ne_zero.1 pos)]
  ext <;> dsimp only <;> omega

theorem railOf_setRail (s : State) (r : Rail) (up : Bool) : railOf (s.setRail r up) r = up := by
  cases r <;> rfl

@[simp] theorem State.setRail_jobs (s : State) (r : Rail) (up : Bool) : (s.setRail r up).jobs = s.jobs := by
  cases r <;> rfl

@[simp] theorem State.setRail_keys (s : State) (r : Rail) (up : Bool) : (s.setRail r up).keys = s.keys := by
  cases r <;> rfl

@[simp] theorem State.setRail_start (s : State) (r : Rail) (up : Bool) : (s.setRail r up).start = s.start := by
  cases r <;> rfl

@[simp] theorem State.setRail_stage (s : State) (r : Rail) (up : Bool) :
    (s.setRail r up).pwr.stage = s.pwr.stage := by
  cases r <;> rfl

@[simp] theorem State.setRail_dieOn (s : State) (r : Rail) (up : Bool) :
    (s.setRail r up).pwr.dieOn = s.pwr.dieOn := by
  cases r <;> rfl

/-- The stage that begins leaves the rails as they are. -/
theorem railOf_enterStage (s : State) (g : PowerStage) (r : Rail) : railOf (s.enterStage g) r = railOf s r := by
  cases r <;> rfl

/-- Time does not go back, and reaches the moment waited for. -/
theorem State.le_until (s : State) (t : Nat) : t ≤ (s.until t).now := by
  change t ≤ s.clk.uptimeNs + (t - s.clk.uptimeNs)
  omega

theorem mainRailLoss_begins_rideThrough (rail : Rail) (load stored : Nat) (s : State) (normal : s.pwr.stage = .normal)
    (on : s.pwr.dieOn = true) (ready : s.start.phase = .ready) (pos : 0 < load)
    (carries : 30000000 * load ≤ (stored - 600) * 1000000000) :
    Gives (.mainRailLoss rail load stored) s fun t => t.pwr.stage = .rideThrough ∧ t.pwr.stageSince = s.now ∧
      t.pwr.rideNs = 10000000 ∧ t.pwr.windowNs = 20000000 ∧ railOf t rail = false ∧ t.jobs = s.jobs := by
  refine ⟨s.railLoss rail load stored, rfl, ?_⟩
  have split : holdupSplit load stored = (10000000, 20000000) := holdupSplit_full pos carries
  simp only [State.railLoss, State.setRail_stage, State.setRail_dieOn, normal, on, State.ready, State.setRail_start,
    ready, State.startRide, split]
  cases rail <;> exact ⟨rfl, rfl, rfl, rfl, rfl, rfl⟩

theorem mainRailLoss_keeps_stage (rail : Rail) (load stored : Nat) (s : State) (h : s.pwr.stage ≠ .normal) :
    Gives (.mainRailLoss rail load stored) s fun t => railOf t rail = false ∧ t.pwr.stage = s.pwr.stage := by
  refine ⟨s.railLoss rail load stored, rfl, ?_⟩
  have : s.railLoss rail load stored = s.setRail rail false := by
    simp [State.railLoss, h]
  rw [this]
  exact ⟨railOf_setRail s rail false, s.setRail_stage rail false⟩

/-- The state at the power-fail warning, before it is told: step 3 of Table - Power-fail sequence (R43, R61). -/
def State.warned (s : State) : State :=
  let t := (s.until (s.pwr.stageSince + s.pwr.rideNs)).enterStage .inFlight
  { t with start := { t.start with fetchStopped := true }, pwr := { t.pwr with alive := false, alive1k := false } }

theorem State.powerWarning_untold {s : State} (calm : s.lc.transition = none) :
    s.powerWarning.untold = s.warned.untold := by
  have told : (((s.warned.event .powerFail []).bump 0x11000C 0 1).portEventAll .powerFail).alarmWindows.untold =
      s.warned.untold := by simp
  have lc : (((s.warned.event .powerFail []).bump 0x11000C 0 1).portEventAll
      .powerFail).alarmWindows.lc.transition = s.lc.transition :=
    State.field_eq told (·.lc.transition) fun _ => rfl
  refine Eq.trans (congrArg State.untold ?_) told
  unfold State.powerWarning
  dsimp only
  split
  · next t h => cases (calm.symm.trans (lc.symm.trans h))
  · rfl

theorem rideThroughEnd_warns (s : State) (ride : s.pwr.stage = .rideThrough) (calm : s.lc.transition = none) :
    Gives .rideThroughEnd s fun t => t.pwr.stage = .inFlight ∧ t.start.fetchStopped = true ∧ t.pwr.alive = false ∧
      t.pwr.alive1k = false ∧ s.pwr.stageSince + s.pwr.rideNs ≤ t.now ∧ t.jobs = s.jobs := by
  refine ⟨if s.pwr.stage == .rideThrough then s.powerWarning else s, rfl, ?_⟩
  rw [if_pos (by simp [ride])]
  have told := State.powerWarning_untold calm
  have pwr : s.powerWarning.pwr = s.warned.pwr := State.field_eq told State.pwr fun _ => rfl
  have start : s.powerWarning.start = s.warned.start := State.field_eq told State.start fun _ => rfl
  have now : s.powerWarning.now = s.warned.now := State.field_eq told State.now fun _ => rfl
  have jobs : s.powerWarning.jobs = s.warned.jobs := State.field_eq told State.jobs fun _ => rfl
  simp only [pwr, start, now, jobs]
  exact ⟨rfl, rfl, rfl, rfl, s.le_until _, rfl⟩

/-! ### The jobs that the end of the window stops -/

/-- The jobs by slot, each with how far it has come. -/
def State.phases (s : State) : List (Nat × JobPhase) := s.jobs.map fun x => (x.1, x.2.phase)

@[simp] theorem State.phases_modJob (s : State) (k : Nat) (f : Job → Job) (h : ∀ j, (f j).phase = j.phase) :
    (s.modJob k f).phases = s.phases := by
  simp only [State.phases, State.modJob, upd, List.map_map]
  refine List.map_congr_left fun x _ => ?_
  by_cases hx : x.1 = k <;> simp [hx, h]

theorem State.phases_modJob_to (s : State) (k : Nat) (f : Job → Job) (p : JobPhase) (h : ∀ j, (f j).phase = p) :
    (s.modJob k f).phases = upd k (fun _ => p) s.phases := by
  simp only [State.phases, State.modJob, upd, List.map_map]
  refine List.map_congr_left fun x _ => ?_
  by_cases hx : x.1 = k <;> simp [hx, h]

@[simp] theorem State.removeRecord_phases (s : State) (k : Nat) : (s.removeRecord k).phases = s.phases := by
  unfold State.removeRecord
  split <;> rfl

@[simp] theorem State.clearRegion_phases (s : State) (r : Region) : (s.clearRegion r).phases = s.phases := by
  unfold State.clearRegion
  dsimp only
  exact State.ite_keeps State.phases rfl

@[simp] theorem State.freeSaffron_phases (s : State) (k : Nat) : (s.freeSaffron k).phases = s.phases := rfl

@[simp] theorem State.dropWaiting_phases (s : State) (k : Nat) : (s.dropWaiting k).phases = s.phases := rfl

@[simp] theorem State.releaseUnits_phases (s : State) (k : Nat) : (s.releaseUnits k).phases = s.phases := by
  unfold State.releaseUnits
  split
  · rfl
  · dsimp only
    refine (State.phases_modJob _ _ _ ?_).trans ?_
    · exact fun _ => rfl
    · rw [State.dropWaiting_phases, State.freeSaffron_phases]
      split <;> simp

@[simp] theorem State.wipeScoped_phases (s : State) (k : Nat) : (s.wipeScoped k).phases = s.phases := by
  unfold State.wipeScoped
  split
  · rfl
  · dsimp only
    refine (State.phases_modJob _ _ _ ?_).trans ?_
    · exact fun _ => rfl
    · refine State.forEach_keeps State.phases (fun t x => ?_) ..
      split
      · split
        · exact State.removeRecord_phases ..
        · rfl
      · rfl

@[simp] theorem State.markWaits_phases (s : State) (i q : Nat) : (s.markWaits i q).phases = s.phases := by
  unfold State.markWaits
  split
  · rfl
  · dsimp only
    split
    · refine State.forEach_keeps State.phases (fun t x => ?_) ..
      exact State.phases_modJob _ _ _ fun _ => rfl
    · rfl

@[simp] theorem State.closeLast_phases (s : State) (j : Job) : (s.closeLast j).phases = s.phases := by
  unfold State.closeLast
  split <;> rfl

@[simp] theorem State.checkStopped_phases (s : State) (i q : Nat) : (s.checkStopped i q).phases = s.phases := by
  unfold State.checkStopped
  split
  · rfl
  · split <;> rfl

@[simp] theorem State.returnIv_phases (s : State) (j : Job) : (s.returnIv j).phases = s.phases := by
  unfold State.returnIv State.setIv
  split
  · dsimp only
    split <;> rfl
  · rfl

@[simp] theorem State.returnPlaces_phases (s : State) (j : Job) : (s.returnPlaces j).phases = s.phases := by
  unfold State.returnPlaces
  split <;> rfl

theorem State.freeJob_phases (s : State) (k : Nat) : (s.freeJob k).phases = del k s.phases := by
  simp [State.phases, State.freeJob, del, List.filter_map, Function.comp_def]

theorem State.look_phases (s : State) (k : Nat) : look k s.phases = (s.job k).map (·.phase) := by
  unfold State.phases State.job
  induction s.jobs with
  | nil => rfl
  | cons x l ih =>
    rw [List.map_cons, look, look]
    split
    · rfl
    · exact ih

/-- A key that is not listed has nothing to change and nothing to delete; one that is listed once keeps the value it
has. -/
theorem upd_of_look_none {α : Type} {k : Nat} {f : α → α} {l : List (Nat × α)} (h : look k l = none) :
    upd k f l = l := by
  induction l with
  | nil => rfl
  | cons x l ih =>
    obtain ⟨i, v⟩ := x
    rw [look] at h
    split at h
    · cases h
    · next hi => simpa [upd, hi] using ih h

theorem del_of_look_none {α : Type} {k : Nat} {l : List (Nat × α)} (h : look k l = none) : del k l = l := by
  induction l with
  | nil => rfl
  | cons x l ih =>
    obtain ⟨i, v⟩ := x
    rw [look] at h
    split at h
    · cases h
    · next hi => simpa [del, hi] using ih h

theorem upd_of_not_mem {α : Type} {k : Nat} {f : α → α} {l : List (Nat × α)} (h : k ∉ l.map (·.1)) :
    upd k f l = l := by
  refine (List.map_congr_left fun x hx => ?_).trans (List.map_id l)
  rw [if_neg fun e => h (List.mem_map.2 ⟨x, hx, e⟩)]
  rfl

theorem upd_of_look_some {α : Type} {k : Nat} {v : α} {l : List (Nat × α)} (nodup : (l.map (·.1)).Nodup)
    (h : look k l = some v) : upd k (fun _ => v) l = l := by
  induction l with
  | nil => rfl
  | cons x l ih =>
    obtain ⟨i, w⟩ := x
    rw [List.map_cons, List.nodup_cons] at nodup
    rw [look] at h
    split at h
    · next hi =>
      cases h
      cases hi
      simpa [upd] using upd_of_not_mem (f := fun _ => v) nodup.1
    · next hi => simpa [upd, hi] using ih nodup.2 h

theorem State.collect_phases (s : State) (k : Nat) : (s.collect k).phases = upd k (fun _ => .finished) s.phases := by
  unfold State.collect
  split
  · next h => rw [upd_of_look_none (by rw [State.look_phases, h]; rfl)]
  · rw [State.markWaits_phases, State.phases_modJob_to _ _ _ .finished, State.wipeScoped_phases]
    exact fun _ => rfl

/-- An aborted job is finished (R35). -/
theorem State.abortJob_phases {s : State} (nodup : (s.jobs.map (·.1)).Nodup) (k d : Nat) :
    (s.abortJob k d).phases = upd k (fun _ => .finished) s.phases := by
  have keys : (s.phases.map (·.1)).Nodup := by simpa [State.phases, Function.comp_def] using nodup
  unfold State.abortJob
  split
  · next h => rw [upd_of_look_none (by rw [State.look_phases, h]; rfl)]
  · next j h =>
    split
    · next fin =>
      rw [upd_of_look_some keys]
      rw [State.look_phases, h]
      exact congrArg some (eq_of_beq fin)
    · dsimp only
      rw [State.collect_phases, State.phases_modJob, State.releaseUnits_phases, State.closeLast_phases]
      · rfl
      · exact fun _ => rfl

/-- A slot that is released holds no job (R35). -/
theorem State.releaseSlot_phases (s : State) (k : Nat) : (s.releaseSlot k).phases = del k s.phases := by
  unfold State.releaseSlot
  split
  · next h => rw [del_of_look_none (by rw [State.look_phases, h]; rfl)]
  · next j h =>
    refine (State.checkStopped_phases ..).trans ?_
    refine (State.freeJob_phases (((s.wipeScoped k).releaseUnits k |>.returnPlaces j).returnIv j) k).trans ?_
    simp

theorem State.stopAtPowerFail_phases {s : State} (nodup : (s.jobs.map (·.1)).Nodup) (k : Nat) (j : Job) :
    (s.stopAtPowerFail k j).phases = upd k (fun _ => .finished) s.phases ∨
      (s.stopAtPowerFail k j).phases = del k s.phases := by
  unfold State.stopAtPowerFail
  split
  · split
    · exact .inl (State.abortJob_phases nodup k 1)
    · exact .inr (s.releaseSlot_phases k)
  · exact .inr (s.releaseSlot_phases k)

theorem State.keys_phases (s : State) : s.phases.map (·.1) = s.jobs.map (·.1) := by
  simp [State.phases, Function.comp_def]

/-- What stops a job at power fail leaves every other job as far as it was, and the slots listed once. -/
theorem State.stopAtPowerFail_stops {s : State} (nodup : (s.jobs.map (·.1)).Nodup) (k : Nat) (j : Job) :
    ((s.stopAtPowerFail k j).jobs.map (·.1)).Nodup ∧
      ∀ x ∈ (s.stopAtPowerFail k j).phases, x.2 = .finished ∨ x.1 ≠ k ∧ x ∈ s.phases := by
  rw [← State.keys_phases] at nodup ⊢
  rcases State.stopAtPowerFail_phases (s.keys_phases ▸ nodup) k j with h | h
  · rw [h]
    refine ⟨?_, fun x hx => ?_⟩
    · have : (upd k (fun _ => JobPhase.finished) s.phases).map (·.1) = s.phases.map (·.1) := by
        simp only [upd, List.map_map]
        refine List.map_congr_left fun x _ => ?_
        by_cases hk : x.1 = k <;> simp [hk]
      rwa [this]
    · obtain ⟨y, hy, rfl⟩ := List.mem_map.1 hx
      by_cases hk : y.1 = k
      · exact .inl (by simp [hk])
      · exact .inr (by simp [hk, hy])
  · rw [h]
    refine ⟨nodup.sublist (List.filter_sublist.map _), fun x hx => .inr ?_⟩
    simpa [del, and_comm] using hx

theorem State.stopRunning_finishes (l : List (Nat × Job)) (s : State) (nodup : (s.jobs.map (·.1)).Nodup)
    (cover : ∀ x ∈ s.phases, x.2 = .finished ∨ x.1 ∈ l.map (·.1)) :
    ∀ x ∈ (s.forEach l fun s j => s.stopAtPowerFail j.1 j.2).phases, x.2 = .finished := by
  induction l generalizing s with
  | nil => simpa using cover
  | cons y l ih =>
    obtain ⟨keys, stops⟩ := State.stopAtPowerFail_stops nodup y.1 y.2
    refine ih _ keys fun x hx => ?_
    rcases stops x hx with fin | ⟨other, old⟩
    · exact .inl fin
    · simpa [other] using cover x old

@[simp] theorem State.cardPowerFail_untold (s : State) : s.cardPowerFail.untold = s.untold := by
  have powered (t : State) : (if t.card.vdd then t.cardPowerDown else t).untold = t.untold :=
    State.ite_keeps State.untold t.cardPowerDown_untold
  refine (powered _).trans ?_
  split
  · split
    · exact State.event_untold ..
    · exact State.endCardOp_untold ..
  · rfl

theorem State.railsUp_eq_false {s : State} (h : s.pwr.rail12 = false ∨ s.pwr.rail3v3 = false) : s.railsUp = false := by
  unfold State.railsUp
  rcases h with h | h <;> simp [h]

theorem inFlightWindowEnd_flushes (s : State) (flight : s.pwr.stage = .inFlight)
    (nodup : (s.jobs.map (·.1)).Nodup) :
    Gives .inFlightWindowEnd s fun t => t.pwr.stage = .flushing ∧
      (s.pwr.rail12 = false ∨ s.pwr.rail3v3 = false → ∀ x ∈ t.jobs, x.2.phase = .finished) := by
  refine ⟨if s.pwr.stage == .inFlight then s.windowEnd else s, rfl, ?_⟩
  rw [if_pos (by simp [flight])]
  unfold State.windowEnd
  extract_lets running s₁ s₂ s₃
  have told : s₃.commitAll.cardPowerFail.untold = s₃.untold := by simp
  refine ⟨(State.field_eq told (·.pwr.stage) fun _ => rfl), fun lost x hx => ?_⟩
  have same : s₃.commitAll.cardPowerFail.jobs = s₃.jobs := State.field_eq told State.jobs fun _ => rfl
  have rails : s₁.railsUp = s.railsUp :=
    State.ite_keeps (s := s.until (s.pwr.stageSince + s.pwr.windowNs)) State.railsUp rfl
  have jobs : s₁.jobs = s.jobs :=
    State.ite_keeps (s := s.until (s.pwr.stageSince + s.pwr.windowNs)) State.jobs rfl
  have stop : s₂ = s₁.forEach running fun s j => s.stopAtPowerFail j.1 j.2 :=
    if_neg (by simp [rails, State.railsUp_eq_false lost])
  refine State.stopRunning_finishes running s₁ (jobs ▸ nodup) (fun y hy => ?_) (x.1, x.2.phase) ?_
  · obtain ⟨j, hj, rfl⟩ := List.mem_map.1 hy
    by_cases fin : j.2.phase = .finished
    · exact .inl fin
    · exact .inr (List.mem_map.2 ⟨j, List.mem_filter.2 ⟨jobs ▸ hj, by simpa using fin⟩, rfl⟩)
  · rw [← stop]
    exact List.mem_map.2 ⟨x, same ▸ hx, rfl⟩

/-! ### The end of the flush -/

theorem State.squashEach_phases (l : List Nat) (s : State) :
    (s.forEach l fun s k => s.squashJob k).phases = s.phases.filter fun x => !l.contains x.1 := by
  induction l generalizing s with
  | nil => simp
  | cons k l ih =>
    rw [State.forEach_cons, ih]
    simp [State.squashJob, State.releaseSlot_phases, del, List.filter_filter, bne, Bool.and_comm, beq_eq_decide]

/-- Once every job is squashed no slot is taken (R35, R74). -/
@[simp] theorem State.squashAll_jobs (s : State) : s.squashAll.jobs = [] := by
  have none : s.squashAll.phases = [] := by
    refine (State.squashEach_phases ..).trans (List.filter_eq_nil_iff.2 fun x hx => ?_)
    obtain ⟨y, hy, rfl⟩ := List.mem_map.1 hx
    simpa using ⟨y.2, hy⟩
  exact List.map_eq_nil_iff.1 none

@[simp] theorem State.stopAll_jobs (s : State) : s.stopAll.jobs = [] := s.squashAll_jobs

/-- The state without what a flush changes: what it tells, the bytes it takes and the times of the phases. -/
def State.untimed (s : State) : State :=
  { s.untold with free := 0, start := { s.start with phaseTimes := [] } }

/-- A flush commits what waits and notes its duration in the phase times (R86, R92). -/
theorem State.flushNoted_untimed (s : State) : s.commitAll.noteFlush.untimed = s.untimed := by
  have noted (t : State) : t.noteFlush.untimed = t.untimed := rfl
  exact (noted _).trans (State.field_eq s.commitAll_untold State.untimed fun _ => rfl)

end Sys2Proof.Machine
end

section
namespace Sys2Proof.Machine

open Sys2Proof Sys2Proof.Claims

theorem State.railsUp_eq_true {s : State} (h12 : s.pwr.rail12 = true) (h3v3 : s.pwr.rail3v3 = true) :
    s.railsUp = true := by
  simp [State.railsUp, h12, h3v3]

/-- The state in service again, before it is told (R62). -/
def State.resumed (s : State) : State :=
  let t := s.enterStage .normal
  { t with start := { t.start with fetchStopped := false } }

theorem State.runDeferred_none {s : State} (none : s.faults.deferred = []) : s.runDeferred = s := by
  unfold State.runDeferred
  dsimp only
  rw [none, State.forEach_nil, ← none]

/-- The service that goes on tells and fetches and dispatches, and no more where no escalation was deferred. -/
theorem State.powerBack_resumes {s : State} (none : s.faults.deferred = []) :
    s.powerBack.unworked.untold = s.resumed.unworked.untold := by
  let told := (s.resumed.event .powerRestored []).portEventAll .powerRestored
  have same : told.untold = s.resumed.untold := by simp [told]
  have deferred : told.faults.deferred = [] :=
    (State.field_eq same (·.faults.deferred) fun _ => rfl).trans none
  let fetched := told.forEach told.insts fun t i =>
    t.forEach (List.range i.2.qps.length) fun t q => t.fetch i.1 q
  have worked : fetched.unworked = told.unworked := by
    refine State.forEach_keeps State.unworked (fun t i => ?_) ..
    exact State.forEach_keeps State.unworked (fun _ _ => State.fetch_unworked ..) ..
  have back : s.powerBack = fetched.dispatch := by
    change (told.runDeferred.forEach told.runDeferred.insts _).dispatch = _
    rw [State.runDeferred_none deferred]
  rw [back, State.dispatch_unworked, worked]
  exact congrArg State.unworked same

theorem State.flushDone_restored {s : State} (up : s.railsUp = true) (ready : s.start.phase = .ready)
    (none : s.faults.deferred = []) : s.flushDone.unworked.untold = s.commitAll.noteFlush.resumed.unworked.untold := by
  have noted := s.flushNoted_untimed
  have rails : s.commitAll.noteFlush.railsUp = s.railsUp := State.field_eq noted State.railsUp fun _ => rfl
  have phase : s.commitAll.noteFlush.start.phase = s.start.phase := State.field_eq noted (·.start.phase) fun _ => rfl
  have deferred : s.commitAll.noteFlush.faults.deferred = s.faults.deferred :=
    State.field_eq noted (·.faults.deferred) fun _ => rfl
  rw [← State.powerBack_resumes (deferred.trans none)]
  refine congrArg (fun t : State => t.unworked.untold) (if_pos (?_ : (_ && _) = true))
  simp [rails, up, State.ready, phase, ready]

theorem flushDone_returns (s : State) (flushing : s.pwr.stage = .flushing) (h12 : s.pwr.rail12 = true)
    (h3v3 : s.pwr.rail3v3 = true) (ready : s.start.phase = .ready) (none : s.faults.deferred = []) :
    Gives .flushDone s fun t =>
      t.pwr.stage = .normal ∧ t.start.fetchStopped = false ∧ t.start.phase = .ready := by
  refine ⟨if s.pwr.stage == .flushing then s.flushDone else s, rfl, ?_⟩
  rw [if_pos (by simp [flushing])]
  have back := State.flushDone_restored (State.railsUp_eq_true h12 h3v3) ready none
  have pwr := State.field_eq (blank := fun t => t.unworked.untold) back State.pwr fun _ => rfl
  have start := State.field_eq (blank := fun t => t.unworked.untold) back State.start fun _ => rfl
  have phase : s.commitAll.noteFlush.start.phase = s.start.phase :=
    State.field_eq s.flushNoted_untimed (·.start.phase) fun _ => rfl
  simp only [pwr, start]
  exact ⟨rfl, rfl, phase.trans ready⟩

theorem flushDone_powersOff (s : State) (flushing : s.pwr.stage = .flushing)
    (lost : s.pwr.rail12 = false ∨ s.pwr.rail3v3 = false) :
    Gives .flushDone s fun t => t.pwr.stage = .off ∧ t.pwr.dieOn = false ∧ t.pwr.alive = false ∧
      t.clk.devTime = none ∧ t.start.vmek = none ∧ t.log.buffer = [] ∧ t.jobs = [] ∧ t.otp = s.otp := by
  refine ⟨if s.pwr.stage == .flushing then s.flushDone else s, rfl, ?_⟩
  rw [if_pos (by simp [flushing])]
  unfold State.flushDone
  extract_lets t
  have noted : t.untimed = s.untimed := s.flushNoted_untimed
  have rails : t.railsUp = s.railsUp := State.field_eq noted State.railsUp fun _ => rfl
  have otp : t.otp = s.otp := State.field_eq noted State.otp fun _ => rfl
  have wiped : t.wipeKeys.stopAll.unworked = t.keyless.unworked := by simp
  rw [if_neg (by simp [rails, State.railsUp_eq_false lost])]
  unfold State.powerOff
  dsimp only
  exact ⟨rfl, rfl, rfl, rfl, State.field_eq wiped (·.start.vmek) fun _ => rfl, rfl, t.wipeKeys.stopAll_jobs,
    (State.field_eq wiped State.otp fun _ => rfl).trans otp⟩

/-! ### The return of a rail and the measure of the bank -/

theorem mainRailReturn_ends_rideThrough (rail : Rail) (s : State) :
    Gives (.mainRailReturn rail) s fun t => railOf t rail = true ∧
      (t.pwr.rail12 = true → t.pwr.rail3v3 = true → s.pwr.stage = .rideThrough → t.pwr.stage = .normal) ∧
      (s.pwr.stage ≠ .rideThrough → t.pwr.stage = s.pwr.stage) ∧ t.jobs = s.jobs ∧ t.keys = s.keys := by
  refine ⟨s.railReturn rail, rfl, ?_⟩
  unfold State.railReturn
  extract_lets t
  have stage : t.pwr.stage = s.pwr.stage := s.setRail_stage rail true
  have jobs : t.jobs = s.jobs := s.setRail_jobs rail true
  have keys : t.keys = s.keys := s.setRail_keys rail true
  split
  · next ends =>
    obtain ⟨-, ride⟩ := Bool.and_eq_true_iff.1 ends
    exact ⟨(railOf_enterStage ..).trans (railOf_setRail ..), fun _ _ _ => rfl,
      fun other => absurd (stage.symm.trans (eq_of_beq ride)) other, jobs, keys⟩
  · next goes =>
    refine ⟨railOf_setRail .., fun h12 h3v3 ride => absurd ?_ goes, fun _ => stage, jobs, keys⟩
    simp [State.railsUp_eq_true h12 h3v3, stage, ride]

/-- A record of an event for which the log has a place waits in the buffer with the next SEQ. -/
theorem logged_event {s : State} {c : EventCode} (takes : logTakes s c.severity) (d : Bytes) :
    Logged s (s.event c d) c := by
  obtain ⟨place, full⟩ := takes
  obtain ⟨e, code, severity, seq, -, h⟩ := State.raise_taken place full c 0xFFFF d
  refine ⟨e, ?_, code, severity, seq⟩
  rw [State.event, h]

@[simp] theorem State.aerFor_untold (s : State) (i : Nat) : (s.aerFor i).untold = s.untold := by
  unfold State.aerFor
  split
  · rfl
  · split <;> rfl

/-- One more record is open, under the next FAULT_ID. -/
def State.filed (s : State) (r : FaultRecord) : State :=
  { s with faults := { s.faults with open_ := s.faults.open_ ++ [r], nextId := s.faults.nextId + 1 } }

/-- An uncorrected fault that finds a place opens one record, of its source, and reports it (R480). -/
theorem State.openFault_room {s : State} (room : s.faults.open_.length < 64) (f : FaultOf) : ∃ r, r.source = f.src ∧
    (s.openFault f).untold = (s.filed r).untold := by
  have counted : ((s.bump 0x260004 1 1).aerFor f.inst).untold = s.untold := by simp
  unfold State.openFault
  extract_lets _ t _ id _ t' _ r
  have faults : t.faults = s.faults := State.field_eq counted State.faults fun _ => rfl
  have raised : t'.untold = s.untold := (State.raise_untold ..).trans counted
  have faults' : t'.faults = s.faults := State.field_eq raised State.faults fun _ => rfl
  have next : id = t'.faults.nextId :=
    congrArg Faults.nextId (faults.trans faults'.symm)
  rw [if_neg (by rw [faults]; omega)]
  refine ⟨r, rfl, Eq.trans ?_ (congrArg (fun u => u.filed r) raised)⟩
  rw [next]
  rfl

theorem State.holdupLow_untold (s : State) (full : Nat) :
    (if full < 2400 then s.event .holdupLow [] else s).untold = s.untold :=
  State.ite_keeps State.untold (s.event_untold .holdupLow [])

theorem holdupMeasure_reports (full stored : Nat) (s : State) (room : s.faults.open_.length < 64) :
    Gives (.holdupMeasure full stored) s fun t => t.pwr.holdupMj = stored ∧
      (2400 ≤ full → t.faults = s.faults ∧ t.log = s.log) ∧
      (1000 ≤ full → full < 2400 → logTakes s 2 → Logged s t .holdupLow ∧ t.faults = s.faults) ∧
      (full < 1000 → ∃ r ∈ t.faults.open_, r.source = 0x11) := by
  refine ⟨s.measureHoldup full stored, rfl, ?_⟩
  let measured := { s with pwr := { s.pwr with holdupMj := stored } }
  have told := measured.holdupLow_untold full
  let low := if full < 2400 then measured.event .holdupLow [] else measured
  have pwr : low.pwr = measured.pwr := State.field_eq told State.pwr fun _ => rfl
  have faults : low.faults = s.faults := State.field_eq told State.faults fun _ => rfl
  have measure : s.measureHoldup full stored = if full < 1000 then low.openFault { src := 0x11 } else low := rfl
  rw [measure]
  by_cases fails : full < 1000
  · rw [if_pos fails]
    obtain ⟨r, source, opened⟩ := low.openFault_room (faults ▸ room) { src := 0x11 }
    refine ⟨?_, fun _ => by omega, fun _ => by omega, fun _ => ⟨r, ?_, source⟩⟩
    · exact (State.field_eq opened (·.pwr.holdupMj) fun _ => rfl).trans (congrArg Power.holdupMj pwr)
    · have records : (low.openFault { src := 0x11 }).faults.open_ = low.faults.open_ ++ [r] :=
        State.field_eq opened (·.faults.open_) fun _ => rfl
      simp [records]
  · rw [if_neg fails]
    refine ⟨congrArg Power.holdupMj pwr, fun enough => ?_, fun _ less takes => ⟨?_, faults⟩, fun h => absurd h fails⟩
    · simp only [low, if_neg (Nat.not_lt.2 enough)]
      exact ⟨rfl, rfl⟩
    · simp only [low, if_pos less]
      exact logged_event (s := measured) (c := .holdupLow) takes []

/-- Settles O33, stage by stage: the jobs that the in-flight window stops are followed through their phases, and what
an event, a commit and the work of jobs keep carries each stage's fields to the end. -/
theorem powerFailsInItsStages : Obligations.PowerFailsInItsStages := by
  unfold Obligations.PowerFailsInItsStages
  exact ⟨mainRailLoss_begins_rideThrough, mainRailLoss_keeps_stage, rideThroughEnd_warns, inFlightWindowEnd_flushes,
    flushDone_returns, flushDone_powersOff, mainRailReturn_ends_rideThrough, holdupMeasure_reports, fun _ _ => rfl⟩

end Sys2Proof.Machine
end

section
namespace Sys2Proof.Machine

open Sys2Proof Sys2Proof.Claims

/-! ### HALTED and the fatal faults -/

/-- What the entry into HALTED sets, before the sessions, windows and card operations end and the ports are told. -/
def State.haltedBy (s : State) (cause : Nat) (closed : Bool) : State :=
  { s with
    start := { s.start with
      phase := .halted, haltCause := BitVec.ofNat 16 cause, ladder := s.haltLadder closed, draining := none }
    pwr := { s.pwr with alive := false, alive1k := false } }

theorem State.enterHalted_untold (s : State) (cause : Nat) (closed : Bool) :
    (s.enterHalted cause closed).untold = (s.haltedBy cause closed).untold := by
  have told : (((((s.haltedBy cause closed).closeAllSessions.rollback).alarmWindows).freeWindows
      fun _ => true).endCard.portEventAll .halted).untold = (s.haltedBy cause closed).untold := by simp
  exact told

theorem State.enterHalted_start (s : State) (cause : Nat) (closed : Bool) :
    (s.enterHalted cause closed).start = (s.haltedBy cause closed).start :=
  State.field_eq (s.enterHalted_untold cause closed) State.start fun _ => rfl

theorem State.enterHalted_jobs (s : State) (cause : Nat) (closed : Bool) :
    (s.enterHalted cause closed).jobs = s.jobs :=
  State.field_eq (s.enterHalted_untold cause closed) State.jobs fun _ => rfl

/-- The state without what a fatal fault may change besides: what it records and how it halts. -/
def State.unfailed (s : State) : State :=
  { s.untold.unworked with
    faults := {}
    start := { s.start with phase := .warden, haltCause := 0, ladder := .closed, draining := none, vmek := none }
    pwr := { s.pwr with alive := false, alive1k := false } }

theorem State.unfailed_of_untold {s t : State} (h : t.untold = s.untold) : t.unfailed = s.unfailed :=
  State.field_eq h State.unfailed fun _ => rfl

theorem State.unfailed_of_unworked {s t : State} (h : t.unworked = s.unworked) : t.unfailed = s.unfailed :=
  State.field_eq h State.unfailed fun _ => rfl

@[simp] theorem State.keyless_unfailed (s : State) : s.keyless.unfailed = s.unfailed := rfl

@[simp] theorem State.haltedBy_unfailed (s : State) (cause : Nat) (closed : Bool) :
    (s.haltedBy cause closed).unfailed = s.unfailed := rfl

theorem State.enterHalted_unfailed (s : State) (cause : Nat) (closed : Bool) :
    (s.enterHalted cause closed).unfailed = s.unfailed := by
  rw [State.unfailed_of_untold (s.enterHalted_untold cause closed), State.haltedBy_unfailed]

/-- The state with ALIVE and ALIVE_1K open (R43). -/
def State.contactsOpen (s : State) : State := { s with pwr := { s.pwr with alive := false, alive1k := false } }

@[simp] theorem State.contactsOpen_unfailed (s : State) : s.contactsOpen.unfailed = s.unfailed := rfl

/-- A state whose keys are wiped, whose jobs are stopped and whose contacts are open: the fatal sequence up to its
report (R485). -/
def State.silenced (s : State) : State := (s.bump 0x260004 2 1).wipeKeys.stopAll.contactsOpen

@[simp] theorem State.silenced_jobs (s : State) : s.silenced.jobs = [] := State.stopAll_jobs _

theorem State.silenced_unworked (s : State) : s.silenced.unworked = s.keyless.contactsOpen.unworked := by
  have wiped : (s.bump 0x260004 2 1).wipeKeys.stopAll.unworked = s.keyless.unworked := by
    rw [State.stopAll_unworked, State.wipeKeys_unworked]
    rfl
  exact State.field_eq wiped (·.contactsOpen.unworked) fun _ => rfl

theorem State.silenced_vmek (s : State) : s.silenced.start.vmek = none :=
  State.field_eq s.silenced_unworked (·.start.vmek) fun _ => rfl

theorem State.silenced_unfailed (s : State) : s.silenced.unfailed = s.unfailed := by
  rw [State.unfailed_of_unworked s.silenced_unworked, State.contactsOpen_unfailed, State.keyless_unfailed]

/-- The record of the last fatal fault. -/
def State.withLastFatal (s : State) (r : Bytes) : State := { s with faults := { s.faults with lastFatal := r } }

/-- The state without what the report of a fatal fault changes. -/
def State.unfaulted (s : State) : State := { s.untold with faults := {} }

/-- A fatal fault reported, with its record (R485). -/
def State.fatalNoted (s : State) (src detail : Nat) : State :=
  let t := ((s.silenced.aerAll true).fatalEvent src detail).commitAll
  t.withLastFatal (fields [(2, src), (6, 0), (8, t.time64.toNat), (8, detail)])

theorem State.fatalNoted_unfaulted (s : State) (src detail : Nat) :
    (s.fatalNoted src detail).unfaulted = s.silenced.unfaulted := by
  have told : ((s.silenced.aerAll true).fatalEvent src detail).commitAll.untold = s.silenced.untold := by
    simp [State.fatalEvent]
  have recorded (t : State) (r : Bytes) : (t.withLastFatal r).unfaulted = t.unfaulted := rfl
  exact (recorded ..).trans (State.field_eq told State.unfaulted fun _ => rfl)

/-- A fatal fault outside HALTED and outside a transition stops the jobs and wipes the keys, then enters HALTED
(R485). -/
theorem State.fatal_eq {s : State} (serves : s.start.phase ≠ .halted) (calm : s.lc.transition = none)
    (src detail : Nat) : s.fatal src detail =
      (s.fatalNoted src detail).enterHalted EventCode.fatal.code (closesLadder src) := by
  unfold State.fatal
  rw [if_neg (by simp [State.halted, serves]), if_neg (by simp [State.inTransition, calm])]
  rfl

theorem State.fatalNoted_jobs (s : State) (src detail : Nat) : (s.fatalNoted src detail).jobs = [] :=
  (State.field_eq (s.fatalNoted_unfaulted src detail) State.jobs fun _ => rfl).trans s.silenced_jobs

theorem State.fatalNoted_vmek (s : State) (src detail : Nat) : (s.fatalNoted src detail).start.vmek = none :=
  (State.field_eq (s.fatalNoted_unfaulted src detail) (·.start.vmek) fun _ => rfl).trans s.silenced_vmek

theorem State.fatalNoted_unfailed (s : State) (src detail : Nat) :
    (s.fatalNoted src detail).unfailed = s.unfailed :=
  (State.field_eq (s.fatalNoted_unfaulted src detail) State.unfailed fun _ => rfl).trans s.silenced_unfailed

theorem State.fatal_of_halted {s : State} (halted : s.start.phase = .halted) (src detail : Nat) :
    s.fatal src detail = s.fatalEvent src detail := if_pos (by simp [State.halted, halted])

/-- During a transition a fatal fault waits for its end (R485). -/
theorem State.fatal_of_transition {s : State} (serves : s.start.phase ≠ .halted) (transit : s.lc.transition ≠ none)
    (src detail : Nat) : s.fatal src detail =
      { s with faults := { s.faults with pendingFatal := s.faults.pendingFatal ++ [(src, detail)] } } := by
  unfold State.fatal
  rw [if_neg (by simp [State.halted, serves]),
    if_pos (by simpa [State.inTransition, Option.isSome_iff_ne_none] using transit)]

theorem State.fatal_unfailed (s : State) (src detail : Nat) : (s.fatal src detail).unfailed = s.unfailed := by
  by_cases halted : s.start.phase = .halted
  · rw [State.fatal_of_halted halted]
    exact State.unfailed_of_untold (State.raise_untold ..)
  · by_cases calm : s.lc.transition = none
    · rw [State.fatal_eq halted calm, State.enterHalted_unfailed, State.fatalNoted_unfailed]
    · rw [State.fatal_of_transition halted calm]
      rfl

theorem State.fatal_halts {s : State} (serves : s.start.phase ≠ .halted) (calm : s.lc.transition = none)
    (src detail : Nat) : (s.fatal src detail).start.phase = .halted ∧ (s.fatal src detail).start.vmek = none ∧
      (s.fatal src detail).jobs = [] := by
  rw [State.fatal_eq serves calm, State.enterHalted_start, State.enterHalted_jobs]
  exact ⟨rfl, s.fatalNoted_vmek src detail, s.fatalNoted_jobs src detail⟩

/-! ### Tamper -/

/-- The warden's register as a tamper leaves it (R49). -/
def State.latched (s : State) (c : TamperCause) : State :=
  { s with warden := { s.warden with
    latch := true
    causeMesh := s.warden.causeMesh || c == .mesh
    causeLoop := s.warden.causeLoop || c == .loop
    causeTemp := s.warden.causeTemp || c == .temperature
    latchTime := if s.warden.latch then s.warden.latchTime else s.now } }

/-- A tamper latches, and is fatal to a die that has started (R49, R485). -/
theorem State.tamper_eq (s : State) (c : TamperCause) : s.tamper c =
    if s.pwr.dieOn && s.start.began then (s.latched c).fatal 0x23 c.code else s.latched c := rfl

theorem State.tamper_unfailed (s : State) (c : TamperCause) : (s.tamper c).unfailed = (s.latched c).unfailed := by
  rw [State.tamper_eq]
  exact State.ite_keeps State.unfailed (State.fatal_unfailed ..)

theorem State.tamper_latch (s : State) (c : TamperCause) : (s.tamper c).warden.latch = true :=
  State.field_eq (s.tamper_unfailed c) (·.warden.latch) fun _ => rfl

theorem tamperMeshCheck_latches (s : State) : Gives (.tamperMeshCheck false) s fun t =>
    t.warden.latch = true ∧ t.warden.causeMesh = true ∧
      (s.pwr.dieOn = true → s.start.began = true → s.start.phase ≠ .halted → s.lc.transition = none →
        t.start.phase = .halted ∧ t.start.vmek = none ∧ t.jobs = []) ∧
      (s.pwr.dieOn = false → t.start = s.start ∧ t.keys = s.keys) := by
  refine ⟨s.tamper .mesh, rfl, s.tamper_latch .mesh, ?_, fun on began serves calm => ?_, fun off => ?_⟩
  · refine (State.field_eq (s.tamper_unfailed .mesh) (·.warden.causeMesh) fun _ => rfl).trans ?_
    exact Bool.or_true _
  · rw [State.tamper_eq, if_pos (by simp [on, began])]
    exact State.fatal_halts (s := s.latched .mesh) serves calm _ _
  · rw [State.tamper_eq, if_neg (by simp [off])]
    exact ⟨rfl, rfl⟩

/-- The loop's registers after a pulse. -/
def State.pulsed (s : State) (ohm run : Nat) (cond : Bool) : State :=
  { s with warden := { s.warden with loopOhm := ohm, loopRun := run, loopCondition := cond } }

/-- The third pulse in a row that finds the condition is tamper in modes 2 and 3 (R46, R47). -/
theorem State.loopPulse_third {s : State} {ohm : Nat} (finds : loopTamper s.warden.loopMode ohm = true)
    (mode : s.warden.loopMode ≠ 1) (third : s.warden.loopRun = 2) (fresh : s.warden.loopCondition = false) :
    s.loopPulse ohm = (s.pulsed ohm 3 true).tamper .loop := by
  simp [State.loopPulse, State.pulsed, finds, mode, third, fresh]

/-- A pulse in mode 0 or 1, or before the third of a run, notes the resistance, and at most tells of a change. -/
theorem State.loopPulse_waits {s : State} {ohm : Nat} (waits : s.warden.loopMode ≤ 1 ∨ s.warden.loopRun < 2) :
    ∃ run cond, (s.loopPulse ohm).untold = (s.pulsed ohm run cond).untold := by
  unfold State.loopPulse
  extract_lets mode bad run cond changed _ t
  refine ⟨min 3 run, cond, ?_⟩
  by_cases one : mode = 1
  · rw [if_pos one]
    exact State.ite_keeps State.untold (t.event_untold .tamperLoopChange [])
  · have uncond : cond = false := by
      rcases waits with low | early
      · have zero : mode = 0 := by omega
        simp [cond, bad, zero, loopTamper]
      · have : run < 3 := by
          simp only [run]
          split <;> omega
        simp [cond, this]
    rw [if_neg one, if_neg (by simp [uncond])]
    rfl

theorem tamperLoopPulse_tampers (ohm : Nat) (s : State) (finds : loopTamper s.warden.loopMode ohm = true)
    (mode : s.warden.loopMode ≠ 1) (third : s.warden.loopRun = 2) (fresh : s.warden.loopCondition = false) :
    Gives (.tamperLoopPulse ohm) s fun t => t.warden.latch = true ∧ t.warden.causeLoop = true := by
  refine ⟨s.loopPulse ohm, rfl, ?_⟩
  rw [State.loopPulse_third finds mode third fresh]
  refine ⟨State.tamper_latch .., ?_⟩
  refine (State.field_eq (State.tamper_unfailed _ .loop) (·.warden.causeLoop) fun _ => rfl).trans ?_
  exact Bool.or_true _

theorem tamperLoopPulse_waits (ohm : Nat) (s : State) (waits : s.warden.loopMode ≤ 1 ∨ s.warden.loopRun < 2) :
    Gives (.tamperLoopPulse ohm) s fun t => t.warden.latch = s.warden.latch ∧ t.warden.loopOhm = ohm ∧
      t.start = s.start := by
  obtain ⟨run, cond, same⟩ := State.loopPulse_waits (ohm := ohm) waits
  exact ⟨s.loopPulse ohm, rfl, (State.field_eq same (·.warden.latch) fun _ => rfl),
    (State.field_eq same (·.warden.loopOhm) fun _ => rfl), (State.field_eq same State.start fun _ => rfl)⟩

theorem canTemperatureLimit_latches (mc : Int) (s : State) : Gives (.canTemperatureLimit mc) s fun t =>
    (mc < -40000 ∨ 120000 < mc → t.warden.latch = true ∧ t.warden.causeTemp = true) ∧
      (-40000 ≤ mc → mc ≤ 120000 → t = s) := by
  refine ⟨if mc < -40000 || 120000 < mc then s.tamper .temperature else s, rfl, fun beyond => ?_, fun low high => ?_⟩
  · rw [if_pos (by simpa using beyond)]
    refine ⟨State.tamper_latch .., ?_⟩
    refine (State.field_eq (s.tamper_unfailed .temperature) (·.warden.causeTemp) fun _ => rfl).trans ?_
    exact Bool.or_true _
  · exact if_neg (by simp; omega)

/-! ### The contacts, the card supply and the junction -/

/-- ALIVE and ALIVE_1K run in DEVICE_READY in TEST, FACTORY or DEPLOYED without warning or debug (R43, R470). -/
theorem State.aliveRuns_iff (s : State) : s.aliveRuns = true ↔
    s.start.phase = .ready ∧ (s.lcState = 1 ∨ s.lcState = 2 ∨ s.lcState = 3) ∧
      s.pwr.stage ≠ .inFlight ∧ s.pwr.stage ≠ .flushing ∧ s.warden.debugFlag = false := by
  have states : (1 ≤ s.lcState ∧ s.lcState ≤ 3) ↔ (s.lcState = 1 ∨ s.lcState = 2 ∨ s.lcState = 3) := by omega
  simp only [State.aliveRuns, State.ready, State.warning, Bool.and_eq_true, ← states, decide_eq_true_eq, beq_iff_eq,
    Bool.not_eq_true', Bool.or_eq_false_iff, beq_eq_false_iff_ne, ne_eq]
  tauto

theorem aliveToggle_toggles (s : State) :
    let runs := s.start.phase = .ready ∧ (s.lcState = 1 ∨ s.lcState = 2 ∨ s.lcState = 3) ∧
      s.pwr.stage ≠ .inFlight ∧ s.pwr.stage ≠ .flushing ∧ s.warden.debugFlag = false
    Gives .aliveToggle s (fun t => (runs → t.pwr.alive = !s.pwr.alive) ∧ (¬runs → t.pwr.alive = false) ∧
      t = { s with pwr := { s.pwr with alive := t.pwr.alive } }) ∧
    Gives .alive1kToggle s (fun t => (runs → t.pwr.alive1k = !s.pwr.alive1k) ∧ (¬runs → t.pwr.alive1k = false) ∧
      t = { s with pwr := { s.pwr with alive1k := t.pwr.alive1k } }) := by
  simp only [← State.aliveRuns_iff]
  refine ⟨⟨_, rfl, fun runs => ?_, fun stops => ?_, rfl⟩, ⟨_, rfl, fun runs => ?_, fun stops => ?_, rfl⟩⟩
  · simp [runs]
  · simp [stops]
  · simp [runs]
  · simp [stops]

theorem cardVddOvercurrent_powersDown (s : State) (vdd : s.card.vdd = true) : Gives .cardVddOvercurrent s fun t =>
    t.card.vdd = false ∧ t.card.state = .empty ∧ (s.card.op.state = 1 → t.card.op.state = 3) := by
  let told := s.event .cardVddOvercurrent []
  have card : told.card = s.card := State.event_keeps State.card (fun _ _ _ _ _ => rfl) ..
  have off : s.vddOvercurrent = (if told.card.op.state = 1 then told.endCardOp .cardRemoved else told).cardPowerDown :=
    if_pos vdd
  refine ⟨s.vddOvercurrent, rfl, off ▸ rfl, off ▸ rfl, fun runs => ?_⟩
  rw [off, if_pos (card ▸ runs)]
  exact (congrArg (fun c => c.op.state) (State.event_keeps State.card (fun _ _ _ _ _ => rfl) ..) :)

theorem thermalPause_pauses (mc : Int) (s : State) (hot : 100000 ≤ mc) (low : s.gov.vcore = 650)
    (runs : s.pwr.thermalPaused = false) : Gives (.thermalPause mc) s fun t =>
      t.pwr.thermalPaused = true ∧ t.pwr.dieMc = mc ∧ t.mayDispatch = false ∧ t.jobs = s.jobs ∧ t.insts = s.insts ∧
        (logTakes s 3 → Logged s t .thermalPause) := by
  let paused := { s with pwr := { s.pwr with dieMc := mc, thermalPaused := true } }
  have pause : s.thermalPause mc = paused.event .thermalPause [] := if_pos (by simp [hot, low, runs])
  have told := paused.event_untold .thermalPause []
  have pwr : (paused.event .thermalPause []).pwr = paused.pwr := State.field_eq told State.pwr fun _ => rfl
  refine ⟨s.thermalPause mc, rfl, ?_⟩
  rw [pause]
  refine ⟨congrArg Power.thermalPaused pwr, congrArg Power.dieMc pwr, ?_, State.field_eq told State.jobs fun _ => rfl,
    State.field_eq told State.insts fun _ => rfl, fun takes => ?_⟩
  · rw [State.mayDispatch, pwr]
    rfl
  · exact logged_event (s := paused) (c := .thermalPause) takes []

theorem thermalResume_resumes (mc : Int) (s : State) (cool : mc ≤ 95000) (paused : s.pwr.thermalPaused = true) :
    Gives (.thermalResume mc) s fun t => t.pwr.thermalPaused = false ∧ t.pwr.dieMc = mc := by
  let resumed := { s with pwr := { s.pwr with dieMc := mc, thermalPaused := false } }
  have resume : s.thermalResume mc = resumed.dispatch := if_pos (by simp [cool, paused])
  refine ⟨s.thermalResume mc, rfl, ?_⟩
  have pwr : resumed.dispatch.pwr = resumed.pwr := State.field_eq resumed.dispatch_unworked State.pwr fun _ => rfl
  rw [resume]
  exact ⟨congrArg Power.thermalPaused pwr, congrArg Power.dieMc pwr⟩

/-- Settles O34: a tamper latches in every case, since a fatal fault leaves the warden's register, and where it is
fatal it passes through the state that enters HALTED. -/
theorem wardenActsOnTamperAndLimits : Obligations.WardenActsOnTamperAndLimits := by
  unfold Obligations.WardenActsOnTamperAndLimits
  refine ⟨fun _ => rfl, tamperMeshCheck_latches, fun ohm s mode opened third fresh => ?_,
    fun ohm s mode beyond third fresh => ?_, tamperLoopPulse_waits, canTemperatureLimit_latches, aliveToggle_toggles,
    cardVddOvercurrent_powersDown, thermalPause_pauses, thermalResume_resumes⟩
  · exact tamperLoopPulse_tampers ohm s (by simpa [mode, loopTamper] using opened) (by omega) third fresh
  · exact tamperLoopPulse_tampers ohm s (by simpa [mode, loopTamper] using beyond) (by omega) third fresh

end Sys2Proof.Machine
end

section
namespace Sys2Proof.Machine

open Sys2Proof Sys2Proof.Claims

/-! ### Settled life-cycle words -/

theorem slotContent_of_settled {s : State} {v : Nat} (h : settledWords s v) (i : Nat) :
    slotContent (s.otp.intents.getD i []) = .closed ∨ slotContent (s.otp.intents.getD i []) = .unused := by
  rw [List.getD_eq_getElem?_getD]
  cases hi : s.otp.intents[i]? with
  | none => exact .inl rfl
  | some x => exact h.2 x (List.mem_of_getElem? hi)

/-- Where no intent slot is written or interrupted, a start closes none (R467). -/
theorem closeIntents_of_settled {s : State} {v : Nat} (h : settledWords s v) (w : Nat) : s.closeIntents w = s := by
  refine State.forEach_rec (P := fun t => t = s) rfl fun t i _ same => ?_
  subst same
  rcases slotContent_of_settled h i with closed | unused
  · simp only [closed]
  · simp only [unused]

/-- Where no intent slot is written, no transition is pending (R459). -/
theorem pendingSlots_of_settled {s : State} {v : Nat} (h : settledWords s v) (w : Nat) :
    pendingSlots s.otp w = [] := by
  refine List.filterMap_eq_nil_iff.2 fun i _ => ?_
  rcases slotContent_of_settled h i with closed | unused
  · simp only [closed]
  · simp only [unused]

/-- The measurements of step 1 of a start, of a cell and a bank that are in order. -/
def State.measured (s : State) (coin stored : Nat) : State :=
  let t := s.measureRails
  { t with pwr := { t.pwr with coinMv := coin, holdupMj := stored } }

/-- Step 1 of a start with a good cell, a good bank and settled words: BLANK and SCRAP stay with the warden (R75). -/
theorem State.wardenStep_settled {s : State} {coin full v : Nat} (cell : 2600 ≤ coin) (bank : 2400 ≤ full)
    (settled : settledWords s v) (stored : Nat) : s.wardenStep coin stored full =
      if v = 0 || v = 5 then s.measured coin stored else (s.measured coin stored).fabricStart := by
  have still : settledWords (s.measured coin stored) v := settled
  have decoded : lcDecode (s.measured coin stored).otp = some v := settled.1
  have closed := closeIntents_of_settled still v
  have pending := pendingSlots_of_settled still v
  have bankOk : ({ s.measureRails with pwr := { s.measureRails.pwr with coinMv := coin } } : State).measureHoldup full
      stored = s.measured coin stored := by
    unfold State.measureHoldup
    rw [if_neg (by omega), if_neg (by omega)]
    rfl
  unfold State.wardenStep
  dsimp only
  rw [if_neg (by omega), bankOk, decoded]
  dsimp only
  rw [closed, pending]

/-! ### Fabric start -/

@[simp] theorem State.removeRecord_jobs (s : State) (k : Nat) : (s.removeRecord k).jobs = s.jobs := by
  unfold State.removeRecord
  split <;> rfl

@[simp] theorem State.removeSlot_jobs (s : State) (k : Nat) : (s.removeSlot k).jobs = s.jobs := by
  unfold State.removeSlot
  split <;> rfl

/-- The wipe of the keys leaves the jobs (R17). -/
@[simp] theorem State.wipeKeys_jobs (s : State) : s.wipeKeys.jobs = s.jobs := by
  have records (ks : List Nat) (t : State) : (t.removeRecords ks).jobs = t.jobs :=
    State.forEach_keeps State.jobs (fun t k => t.removeRecord_jobs k) ..
  have slots (ks : List Nat) (t : State) : (t.removeSlots ks).jobs = t.jobs :=
    State.forEach_keeps State.jobs (fun t k => t.removeSlot_jobs k) ..
  exact (slots _ _).trans (records _ _)

@[simp] theorem State.rollback_sessions (s : State) : s.rollback.mgmt.sessions = s.mgmt.sessions := by
  unfold State.rollback
  split <;> rfl

theorem State.closeSession_sessions (s : State) (id : BitVec 32) :
    (s.closeSession id).mgmt.sessions = s.mgmt.sessions.filter (·.id != id) := by
  unfold State.closeSession
  dsimp only
  split
  · exact State.rollback_sessions _
  · rfl

theorem State.closeSessions_sessions (ids : List (BitVec 32)) (s : State) :
    (s.closeSessions ids).mgmt.sessions = s.mgmt.sessions.filter fun x => !ids.contains x.id := by
  induction ids generalizing s with
  | nil => simp [State.closeSessions]
  | cons id ids ih =>
    refine (ih (s.closeSession id)).trans ?_
    rw [State.closeSession_sessions, List.filter_filter]
    simp [bne, Bool.and_comm, beq_eq_decide]

/-- Once every session is closed none is open (R110). -/
@[simp] theorem State.closeAllSessions_sessions (s : State) : s.closeAllSessions.mgmt.sessions = [] := by
  refine (State.closeSessions_sessions ..).trans (List.filter_eq_nil_iff.2 fun x hx => ?_)
  simpa using ⟨x, hx, rfl⟩

/-- The state at a fabric start without sessions, transaction, jobs and keys (R16, R83). -/
def State.swept (s : State) : State := ((s.closeAllSessions.rollback).squashAll).wipeKeys

theorem State.swept_jobs (s : State) : s.swept.jobs = [] := by simp [State.swept]

/-- The sweep takes the sessions, the jobs' work and the vault memory encryption key, and leaves the rest. -/
theorem State.swept_unworked (s : State) : s.swept.unworked = s.closeAllSessions.rollback.keyless.unworked :=
  (State.wipeKeys_unworked _).trans (State.field_eq (State.squashAll_unworked _) (·.keyless.unworked) fun _ => rfl)

theorem State.swept_sessions (s : State) : s.swept.mgmt.sessions = [] := by
  have mgmt : s.swept.mgmt = s.closeAllSessions.rollback.mgmt :=
    State.field_eq s.swept_unworked State.mgmt fun _ => rfl
  rw [mgmt, State.rollback_sessions, State.closeAllSessions_sessions]

theorem State.swept_kept (s : State) : s.swept.pwr = s.pwr ∧ s.swept.start = s.keyless.start := by
  have quiet : s.closeAllSessions.rollback.untold = s.untold := by simp
  have pwr := State.field_eq s.swept_unworked State.pwr fun _ => rfl
  have start := State.field_eq s.swept_unworked State.start fun _ => rfl
  exact ⟨pwr.trans (State.field_eq quiet State.pwr fun _ => rfl),
    start.trans (State.field_eq quiet (·.keyless.start) fun _ => rfl)⟩

/-- The state without its ports, units and noise sources, which a start sets in order one by one. -/
def State.unfitted (s : State) : State := { s with ports := [], units := [], rng := {} }

@[simp] theorem State.modUnit_unfitted (s : State) (u : Nat) (f : UnitInfo → UnitInfo) :
    (s.modUnit u f).unfitted = s.unfitted := rfl

theorem State.modUnits_unfitted (s : State) (us : List Nat) (f : UnitInfo → UnitInfo) :
    (s.forEach us fun s u => s.modUnit u f).unfitted = s.unfitted :=
  State.forEach_keeps State.unfitted (fun t u => t.modUnit_unfitted u f) ..

@[simp] theorem State.restoreUnits_unfitted (s : State) : s.restoreUnits.unfitted = s.unfitted := by
  have paired (t : State) : t.pairUnits.unfitted = t.unfitted := by
    refine State.forEach_keeps State.unfitted (fun t p => ?_) ..
    exact State.modUnit_unfitted ..
  refine (paired _).trans (State.forEach_keeps State.unfitted (fun t k => ?_) ..)
  exact (State.modUnits_unfitted ..).trans (State.modUnits_unfitted ..)

/-- Ports, noise sources and units as a fabric start sets them. -/
def State.fitted (s : State) : State := (s.forEach (List.range 4) fun s p => s.portRegs p).startRng.startUnits

@[simp] theorem State.portRegs_unfitted (s : State) (p : Nat) : (s.portRegs p).unfitted = s.unfitted := rfl

@[simp] theorem State.startRng_unfitted (s : State) : s.startRng.unfitted = s.unfitted := rfl

@[simp] theorem State.startUnits_unfitted (s : State) : s.startUnits.unfitted = s.unfitted :=
  State.restoreUnits_unfitted _

theorem State.fitted_unfitted (s : State) : s.fitted.unfitted = s.unfitted := by
  have ports : (s.forEach (List.range 4) fun s p => s.portRegs p).unfitted = s.unfitted :=
    State.forEach_keeps State.unfitted (fun t p => t.portRegs_unfitted p) ..
  simp [State.fitted, ports]

/-- A fabric start sets ports, noise sources and units of a swept state whose memories are clear (R16, R75, R83). -/
theorem State.fabricStart_eq (s : State) : ∃ t u : State,
    (t.jobs = s.swept.jobs ∧ t.mgmt = s.swept.mgmt ∧ t.pwr = s.swept.pwr ∧ t.start = s.swept.start ∧ t.ctxs = [] ∧
      t.clove = List.replicate 72 [] ∧ t.saffron = List.replicate 18 {}) ∧ u.unfitted = t.unfitted ∧
    ∃ debug times, s.fabricStart = { u with start := { u.start with
      phase := .selfTest, fabricAt := u.now, readOnly := debug, phaseTimes := times } } := by
  unfold State.fabricStart
  extract_lets swept kept empty _ _ _ quiet cleared _ fitted
  refine ⟨cleared, fitted, ?_, cleared.fitted_unfitted, _, _, rfl⟩
  dsimp only [cleared, quiet, empty, kept, State.dropVolatileOd, swept, State.swept]
  exact ⟨rfl, rfl, rfl, rfl, rfl, rfl, rfl⟩

/-- A fabric start clears what is volatile and begins the known-answer tests (R16, R75, R83). -/
theorem State.fabricStart_fresh (s : State) : s.fabricStart.jobs = [] ∧ s.fabricStart.mgmt.sessions = [] ∧
    s.fabricStart.ctxs = [] ∧ s.fabricStart.clove = List.replicate 72 [] ∧
    s.fabricStart.saffron = List.replicate 18 {} := by
  obtain ⟨t, u, ⟨jobs, mgmt, -, -, ctxs, clove, saffron⟩, fits, debug, times, h⟩ := s.fabricStart_eq
  have sessions : u.mgmt = s.swept.mgmt := (State.field_eq fits State.mgmt fun _ => rfl).trans mgmt
  rw [h]
  dsimp only
  rw [State.field_eq fits State.jobs fun _ => rfl, jobs, sessions, State.field_eq fits State.ctxs fun _ => rfl, ctxs,
    State.field_eq fits State.clove fun _ => rfl, clove, State.field_eq fits State.saffron fun _ => rfl, saffron]
  exact ⟨s.swept_jobs, s.swept_sessions, rfl, rfl, rfl⟩

theorem State.fabricStart_start (s : State) : s.fabricStart.pwr = s.pwr ∧ ∃ at_ debug times,
    s.fabricStart.start = { s.start with
      vmek := none, phase := .selfTest, fabricAt := at_, readOnly := debug, phaseTimes := times } := by
  obtain ⟨t, u, ⟨-, -, pwr, start, -, -, -⟩, fits, debug, times, h⟩ := s.fabricStart_eq
  obtain ⟨sweptPwr, sweptStart⟩ := s.swept_kept
  rw [h]
  dsimp only
  rw [State.field_eq fits State.pwr fun _ => rfl, pwr, sweptPwr, State.field_eq fits State.start fun _ => rfl,
    start, sweptStart]
  exact ⟨rfl, _, _, _, rfl⟩

/-! ### Cold and warm starts -/

/-- The state of a cold start before step 1's measurements: the start's record is open and the register that the cell
lost is cleared (R50, R73). -/
def State.coldOpened (s : State) (lost : Bool) : State :=
  ((s.openStart false (if s.start.powerFailed then 1 else 0)).bump 0x130008 0 1).when lost State.loseRegister

theorem startCold_eq {s : State} (h12 : s.pwr.rail12 = true) (h3v3 : s.pwr.rail3v3 = true)
    (perst : (s.port 0).perst = false) (off : s.pwr.stage = .off) (shelf : s.shelf = none) (coin stored full : Nat)
    (lost : Bool) : exec (.startCold coin stored full lost) s =
      .next ((s.coldOpened lost).wardenStep coin stored full) := by
  have may : s.mayStartCold = true := by simp [State.mayStartCold, State.railsUp_eq_true h12 h3v3, perst, off]
  have start : s.startCold coin stored full lost = (s.coldOpened lost).wardenStep coin stored full := by
    unfold State.startCold
    rw [shelf]
    rfl
  change Host.Outcome.next (if s.mayStartCold then _ else s) = _
  rw [if_pos may, start]


/-- TEST, FACTORY, DEPLOYED and ANALYSIS go on to the fabric start (R455). -/
theorem not_responder {v : Nat} (serves : v ∈ [1, 2, 3, 4]) : ¬(v = 0 || v = 5) = true := by
  simp only [List.mem_cons, List.not_mem_nil, or_false] at serves
  rcases serves with rfl | rfl | rfl | rfl <;> decide

theorem settledWords_congr {s t : State} {v : Nat} (otp : t.otp = s.otp) (h : settledWords s v) :
    settledWords t v := by
  unfold settledWords
  rw [otp]
  exact h

theorem State.coldOpened_kept (s : State) (lost : Bool) : (s.coldOpened lost).otp = s.otp ∧
    (s.coldOpened lost).pwr = (s.openStart false 0).pwr ∧
    (s.coldOpened lost).start = (s.openStart false (if s.start.powerFailed then 1 else 0)).start := by
  cases lost <;> exact ⟨rfl, rfl, rfl⟩

theorem startCold_begins_selfTest (coin stored full v : Nat) (lost : Bool) (s : State) (h12 : s.pwr.rail12 = true)
    (h3v3 : s.pwr.rail3v3 = true) (perst : (s.port 0).perst = false) (off : s.pwr.stage = .off)
    (shelf : s.shelf = none) (cell : 2600 ≤ coin) (bank : 2400 ≤ full) (settled : settledWords s v)
    (serves : v ∈ [1, 2, 3, 4]) : Gives (.startCold coin stored full lost) s fun t =>
      t.start.phase = .selfTest ∧ t.start.began = true ∧ t.start.warm = false ∧
      t.start.cause = (if s.start.powerFailed then 1 else 0) ∧ t.start.t0 = s.now ∧ t.pwr.dieOn = true ∧
      t.pwr.stage = .normal ∧ t.jobs = [] ∧ t.mgmt.sessions = [] ∧ t.ctxs = [] ∧ t.clove = List.replicate 72 [] ∧
      t.saffron = List.replicate 18 {} ∧ t.start.vmek = none ∧ s.warden.nextSeq ≤ t.warden.nextSeq := by
  obtain ⟨otp, openPwr, openStart⟩ := s.coldOpened_kept lost
  have cold := startCold_eq h12 h3v3 perst off shelf coin stored full lost
  rw [State.wardenStep_settled cell bank (settledWords_congr otp settled) stored, if_neg (not_responder serves)] at cold
  obtain ⟨t, kept, later⟩ := execStartCold_kept coin stored full lost s
  rw [Host.Outcome.next.inj (kept.symm.trans cold)] at later
  refine ⟨_, cold, ?_⟩
  obtain ⟨jobs, sessions, ctxs, clove, saffron⟩ := ((s.coldOpened lost).measured coin stored).fabricStart_fresh
  obtain ⟨pwr, at_, debug, times, start⟩ := ((s.coldOpened lost).measured coin stored).fabricStart_start
  have began : ((s.coldOpened lost).measured coin stored).start = _ := openStart
  have measured : ((s.coldOpened lost).measured coin stored).pwr.dieOn = (s.coldOpened lost).pwr.dieOn ∧
    ((s.coldOpened lost).measured coin stored).pwr.stage = (s.coldOpened lost).pwr.stage := ⟨rfl, rfl⟩
  simp only [start, began, pwr, measured, openPwr, State.openStart, jobs, sessions, ctxs, clove, saffron, later.seq,
    and_self]

theorem startCold_stays_with_warden (coin stored full v : Nat) (lost : Bool) (s : State)
    (h12 : s.pwr.rail12 = true) (h3v3 : s.pwr.rail3v3 = true) (perst : (s.port 0).perst = false)
    (off : s.pwr.stage = .off) (shelf : s.shelf = none) (cell : 2600 ≤ coin) (bank : 2400 ≤ full)
    (settled : settledWords s v) (responds : v ∈ [0, 5]) : Gives (.startCold coin stored full lost) s fun t =>
      t.start.phase = .warden ∧ t.start.began = true ∧ t.pwr.dieOn = true ∧ t.pwr.stage = .normal ∧
      t.pwr.coinMv = coin ∧ t.warden.cellLost = (s.warden.cellLost || lost) ∧
      t.warden.latch = (s.warden.latch && !lost) ∧ t.warden.nextSeq = s.warden.nextSeq ∧ t.keys = s.keys ∧
      t.insts = s.insts ∧ t.log = s.log := by
  have otp := (s.coldOpened_kept lost).1
  have cold := startCold_eq h12 h3v3 perst off shelf coin stored full lost
  rw [State.wardenStep_settled cell bank (settledWords_congr otp settled) stored,
    if_pos (by simpa using responds)] at cold
  refine ⟨_, cold, ?_⟩
  cases lost
  · exact ⟨rfl, rfl, rfl, rfl, rfl, (Bool.or_false _).symm, (Bool.and_true _).symm, rfl, rfl, rfl, rfl⟩
  · exact ⟨rfl, rfl, rfl, rfl, rfl, (Bool.or_true _).symm, (Bool.and_false _).symm, rfl, rfl, rfl, rfl⟩

/-- A warm start's state before its start's record opens: sessions, transaction and card operations have ended. -/
def State.warmClosed (s : State) : State := (s.closeAllSessions.rollback).endCard

@[simp] theorem State.warmClosed_untold (s : State) : s.warmClosed.untold = s.untold := by simp [State.warmClosed]

theorem startWarm_eq {s : State} (drained : s.start.draining = some .restart) (idle : s.jobs = [])
    (normal : s.pwr.stage = .normal) (closed : s.warden.debugFlag = false) (coin stored full : Nat) :
    exec (.startWarm coin stored full) s = .next (((s.warmClosed.openStart true (if s.halted then 3 else 2)).bump
      0x130009 0 1).wardenStep coin stored full) := by
  have may : s.mayStartWarm = true := by simp [State.mayStartWarm, drained, idle, State.warning, normal]
  have flag : s.warmClosed.warden.debugFlag = s.warden.debugFlag :=
    State.field_eq s.warmClosed_untold (·.warden.debugFlag) fun _ => rfl
  change Host.Outcome.next (if s.mayStartWarm then s.startWarm coin stored full else s) = _
  rw [if_pos may]
  congr 1
  unfold State.startWarm
  rw [drained]
  change (if s.warmClosed.warden.debugFlag && _ then _ else _ : State).wardenStep coin stored full = _
  rw [flag, closed, Bool.false_and, if_neg (by simp)]
  rfl

theorem startWarm_begins_selfTest (coin stored full v : Nat) (s : State) (drained : s.start.draining = some .restart)
    (idle : s.jobs = []) (normal : s.pwr.stage = .normal) (cell : 2600 ≤ coin) (bank : 2400 ≤ full)
    (closed : s.warden.debugFlag = false) (settled : settledWords s v) (serves : v ∈ [1, 2, 3, 4]) :
    Gives (.startWarm coin stored full) s fun t => t.start.phase = .selfTest ∧ t.start.warm = true ∧
      t.start.cause = (if s.start.phase = .halted then 3 else 2) ∧ t.jobs = [] ∧ t.mgmt.sessions = [] ∧
      t.clove = List.replicate 72 [] := by
  have warm := startWarm_eq drained idle normal closed coin stored full
  let opened := (s.warmClosed.openStart true (if s.halted then 3 else 2)).bump 0x130009 0 1
  have otp : opened.otp = s.otp := State.field_eq s.warmClosed_untold State.otp fun _ => rfl
  rw [State.wardenStep_settled cell bank (settledWords_congr otp settled) stored, if_neg (not_responder serves)] at warm
  refine ⟨_, warm, ?_⟩
  obtain ⟨jobs, sessions, -, clove, -⟩ := (opened.measured coin stored).fabricStart_fresh
  obtain ⟨-, at_, debug, times, start⟩ := (opened.measured coin stored).fabricStart_start
  have cause : (if s.halted then 3 else 2) = if s.start.phase = .halted then 3 else 2 := by simp [State.halted]
  refine ⟨?_, ?_, ?_, jobs, sessions, clove⟩
  · rw [start]
  · rw [start]
    rfl
  · rw [start, ← cause]
    rfl

end Sys2Proof.Machine
end

section
namespace Sys2Proof.Machine

open Sys2Proof Sys2Proof.Claims

/-! ### Units that fail their tests -/

/-- A unit is RETIRED. -/
def State.retiredUnit (s : State) (u : Nat) : Prop := (s.units.getD u {}).state = .retired

theorem State.getD_modUnit (s : State) (u v : Nat) (f : UnitInfo → UnitInfo) : (s.modUnit v f).units.getD u {} =
    if v = u ∧ u < s.units.length then f (s.units.getD u {}) else s.units.getD u {} := by
  simp only [State.modUnit, List.getD_eq_getElem?_getD, List.getElem?_modify]
  by_cases same : v = u
  · by_cases listed : u < s.units.length
    · simp [same, listed]
    · simp [same, listed]
  · simp [same]

@[simp] theorem State.length_modUnit (s : State) (v : Nat) (f : UnitInfo → UnitInfo) :
    (s.modUnit v f).units.length = s.units.length := List.length_modify ..

/-- A change of another unit, or one that keeps the state, leaves a retired unit retired. -/
theorem State.retiredUnit_modUnit {s : State} {u : Nat} (h : s.retiredUnit u) (v : Nat) (f : UnitInfo → UnitInfo)
    (keeps : v ≠ u ∨ (f (s.units.getD u {})).state = (s.units.getD u {}).state) : (s.modUnit v f).retiredUnit u := by
  unfold State.retiredUnit
  rw [State.getD_modUnit]
  split
  · next here =>
    rcases keeps with other | same
    · exact absurd here.1 other
    · exact same.trans h
  · exact h

/-- Setting the states of units among which it is not leaves a retired unit retired. -/
theorem State.retiredUnit_modUnits {s : State} {u : Nat} (h : s.retiredUnit u) (us : List Nat)
    (f : UnitInfo → UnitInfo) (other : u ∉ us) : (s.forEach us fun s v => s.modUnit v f).retiredUnit u :=
  State.forEach_rec (P := fun t => t.retiredUnit u) h fun _ v hv kept =>
    State.retiredUnit_modUnit kept v f (.inl fun same => other (same ▸ hv))

/-- The restoring of the ACTIVE and SPARE sets passes a retired unit by (R490). -/
theorem State.restoreUnits_retired {s : State} {u : Nat} (h : s.retiredUnit u) : s.restoreUnits.retiredUnit u := by
  unfold State.restoreUnits State.pairUnits
  extract_lets restored
  have kept : restored.retiredUnit u := by
    refine State.forEach_rec (P := fun t => t.retiredUnit u) h fun t k _ retired => ?_
    extract_lets us live n activated
    have dead : u ∉ live := fun listed => by
      have alive := (List.mem_filter.1 listed).2
      rw [show (t.units.getD u {}).state = .retired from retired] at alive
      exact absurd alive (by decide)
    exact State.retiredUnit_modUnits
      (State.retiredUnit_modUnits retired _ _ fun listed => dead (List.mem_of_mem_take listed)) _ _
      fun listed => dead (List.mem_of_mem_drop listed)
  exact State.forEach_rec (P := fun t => t.retiredUnit u) kept fun _ p _ retired =>
    State.retiredUnit_modUnit retired p.1 _ (.inr rfl)

/-- A unit that fails its test becomes RETIRED, and the others stay as they are (R78). -/
theorem State.katFail_units (s : State) (u : Nat) : (s.katFail u).units =
    if u < 387 && (s.units.getD u {}).state != .retired
      then (s.modUnit u fun x => { x with state := .retired }).units else s.units := by
  have marked (t : State) (u : Nat) : (t.markRetired u).units = t.units := by
    unfold State.markRetired
    split <;> rfl
  unfold State.katFail
  split
  · exact (State.field_eq (State.event_untold ..) State.units fun _ => rfl).trans (marked ..)
  · rfl

@[simp] theorem State.katFail_length (s : State) (u : Nat) : (s.katFail u).units.length = s.units.length := by
  rw [State.katFail_units]
  split <;> simp

theorem State.katFail_keeps_retired {s : State} {v : Nat} (h : s.retiredUnit v) (u : Nat) :
    (s.katFail u).retiredUnit v := by
  unfold State.retiredUnit
  rw [State.katFail_units]
  split
  · refine State.retiredUnit_modUnit h u _ ?_
    by_cases same : u = v
    · exact .inr h.symm
    · exact .inl same
  · exact h

theorem State.katFail_retires {s : State} {u : Nat} (unit : u < 387) (listed : u < s.units.length) :
    (s.katFail u).retiredUnit u := by
  by_cases retired : s.retiredUnit u
  · exact State.katFail_keeps_retired retired u
  · have serves : ((s.units.getD u {}).state != .retired) = true := bne_iff_ne.2 retired
    unfold State.retiredUnit
    rw [State.katFail_units, if_pos (by rw [serves]; simp [unit]), State.getD_modUnit, if_pos ⟨rfl, listed⟩]

/-- All failed units are RETIRED once each has failed (R78). -/
theorem State.katFails_retire (failed : List Nat) (s : State) {u : Nat} (unit : u < 387)
    (listed : u < s.units.length) (fails : u ∈ failed ∨ s.retiredUnit u) :
    (s.forEach failed fun s u => s.katFail u).retiredUnit u := by
  induction failed generalizing s with
  | nil => simpa using fails
  | cons v failed ih =>
    refine ih (s.katFail v) (by simpa using listed) ?_
    rcases fails with member | retired
    · rcases List.mem_cons.1 member with rfl | later
      · exact .inr (State.katFail_retires unit listed)
      · exact .inl later
    · exact .inr (State.katFail_keeps_retired retired v)

/-- A fatal fault leaves the phase, or halts. -/
theorem State.fatal_phase (s : State) (src detail : Nat) :
    (s.fatal src detail).start.phase = s.start.phase ∨ (s.fatal src detail).start.phase = .halted := by
  by_cases halted : s.start.phase = .halted
  · rw [State.fatal_of_halted halted]
    exact .inl (State.field_eq (State.raise_untold ..) (·.start.phase) fun _ => rfl)
  · by_cases calm : s.lc.transition = none
    · exact .inr (State.fatal_halts halted calm src detail).1
    · rw [State.fatal_of_transition halted calm]
      exact .inl rfl

theorem State.fatalBelow_cases (s : State) : s.fatalBelow = s ∨ ∃ detail, s.fatalBelow = s.fatal 0x25 detail := by
  unfold State.fatalBelow
  split
  · exact .inr ⟨_, rfl⟩
  · exact .inl rfl

theorem State.fatalBelow_leaves (s : State) : s.fatalBelow.unfailed = s.unfailed ∧
    (s.fatalBelow.start.phase = s.start.phase ∨ s.fatalBelow.start.phase = .halted) := by
  rcases s.fatalBelow_cases with same | ⟨detail, fatal⟩
  · rw [same]
    exact ⟨rfl, .inl rfl⟩
  · rw [fatal]
    exact ⟨s.fatal_unfailed 0x25 detail, s.fatal_phase 0x25 detail⟩

theorem katComplete_retires (failed : List Nat) (s : State) (test : s.start.phase = .selfTest)
    (untested : s.start.katDone = false) : Gives (.katComplete failed) s fun t => t.start.katDone = true ∧
      (t.start.phase = .firmware ∨ t.start.phase = .halted) ∧
      ∀ u ∈ failed, u < 387 → u < s.units.length → (t.units.getD u {}).state = .retired := by
  refine ⟨if s.start.phase == .selfTest && !s.start.katDone then s.katComplete failed else s, rfl, ?_⟩
  rw [if_pos (by simp [test, untested])]
  unfold State.katComplete
  extract_lets restored us _ tested
  obtain ⟨kept, phase⟩ := tested.fatalBelow_leaves
  have units : tested.units = restored.units := by dsimp only [tested]
  refine ⟨State.field_eq kept (·.start.katDone) fun _ => rfl, phase, fun u member unit listed => ?_⟩
  rw [State.field_eq kept State.units fun _ => rfl, units]
  exact State.restoreUnits_retired (State.katFails_retire failed s unit listed (.inl member))

/-! ### The first seeds -/

/-- An internal DRBG is instantiated and the mask generators have their seed. -/
def State.seeded (s : State) (j : Nat) : Prop :=
  (s.rng.internal.getD j {}).instantiated = true ∧ s.rng.masksSeeded = true

theorem State.condition_seeded {s : State} {j : Nat} (h : s.seeded j) : s.condition.seeded j := by
  unfold State.condition
  split <;> exact h

theorem State.handBlock_seeded {s : State} {j : Nat} (h : s.seeded j) : s.handBlock.seeded j := by
  unfold State.handBlock
  split
  · exact h
  · dsimp only
    split
    · exact h
    · split
      · next i _ =>
        refine ⟨?_, h.2⟩
        change ((s.rng.internal.set i s.freshDrbg).getD j {}).instantiated = true
        rw [List.getD_eq_getElem?_getD, List.getElem?_set]
        split
        · split <;> simp_all [State.freshDrbg, State.seeded]
        · exact List.getD_eq_getElem?_getD .. ▸ h.1
      · split
        · split <;> exact h
        · split <;> exact h

theorem State.endRestart_seeded {s : State} {j : Nat} (h : s.seeded j) : s.endRestart.seeded j := by
  unfold State.endRestart
  split
  · have rng : ∀ t : State, (t.event .poolRestarted []).rng = t.rng := fun t =>
      State.field_eq (t.event_untold .poolRestarted []) State.rng fun _ => rfl
    unfold State.seeded
    rw [rng]
    exact ⟨h.1, rfl⟩
  · exact h

theorem State.serveBlocks_seeded {s : State} {j : Nat} (h : s.seeded j) : s.serveBlocks.seeded j :=
  State.endRestart_seeded (State.condition_seeded (State.handBlock_seeded (State.condition_seeded
    (State.handBlock_seeded (State.condition_seeded h)))))

theorem drbgFirstSeed_seeds (j : Fin 16) (s : State) (all : s.rng.internal.length = 16)
    (waits : (s.rng.internal.getD j {}).instantiated = false)
    (next : ∀ i < j.val, (s.rng.internal.getD i {}).instantiated = true) (blocks : 2 ≤ s.rng.internalBlocks) :
    Gives (.drbgFirstSeed j) s fun t => (t.rng.internal.getD j {}).instantiated = true ∧
      t.rng.masksSeeded = true ∧ t.start.seedDone = true := by
  have may : s.maySeed j = true := by
    simp only [State.maySeed, waits, blocks, decide_true, Bool.and_true, Bool.not_false, Bool.true_and]
    exact List.all_eq_true.2 fun i hi => next i (List.mem_range.1 hi)
  refine ⟨if s.maySeed j then s.firstSeed j else s, rfl, ?_⟩
  rw [if_pos may]
  unfold State.firstSeed
  extract_lets _ _ _ marked
  have fresh : (marked.countDrbg 0 1).seeded j := by
    refine ⟨?_, rfl⟩
    change ((s.rng.internal.set j s.freshDrbg).getD j {}).instantiated = true
    simp [List.getD_eq_getElem?_getD, all, State.freshDrbg]
  obtain ⟨instantiated, masks⟩ := State.serveBlocks_seeded fresh
  exact ⟨instantiated, masks, State.field_eq (State.serveBlocks_unworked _) (·.start.seedDone) fun _ => rfl⟩

/-! ### A start that halts, and the firmware -/

theorem State.enterHalted_halts (s : State) (cause : Nat) (closed : Bool) :
    (s.enterHalted cause closed).start.phase = .halted ∧
      (s.enterHalted cause closed).start.haltCause = BitVec.ofNat 16 cause := by
  rw [State.enterHalted_start]
  exact ⟨rfl, rfl⟩

/-- An event and what waits with it are committed on the way into HALTED. -/
theorem State.reported_untold (s : State) (c : EventCode) (d : Bytes) :
    ((s.event c d).commitAll).untold = s.untold := by simp

theorem entropyStartFail_halts (s : State) (unseeded : s.start.seedDone = false) (test : s.start.phase = .selfTest) :
    Gives .entropyStartFail s fun t => t.start.phase = .halted ∧ t.start.haltCause = 0x0205 ∧
      s.start.fabricAt + 50000000 ≤ t.now := by
  have awaits : s.awaitsSeed = true := by simp [State.awaitsSeed, unseeded, test]
  refine ⟨if s.awaitsSeed then s.entropyStartFail else s, rfl, ?_⟩
  rw [if_pos awaits]
  unfold State.entropyStartFail
  extract_lets t
  have reported := t.reported_untold .entropyStartFail []
  have halted := ((t.event .entropyStartFail []).commitAll).enterHalted_untold 0x0205 false
  have now := (State.field_eq halted State.now fun _ => rfl).trans (State.field_eq reported State.now fun _ => rfl)
  obtain ⟨phase, cause⟩ := ((t.event .entropyStartFail []).commitAll).enterHalted_halts 0x0205 false
  exact ⟨phase, cause, now ▸ s.le_until _⟩

@[simp] theorem State.extendMr_start (s : State) (mr source : Nat) (v : Bytes) :
    (s.extendMr mr source v).start = s.start := State.field_eq (s.extendMr_untold mr source v) State.start fun _ => rfl

/-- A measurement register takes a value while the log has room and the register exists (R296). -/
theorem State.extendMr_zero {s : State} (room : s.meas.mlog.length < 131072) (register : 0 < s.meas.mr.length)
    (v : Bytes) : (s.extendMr 0 0 v).meas.mr.getD 0 [] = sha384 (s.meas.mr.getD 0 [] ++ fit 48 v) := by
  have may : s.mayExtend 0 = true := by
    simp [State.mayExtend]
    omega
  unfold State.extendMr
  rw [if_pos may]
  simp [List.getD_eq_getElem?_getD, register]

theorem firmwareAuthenticated_runs (a b c : FwImage) (s : State) (firmware : s.start.phase = .firmware)
    (tested : s.start.katDone = true) (prefers : s.odNum 0x130007 = 0) (present : a.present = true)
    (mldsa : a.mldsaOk = true) (ecdsa : a.ecdsaOk = true) (version : s.otp.fwMin ≤ a.version) :
    Gives (.firmwareAuthenticated a b c) s fun t => t.start.phase = .archive ∧ t.start.fwDone = true ∧
      t.start.fwSlot = 0 ∧ t.start.fwVersion = a.version ∧
      (s.meas.mlog.length < 131072 → 0 < s.meas.mr.length →
        t.meas.mr.getD 0 [] = sha384 (s.meas.mr.getD 0 [] ++ fit 48 a.digest)) := by
  have accepts : s.accepts a = true := by simp [State.accepts, present, mldsa, ecdsa, version]
  have runs : s.authenticate a b c = s.runFirmware 0 a := by
    simp [State.authenticate, prefers, accepts]
  refine ⟨if s.start.phase == .firmware && s.start.katDone then s.authenticate a b c else s, rfl, ?_⟩
  rw [if_pos (by simp [firmware, tested]), runs]
  exact ⟨rfl, rfl, rfl, rfl, fun room register => State.extendMr_zero room register a.digest⟩

/-- Whether an image is accepted is a matter of the image and the OTP minimum (R80). -/
theorem State.accepts_congr {s t : State} (otp : t.otp = s.otp) (f : FwImage) : t.accepts f = s.accepts f := by
  unfold State.accepts
  rw [otp]

theorem firmwareAuthenticated_halts (a b c : FwImage) (s : State) (firmware : s.start.phase = .firmware)
    (tested : s.start.katDone = true) (rejectsA : s.accepts a = false) (rejectsB : s.accepts b = false)
    (noCard : s.card.detect = false) : Gives (.firmwareAuthenticated a b c) s fun t =>
      t.start.phase = .halted ∧ t.start.haltCause = 0x0204 := by
  refine ⟨if s.start.phase == .firmware && s.start.katDone then s.authenticate a b c else s, rfl, ?_⟩
  rw [if_pos (by simp [firmware, tested])]
  unfold State.authenticate
  extract_lets p first second failed failedToo
  have rejectsFirst : s.accepts first = false := by
    simp only [first]
    split <;> assumption
  have rejectsSecond : failed.accepts second = false := by
    rw [State.accepts_congr (State.field_eq (s.event_untold ..) State.otp fun _ => rfl)]
    simp only [second]
    split <;> assumption
  have empty : failedToo.card.detect = false := by
    have card (t : State) (d : Bytes) : (t.event .firmwareSlotFail d).card = t.card :=
      State.event_keeps State.card (fun _ _ _ _ _ => rfl) ..
    simp only [failedToo, failed, card, noCard]
  rw [if_neg (by simp [rejectsFirst]), if_neg (by simp [rejectsSecond]), if_neg (by simp [empty])]
  exact State.enterHalted_halts ..

/-! ### The archive -/

@[simp] theorem State.event_start (s : State) (c : EventCode) (d : Bytes) : (s.event c d).start = s.start :=
  State.field_eq (s.event_untold c d) State.start fun _ => rfl

/-- What step 7 loads leaves the start's own record. -/
@[simp] theorem State.loadArchive_start (s : State) : s.loadArchive.start = s.start := by
  have leaves : (s.forEach s.keys.records fun s r => s.skipLeaves r.1 r.2).start = s.start := by
    refine State.forEach_keeps State.start (fun t r => ?_) ..
    exact State.field_eq (t.skipLeaves_unworked r.1 r.2) State.start fun _ => rfl
  unfold State.loadArchive
  dsimp only
  split
  · exact (State.event_start ..).trans leaves
  · exact leaves

@[simp] theorem State.checkLog_start (s : State) : s.checkLog.start = s.start := by
  unfold State.checkLog
  dsimp only
  split
  · exact State.event_start ..
  · rfl

@[simp] theorem State.writeIdentityRow_start (s : State) : s.writeIdentityRow.start = s.start := by
  unfold State.writeIdentityRow
  split <;> rfl

/-- At DEVICE_READY the start's record gets its phase and its times (R75, R92). -/
theorem State.deviceReady_start (s : State) : ∃ us times, s.deviceReady.start =
    { s.start with phase := .ready, startTimeUs := us, phaseTimes := times } := by
  unfold State.deviceReady
  extract_lets us _ timed created told
  refine ⟨us, timed.start.phaseTimes, ?_⟩
  have own : (told.forEach (List.range 4) fun s p =>
      if p < s.portsUsed && !(s.port p).perst then s.ownInstance p else s).start = told.start := by
    refine State.forEach_keeps State.start (fun t p => ?_) ..
    exact State.ite_keeps State.start (State.field_eq (t.ownInstance_unworked p) State.start fun _ => rfl)
  exact own.trans (created.event_start ..)

theorem State.finishStart_ready (s : State) : s.finishStart.start.phase = .ready ∧
    s.finishStart.start.mounted = true ∧ s.finishStart.start.vmek.isSome = true := by
  unfold State.finishStart
  extract_lets _ mounted k _ _ keyed loaded measured checked told
  obtain ⟨us, times, ready⟩ := told.deviceReady_start
  have start : told.start = keyed.start := by
    have events : told.start = checked.start := by
      refine State.forEach_keeps State.start (fun t _ => ?_) ..
      exact t.event_start ..
    have load : loaded.start = keyed.start := by
      simp only [loaded]
      split
      · rfl
      · exact keyed.loadArchive_start
    rw [events, measured.checkLog_start, loaded.extendMr_start, load]
  have drawn : k.2.start = mounted.start := State.field_eq (mounted.drawInternal_unworked 36) State.start fun _ => rfl
  rw [State.writeIdentityRow_start, ready, start]
  refine ⟨rfl, ?_, rfl⟩
  change k.2.start.mounted = true
  rw [drawn]

theorem archiveMount_tampered (s : State) (tampered : s.warden.latch = true ∨ s.warden.cellLost = true) :
    s.archiveMount.start.phase = .halted ∧ s.archiveMount.start.haltCause = 0x0105 ∧
      s.archiveMount.start.mounted = s.start.mounted := by
  unfold State.archiveMount
  rw [if_pos (by simpa using tampered)]
  extract_lets _ t
  have start : ((t.event .tamperLatched (le 4 t.warden.cause)).commitAll).start = t.start :=
    State.field_eq (t.reported_untold ..) State.start fun _ => rfl
  obtain ⟨phase, cause⟩ := ((t.event .tamperLatched (le 4 t.warden.cause)).commitAll).enterHalted_halts 0x0105 false
  refine ⟨phase, cause, ?_⟩
  rw [State.enterHalted_start, State.haltedBy]
  dsimp only
  rw [start]

/-- An untampered start whose root and card are in order goes on to the check of the generation (R82, R384). -/
theorem State.archiveMount_checks {s : State} (clear : s.warden.latch = false) (cell : s.warden.cellLost = false)
    (root : (deviceRoot s.otp).isSome = true) (marker : s.card.markerSet = false) : ∃ l : Ladder,
    s.archiveMount = { s with start := { s.start with ladder := l } }.checkGeneration := by
  refine ⟨if s.rootInUse.isSome then .full else .closed, ?_⟩
  unfold State.archiveMount
  rw [if_neg (by simp [clear, cell]), if_neg (by simp [Option.isSome_iff_ne_none.1 root])]
  exact if_neg (by simp [marker])

theorem archiveMount_mounts (s : State) (archive : s.start.phase = .archive) (firmware : s.start.fwDone = true)
    (seeded : s.start.seedDone = true) :
    (s.warden.latch = true ∨ s.warden.cellLost = true → Gives .archiveMount s fun t =>
      t.start.phase = .halted ∧ t.start.haltCause = 0x0105 ∧ t.start.mounted = s.start.mounted) ∧
    (s.warden.latch = false → s.warden.cellLost = false → (deviceRoot s.otp).isSome = true →
      s.card.markerSet = false → s.start.readOnly = false →
      (s.keys.archiveGen < s.otp.genBits → Gives .archiveMount s fun t =>
        t.start.phase = .halted ∧ t.start.haltCause = 0x0206) ∧
      (s.otp.genBits ≤ s.keys.archiveGen → Gives .archiveMount s fun t =>
        t.start.phase = .ready ∧ t.start.mounted = true ∧ t.start.vmek.isSome = true)) := by
  have mounts : exec .archiveMount s = .next s.archiveMount := by
    change Host.Outcome.next (if _ then s.archiveMount else s) = _
    rw [if_pos (by simp [archive, firmware, seeded])]
  refine ⟨fun tampered => ⟨_, mounts, archiveMount_tampered s tampered⟩, fun clear cell root marker loads => ?_⟩
  obtain ⟨l, checks⟩ := State.archiveMount_checks clear cell root marker
  rw [checks] at mounts
  refine ⟨fun behind => ⟨_, mounts, ?_⟩, fun current => ⟨_, mounts, ?_⟩⟩
  · unfold State.checkGeneration
    rw [if_neg (by simp [loads]), if_pos behind]
    exact State.enterHalted_halts ..
  · unfold State.checkGeneration
    rw [if_neg (by simp [loads]), if_neg (Nat.not_lt.2 current)]
    exact State.finishStart_ready _

/-- Settles O35, step by step: a start that begins is followed through what its fabric start leaves of the start's
record, and a later step through the events, the draws and the commits that leave that record as it is. -/
theorem startsReachReadyOrHalted : Obligations.StartsReachReadyOrHalted := by
  unfold Obligations.StartsReachReadyOrHalted
  exact ⟨startCold_begins_selfTest, startCold_stays_with_warden, startWarm_begins_selfTest, katComplete_retires,
    drbgFirstSeed_seeds, entropyStartFail_halts,
    fun a b c s firmware tested => ⟨firmwareAuthenticated_runs a b c s firmware tested,
      firmwareAuthenticated_halts a b c s firmware tested⟩, archiveMount_mounts⟩

end Sys2Proof.Machine
end

section
namespace Sys2Proof.Machine

open Sys2Proof Sys2Proof.Claims

/-! ### What is sent while a request runs -/

/-- The channel of each session. -/
def State.chans (s : State) : List (BitVec 32 × Option Nat) := s.mgmt.sessions.map fun x => (x.id, x.inBand)

/-- A state in which the same sessions stand on the same channels, and no less has been sent. -/
structure SendsOn (s t : State) : Prop where
  out : s.out <+: t.out
  chans : t.chans = s.chans

theorem SendsOn.refl (s : State) : SendsOn s s := ⟨List.prefix_rfl, rfl⟩

theorem SendsOn.trans {s t u : State} (h : SendsOn s t) (k : SendsOn t u) : SendsOn s u :=
  ⟨h.out.trans k.out, k.chans.trans h.chans⟩

theorem SendsOn.after {s t u : State} (k : SendsOn t u) (h : SendsOn s t) : SendsOn s u := h.trans k

/-- What changes neither what has been sent nor the sessions. -/
theorem SendsOn.of_eq {s t : State} (out : t.out = s.out) (mgmt : t.mgmt = s.mgmt) : SendsOn s t :=
  ⟨out ▸ List.prefix_rfl, by rw [State.chans, mgmt, State.chans]⟩

theorem SendsOn.ite {c : Prop} [Decidable c] {s t u : State} (h : SendsOn s t) (k : SendsOn s u) :
    SendsOn s (if c then t else u) := by
  split <;> assumption

theorem SendsOn.forEach {α : Type} {f : State → α → State} (l : List α) (s : State)
    (step : ∀ t x, SendsOn t (f t x)) : SendsOn s (s.forEach l f) :=
  State.forEach_rec (P := fun t => SendsOn s t) (SendsOn.refl s) fun t x _ h => h.trans (step t x)

theorem State.raise_sendsOn (s : State) (c : EventCode) (v i : Nat) (d : Bytes) : SendsOn s (s.raise c v i d) :=
  .of_eq (s.raise_keeps State.out (fun _ _ _ _ _ => rfl) ..) (s.raise_keeps State.mgmt (fun _ _ _ _ _ => rfl) ..)

theorem State.event_sendsOn (s : State) (c : EventCode) (d : Bytes) : SendsOn s (s.event c d) :=
  s.raise_sendsOn ..

theorem State.send_sendsOn (s : State) (o : Outbound) : SendsOn s (s.send o) :=
  ⟨List.prefix_append .., rfl⟩

theorem State.modPort_sendsOn (s : State) (p : Nat) (f : Port → Port) : SendsOn s (s.modPort p f) :=
  .of_eq rfl rfl

theorem State.modSession_sendsOn (s : State) (id : BitVec 32) (f : Session → Session)
    (same : ∀ x, (f x).id = x.id ∧ (f x).inBand = x.inBand) : SendsOn s (s.modSession id f) := by
  refine ⟨List.prefix_rfl, ?_⟩
  simp only [State.chans, State.modSession, List.map_map]
  refine List.map_congr_left fun x _ => ?_
  by_cases h : x.id = id
  · simp [h, (same x).2, (same x).1.trans h]
  · simp [h]

theorem State.raisePf_sendsOn (s : State) (p v : Nat) : SendsOn s (s.raisePf p v) := by
  unfold State.raisePf
  exact .ite (s.modPort_sendsOn ..) (s.send_sendsOn _)

theorem State.portEvent_sendsOn (s : State) (p : Nat) (e : PortEvent) : SendsOn s (s.portEvent p e) := by
  unfold State.portEvent
  dsimp only
  have noted := s.modPort_sendsOn p fun t => { t with evStatus := t.evStatus ||| BitVec.ofNat 32 (2 ^ e.bit) }
  exact .ite noted (noted.trans (State.raisePf_sendsOn ..))

theorem State.pushWindow_sendsOn (s : State) (p : Nat) (e : Bool) (f : Bytes) : SendsOn s (s.pushWindow p e f) := by
  unfold State.pushWindow
  split
  · exact (s.modPort_sendsOn ..).trans (State.portEvent_sendsOn ..)
  · exact .ite (.refl s) (s.modPort_sendsOn ..)

/-- A frame to an open session is the next thing sent. -/
theorem State.sendFrame_open {s : State} {id : BitVec 32} {x : Session} (h : s.session id = some x) (kind : Nat)
    (p : Bytes) : ∃ t, t.out = s.out ++ [.frame x.inBand kind id p] ∧ t.chans = s.chans ∧
      SendsOn t (s.sendFrame id kind p) := by
  let t := (s.modSession id fun y => { y with txSeq := x.txSeq + 1 }).send (.frame x.inBand kind id p)
  have kept := s.modSession_sendsOn id (fun y => { y with txSeq := x.txSeq + 1 }) fun _ => ⟨rfl, rfl⟩
  refine ⟨t, rfl, kept.chans, ?_⟩
  unfold State.sendFrame
  rw [h]
  dsimp only
  split
  · exact State.pushWindow_sendsOn ..
  · exact .refl t

theorem State.sendFrame_sendsOn (s : State) (id : BitVec 32) (kind : Nat) (p : Bytes) :
    SendsOn s (s.sendFrame id kind p) := by
  cases h : s.session id with
  | none =>
    unfold State.sendFrame
    rw [h]
    exact .refl s
  | some x =>
    obtain ⟨t, out, chans, later⟩ := State.sendFrame_open h kind p
    exact .trans ⟨out ▸ List.prefix_append .., chans⟩ later

theorem State.publish_sendsOn (s : State) (e : Event) : SendsOn s (s.publish e) := by
  refine SendsOn.forEach _ s fun t x => ?_
  dsimp only
  refine .ite (.refl t) ((State.sendFrame_sendsOn ..).after (t.modSession_sendsOn _ _ ?_))
  exact fun _ => ⟨rfl, rfl⟩

theorem State.commitOne_sendsOn (s : State) : SendsOn s s.commitOne := by
  unfold State.commitOne
  split
  · exact .refl s
  · exact (State.publish_sendsOn ..).after (.ite (.of_eq rfl rfl) (.of_eq rfl rfl))

theorem State.commitAll_sendsOn (s : State) : SendsOn s s.commitAll := by
  unfold State.commitAll
  exact .ite (.forEach _ s fun t _ => t.commitOne_sendsOn) (.refl s)

theorem State.conflict_sendsOn (s : State) (kind ident inst : Nat) (who : Bytes) :
    SendsOn s (s.conflict kind ident inst who) := by
  unfold State.conflict
  extract_lets
  split
  · exact (State.raise_sendsOn ..).after (.of_eq rfl rfl)
  · exact .of_eq rfl rfl

theorem State.countReply_sendsOn (s : State) (x : Session) (r : Reply) : SendsOn s (s.countReply x r) := by
  unfold State.countReply
  exact .ite (s.conflict_sendsOn ..) (.refl s)

theorem State.endCardOp_sendsOn (s : State) (st : Status) : SendsOn s (s.endCardOp st) := by
  unfold State.endCardOp
  dsimp only
  split <;> exact (State.event_sendsOn ..).after (.of_eq rfl rfl)

theorem State.endCard_sendsOn (s : State) : SendsOn s s.endCard := by
  unfold State.endCard
  extract_lets t
  have ended : SendsOn s t := .ite (s.endCardOp_sendsOn _) (.refl s)
  exact .ite ((State.event_sendsOn ..).after (.trans ended (.of_eq rfl rfl))) ended

/-! ### A new request of a session -/

/-- The channel of a session, by its identifier. -/
theorem State.session_chan {s t : State} (h : t.chans = s.chans) {id : BitVec 32} {x : Session}
    (hx : s.session id = some x) : ∃ y, t.session id = some y ∧ y.inBand = x.inBand := by
  have chan (u : State) : (u.session id).map (fun x => (x.id, x.inBand)) = u.chans.find? (·.1 == id) := by
    rw [State.chans, List.find?_map]
    rfl
  have same := chan t
  rw [h, ← chan s, hx] at same
  obtain ⟨y, hy, e⟩ := Option.map_eq_some_iff.1 same
  exact ⟨y, hy, (Prod.mk.inj e).2⟩

theorem State.closeSession_out (s : State) (id : BitVec 32) : (s.closeSession id).out = s.out := by
  unfold State.closeSession State.rollback
  dsimp only
  split
  · split <;> rfl
  · rfl

theorem State.followNetwork_out (s old : State) : (s.followNetwork old).out = s.out := by
  unfold State.followNetwork
  split
  · rfl
  · exact State.forEach_keeps State.out (fun t id => t.closeSession_out id) ..

theorem State.closeSpent_out (s : State) (id : BitVec 32) : (s.closeSpent id).out = s.out := by
  unfold State.closeSpent
  split
  · rfl
  · exact State.ite_keeps State.out (s.closeSession_out id)

/-- The response is sent on the session's channel, after what has been sent before (R112). -/
theorem State.respond_out {s : State} {z : ZReq} {x : Session} (h : s.session z.session = some x) (svc : Nat)
    (r : Reply) : ∃ post, (s.respond z svc r).out =
      s.out ++ [.frame x.inBand 0x11 z.session (responsePayload svc z.requestId r)] ++ post := by
  let kept (y : Session) : Session :=
    let all := y.responses ++ [(z.requestId, responsePayload svc z.requestId r)]
    { y with responses := all.drop (all.length - 16) }
  have chans := (s.modSession_sendsOn z.session kept fun _ => ⟨rfl, rfl⟩).chans
  obtain ⟨y, hy, chan⟩ := State.session_chan chans h
  obtain ⟨t, out, -, later⟩ := State.sendFrame_open hy 0x11 (responsePayload svc z.requestId r)
  obtain ⟨post, sent⟩ := later.out
  refine ⟨post, sent.symm.trans ?_⟩
  rw [out, chan]
  rfl

end Sys2Proof.Machine
end

section
namespace Sys2Proof.Machine

open Sys2Proof Sys2Proof.Claims

/-- A session's identifier is the one it was looked up by. -/
theorem State.session_id {s : State} {id : BitVec 32} {x : Session} (h : s.session id = some x) : x.id = id :=
  eq_of_beq (List.find?_some (p := fun y : Session => y.id == id) h)

theorem State.session_modSession {s : State} {id : BitVec 32} {x : Session} (h : s.session id = some x)
    {f : Session → Session} (same : ∀ y, (f y).id = y.id) : (s.modSession id f).session id = some (f x) := by
  have found : (fun y : Session => y.id == id) ∘ (fun y => if y.id == id then f y else y) = fun y => y.id == id := by
    funext y
    by_cases hy : y.id = id <;> simp [hy, same]
  unfold State.session State.modSession
  dsimp only
  rw [List.find?_map, found]
  refine (congrArg (Option.map _) h).trans ?_
  simp [State.session_id h]

/-- The state with another state of its management. -/
def State.withMgmt (s : State) (m : Mgmt) : State := { s with mgmt := m }

/-- The datagram that is taken is noted among the management, and the sessions stay. -/
theorem State.takeDatagram_mgmt {s : State} {chan : Option Nat} (h : (s.takeDatagram chan).isSome = true) :
    ∃ m : Mgmt, s.takeDatagram chan = some (s.withMgmt m) ∧ m.sessions = s.mgmt.sessions := by
  unfold State.takeDatagram at h ⊢
  split
  · exact ⟨s.mgmt, rfl, rfl⟩
  · dsimp only at h ⊢
    split at h
    · next open_ => exact ⟨_, if_pos open_, rfl⟩
    · cases h

/-- What follows the run of a request: a refusal is counted, the response is sent, a spent session closes. -/
def State.replied (x : Session) (z : ZReq) (svc : Nat) (after : Reply → State → State) (a : Reply × State) : State :=
  (after a.1 ((a.2.countReply x a.1).respond z svc a.1)).closeSpent z.session

/-- The session and the state in which a new request runs differ from those before it in what the frame's acceptance
notes alone (R109, R112). -/
theorem State.serve_new {s : State} {z : ZReq} {x : Session} (req : Requests s z x) (svc : Nat)
    (run : Session → State → Reply × State) (after : Reply → State → State) : ∃ m : Mgmt,
      (s.withMgmt m).session z.session = some (x.accept z.seq s.now) ∧
      s.serve z svc run after = State.replied x z svc after (run (x.accept z.seq s.now) (s.withMgmt m)) := by
  obtain ⟨m, taken, sessions⟩ := State.takeDatagram_mgmt req.datagram
  let t : State := (s.withMgmt m).modSession z.session fun y => y.accept z.seq s.now
  have known : (s.withMgmt m).session z.session = some x := by
    unfold State.session State.withMgmt
    dsimp only
    rw [sessions]
    exact req.session
  have accepted : t.session z.session = some (x.accept z.seq s.now) :=
    State.session_modSession known fun _ => rfl
  have ran : s.serve z svc run after = State.replied x z svc after (run ((t.session z.session).getD x) t) := by
    unfold State.serve
    rw [req.session]
    dsimp only
    rw [if_neg (by simp [req.serves]), taken]
    dsimp only
    rw [if_neg (by simp [req.opened, req.fresh]; exact Nat.le_of_lt req.room.1), req.new]
    rfl
  rw [accepted] at ran
  exact ⟨t.mgmt, accepted, ran⟩

/-- A new request whose run sends on is answered with the run's reply, and what the run changed besides sending
stands (R112). -/
theorem State.replied_answers {s t : State} {z : ZReq} {x y : Session} {svc : Nat} {after : Reply → State → State}
    (known : s.session z.session = some y) (chan : y.inBand = x.inBand) {a : Reply × State} (runs : SendsOn s a.2)
    (quiet : ∀ r t, (after r t).out = t.out ∧ (after r t).unsent = t.unsent)
    (h : t = State.replied x z svc after a) : Answered s t z x svc a.1.status a.1.value ∧
      t.unsent = (a.2.countReply x a.1).unsent := by
  subst h
  have counted := runs.trans (a.2.countReply_sendsOn x a.1)
  obtain ⟨pre, before⟩ := counted.out
  obtain ⟨y', known', chan'⟩ := State.session_chan counted.chans known
  obtain ⟨post, sent⟩ := State.respond_out known' svc a.1
  constructor
  · refine ⟨pre, post, ?_⟩
    rw [State.replied, State.closeSpent_out, (quiet _ _).1, sent, chan', chan, ← before]
    rfl
  · rw [State.replied, State.closeSpent_unsent, (quiet _ _).2, State.respond_unsent]

/-! ### Writes that act -/

/-- The run of a write to an entry whose access is WO (R95, R113, R114). -/
def State.actingWrite (s : State) (x : Session) (key : Nat) (v : Bytes) : Reply × State :=
  if key = 0x11000B then s.writeWo x key v else s.gate (s.writeWo x key v)

theorem State.noteService_session {s : State} {x y : Session} {id : BitVec 32} (same : x.id = id)
    (h : s.session id = some y) : (s.noteService x).session id = some { y with lastService := s.now } := by
  unfold State.noteService
  rw [same]
  exact State.session_modSession (f := fun y => { y with lastService := s.now }) h fun _ => rfl

theorem State.writeEntry_acts {s : State} {x : Session} {key : Nat} {v : Bytes} {d : EntryDef}
    (check : (s.noteService x).entryCheck x (keyOf key) false = .ok d) (wo : d.access = .wo)
    (domain : d.ty.isDomain = false) (size : d.ty.sizeOk v.length = true) (length : lengthOk key v.length = true)
    (num : OdKey.num (keyOf key) = key) :
    s.writeEntry x (keyOf key) v = (s.noteService x).actingWrite x key v := by
  unfold State.writeEntry
  dsimp only
  rw [check, num]
  dsimp only
  rw [if_neg (by simp [wo, domain]), if_neg (by simp [size, length]), State.writeValue, if_pos (by simp [wo])]
  rfl

/-- A write past its checks runs, is answered with its reply, and what it changed besides sending stands. -/
theorem writeService_acts {s : State} {z : ZReq} {x : Session} {key n : Nat} (w : WritesOnce s z x key n) {v : Bytes}
    (length : v.length = n) (num : OdKey.num (keyOf key) = key) : ∃ (m : Mgmt) (x' : Session),
      x'.role = x.role ∧
      let a := (s.withMgmt m).actingWrite x' key v
      SendsOn (s.withMgmt m) a.2 →
        Answered s (s.writeService z (keyOf key) v) z x 2 a.1.status a.1.value ∧
        (s.writeService z (keyOf key) v).unsent = (a.2.countReply x a.1).unsent := by
  obtain ⟨d, check, wo, domain, size⟩ := w.entry
  obtain ⟨m, known, served⟩ := State.serve_new w.request 0x02 (fun x s => s.writeEntry x (keyOf key) v)
    fun _ t => t.followNetwork s
  let x' := x.accept z.seq s.now
  let u : State := (s.withMgmt m).noteService x'
  have same : x'.id = z.session := State.session_id known
  have noted := State.noteService_session same known
  have ran : (s.withMgmt m).writeEntry x' (keyOf key) v = u.actingWrite x' key v :=
    State.writeEntry_acts check wo domain (length ▸ size) (length ▸ w.length) num
  refine ⟨u.mgmt, x', rfl, fun sends => ?_⟩
  exact State.replied_answers noted rfl sends (fun _ t => ⟨t.followNetwork_out s, t.followNetwork_unsent s⟩)
    (served.trans (congrArg (State.replied x z 0x02 fun _ t => t.followNetwork s) ran))

end Sys2Proof.Machine
end

section
namespace Sys2Proof.Machine

open Sys2Proof Sys2Proof.Claims

@[simp] theorem State.countReply_untold (s : State) (x : Session) (r : Reply) :
    (s.countReply x r).untold = s.untold := by
  unfold State.countReply
  exact State.ite_keeps State.untold (s.conflict_untold ..)

/-- A write whose run in any state that differs in its management gives the reply `r` is answered with it, and has
every effect that the run has besides sending. -/
theorem writeService_gives {s : State} {z : ZReq} {x : Session} {key n : Nat} {v : Bytes} {c : Instr} {r : Reply}
    {P : State → Prop} (op : exec c s = .next (s.writeService z (keyOf key) v)) (w : WritesOnce s z x key n)
    (length : v.length = n) (num : OdKey.num (keyOf key) = key)
    (runs : ∀ (m : Mgmt) (x' : Session), x'.role = x.role → ∃ u,
      (s.withMgmt m).actingWrite x' key v = (r, u) ∧ SendsOn (s.withMgmt m) u ∧
        ∀ t : State, t.unsent = (u.countReply x r).unsent → P t) :
    Gives c s fun t => Answered s t z x 2 r.status r.value ∧ P t := by
  obtain ⟨m, x', role, acts⟩ := writeService_acts w length num
  obtain ⟨u, ran, sends, effect⟩ := runs m x' role
  rw [ran] at acts
  exact ⟨_, op, (acts sends).imp_right fun same => effect _ same⟩

/-- Outside HALTED nothing is gated (R114). -/
theorem State.actingWrite_open {s : State} (serves : s.halted = false) (x : Session) (key : Nat) (v : Bytes) :
    s.actingWrite x key v = s.writeWo x key v := by
  unfold State.actingWrite State.gate
  simp [serves]

/-- The same outside HALTED, where the run is the entry's own. -/
theorem writeService_open {s : State} {z : ZReq} {x : Session} {key n : Nat} {v : Bytes} {c : Instr} {r : Reply}
    {P : State → Prop} (op : exec c s = .next (s.writeService z (keyOf key) v)) (w : WritesOnce s z x key n)
    (length : v.length = n) (num : OdKey.num (keyOf key) = key) (serves : s.halted = false)
    (runs : ∀ (m : Mgmt) (x' : Session), x'.role = x.role → ∃ u,
      (s.withMgmt m).writeWo x' key v = (r, u) ∧ SendsOn (s.withMgmt m) u ∧
        ∀ t : State, t.unsent = (u.countReply x r).unsent → P t) :
    Gives c s fun t => Answered s t z x 2 r.status r.value ∧ P t := by
  refine writeService_gives op w length num fun m x' role => ?_
  rw [State.actingWrite_open (s := s.withMgmt m) serves]
  exact runs m x' role

/-- What a refusal counts and tells is no more than that. -/
theorem State.untold_of_counted {s t : State} {x : Session} {r : Reply} (h : t.unsent = (s.countReply x r).unsent) :
    t.untold = s.untold :=
  (State.untold_of_unsent h).trans (s.countReply_untold x r)

/-- The register with the latch and its causes cleared (R51). -/
def State.acknowledged (s : State) : State :=
  { s with warden := { s.warden with
    latch := false, causeMesh := false, causeLoop := false, causeTemp := false, cellLost := false } }

theorem State.tamperAck_of_halted (s : State) (halted : s.halted = true) (x : Session) :
    s.tamperAck x (le 4 1) = (.ok [], s.acknowledged.event .tamperAcknowledged (le 8 x.credId.toNat)) := by
  unfold State.tamperAck
  rw [if_neg (by decide), if_neg (by simp [halted])]
  rfl

theorem State.tamperAck_of_serving (s : State) (serves : s.halted = false) (x : Session) :
    s.tamperAck x (le 4 1) = (.conflict, s) := by
  unfold State.tamperAck
  rw [if_neg (by decide), if_pos (by simp [serves])]

theorem State.setTime_of_free (s : State) (free : s.timeState = 0) (v : Bytes) :
    s.setTime v = (.ok [], { s with clk := { s.clk with devTime := some (ofLe v) } }) := if_neg (by simp [free])

theorem State.setTime_of_set (s : State) (set : s.timeState ≠ 0) (v : Bytes) : s.setTime v = (.conflict, s) :=
  if_pos (by simp [set])

theorem State.debugAllow_of_deployed (s : State) (deployed : s.lcState = 3) (calm : s.lc.transition = none) :
    s.debugAllow (le 4 1) = (.ok [], { s with lc := { s.lc with allowance := true } }) := by
  unfold State.debugAllow
  rw [if_neg (by decide), if_neg (by simp [deployed, State.inTransition, calm])]

theorem State.debugAllow_of_other (s : State) (other : s.lcState ≠ 3) :
    s.debugAllow (le 4 1) = (.conflict, s) := by
  unfold State.debugAllow
  rw [if_neg (by decide), if_pos (by simp [other])]

/-- The generation one further, in the superblock and in OTP (R419). -/
def State.advanced (s : State) : State :=
  { s with
    keys := { s.keys with archiveGen := s.keys.archiveGen + 1 }
    otp := { s.otp with genBits := s.otp.genBits + 1 } }

theorem State.archiveRatchet_of_room (s : State) (room : s.otp.genBits < 4096) (own : s.start.readOnly = false)
    (calm : s.lc.transition = none) : s.archiveRatchet (le 4 1) = (.ok [], s.advanced) := by
  unfold State.archiveRatchet State.advanceGeneration
  rw [if_neg (by decide), if_neg (by simp [room, own, State.inTransition, calm]), if_pos room]
  rfl

theorem tamperAck_acknowledges (z : ZReq) (s : State) (x : Session) (w : WritesOnce s z x 0x11000B 4)
    (halted : s.halted = true) : Gives (.tamperAck z (le 4 1)) s fun t => Answered s t z x 0x02 .ok [] ∧
      t.warden.latch = false ∧ t.warden.causeMesh = false ∧ t.warden.causeLoop = false ∧
      t.warden.causeTemp = false := by
  refine writeService_gives (r := .ok []) rfl w rfl rfl fun m x' _ => ⟨_,
    (s.withMgmt m).tamperAck_of_halted halted x', (State.event_sendsOn ..).after (.of_eq rfl rfl), fun t h => ?_⟩
  have told := (State.untold_of_unsent h).trans (State.event_untold ..)
  exact ⟨State.field_eq told (·.warden.latch) fun _ => rfl, State.field_eq told (·.warden.causeMesh) fun _ => rfl,
    State.field_eq told (·.warden.causeLoop) fun _ => rfl, State.field_eq told (·.warden.causeTemp) fun _ => rfl⟩

theorem tamperAck_refused (z : ZReq) (s : State) (x : Session) (w : WritesOnce s z x 0x11000B 4)
    (serves : s.halted = false) : Gives (.tamperAck z (le 4 1)) s fun t =>
      Answered s t z x 0x02 .stateConflict [] ∧ t.warden.latch = s.warden.latch :=
  writeService_gives (r := .conflict) rfl w rfl rfl fun m x' _ => ⟨_,
    (s.withMgmt m).tamperAck_of_serving serves x', .refl _,
    fun _ h => State.field_eq (State.untold_of_counted h) (·.warden.latch) fun _ => rfl⟩

theorem timeSet_sets (z : ZReq) (s : State) (x : Session) (v : Bytes) (w : WritesOnce s z x 0x290026 v.length)
    (serves : s.halted = false) (free : s.timeState = 0) : Gives (.timeSet z v) s fun t =>
      Answered s t z x 0x02 .ok [] ∧ t.clk.devTime = some (ofLe v) :=
  writeService_open (r := .ok []) rfl w rfl rfl serves fun m _ _ => ⟨_,
    (s.withMgmt m).setTime_of_free free v, .of_eq rfl rfl,
    fun _ h => State.field_eq h (·.clk.devTime) fun _ => rfl⟩

theorem timeSet_refused (z : ZReq) (s : State) (x : Session) (v : Bytes) (w : WritesOnce s z x 0x290026 v.length)
    (serves : s.halted = false) (set : s.timeState ≠ 0) : Gives (.timeSet z v) s fun t =>
      Answered s t z x 0x02 .stateConflict [] ∧ t.clk = s.clk :=
  writeService_open (r := .conflict) rfl w rfl rfl serves fun m _ _ => ⟨_,
    (s.withMgmt m).setTime_of_set set v, .refl _,
    fun _ h => State.field_eq (State.untold_of_counted h) State.clk fun _ => rfl⟩

theorem debugAllow_grants (z : ZReq) (s : State) (x : Session) (w : WritesOnce s z x 0x250006 4)
    (serves : s.halted = false) (deployed : s.lcState = 3) (calm : s.lc.transition = none) :
    Gives (.debugAllow z (le 4 1)) s fun t => Answered s t z x 0x02 .ok [] ∧ t.lc.allowance = true :=
  writeService_open (r := .ok []) rfl w rfl rfl serves fun m _ _ => ⟨_,
    (s.withMgmt m).debugAllow_of_deployed deployed calm, .of_eq rfl rfl,
    fun _ h => State.field_eq h (·.lc.allowance) fun _ => rfl⟩

theorem debugAllow_refused (z : ZReq) (s : State) (x : Session) (w : WritesOnce s z x 0x250006 4)
    (serves : s.halted = false) (other : s.lcState ≠ 3) : Gives (.debugAllow z (le 4 1)) s fun t =>
      Answered s t z x 0x02 .stateConflict [] ∧ t.lc = s.lc :=
  writeService_open (r := .conflict) rfl w rfl rfl serves fun m _ _ => ⟨_,
    (s.withMgmt m).debugAllow_of_other other, .refl _,
    fun _ h => State.field_eq (State.untold_of_counted h) State.lc fun _ => rfl⟩

theorem archiveRatchet_advances (z : ZReq) (s : State) (x : Session) (w : WritesOnce s z x 0x23000D 4)
    (serves : s.halted = false) (room : s.otp.genBits < 4096) (own : s.start.readOnly = false)
    (calm : s.lc.transition = none) : Gives (.archiveRatchet z (le 4 1)) s fun t => Answered s t z x 0x02 .ok [] ∧
      t.otp.genBits = s.otp.genBits + 1 ∧ t.keys.archiveGen = s.keys.archiveGen + 1 :=
  writeService_open (r := .ok []) rfl w rfl rfl serves fun m _ _ => ⟨_,
    (s.withMgmt m).archiveRatchet_of_room room own calm, .of_eq rfl rfl,
    fun _ h => ⟨State.field_eq h (·.otp.genBits) fun _ => rfl, State.field_eq h (·.keys.archiveGen) fun _ => rfl⟩⟩

end Sys2Proof.Machine
end

section
namespace Sys2Proof.Machine

open Sys2Proof Sys2Proof.Claims

/-! ### The event log -/

theorem State.chainEpoch_log (s : State) (n : Nat) : (s.chainEpoch n).log = s.log.log := by
  unfold State.chainEpoch
  extract_lets root
  split <;> rfl

/-- A commit takes the oldest waiting record (R505). -/
theorem State.commitOne_buffer (s : State) : s.commitOne.log.buffer = s.log.buffer.tail := by
  unfold State.commitOne
  split
  · next h => rw [h]; rfl
  · next e rest h =>
    dsimp only
    rw [State.publish_log, State.ite_bump_log, h]
    rfl

theorem State.commits_buffer {α : Type} (l : List α) (s : State) :
    (s.forEach l fun s _ => s.commitOne).log.buffer = s.log.buffer.drop l.length := by
  induction l generalizing s with
  | nil => rfl
  | cons x l ih =>
    rw [State.forEach_cons, ih, State.commitOne_buffer, List.drop_tail, List.length_cons]

/-- Where records can be committed, none waits once all are (R505). -/
theorem State.commitAll_buffer {s : State} (can : s.canCommit = true) : s.commitAll.log.buffer = [] := by
  unfold State.commitAll
  rw [if_pos can, State.commits_buffer, List.drop_length]

/-- The only waiting record becomes the only record of an empty log (R505). -/
theorem State.commitOne_single {s : State} {e : Event} (waits : s.log.buffer = [e]) (empty : s.log.log = []) :
    s.commitOne.log.buffer = [] ∧ ∃ e', s.commitOne.log.log = [e'] ∧ e'.code = e.code := by
  refine ⟨by rw [State.commitOne_buffer, waits]; rfl, ?_⟩
  have none : (if s.logKeyHeld then s.chainEpoch e.seq else s.log).log = [] := by
    split
    · rw [State.chainEpoch_log, empty]
    · exact empty
  unfold State.commitOne
  rw [waits]
  dsimp only
  rw [State.publish_log, State.ite_bump_log]
  dsimp only
  rw [none, List.find?_nil]
  dsimp only
  rw [none]
  exact ⟨_, rfl, rfl⟩

/-- The clear leaves LOG_CLEARED as the only record (R512). -/
theorem State.clearLog_log {s : State} (can : s.canCommit = true) (cred : BitVec 64) :
    (s.clearLog cred).log.buffer = [] ∧ ∃ e, (s.clearLog cred).log.log = [e] ∧
      e.code = BitVec.ofNat 16 EventCode.logCleared.code := by
  unfold State.clearLog
  extract_lets committed removed epoch _ erased told
  have waiting : erased.log.buffer = [] := State.commitAll_buffer can
  have gone : erased.log.log = [] := rfl
  have place : erased.log.hasPlace EventCode.logCleared.severity = true := by
    rw [Recorder.hasPlace, waiting]
    rfl
  have room : erased.log.full = false := by simp [Recorder.full, waiting, gone]
  obtain ⟨e, code, -, -, -, raised⟩ := State.raise_taken place room .logCleared 0xFFFF
    (fields [(4, removed), (4, 0), (8, cred.toNat), (8, erased.card.serial.toNat)])
  have log : told.log = { erased.log with droppedNow := 0, buffer := erased.log.buffer ++ [e] } :=
    congrArg State.log raised
  obtain ⟨empty, e', only, same⟩ := State.commitOne_single (s := told.bump 0x270008 0 1) (e := e)
    ((congrArg Recorder.buffer log).trans (by rw [waiting]; rfl)) ((congrArg Recorder.log log).trans gone)
  exact ⟨empty, e', only, same.trans code⟩

theorem State.clearLog_sendsOn (s : State) (cred : BitVec 64) : SendsOn s (s.clearLog cred) := by
  unfold State.clearLog
  extract_lets committed removed epoch _ erased told
  have cleared : SendsOn s erased := s.commitAll_sendsOn.trans (.of_eq rfl rfl)
  exact (State.commitOne_sendsOn _).after ((cleared.trans (State.event_sendsOn ..)).trans (.of_eq rfl rfl))

/-- An event leaves the committed records and the figures of the last check. -/
theorem State.raise_log (s : State) (c : EventCode) (v i : Nat) (d : Bytes) :
    (s.raise c v i d).log.log = s.log.log ∧ (s.raise c v i d).log.check = s.log.check := by
  unfold State.raise
  dsimp only
  split
  · exact ⟨rfl, rfl⟩
  · split
    · split <;> exact ⟨rfl, rfl⟩
    · exact ⟨rfl, rfl⟩

/-- A check reads every record, leaves them, and notes its figures (R510). -/
theorem State.checkLog_log (s : State) : s.checkLog.log.log = s.log.log ∧
    ∃ a b c, s.checkLog.log.check = [s.log.log.length, a, b, c] := by
  unfold State.checkLog
  dsimp only
  split
  · obtain ⟨log, check⟩ := State.raise_log _ .logCheckFail _ _ _
    exact ⟨log, _, _, _, check⟩
  · exact ⟨rfl, _, _, _, rfl⟩

theorem State.checkLog_sendsOn (s : State) : SendsOn s s.checkLog := by
  unfold State.checkLog
  dsimp only
  split
  · exact (State.event_sendsOn ..).after (.of_eq rfl rfl)
  · exact .of_eq rfl rfl

theorem State.writeLogCheck_checks (s : State) : s.writeLogCheck (le 4 1) = (.ok [], s.checkLog) := if_neg (by decide)

theorem State.writeLogClear_of_calm (s : State) (unwarned : s.warning = false) (calm : s.lc.transition = none)
    (x : Session) : s.writeLogClear x (le 4 1) = (.ok [], s.clearLog x.credId) := by
  unfold State.writeLogClear
  rw [if_neg (by decide), if_neg (by simp [State.inTransition, calm, unwarned])]

theorem logClear_clears (z : ZReq) (s : State) (x : Session) (w : WritesOnce s z x 0x270003 4)
    (serves : s.halted = false) (unwarned : s.warning = false) (calm : s.lc.transition = none)
    (can : s.canCommit = true) : Gives (.logClear z (le 4 1)) s fun t => Answered s t z x 0x02 .ok [] ∧
      t.log.buffer = [] ∧ ∃ e, t.log.log = [e] ∧ e.code = BitVec.ofNat 16 EventCode.logCleared.code := by
  refine writeService_open (r := .ok []) rfl w rfl rfl serves fun m x' _ => ⟨_,
    (s.withMgmt m).writeLogClear_of_calm unwarned calm x', State.clearLog_sendsOn .., fun t h => ?_⟩
  have log : t.log = ((s.withMgmt m).clearLog x'.credId).log := State.field_eq h State.log fun _ => rfl
  rw [log]
  exact State.clearLog_log (s := s.withMgmt m) can x'.credId

theorem logCheckRun_checks (z : ZReq) (s : State) (x : Session) (w : WritesOnce s z x 0x270007 4)
    (serves : s.halted = false) : Gives (.logCheckRun z (le 4 1)) s fun t => Answered s t z x 0x02 .ok [] ∧
      t.log.log = s.log.log ∧ ∃ a b c, t.log.check = [s.log.log.length, a, b, c] := by
  refine writeService_open (r := .ok []) rfl w rfl rfl serves fun m x' _ => ⟨_,
    (s.withMgmt m).writeLogCheck_checks, State.checkLog_sendsOn _, fun t h => ?_⟩
  have log : t.log = (s.withMgmt m).checkLog.log := State.field_eq h State.log fun _ => rfl
  rw [log]
  exact (s.withMgmt m).checkLog_log

/-! ### A requested transition -/

/-- The state at step 2 of a transition, before it is told (R464). -/
def State.transitioning (s : State) (target slot : Nat) : State :=
  { s with
    otp := { s.otp with intents := s.otp.intents.set slot (List.replicate 3 (intentWord target)) }
    lc := { s.lc with
      transition := some { target := target, source := s.lcState, slot := slot, wiping := false } }
    card := { s.card with approvals := if target = 4 then [] else s.card.approvals }
    start := { s.start with draining := some .transition, drainSince := s.now } }

theorem State.beginTransition_eq (s : State) (target slot : Nat) : s.beginTransition target slot =
    ((((s.transitioning target slot).event .lcTransition
      (le 1 s.lcState ++ le 1 target)).commitAll).alarmWindows).endCard := rfl

theorem State.beginTransition_untold (s : State) (target slot : Nat) :
    (s.beginTransition target slot).untold = (s.transitioning target slot).untold := by
  simp [State.beginTransition_eq]

theorem State.beginTransition_sendsOn (s : State) (target slot : Nat) :
    SendsOn s (s.beginTransition target slot) := by
  rw [State.beginTransition_eq]
  have begun : SendsOn s (s.transitioning target slot) := .of_eq rfl rfl
  have committed := (State.commitAll_sendsOn _).after ((State.event_sendsOn _ .lcTransition
    (le 1 s.lcState ++ le 1 target)).after begun)
  exact (State.endCard_sendsOn _).after (committed.trans (.of_eq rfl rfl))

/-- The state after a refused request: told, and counted where the token failed (R463). -/
def State.lcRefused (s : State) (n : Nat) : State :=
  let t := s.event .lcRefused (le 1 n)
  if n = 6 then { t with lc := { t.lc with tokenFails := t.lc.tokenFails + 1 } } else t

theorem State.lcRefused_sendsOn (s : State) (n : Nat) : SendsOn s (s.lcRefused n) :=
  .ite ((s.event_sendsOn ..).trans (.of_eq rfl rfl)) (s.event_sendsOn ..)

theorem State.lcRefused_kept (s : State) (n : Nat) : (s.lcRefused n).lc.transition = s.lc.transition ∧
    (s.lcRefused n).otp = s.otp ∧
    (s.lcRefused n).lc.tokenFails = s.lc.tokenFails + if n = 6 then 1 else 0 := by
  have told := s.event_untold .lcRefused (le 1 n)
  have lc : (s.event .lcRefused (le 1 n)).lc = s.lc := State.field_eq told State.lc fun _ => rfl
  have otp : (s.event .lcRefused (le 1 n)).otp = s.otp := State.field_eq told State.otp fun _ => rfl
  unfold State.lcRefused
  dsimp only
  split
  · dsimp only
    rw [lc, otp]
    exact ⟨rfl, rfl, rfl⟩
  · rw [lc, otp]
    exact ⟨rfl, rfl, rfl⟩

/-- The fields of LC_REQUEST (R462). -/
theorem lcRequest_fields {target : Nat} {token : Bytes} (small : target < 256) (length : token.length = 32) :
    fieldLe 0 1 (fields [(1, target), (3, 0)] ++ token) = target ∧
      slice 4 32 (fields [(1, target), (3, 0)] ++ token) = token ∧
      (fields [(1, target), (3, 0)] ++ token).length = 36 := by
  have head : fields [(1, target), (3, 0)] = [BitVec.ofNat 8 target, 0, 0, 0] := rfl
  rw [head]
  refine ⟨?_, ?_, ?_⟩
  · simp [fieldLe, slice, ofLe, Nat.mod_eq_of_lt small]
  · simp [slice, ← length]
  · simp [length]

/-- A request that its checks allow begins the transition (R463, R464). -/
theorem State.lcRequestBy_allowed (s : State) {x : Session} {target i : Nat} {token v : Bytes}
    (code : fieldLe 0 1 v = target) (tok : slice 4 32 v = token)
    (allowed : s.lcRefusal (.session x.role) target token = none) (free : s.freeIntent = some i) :
    s.lcRequestBy x v = (.ok [], s.beginTransition target i) := by
  unfold State.lcRequestBy State.lcRequest
  rw [code, tok, allowed, free]
  rfl

/-- A request that a check refuses is told, with the check's number (R463). -/
theorem State.lcRequestBy_refused (s : State) {x : Session} {target n : Nat} {token v : Bytes}
    (code : fieldLe 0 1 v = target) (tok : slice 4 32 v = token)
    (refused : s.lcRefusal (.session x.role) target token = some n) :
    s.lcRequestBy x v = (.conflict, s.lcRefused n) := by
  unfold State.lcRequestBy State.lcRequest
  rw [code, tok, refused]
  rfl

theorem lcRequest_begins (z : ZReq) (target : Nat) (token : Bytes) (s : State) (x : Session)
    (w : WritesOnce s z x 0x250001 36) (serves : s.halted = false) (small : target < 256) (length : token.length = 32)
    (i : Nat) (allowed : s.lcRefusal (.session x.role) target token = none) (free : s.freeIntent = some i) :
    Gives (.lcRequest z target token) s fun t => Answered s t z x 0x02 .ok [] ∧
      t.lc.transition = some { target := target, source := s.lcState, slot := i, wiping := false } ∧
      t.start.draining = some .transition ∧ t.otp.copies = s.otp.copies := by
  obtain ⟨code, tok, size⟩ := lcRequest_fields small length
  refine writeService_open (r := .ok []) rfl w size rfl serves fun m x' role => ⟨_,
    (s.withMgmt m).lcRequestBy_allowed code tok (role ▸ allowed) free, State.beginTransition_sendsOn .., fun t h => ?_⟩
  have told := (State.untold_of_unsent h).trans (State.beginTransition_untold ..)
  exact ⟨State.field_eq told (·.lc.transition) fun _ => rfl, State.field_eq told (·.start.draining) fun _ => rfl,
    State.field_eq told (·.otp.copies) fun _ => rfl⟩

theorem lcRequest_refused (z : ZReq) (target : Nat) (token : Bytes) (s : State) (x : Session)
    (w : WritesOnce s z x 0x250001 36) (serves : s.halted = false) (small : target < 256) (length : token.length = 32)
    (n : Nat) (refused : s.lcRefusal (.session x.role) target token = some n) :
    Gives (.lcRequest z target token) s fun t => Answered s t z x 0x02 .stateConflict [] ∧
      t.lc.transition = s.lc.transition ∧ t.otp = s.otp ∧
      t.lc.tokenFails = s.lc.tokenFails + (if n = 6 then 1 else 0) := by
  obtain ⟨code, tok, size⟩ := lcRequest_fields small length
  refine writeService_open (r := .conflict) rfl w size rfl serves fun m x' role => ⟨_,
    (s.withMgmt m).lcRequestBy_refused code tok (role ▸ refused), State.lcRefused_sendsOn .., fun t h => ?_⟩
  have told := State.untold_of_counted h
  obtain ⟨transition, otp, fails⟩ := (s.withMgmt m).lcRefused_kept n
  exact ⟨(State.field_eq told (·.lc.transition) fun _ => rfl).trans transition,
    (State.field_eq told State.otp fun _ => rfl).trans otp,
    (State.field_eq told (·.lc.tokenFails) fun _ => rfl).trans fails⟩

/-- Settles O40, entry by entry: a write past its checks is answered with the reply of its run, and keeps what the run
changed besides sending; the run itself is computed in each entry's own state. -/
theorem actingWritesTakeEffect : Obligations.ActingWritesTakeEffect := by
  unfold Obligations.ActingWritesTakeEffect
  refine ⟨fun z s x w => ⟨tamperAck_acknowledges z s x w, tamperAck_refused z s x w⟩,
    fun z s x v w serves => ⟨timeSet_sets z s x v w serves, timeSet_refused z s x v w serves⟩,
    fun z s x w serves => ⟨debugAllow_grants z s x w serves, debugAllow_refused z s x w serves⟩,
    fun z s x w serves room own calm => archiveRatchet_advances z s x w serves room own calm,
    logClear_clears, logCheckRun_checks, fun z target token s x w serves small length =>
      ⟨lcRequest_begins z target token s x w serves small length,
        lcRequest_refused z target token s x w serves small length⟩⟩

end Sys2Proof.Machine
end

section
namespace Sys2Proof.Machine

open Sys2Proof

/-! ### Draws and own instances -/

/-- The state without what the random number generation changes: its own parts, the instances' DRBGs, the event log with
its next SEQ, and the counters. -/
def State.undrawn (s : State) : State :=
  { s with
    insts := [], rng := {}, log := {}, cnt := [], warden := { s.warden with nextSeq := 0, lostRecords := 0 } }

@[simp] theorem State.condition_undrawn (s : State) : s.condition.undrawn = s.undrawn := by
  unfold State.condition
  split <;> rfl

@[simp] theorem State.handBlock_undrawn (s : State) : s.handBlock.undrawn = s.undrawn := by
  unfold State.handBlock
  split
  · rfl
  · dsimp only
    split
    · rfl
    · split
      · rfl
      · split <;> split <;> rfl

@[simp] theorem State.endRestart_undrawn (s : State) : s.endRestart.undrawn = s.undrawn := by
  unfold State.endRestart
  split
  · exact State.event_keeps State.undrawn (fun _ _ _ _ _ => rfl) ..
  · rfl

@[simp] theorem State.serveBlocks_undrawn (s : State) : s.serveBlocks.undrawn = s.undrawn := by
  simp [State.serveBlocks]

/-- The fresh start of what a port's manager owns changes instances and random numbers alone (R427, R536). -/
@[simp] theorem State.ownInstance_undrawn (s : State) (p : Nat) : (s.ownInstance p).undrawn = s.undrawn := by
  unfold State.ownInstance
  dsimp only
  split
  · exact State.serveBlocks_undrawn _
  · rfl

theorem State.ownInstance_port (s : State) (p q : Nat) : (s.ownInstance p).port q = s.port q :=
  State.field_eq (s.ownInstance_undrawn p) (fun t => t.port q) fun _ => rfl

/-! ### Ports -/

theorem getD_modify_same {α : Type} {n : Nat} {l : List α} (listed : n < l.length) (f : α → α) (d : α) :
    (l.modify n f).getD n d = f (l.getD n d) := by
  simp [List.getD_eq_getElem?_getD, listed]

theorem getD_modify_other {α : Type} {n m : Nat} (other : m ≠ n) (l : List α) (f : α → α) (d : α) :
    (l.modify n f).getD m d = l.getD m d := by
  simp [List.getD_eq_getElem?_getD, Ne.symm other]

theorem State.port_modPort_same {s : State} {p : Nat} (listed : p < s.ports.length) (f : Port → Port) :
    (s.modPort p f).port p = f (s.port p) := getD_modify_same listed f _

theorem State.port_modPort_other (s : State) {p q : Nat} (other : q ≠ p) (f : Port → Port) :
    (s.modPort p f).port q = s.port q := getD_modify_other other ..

/-- A port without what an event on it changes (R136, R155). -/
def Port.quiet (t : Port) : Port := { t with evStatus := 0, msixPending := [] }

/-- Ports that are the same but for events on them are so one by one. -/
theorem State.port_quiet {s t : State} (h : t.ports.map Port.quiet = s.ports.map Port.quiet) (q : Nat) :
    (t.port q).quiet = (s.port q).quiet := by
  have quiet (u : State) : (u.ports.map Port.quiet).getD q (Port.quiet {}) = (u.port q).quiet :=
    List.getD_map ..
  rw [← quiet, ← quiet, h]

/-! ### Loops that delete -/

/-- A loop whose steps delete the entries of its members leaves the other entries. -/
theorem State.forEach_dels {α : Type} (g : State → List (Nat × α)) {f : State → Nat → State}
    (dels : ∀ t k, g (f t k) = del k (g t)) (l : List Nat) (s : State) :
    g (s.forEach l f) = (g s).filter fun x => !l.contains x.1 := by
  induction l generalizing s with
  | nil => simp
  | cons k l ih =>
    rw [State.forEach_cons, ih, dels]
    simp [del, List.filter_filter, bne, Bool.and_comm, beq_eq_decide]

/-- Where the members are the entries that a test picks, none that it picks is left. -/
theorem State.forEach_dels_picked {α : Type} (g : State → List (Nat × α)) {f : State → Nat → State}
    (dels : ∀ t k, g (f t k) = del k (g t)) (pick : Nat × α → Bool) (s : State) {x : Nat × α}
    (left : x ∈ g (s.forEach (((g s).filter pick).map (·.1)) f)) : x ∈ g s ∧ pick x = false := by
  rw [State.forEach_dels g dels] at left
  obtain ⟨mem, out⟩ := List.mem_filter.1 left
  refine ⟨mem, Bool.eq_false_iff.2 fun picked => ?_⟩
  have listed : x.1 ∈ ((g s).filter pick).map (·.1) := List.mem_map.2 ⟨x, List.mem_filter.2 ⟨mem, picked⟩, rfl⟩
  rw [List.contains_iff_mem.2 listed] at out
  cases out

theorem State.removeSlot_slots (s : State) (k : Nat) : (s.removeSlot k).keys.slots = del k s.keys.slots := by
  unfold State.removeSlot
  split
  · rfl
  · next empty => exact (del_of_look_none (by simpa using empty)).symm

end Sys2Proof.Machine
end

section
namespace Sys2Proof.Machine

open Sys2Proof

/-! ### What the release of a job's slot changes -/

/-- The state without what a job gives back at its end: records and their IV counts, regions, engine queues and
units. -/
def State.unstored (s : State) : State :=
  { s with free := 0, keys := {}, sched := {}, clove := [], saffron := [], cnt := [] }

@[simp] theorem State.removeRecord_unstored (s : State) (k : Nat) : (s.removeRecord k).unstored = s.unstored := by
  unfold State.removeRecord
  split <;> rfl

@[simp] theorem State.clearRegion_unstored (s : State) (r : Region) : (s.clearRegion r).unstored = s.unstored := by
  unfold State.clearRegion
  dsimp only
  exact State.ite_keeps (fun t => (t.modOpMem _ _).unstored) rfl

@[simp] theorem State.returnIv_unstored (s : State) (j : Job) : (s.returnIv j).unstored = s.unstored := by
  unfold State.returnIv State.setIv
  split
  · dsimp only
    split <;> rfl
  · rfl

theorem State.modJob_of_none {s : State} {k : Nat} (none : s.job k = none) (f : Job → Job) : s.modJob k f = s := by
  rw [State.modJob, upd_of_look_none none]

/-- Beside what it gives back, the wipe of a job's scoped records changes that job alone (R358). -/
theorem State.wipeScoped_unstored (s : State) (k : Nat) : ∃ f, (s.wipeScoped k).unstored = (s.modJob k f).unstored := by
  refine ⟨fun j => { j with runKeys := [] }, ?_⟩
  unfold State.wipeScoped
  split
  · next none => rw [State.modJob_of_none none]
  · refine State.forEach_keeps (fun t => (t.modJob k _).unstored) (fun t x => ?_) ..
    have same (u : State) (h : u.unstored = t.unstored) (f : Job → Job) :
        (u.modJob k f).unstored = (t.modJob k f).unstored :=
      State.field_eq h (fun u => (u.modJob k f).unstored) fun _ => rfl
    split
    · split
      · exact same _ (State.removeRecord_unstored ..) _
      · rfl
    · rfl

/-- Beside what it gives back, the release of a job's units changes that job alone (R35). -/
theorem State.releaseUnits_unstored (s : State) (k : Nat) :
    ∃ f, (s.releaseUnits k).unstored = (s.modJob k f).unstored := by
  refine ⟨fun j => { j with region := none, jobData := 0, floatMode := false, decodeMode := false, run := none }, ?_⟩
  unfold State.releaseUnits
  split
  · next none => rw [State.modJob_of_none none]
  · dsimp only
    split
    · next r _ =>
      exact State.field_eq (s.clearRegion_unstored r)
        (fun t => (((t.freeSaffron k).dropWaiting k).modJob k _).unstored) fun _ => rfl
    · rfl

theorem del_upd {α : Type} (k : Nat) (f : α → α) (l : List (Nat × α)) : del k (upd k f l) = del k l := by
  induction l with
  | nil => rfl
  | cons x l ih =>
    by_cases h : x.1 = k <;> simpa [upd, del, h] using ih

@[simp] theorem State.checkStopped_jobs (s : State) (i q : Nat) : (s.checkStopped i q).jobs = s.jobs := by
  unfold State.checkStopped
  split
  · rfl
  · exact State.ite_keeps State.jobs rfl

@[simp] theorem State.returnPlaces_jobs (s : State) (j : Job) : (s.returnPlaces j).jobs = s.jobs := by
  unfold State.returnPlaces
  split <;> rfl

@[simp] theorem State.returnIv_jobs (s : State) (j : Job) : (s.returnIv j).jobs = s.jobs :=
  State.field_eq (s.returnIv_unstored j) State.jobs fun _ => rfl

theorem State.del_wipeScoped_jobs (s : State) (k : Nat) : del k (s.wipeScoped k).jobs = del k s.jobs := by
  obtain ⟨f, wiped⟩ := s.wipeScoped_unstored k
  rw [State.field_eq wiped State.jobs fun _ => rfl, State.modJob_jobs, del_upd]

theorem State.del_releaseUnits_jobs (s : State) (k : Nat) : del k (s.releaseUnits k).jobs = del k s.jobs := by
  obtain ⟨f, given⟩ := s.releaseUnits_unstored k
  rw [State.field_eq given State.jobs fun _ => rfl, State.modJob_jobs, del_upd]

/-- A slot that is released holds no job, and every other job stands as it was (R35). -/
theorem State.releaseSlot_jobs (s : State) (k : Nat) : (s.releaseSlot k).jobs = del k s.jobs := by
  unfold State.releaseSlot
  split
  · next none => exact (del_of_look_none none).symm
  · next j _ =>
    calc _ = del k ((((s.wipeScoped k).releaseUnits k).returnPlaces j).returnIv j).jobs := State.checkStopped_jobs ..
      _ = del k s.jobs := by
        rw [State.returnIv_jobs, State.returnPlaces_jobs, State.del_releaseUnits_jobs, State.del_wipeScoped_jobs]

/-- A squash leaves no job of those it is about, and makes no new one (R35, R148). -/
theorem State.squashInst_jobs (s : State) (i : Nat) {x : Nat × Job} (left : x ∈ (s.squashInst i).jobs) :
    x ∈ s.jobs ∧ x.2.inst ≠ i := by
  obtain ⟨mem, other⟩ := State.forEach_dels_picked State.jobs State.releaseSlot_jobs (·.2.inst == i) s left
  exact ⟨mem, by simpa using other⟩

theorem State.squashInst_jobsOf (s : State) (i : Nat) : (s.squashInst i).jobsOf i = [] :=
  List.filter_eq_nil_iff.2 fun _ left => by simpa using (s.squashInst_jobs i left).2

@[simp] theorem State.squashInst_unworked (s : State) (i : Nat) : (s.squashInst i).unworked = s.unworked :=
  State.forEach_keeps State.unworked (fun t k => t.squashJob_unworked k) ..

/-! ### Instances -/

/-- Of the instances' records, what neither jobs nor events change. -/
def Inst.idle (n : Inst) : Inst := { n with errStatus := 0, reserved := 0, qps := [], msixPending := [] }

theorem State.modInst_idle (s : State) (i j : Nat) {f : Inst → Inst} (keeps : ∀ n, (f n).idle = n.idle) :
    ((s.modInst j f).inst i).idle = (s.inst i).idle := by
  by_cases same : i = j
  · rw [same, State.inst_modInst, keeps]
  · rw [State.inst_modInst_other s same]

@[simp] theorem State.modQp_idle (s : State) (i j q : Nat) (f : Qp → Qp) :
    ((s.modQp j q f).inst i).idle = (s.inst i).idle := s.modInst_idle i j fun _ => rfl

theorem State.checkStopped_idle (s : State) (i j q : Nat) :
    ((s.checkStopped j q).inst i).idle = (s.inst i).idle := by
  unfold State.checkStopped
  split
  · rfl
  · exact State.ite_keeps (fun t => (t.inst i).idle) (s.modQp_idle i j q _)

theorem State.idle_of_unstored {s t : State} (h : t.unstored = s.unstored) (i : Nat) :
    (t.inst i).idle = (s.inst i).idle := State.field_eq h (fun t => (t.inst i).idle) fun _ => rfl

theorem State.wipeScoped_idle (s : State) (k i : Nat) : ((s.wipeScoped k).inst i).idle = (s.inst i).idle := by
  obtain ⟨f, wiped⟩ := s.wipeScoped_unstored k
  exact State.idle_of_unstored wiped i

theorem State.releaseUnits_idle (s : State) (k i : Nat) : ((s.releaseUnits k).inst i).idle = (s.inst i).idle := by
  obtain ⟨f, given⟩ := s.releaseUnits_unstored k
  exact State.idle_of_unstored given i

theorem State.returnPlaces_idle (s : State) (j : Job) (i : Nat) :
    ((s.returnPlaces j).inst i).idle = (s.inst i).idle := by
  unfold State.returnPlaces
  split
  · rfl
  · exact s.modInst_idle i j.inst fun _ => rfl

/-- A job that leaves returns its places and its queue pair's fence, and changes no more of the instances (R35,
R225). -/
theorem State.releaseSlot_idle (s : State) (k i : Nat) : ((s.releaseSlot k).inst i).idle = (s.inst i).idle := by
  unfold State.releaseSlot
  split
  · rfl
  · next j _ =>
    refine (State.checkStopped_idle ..).trans ((State.modQp_idle ..).trans ?_)
    exact (State.idle_of_unstored (State.returnIv_unstored ..) i).trans ((State.returnPlaces_idle ..).trans
      ((State.releaseUnits_idle ..).trans (s.wipeScoped_idle k i)))

@[simp] theorem State.squashInst_idle (s : State) (j i : Nat) : ((s.squashInst j).inst i).idle = (s.inst i).idle :=
  State.forEach_keeps (fun t => (t.inst i).idle) (fun t k => t.releaseSlot_idle k i) ..

theorem State.idle_of_unsent {s t : State} (h : t.unsent = s.unsent) (i : Nat) : (t.inst i).idle = (s.inst i).idle :=
  State.field_eq h (fun t => (t.inst i).idle) fun _ => rfl

@[simp] theorem State.raiseVec_idle (s : State) (j v i : Nat) : ((s.raiseVec j v).inst i).idle = (s.inst i).idle := by
  unfold State.raiseVec
  split
  · rfl
  · split
    · exact State.idle_of_unsent (s.raisePf_unsent j v) i
    · split
      · exact s.modInst_idle i j fun _ => rfl
      · rfl

@[simp] theorem State.errorBit_idle (s : State) (j : Nat) (b : ErrorBit) (i : Nat) :
    ((s.errorBit j b).inst i).idle = (s.inst i).idle := by
  unfold State.errorBit
  extract_lets m t u
  have raised : (u.inst i).idle = (s.inst i).idle :=
    (State.raiseVec_idle ..).trans (s.modInst_idle i j fun _ => rfl)
  split
  · split
    · exact (State.idle_of_unsent (State.portEvent_unsent ..) i).trans raised
    · exact raised
  · rfl

/-- The setting of INST_STATE sets it, and beside it raises events alone (R137). -/
theorem State.setInstState_idle (s : State) (i : Nat) (st : InstState) :
    ((s.setInstState i st).inst i).idle = Inst.idle { s.inst i with state := st } := by
  unfold State.setInstState
  rw [State.errorBit_idle, State.inst_modInst]

end Sys2Proof.Machine
end

section
namespace Sys2Proof.Machine

open Sys2Proof

/-! ### What resets keep -/

/-- The state without what resets of instances and ports change besides the jobs they squash: instances, records,
contexts, translations, windows, DRBGs, events and what has been sent, and of a port what events on it change. -/
def State.unreset (s : State) : State :=
  { s with
    out := [], ports := s.ports.map Port.quiet, insts := [], keys := {}, ctxs := [], sched := {}, rng := {}, log := {}
    meas := {}, trans := {}, cnt := [], warden := { s.warden with nextSeq := 0, lostRecords := 0 } }

@[simp] theorem State.modInst_unreset (s : State) (i : Nat) (f : Inst → Inst) :
    (s.modInst i f).unreset = s.unreset := rfl

@[simp] theorem State.setInst_unreset (s : State) (i : Nat) (v : Inst) : (s.setInst i v).unreset = s.unreset := rfl

theorem State.modPort_unreset (s : State) (p : Nat) {f : Port → Port} (keeps : ∀ t, (f t).quiet = t.quiet) :
    (s.modPort p f).unreset = s.unreset := by
  have ports : (s.ports.modify p f).map Port.quiet = s.ports.map Port.quiet := by
    refine List.ext_getElem? fun q => ?_
    simp only [List.getElem?_map, List.getElem?_modify]
    split
    · simp [Function.comp_def, keeps]
    · simp
  simp only [State.unreset, State.modPort, ports]

@[simp] theorem State.raisePf_unreset (s : State) (p v : Nat) : (s.raisePf p v).unreset = s.unreset := by
  unfold State.raisePf
  split
  · exact s.modPort_unreset p fun _ => rfl
  · rfl

@[simp] theorem State.raiseVec_unreset (s : State) (i v : Nat) : (s.raiseVec i v).unreset = s.unreset := by
  unfold State.raiseVec
  split
  · rfl
  · split
    · exact s.raisePf_unreset i v
    · split <;> rfl

@[simp] theorem State.portEvent_unreset (s : State) (p : Nat) (e : PortEvent) :
    (s.portEvent p e).unreset = s.unreset := by
  unfold State.portEvent
  extract_lets m t
  have noted : t.unreset = s.unreset := s.modPort_unreset p fun _ => rfl
  split
  · exact noted
  · exact (State.raisePf_unreset ..).trans noted

@[simp] theorem State.errorBit_unreset (s : State) (i : Nat) (b : ErrorBit) : (s.errorBit i b).unreset = s.unreset := by
  unfold State.errorBit
  dsimp only
  split
  · split <;> simp
  · rfl

@[simp] theorem State.setInstState_unreset (s : State) (i : Nat) (st : InstState) :
    (s.setInstState i st).unreset = s.unreset := State.errorBit_unreset ..

@[simp] theorem State.removeRecords_unreset (s : State) (ks : List Nat) : (s.removeRecords ks).unreset = s.unreset := by
  refine State.forEach_keeps State.unreset (fun t k => ?_) ..
  unfold State.removeRecord
  split <;> rfl

@[simp] theorem State.removePeer_unreset (s : State) (k : Nat) : (s.removePeer k).unreset = s.unreset := by
  unfold State.removePeer
  split <;> rfl

@[simp] theorem State.removeSlots_unreset (s : State) (ks : List Nat) : (s.removeSlots ks).unreset = s.unreset := by
  refine State.forEach_keeps State.unreset (fun t k => ?_) ..
  unfold State.removeSlot
  split <;> rfl

@[simp] theorem State.clearDrbg_unreset (s : State) (i : Nat) : (s.clearDrbg i).unreset = s.unreset := rfl

@[simp] theorem State.resetRegs_unreset (s : State) (i : Nat) : (s.resetRegs i).unreset = s.unreset := rfl

@[simp] theorem State.dropCtxs_unreset (s : State) (i : Nat) : (s.dropCtxs i).unreset = s.unreset := rfl

@[simp] theorem State.dropTranslations_unreset (s : State) (i : Nat) :
    (s.dropTranslations i).unreset = s.unreset := rfl

@[simp] theorem State.dropSpill_unreset (s : State) (i : Nat) : (s.dropSpill i).unreset = s.unreset := rfl

@[simp] theorem State.wipeInst_unreset (s : State) (i : Nat) : (s.wipeInst i).unreset = s.unreset := by
  simp [State.wipeInst]

@[simp] theorem State.endDestroy_unreset (s : State) (i : Nat) : (s.endDestroy i).unreset = s.unreset := by
  unfold State.endDestroy
  have told (t : State) (d : Bytes) : (t.eventOf .instanceDestroyed i d).unreset = t.unreset :=
    State.raise_keeps State.unreset (fun _ _ _ _ _ => rfl) ..
  simp [told, State.forEach_keeps State.unreset]

@[simp] theorem State.freeWindow_unreset (s : State) (w : Nat) : (s.freeWindow w).unreset = s.unreset := by
  unfold State.freeWindow
  split
  · exact State.event_keeps State.unreset (fun _ _ _ _ _ => rfl) ..
  · rfl

@[simp] theorem State.freeWindows_unreset (s : State) (p : Window → Bool) : (s.freeWindows p).unreset = s.unreset :=
  State.forEach_keeps State.unreset (fun t w => State.ite_keeps State.unreset (t.freeWindow_unreset w)) ..

/-- Once the jobs of a VF are squashed, what a port reset does to it is part of what resets change (R84). -/
theorem State.portResetVf_unreset (s : State) (i : Nat) : (s.portResetVf i).unreset = (s.squashInst i).unreset := by
  unfold State.portResetVf
  extract_lets t u v
  have wiped : v.unreset = t.unreset := by simp [v, u]
  split
  · exact (v.endDestroy_unreset i).trans wiped
  · split
    · exact wiped
    · exact (State.setInstState_unreset ..).trans wiped

/-- A squash, which is work of jobs, keeps what neither that work nor a reset changes. -/
theorem State.squashInst_unreset (s : State) (i : Nat) :
    (s.squashInst i).unworked.unreset = s.unworked.unreset := congrArg State.unreset (s.squashInst_unworked i)

theorem State.unworked_of_unreset {s t : State} (h : t.unreset = s.unreset) :
    t.unworked.unreset = s.unworked.unreset := congrArg State.unworked h

theorem State.jobs_of_unreset {s t : State} (h : t.unreset = s.unreset) : t.jobs = s.jobs :=
  State.field_eq h State.jobs fun _ => rfl

end Sys2Proof.Machine
end

section
namespace Sys2Proof.Machine

open Sys2Proof Sys2Proof.Claims

/-! ### A function-level reset of a virtual function -/

/-- A squash reset begins: INST_STATE is RESETTING, with the earlier state noted and the reset counted, and no job
is left (R147, R148). -/
theorem State.startReset_squashes (s : State) (i : Nat) :
    ((s.startReset i true).inst i).idle = Inst.idle { s.inst i with
      state := .resetting, wasEnabled := (s.inst i).state == .enabled, drain := some .reset, drainSince := s.now
      resets := (s.inst i).resets + 1, migBusy := none, squashed := [], held := [], reseeding := false } ∧
    (s.startReset i true).jobsOf i = [] ∧ (s.startReset i true).unworked.unreset = s.unworked.unreset := by
  unfold State.startReset
  extract_lets was t u
  refine ⟨?_, State.squashInst_jobsOf .., ?_⟩
  · refine (State.squashInst_idle ..).trans ((State.setInstState_idle ..).trans ?_)
    rw [State.inst_modInst]
    rfl
  · exact (State.squashInst_unreset ..).trans (State.unworked_of_unreset (t.setInstState_unreset i .resetting))

/-- A function-level reset is a squash reset that also returns the function's registers to their reset values (R133). -/
theorem State.vfReset_of_serving {s : State} {i : Nat} (serves : (s.inst i).state ∈ [.created, .enabled, .frozen]) :
    s.vfReset i = ((s.startReset i true).resetRegs i).modInst i fun n => { n with msix := [], msixPending := [] } := by
  simp only [List.mem_cons, List.not_mem_nil, or_false] at serves
  unfold State.vfReset
  rcases serves with h | h | h <;> rw [h]

theorem exec_vfReset {i : Fin 1024} (vf : 4 ≤ i.val) {c : Instr} (hc : c ∈ [Instr.vfFlr i, .vfD3hotToD0 i])
    (s : State) : exec c s = .next (s.vfReset i) := by
  have virtual : ¬ i.val < 4 := Nat.not_lt.2 vf
  rcases List.mem_pair.1 hc with rfl | rfl
  · exact congrArg Host.Outcome.next (if_neg virtual)
  · exact congrArg Host.Outcome.next (if_neg virtual)

theorem functionReset_squashes (i : Fin 1024) (s : State) (vf : 4 ≤ i.val)
    (serves : (s.inst i).state ∈ [.created, .enabled, .frozen]) (c : Instr)
    (hc : c ∈ [Instr.vfFlr i, .vfD3hotToD0 i]) : Gives c s fun t => (t.inst i).state = .resetting ∧
      (t.inst i).drain = some .reset ∧ (t.inst i).resets = (s.inst i).resets + 1 ∧ t.jobsOf i = [] ∧
      ((t.inst i).wasEnabled = true ↔ (s.inst i).state = .enabled) ∧
      (t.inst i).qps = List.replicate (s.qpCountOf i) {} ∧ (t.inst i).msix = [] ∧ t.otp = s.otp := by
  refine ⟨s.vfReset i, exec_vfReset vf hc s, ?_⟩
  rw [State.vfReset_of_serving serves]
  obtain ⟨idle, jobs, kept⟩ := s.startReset_squashes i
  generalize s.startReset i true = u at idle jobs kept
  have state : (u.inst i).state = .resetting := congrArg Inst.state idle
  have drain : (u.inst i).drain = some .reset := congrArg Inst.drain idle
  have resets : (u.inst i).resets = (s.inst i).resets + 1 := congrArg Inst.resets idle
  have was : (u.inst i).wasEnabled = ((s.inst i).state == .enabled) := congrArg Inst.wasEnabled idle
  have count : (u.inst i).qpCount = (s.inst i).qpCount := (congrArg Inst.qpCount idle :)
  have virtual : ¬ i.val < 4 := Nat.not_lt.2 vf
  have qps : u.qpCountOf i = s.qpCountOf i := by simp only [State.qpCountOf, if_neg virtual, count]
  simp only [State.inst_modInst, State.resetRegs, state, drain, resets, was, qps, beq_iff_eq, true_and]
  exact ⟨jobs, State.field_eq (blank := fun t => t.unworked.unreset) kept State.otp fun _ => rfl⟩

end Sys2Proof.Machine
end

section
namespace Sys2Proof.Machine

open Sys2Proof Sys2Proof.Claims

/-! ### Windows of a port -/

theorem State.freeWindow_owner (s : State) (w v : Nat) :
    ((s.freeWindow w).window v).owner = if v = w then none else (s.window v).owner := by
  unfold State.freeWindow
  split
  · have told : ((s.modWindow w fun _ => {}).event .digestWindowFreed []).meas = (s.modWindow w fun _ => {}).meas :=
      State.event_keeps State.meas (fun _ _ _ _ _ => rfl) ..
    rw [State.window, told]
    change ((s.meas.windows.modify w fun _ => {}).getD v {}).owner = _
    split
    · next same =>
      by_cases listed : v < s.meas.windows.length
      · rw [← same, getD_modify_same listed]
      · rw [List.getD_eq_default _ _ (by simpa using listed)]
    · next other =>
      rw [getD_modify_other other]
      rfl
  · next free =>
    split
    · next same => rw [same]; simpa using free
    · rfl

/-- A loop that frees the windows whose owner a test picks leaves none of those it passes with such an owner. -/
theorem State.forEach_freeWindow_owner {test : Option Nat → Bool} (free : test none = false) {w : Nat} (l : List Nat)
    (s : State) (passes : w ∈ l ∨ test (s.window w).owner = false) :
    test ((s.forEach l fun s v => if test (s.window v).owner then s.freeWindow v else s).window w).owner = false := by
  induction l generalizing s with
  | nil => simpa using passes
  | cons v l ih =>
    refine ih _ ?_
    by_cases later : w ∈ l
    · exact .inl later
    · refine .inr ?_
      dsimp only
      split
      · rw [State.freeWindow_owner]
        split
        · exact free
        · next other => simpa [other, later] using passes
      · next kept =>
        rcases passes with member | clear
        · simp only [List.mem_cons, later, or_false] at member
          simpa [member] using kept
        · exact clear

/-- Once the windows that a test picks by their owner are freed, none of the four has such an owner (R290). -/
theorem State.freeWindows_owner (s : State) {test : Option Nat → Bool} (free : test none = false) {w : Nat}
    (window : w < 4) : test ((s.freeWindows fun x => test x.owner).window w).owner = false :=
  State.forEach_freeWindow_owner free (List.range 4) s (.inl (List.mem_range.2 window))

/-! ### A port reset -/

/-- The state of a port reset before the port's registers are reset: jobs squashed, instances and open slots wiped,
windows freed (R84, R145, R290, R414). -/
def State.portWiped (s : State) (p : Nat) : State :=
  let t := (s.squashInst p).wipeInst p
  let u := t.forEach (t.instsOfPort p) fun s i => s.portResetVf i
  (u.removeSlots ((u.keys.slots.filter (·.1 / 1024 == p)).map (·.1))).freeWindows fun w => w.owner == some p

theorem State.portReset_eq (s : State) (p : Nat) : s.portReset p =
    (((s.portWiped p).portRegs p).modPort p fun t => { t with resets := t.resets + 1 }).ownInstance p := rfl

theorem State.portWiped_unreset (s : State) (p : Nat) :
    (s.portWiped p).unworked.unreset = s.unworked.unreset := by
  unfold State.portWiped
  extract_lets t u
  have own : t.unworked.unreset = s.unworked.unreset :=
    (State.unworked_of_unreset (State.wipeInst_unreset ..)).trans (s.squashInst_unreset p)
  have vfs : u.unworked.unreset = t.unworked.unreset :=
    State.forEach_keeps (fun t => t.unworked.unreset) (fun t i =>
      (State.unworked_of_unreset (t.portResetVf_unreset i)).trans (t.squashInst_unreset i)) ..
  exact (State.unworked_of_unreset ((State.freeWindows_unreset ..).trans (State.removeSlots_unreset ..))).trans
    (vfs.trans own)

theorem State.portWiped_jobs (s : State) (p : Nat) : ∀ x ∈ (s.portWiped p).jobs, x.2.inst ≠ p := by
  unfold State.portWiped
  extract_lets t u
  have own : ∀ x ∈ t.jobs, x.2.inst ≠ p := by
    rw [State.jobs_of_unreset (State.wipeInst_unreset ..)]
    exact fun x left => (s.squashInst_jobs p left).2
  have vfs : ∀ x ∈ u.jobs, x.2.inst ≠ p := by
    refine State.forEach_rec (P := fun t => ∀ x ∈ t.jobs, x.2.inst ≠ p) own fun t i _ h => ?_
    rw [State.jobs_of_unreset (t.portResetVf_unreset i)]
    exact fun x left => h x (t.squashInst_jobs i left).1
  rw [State.jobs_of_unreset ((State.freeWindows_unreset ..).trans (State.removeSlots_unreset ..))]
  exact vfs

theorem State.portWiped_slots (s : State) (p : Nat) : ∀ x ∈ (s.portWiped p).keys.slots, x.1 / 1024 ≠ p := by
  intro x left
  unfold State.portWiped at left
  extract_lets t u at left
  rw [State.field_eq (State.freeWindows_untold ..) State.keys fun _ => rfl] at left
  simpa using
    (State.forEach_dels_picked (fun t => t.keys.slots) State.removeSlot_slots (·.1 / 1024 == p) u left).2

theorem State.portWiped_windows (s : State) (p : Nat) {w : Nat} (window : w < 4) :
    ((s.portWiped p).window w).owner ≠ some p := by
  unfold State.portWiped
  extract_lets t u
  simpa using State.freeWindows_owner _ (test := (· == some p)) rfl window

/-- A port after its reset: its registers at their reset values, the shares in force those of its entries, and one reset
more (R84, R142, R144). -/
def State.freshPort (s : State) (p : Nat) (t : Port) : Port :=
  { t with
    base := s.portOd p 1, count := s.portOd p 2, deviceTable := s.portOd p 8 == 1, pmQps := s.portOd p 9
    evStatus := 0, evEnable := 0, evVector := 0
    mbxReq := zeros 256, mbxResp := zeros 256, mbxBusy := false, mbxDone := false
    txFrame := zeros 1400, txLen := 0, txBusy := false, rxFrame := none, rxQueue := []
    msix := [], msixPending := [], resets := t.resets + 1 }

/-- Ports that are the same but for events are alike once fresh, where the dictionary is the same. -/
theorem State.freshPort_congr {s s' : State} {t u : Port} (p : Nat) (port : t.quiet = u.quiet) (od : s.od = s'.od) :
    s.freshPort p t = s'.freshPort p u := by
  have quiet (s : State) (t : Port) : s.freshPort p t = s.freshPort p t.quiet := rfl
  have entry (n : Nat) : s.portOd p n = s'.portOd p n := by
    simp only [State.portOd, State.odNum, State.odBytes, od]
  rw [quiet, port, ← quiet]
  simp only [State.freshPort, entry]

theorem Port.kept_of_quiet {t u : Port} (h : t.quiet = u.quiet) : t.resets = u.resets ∧ t.linkUp = u.linkUp :=
  ⟨(congrArg Port.resets h :), (congrArg Port.linkUp h :)⟩

theorem State.port_portRegs {s : State} {p : Nat} (listed : p < s.ports.length) :
    ((s.portRegs p).modPort p fun t => { t with resets := t.resets + 1 }).port p = s.freshPort p (s.port p) := by
  have length : p < (s.portRegs p).ports.length := (List.length_modify ..).symm ▸ listed
  rw [State.port_modPort_same length, State.portRegs, State.port_modPort_same listed]
  rfl

theorem State.port_portRegs_other (s : State) {p q : Nat} (other : q ≠ p) :
    ((s.portRegs p).modPort p fun t => { t with resets := t.resets + 1 }).port q = s.port q := by
  rw [State.port_modPort_other _ other, State.portRegs, State.port_modPort_other _ other]

theorem State.portWiped_ports (s : State) (p : Nat) :
    (s.portWiped p).ports.map Port.quiet = s.ports.map Port.quiet := by
  have twice (u : State) : u.unworked.unreset.ports = u.ports.map Port.quiet := rfl
  rw [← twice, s.portWiped_unreset p, twice]

/-- The port after its reset is fresh. -/
theorem State.portReset_port {s : State} {p : Nat} (listed : p < s.ports.length) :
    (s.portReset p).port p = s.freshPort p (s.port p) := by
  have length : (s.portWiped p).ports.length = s.ports.length := by
    simpa only [List.length_map] using congrArg List.length (s.portWiped_ports p)
  rw [State.portReset_eq, State.ownInstance_port, State.port_portRegs (length.symm ▸ listed)]
  exact State.freshPort_congr p (State.port_quiet (s.portWiped_ports p) p)
    (State.field_eq (blank := fun t => t.unworked.unreset) (s.portWiped_unreset p) State.od fun _ => rfl)

/-- The other ports are as they were but for events (R130). -/
theorem State.portReset_port_other (s : State) {p q : Nat} (other : q ≠ p) :
    ((s.portReset p).port q).quiet = (s.port q).quiet := by
  rw [State.portReset_eq, State.ownInstance_port, State.port_portRegs_other _ other]
  exact State.port_quiet (s.portWiped_ports p) q

/-- Once all is wiped a port reset changes its port's registers and what the port's manager owns alone. -/
theorem State.portReset_wiped (s : State) (p : Nat) :
    (s.portReset p).undrawn.unsent = (s.portWiped p).undrawn.unsent := by
  have ports (t : State) (f : Port → Port) : (t.modPort p f).undrawn.unsent = t.undrawn.unsent := rfl
  rw [State.portReset_eq, State.ownInstance_undrawn, ports, State.portRegs, ports]

theorem State.portReset_done {s : State} {p : Nat} (listed : p < s.ports.length) :
    PortResetDone s (s.portReset p) p := by
  have port := State.portReset_port listed
  have kept := s.portWiped_unreset p
  have keeps {β : Type} (g : State → β) (shows : ∀ t, g t.undrawn.unsent = g t) :
      g (s.portReset p) = g (s.portWiped p) :=
    State.field_eq (blank := fun t => t.undrawn.unsent) (s.portReset_wiped p) g shows
  refine ⟨?_, ?_, ?_, ?_, ?_, ?_, fun q other => Port.kept_of_quiet (s.portReset_port_other other), ?_, ?_⟩
  · rw [port]; rfl
  · rw [port]; exact ⟨rfl, rfl⟩
  · rw [port]; exact ⟨rfl, rfl, rfl, rfl, rfl⟩
  · rw [keeps State.jobs fun _ => rfl]
    exact s.portWiped_jobs p
  · rw [keeps State.keys fun _ => rfl]
    exact s.portWiped_slots p
  · intro w window
    rw [keeps (fun t => t.window w) fun _ => rfl]
    exact s.portWiped_windows p window
  · rw [keeps State.otp fun _ => rfl]
    exact State.field_eq (blank := fun t => t.unworked.unreset) kept State.otp fun _ => rfl
  · rw [keeps State.start fun _ => rfl]
    exact State.field_eq (blank := fun t => t.unworked.unreset) kept State.start fun _ => rfl

/-! ### The causes of a port reset -/

/-- What a cause of a port reset does to the port's pins: PERST# and a link-down take the link (R130). -/
def Port.atCause : PortResetCause → Port → Port
  | .perst, t => { t with perst := true, linkUp := false, linkSpeed := 0, linkWidth := 0, ptm := false }
  | .linkDown, t => { t with linkUp := false, linkSpeed := 0, linkWidth := 0, ptm := false }
  | _, t => t

/-- The state in which a cause has acted on a port's pins and on the clock, and nothing is reset yet. -/
def State.atCause (s : State) (p : Nat) (c : PortResetCause) (clk : Clock) : State :=
  { s.modPort p (Port.atCause c) with clk := clk }

theorem State.ptmLost_eq (s : State) (p : Nat) : ∃ c, s.ptmLost p = { s with clk := c } := by
  unfold State.ptmLost
  split
  · exact ⟨_, rfl⟩
  · exact ⟨s.clk, rfl⟩

/-- Before the reset itself a cause acts on the port's pins, and with them on the time source alone (R84, R135). -/
theorem State.portResetBy_eq (s : State) (p : Nat) (c : PortResetCause) :
    ∃ clk, s.portResetBy p c = (s.atCause p c clk).portReset p := by
  have idle : s.modPort p id = s := by simp [State.modPort]
  cases c with
  | perst =>
    obtain ⟨clk, lost⟩ := (s.modPort p (Port.atCause .perst)).ptmLost_eq p
    exact ⟨clk, congrArg (fun t => t.portReset p) lost⟩
  | linkDown =>
    obtain ⟨clk, lost⟩ := (s.modPort p (Port.atCause .linkDown)).ptmLost_eq p
    exact ⟨clk, congrArg (fun t => t.portReset p) lost⟩
  | hotReset => exact ⟨s.clk, congrArg (fun t => t.portReset p) idle.symm⟩
  | pfFlr => exact ⟨s.clk, congrArg (fun t => t.portReset p) idle.symm⟩
  | wake => exact ⟨s.clk, congrArg (fun t => t.portReset p) idle.symm⟩

theorem Port.atCause_resets (c : PortResetCause) (t : Port) : (Port.atCause c t).resets = t.resets := by
  cases c <;> rfl

theorem State.port_atCause {s : State} {p : Nat} (listed : p < s.ports.length) (c : PortResetCause) (clk : Clock) :
    (s.atCause p c clk).port p = Port.atCause c (s.port p) := State.port_modPort_same listed _

theorem State.port_atCause_other (s : State) {p q : Nat} (other : q ≠ p) (c : PortResetCause) (clk : Clock) :
    (s.atCause p c clk).port q = s.port q := s.port_modPort_other other _

/-- What a port reset leaves is the same before and after its cause has acted on the pins. -/
theorem State.portResetDone_of_atCause {s t : State} {p : Nat} {c : PortResetCause} {clk : Clock}
    (listed : p < s.ports.length) (h : PortResetDone (s.atCause p c clk) t p) : PortResetDone s t p := by
  refine { h with counted := ?_, others := fun q other => ?_ }
  · rw [h.counted, State.port_atCause listed, Port.atCause_resets]
  · rw [← s.port_atCause_other other c clk]
    exact h.others q other

/-- A port reset by its cause: the port's functions are reset, and its pins are as the cause leaves them (R84, R130). -/
theorem State.portResetBy_done {s : State} {p : Nat} (listed : p < s.ports.length) (c : PortResetCause) :
    PortResetDone s (s.portResetBy p c) p ∧
      ((s.portResetBy p c).port p).perst = (Port.atCause c (s.port p)).perst ∧
      ((s.portResetBy p c).port p).linkUp = (Port.atCause c (s.port p)).linkUp := by
  obtain ⟨clk, reset⟩ := s.portResetBy_eq p c
  have listed' : p < (s.atCause p c clk).ports.length := (List.length_modify ..).symm ▸ listed
  rw [reset, State.portReset_port listed', ← State.port_atCause listed c clk]
  exact ⟨State.portResetDone_of_atCause listed (State.portReset_done listed'), rfl, rfl⟩

theorem portReset_wipes (p : Fin 4) (c : PortResetCause) (s : State) (four : s.ports.length = 4)
    (lives : s.portLives p = true) : Gives (.portReset p c) s fun t => PortResetDone s t p ∧
      (c = .perst → (t.port p).perst = true ∧ (t.port p).linkUp = false) ∧
      (c = .linkDown → (t.port p).perst = (s.port p).perst ∧ (t.port p).linkUp = false) ∧
      (c ≠ .perst → c ≠ .linkDown → (t.port p).linkUp = (s.port p).linkUp) := by
  obtain ⟨done, perst, linkUp⟩ := State.portResetBy_done (s := s) (p := p) (by omega) c
  refine ⟨s.portResetBy p c, congrArg Host.Outcome.next (if_pos lives), done, ?_, ?_, fun notPerst notDown => ?_⟩
  · rintro rfl
    exact ⟨perst, linkUp⟩
  · rintro rfl
    exact ⟨perst, linkUp⟩
  · rw [linkUp]
    cases c with
    | perst => exact absurd rfl notPerst
    | linkDown => exact absurd rfl notDown
    | hotReset | pfFlr | wake => rfl

theorem portReset_unused (p : Fin 4) (c : PortResetCause) (s : State) (unused : s.portLives p = false) :
    exec (.portReset p c) s = .next s :=
  congrArg Host.Outcome.next (if_neg (by simp [unused]))

/-- On a physical function both events are a port reset (R133). -/
theorem functionReset_of_pf (i : Fin 1024) (pf : i.val < 4) (s : State) :
    exec (.vfFlr i) s = exec (.portReset ⟨i, pf⟩ .pfFlr) s ∧
      exec (.vfD3hotToD0 i) s = exec (.portReset ⟨i, pf⟩ .wake) s :=
  ⟨congrArg Host.Outcome.next (if_pos pf), congrArg Host.Outcome.next (if_pos pf)⟩

/-! ### PERST# and configuration requests -/

theorem perstDeassert_trains (p : Fin 4) (s : State) (four : s.ports.length = 4) (held : (s.port p).perst = true) :
    Gives (.perstDeassert p) s fun t => (t.port p).perst = false ∧ (t.port p).perstAt = s.now ∧
      (t.port p).linkUp = s.portLives p ∧ (t.port p).bootCount = ((s.port p).bootCount + 1) % 65536 ∧
      t.jobs = s.jobs ∧ t.keys = s.keys := by
  refine ⟨s.perstDeassert p, rfl, ?_⟩
  unfold State.perstDeassert
  rw [if_pos held]
  extract_lets up f speed width t
  have own : (if up && t.ready then t.ownInstance p else t).undrawn = t.undrawn :=
    State.ite_keeps State.undrawn (t.ownInstance_undrawn p)
  have listed : p.val < s.ports.length := by omega
  have port : t.port p = _ := State.port_modPort_same listed _
  dsimp only
  rw [State.field_eq own (fun t => t.port p) fun _ => rfl, State.field_eq own State.jobs fun _ => rfl,
    State.field_eq own State.keys fun _ => rfl, port]
  exact ⟨rfl, rfl, rfl, rfl, rfl, rfl⟩

theorem perstDeassert_idle (p : Fin 4) (s : State) (released : (s.port p).perst = false) :
    exec (.perstDeassert p) s = .next s :=
  congrArg Host.Outcome.next (if_neg (by simp [released]))

theorem configRequest_unanswered (p : Fin 4) (s : State)
    (early : (s.port p).perst = true ∨ s.now < (s.port p).perstAt + 100000000) :
    exec (.configRequest p) s = .next s := by
  refine congrArg Host.Outcome.next (if_pos ?_)
  rcases early with held | soon
  · simp [held]
  · simp [soon]

/-- 100 ms after PERST# a request is answered, with Retry Status unless the device serves, has halted or answers for its
warden (R76, R83). -/
theorem configRequest_answers {p : Fin 4} {s : State} (lives : s.portLives p = true)
    (released : (s.port p).perst = false) (due : (s.port p).perstAt + 100000000 ≤ s.now) :
    Gives (.configRequest p) s fun t =>
      t.out = s.out ++ [.configAnswer p
        !(s.ready || s.halted || ((s.lcState == 0 || s.lcState == 5) && !s.inTransition))] ∧ t.insts = s.insts := by
  refine ⟨s.configRequest p, rfl, ?_⟩
  unfold State.configRequest
  extract_lets t responder normal
  rw [if_neg (by simp [t, lives, released, due])]
  exact ⟨rfl, rfl⟩

theorem configRequest_follows (p : Fin 4) (s : State) (lives : s.portLives p = true)
    (released : (s.port p).perst = false) (due : (s.port p).perstAt + 100000000 ≤ s.now) :
    (s.start.phase = .ready → Gives (.configRequest p) s fun t => t.out = s.out ++ [.configAnswer p false]) ∧
    (s.start.phase ≠ .ready → s.start.phase ≠ .halted → s.lcState ∈ [1, 2, 3, 4] →
      Gives (.configRequest p) s fun t => t.out = s.out ++ [.configAnswer p true] ∧ t.insts = s.insts) := by
  obtain ⟨t, answers, out, insts⟩ := configRequest_answers lives released due
  refine ⟨fun ready => ⟨t, answers, ?_⟩, fun starting running serves => ⟨t, answers, ?_, insts⟩⟩
  · dsimp only
    rw [out]
    simp [State.ready, ready]
  · have noWarden : s.lcState ≠ 0 ∧ s.lcState ≠ 5 := by
      simp only [List.mem_cons, List.not_mem_nil, or_false] at serves
      omega
    rw [out]
    simp [State.ready, State.halted, starting, running, noWarden]

/-- Settles O42, event by event: a port reset is cut at the point where its jobs, instances, slots and windows are gone
and its registers still stand, and what the wiping keeps carries the other ports, the dictionary and the start. -/
theorem portsResetAndAnswer : Obligations.PortsResetAndAnswer := by
  unfold Obligations.PortsResetAndAnswer
  exact ⟨perstDeassert_trains, perstDeassert_idle, portReset_wipes, portReset_unused,
    fun i s vf serves c hc => functionReset_squashes i s vf serves c hc,
    fun i pf s => functionReset_of_pf i pf s,
    fun p s lives => ⟨configRequest_unanswered p s, configRequest_follows p s lives⟩⟩

end Sys2Proof.Machine
end

section
namespace Sys2Proof.Machine

open Sys2Proof

/-! ### Every step -/

/-- Every command answers a next state and keeps what Kept says, each by the lemma on its own meaning. -/
theorem exec_kept (c : Instr) (s : State) : ∃ t, exec c s = .next t ∧ Kept s t :=
  match c with
  | .mainRailLoss rail loadMw storedMj => execMainRailLoss_kept rail loadMw storedMj s
  | .rideThroughEnd => execRideThroughEnd_kept s
  | .inFlightWindowEnd => execInFlightWindowEnd_kept s
  | .flushDone => execFlushDone_kept s
  | .mainRailReturn rail => execMainRailReturn_kept rail s
  | .holdupMeasure fullMj storedMj => execHoldupMeasure_kept fullMj storedMj s
  | .tamperMeshCheck intact => execTamperMeshCheck_kept intact s
  | .tamperLoopPulse ohm => execTamperLoopPulse_kept ohm s
  | .canTemperatureLimit milliC => execCanTemperatureLimit_kept milliC s
  | .tamperAck z value => execTamperAck_kept z value s
  | .aliveToggle => execAliveToggle_kept s
  | .alive1kToggle => execAlive1kToggle_kept s
  | .cardVddOvercurrent => execCardVddOvercurrent_kept s
  | .thermalPause dieMc => execThermalPause_kept dieMc s
  | .thermalResume dieMc => execThermalResume_kept dieMc s
  | .startCold coinMv storedMj fullMj registerLost => execStartCold_kept coinMv storedMj fullMj registerLost s
  | .startWarm coinMv storedMj fullMj => execStartWarm_kept coinMv storedMj fullMj false s
  | .katComplete failed => execKatComplete_kept failed s
  | .drbgFirstSeed which => execDrbgFirstSeed_kept which s
  | .entropyStartFail => execEntropyStartFail_kept s
  | .firmwareAuthenticated slotA slotB cardImage => execFirmwareAuthenticated_kept slotA slotB cardImage s
  | .archiveMount => execArchiveMount_kept s
  | .perstDeassert port => execPerstDeassert_kept port s
  | .portReset port cause => execPortReset_kept port cause s
  | .vfFlr inst => execVfFlr_kept inst s
  | .vfD3hotToD0 inst => execVfD3hotToD0_kept inst s
  | .configRequest port => execConfigRequest_kept port s
  | .atsInvalidateRequest inst iova len => execAtsInvalidateRequest_kept inst iova len s
  | .atsTranslationCompletion slot iova len canRead canWrite =>
    execAtsTranslationCompletion_kept slot iova len canRead canWrite s
  | .atsTranslationExpiry inst iova => execAtsTranslationExpiry_kept inst iova s
  | .ptmDialogue port offset time locked => execPtmDialogue_kept port offset time locked s
  | .ptpMessage gm domain vlan time offset locked => execPtpMessage_kept gm domain vlan time offset locked s
  | .holdoverLimit => execHoldoverLimit_kept s
  | .addressResolution v6 target vlan => execAddressResolution_kept v6 target vlan s
  | .frameDiscard => execFrameDiscard_kept s
  | .mgmtTxSubmit port len => execMgmtTxSubmit_kept port len s
  | .mgmtRxAck port value => execMgmtRxAck_kept port value s
  | .open1 chan credId roleAsked nonce x25519 ek => execOpen1_kept chan credId roleAsked nonce x25519 ek s
  | .open3 session sig => execOpen3_kept session sig s
  | .openingTimeout session => execOpeningTimeout_kept session s
  | .credentialBlockEnd credId => execCredentialBlockEnd_kept credId s
  | .read z key => execRead_kept z key s
  | .write z key value => execWrite_kept z key value s
  | .describe z key => execDescribe_kept z key s
  | .next z key => execNext_kept z key s
  | .txnBegin z => execTxnBegin_kept z s
  | .txnCommit z id => execTxnCommit_kept z id s
  | .txnRollback z id => execTxnRollback_kept z id s
  | .txnTimeout => execTxnTimeout_kept s
  | .blockOpen z key dir total => execBlockOpen_kept z key dir total s
  | .blockData z key seg data => execBlockData_kept z key seg data s
  | .blockClose z key digest => execBlockClose_kept z key digest s
  | .blockAbort z => execBlockAbort_kept z s
  | .blockTransferTimeout session => execBlockTransferTimeout_kept session s
  | .subscribe z minSeverity instNo => execSubscribe_kept z minSeverity instNo s
  | .unsubscribe z => execUnsubscribe_kept z s
  | .restart z nonce => execRestart_kept z nonce s
  | .keepalive z => execKeepalive_kept z s
  | .close z => execClose_kept z s
  | .sessionIdleTimeout session => execSessionIdleTimeout_kept session s
  | .timeSet z value => execTimeSet_kept z value s
  | .lcRequest z target token => execLcRequest_kept z target token s
  | .lcWipeDone readback => execLcWipeDone_kept readback s
  | .debugAllow z value => execDebugAllow_kept z value s
  | .archiveRatchet z value => execArchiveRatchet_kept z value s
  | .logClear z value => execLogClear_kept z value s
  | .logCheckRun z value => execLogCheckRun_kept z value s
  | .eventCommit => execEventCommit_kept s
  | .instCreate port seq a => execInstCreate_kept port seq a s
  | .instEnable port seq n => execInstEnable_kept port seq n s
  | .instSet port seq a => execInstSet_kept port seq a s
  | .instReset port seq n mode => execInstReset_kept port seq n mode s
  | .instanceResetDone inst => execInstanceResetDone_kept inst s
  | .instFreeze port seq n => execInstFreeze_kept port seq n s
  | .freezeDone inst => execFreezeDone_kept inst s
  | .instThaw port seq n => execInstThaw_kept port seq n s
  | .instDestroy port seq n => execInstDestroy_kept port seq n s
  | .instStatus port seq n => execInstStatus_kept port seq n s
  | .setTranslation port seq n root => execSetTranslation_kept port seq n root s
  | .invalidate port seq n iova len => execInvalidate_kept port seq n iova len s
  | .migSave port seq n flags iova len => execMigSave_kept port seq n flags iova len s
  | .migRestore port seq n flags iova len => execMigRestore_kept port seq n flags iova len s
  | .openSlotWrite port seq a => execOpenSlotWrite_kept port seq a s
  | .openSlotClear port seq slotNo => execOpenSlotClear_kept port seq slotNo s
  | .openSlotRead port seq slotNo => execOpenSlotRead_kept port seq slotNo s
  | .qpEnable inst qp value => execQpEnable_kept inst qp value s
  | .qpDisable inst qp value => execQpDisable_kept inst qp value s
  | .spillGrant inst => execSpillGrant_kept inst s
  | .spillRevoke inst => execSpillRevoke_kept inst s
  | .spillRevokeDone inst => execSpillRevokeDone_kept inst s
  | .registerWrite fn offset size value => execRegisterWrite_kept fn offset size value s
  | .sqDoorbell inst qp index => execSqDoorbell_kept inst qp index s
  | .sqWithdraw inst qp index => execSqWithdraw_kept inst qp index s
  | .cqDoorbell inst qp index => execCqDoorbell_kept inst qp index s
  | .descriptorArrival inst qp entry => execDescriptorArrival_kept inst qp entry s
  | .recordsPinned slot sealOk => execRecordsPinned_kept slot sealOk s
  | .jobInputArrived slot input => execJobInputArrived_kept slot input s
  | .engineCommandDone kind unit outcome count => execEngineCommandDone_kept kind unit outcome count s
  | .shieldBoundary slot => execShieldBoundary_kept slot s
  | .completionPost slot writeFault => execCompletionPost_kept slot writeFault s
  | .cqWait inst qp => execCqWait_kept inst qp s
  | .drainTimeout scope => execDrainTimeout_kept scope s
  | .entropyWaitTimeout slot => execEntropyWaitTimeout_kept slot s
  | .placementTrapResolved slot => execPlacementTrapResolved_kept slot s
  | .ctxExpired inst ctx => execCtxExpired_kept inst ctx s
  | .statefulBuildBlock index => execStatefulBuildBlock_kept index s
  | .leafBlockJournaled index => execLeafBlockJournaled_kept index s
  | .nop slot => execNop_kept slot s
  | .fence slot => execFence_kept slot s
  | .mlkemKeygen slot => execMlkemKeygen_kept slot s
  | .mlkemEncaps slot => execMlkemEncaps_kept slot s
  | .mlkemEncapsKeep slot => execMlkemEncapsKeep_kept slot s
  | .mlkemDecaps slot => execMlkemDecaps_kept slot s
  | .mlkemDecapsKeep slot => execMlkemDecapsKeep_kept slot s
  | .mldsaKeygen slot => execMldsaKeygen_kept slot s
  | .mldsaSign slot => execMldsaSign_kept slot s
  | .mldsaSignDeterministic slot => execMldsaSignDeterministic_kept slot s
  | .mldsaVerify slot => execMldsaVerify_kept slot s
  | .fndsaKeygen slot => execFndsaKeygen_kept slot s
  | .fndsaSign slot => execFndsaSign_kept slot s
  | .fndsaVerify slot => execFndsaVerify_kept slot s
  | .slhdsaKeygen slot => execSlhdsaKeygen_kept slot s
  | .slhdsaSign slot => execSlhdsaSign_kept slot s
  | .slhdsaSignDeterministic slot => execSlhdsaSignDeterministic_kept slot s
  | .slhdsaVerify slot => execSlhdsaVerify_kept slot s
  | .statefulKeygen slot => execStatefulKeygen_kept slot s
  | .statefulSign slot => execStatefulSign_kept slot s
  | .statefulVerify slot => execStatefulVerify_kept slot s
  | .statefulStatus slot => execStatefulStatus_kept slot s
  | .hash slot => execHash_kept slot s
  | .mac slot => execMac_kept slot s
  | .macVerify slot => execMacVerify_kept slot s
  | .ctxClose slot => execCtxClose_kept slot s
  | .measure slot => execMeasure_kept slot s
  | .quote slot => execQuote_kept slot s
  | .hqcKeygen slot => execHqcKeygen_kept slot s
  | .hqcEncaps slot => execHqcEncaps_kept slot s
  | .hqcEncapsKeep slot => execHqcEncapsKeep_kept slot s
  | .hqcDecaps slot => execHqcDecaps_kept slot s
  | .hqcDecapsKeep slot => execHqcDecapsKeep_kept slot s
  | .mceKeygen slot => execMceKeygen_kept slot s
  | .mceEncaps slot => execMceEncaps_kept slot s
  | .mceEncapsKeep slot => execMceEncapsKeep_kept slot s
  | .mceDecaps slot => execMceDecaps_kept slot s
  | .mceDecapsKeep slot => execMceDecapsKeep_kept slot s
  | .ecKeygen slot => execEcKeygen_kept slot s
  | .ecSign slot => execEcSign_kept slot s
  | .ecVerify slot => execEcVerify_kept slot s
  | .ecAgree slot => execEcAgree_kept slot s
  | .ecAgreeKeep slot => execEcAgreeKeep_kept slot s
  | .rsaKeygen slot => execRsaKeygen_kept slot s
  | .rsaSignPss slot => execRsaSignPss_kept slot s
  | .rsaSignPkcs1 slot => execRsaSignPkcs1_kept slot s
  | .rsaVerifyPss slot => execRsaVerifyPss_kept slot s
  | .rsaVerifyPkcs1 slot => execRsaVerifyPkcs1_kept slot s
  | .rsaOaepEncrypt slot => execRsaOaepEncrypt_kept slot s
  | .rsaOaepDecrypt slot => execRsaOaepDecrypt_kept slot s
  | .gcmEncrypt slot => execGcmEncrypt_kept slot s
  | .gcmDecrypt slot => execGcmDecrypt_kept slot s
  | .gmacGenerate slot => execGmacGenerate_kept slot s
  | .gmacVerify slot => execGmacVerify_kept slot s
  | .kwWrap slot => execKwWrap_kept slot s
  | .kwUnwrap slot => execKwUnwrap_kept slot s
  | .xtsEncrypt slot => execXtsEncrypt_kept slot s
  | .xtsDecrypt slot => execXtsDecrypt_kept slot s
  | .frameTag slot => execFrameTag_kept slot s
  | .frameCheck slot => execFrameCheck_kept slot s
  | .hybKeygen slot => execHybKeygen_kept slot s
  | .hybEncaps slot => execHybEncaps_kept slot s
  | .hybEncapsKeep slot => execHybEncapsKeep_kept slot s
  | .hybDecaps slot => execHybDecaps_kept slot s
  | .hybDecapsKeep slot => execHybDecapsKeep_kept slot s
  | .hybSign slot => execHybSign_kept slot s
  | .hybVerify slot => execHybVerify_kept slot s
  | .kmUpdate slot => execKmUpdate_kept slot s
  | .kmGenerate slot => execKmGenerate_kept slot s
  | .kmDerive slot => execKmDerive_kept slot s
  | .kmDeriveRelease slot => execKmDeriveRelease_kept slot s
  | .kmWrap slot => execKmWrap_kept slot s
  | .kmUnwrap slot => execKmUnwrap_kept slot s
  | .kmExport slot => execKmExport_kept slot s
  | .kmImport slot => execKmImport_kept slot s
  | .kmImportPublic slot => execKmImportPublic_kept slot s
  | .kmDelete slot => execKmDelete_kept slot s
  | .kmInfo slot => execKmInfo_kept slot s
  | .kmProve slot => execKmProve_kept slot s
  | .peerSetSecret slot => execPeerSetSecret_kept slot s
  | .peerRevoke slot => execPeerRevoke_kept slot s
  | .peerInfo slot => execPeerInfo_kept slot s
  | .randomGenerate slot => execRandomGenerate_kept slot s
  | .randomReseed slot => execRandomReseed_kept slot s
  | .recipeRun slot => execRecipeRun_kept slot s
  | .recipeLoad slot => execRecipeLoad_kept slot s
  | .recipeUnload slot => execRecipeUnload_kept slot s
  | .recipeInfo slot => execRecipeInfo_kept slot s
  | .add slot rd rs1 rs2 => execAdd_kept slot rd rs1 rs2 s
  | .sub slot rd rs1 rs2 => execSub_kept slot rd rs1 rs2 s
  | .and slot rd rs1 rs2 => execAnd_kept slot rd rs1 rs2 s
  | .or slot rd rs1 rs2 => execOr_kept slot rd rs1 rs2 s
  | .xor slot rd rs1 rs2 => execXor_kept slot rd rs1 rs2 s
  | .shl slot rd rs1 rs2 => execShl_kept slot rd rs1 rs2 s
  | .shru slot rd rs1 rs2 => execShru_kept slot rd rs1 rs2 s
  | .shrs slot rd rs1 rs2 => execShrs_kept slot rd rs1 rs2 s
  | .cmplt slot rd rs1 rs2 => execCmplt_kept slot rd rs1 rs2 s
  | .cmpltu slot rd rs1 rs2 => execCmpltu_kept slot rd rs1 rs2 s
  | .rotl slot rd rs1 rs2 => execRotl_kept slot rd rs1 rs2 s
  | .rotr slot rd rs1 rs2 => execRotr_kept slot rd rs1 rs2 s
  | .clz slot rd rs1 rs2 => execClz_kept slot rd rs1 rs2 s
  | .popc slot rd rs1 rs2 => execPopc_kept slot rd rs1 rs2 s
  | .mul slot rd rs1 rs2 => execMul_kept slot rd rs1 rs2 s
  | .mulhs slot rd rs1 rs2 => execMulhs_kept slot rd rs1 rs2 s
  | .mulhu slot rd rs1 rs2 => execMulhu_kept slot rd rs1 rs2 s
  | .div slot rd rs1 rs2 => execDiv_kept slot rd rs1 rs2 s
  | .divu slot rd rs1 rs2 => execDivu_kept slot rd rs1 rs2 s
  | .rem slot rd rs1 rs2 => execRem_kept slot rd rs1 rs2 s
  | .remu slot rd rs1 rs2 => execRemu_kept slot rd rs1 rs2 s
  | .addi slot rd rs1 imm => execAddi_kept slot rd rs1 imm s
  | .andi slot rd rs1 imm => execAndi_kept slot rd rs1 imm s
  | .ori slot rd rs1 imm => execOri_kept slot rd rs1 imm s
  | .xori slot rd rs1 imm => execXori_kept slot rd rs1 imm s
  | .shli slot rd rs1 imm => execShli_kept slot rd rs1 imm s
  | .shrui slot rd rs1 imm => execShrui_kept slot rd rs1 imm s
  | .shrsi slot rd rs1 imm => execShrsi_kept slot rd rs1 imm s
  | .rotli slot rd rs1 imm => execRotli_kept slot rd rs1 imm s
  | .ldhi slot rd imm => execLdhi_kept slot rd imm s
  | .ldd slot rd rs1 imm => execLdd_kept slot rd rs1 imm s
  | .ldw slot rd rs1 imm => execLdw_kept slot rd rs1 imm s
  | .ldh slot rd rs1 imm => execLdh_kept slot rd rs1 imm s
  | .ldb slot rd rs1 imm => execLdb_kept slot rd rs1 imm s
  | .std slot rs1 rs2 imm => execStd_kept slot rs1 rs2 imm s
  | .stw slot rs1 rs2 imm => execStw_kept slot rs1 rs2 imm s
  | .sth slot rs1 rs2 imm => execSth_kept slot rs1 rs2 imm s
  | .stb slot rs1 rs2 imm => execStb_kept slot rs1 rs2 imm s
  | .beq slot rs1 rs2 imm => execBeq_kept slot rs1 rs2 imm s
  | .bne slot rs1 rs2 imm => execBne_kept slot rs1 rs2 imm s
  | .blt slot rs1 rs2 imm => execBlt_kept slot rs1 rs2 imm s
  | .bge slot rs1 rs2 imm => execBge_kept slot rs1 rs2 imm s
  | .bltu slot rs1 rs2 imm => execBltu_kept slot rs1 rs2 imm s
  | .bgeu slot rs1 rs2 imm => execBgeu_kept slot rs1 rs2 imm s
  | .jmpl slot rd off => execJmpl_kept slot rd off s
  | .jmpr slot rd rs1 imm => execJmpr_kept slot rd rs1 imm s
  | .fadd slot rd rs1 rs2 => execFadd_kept slot rd rs1 rs2 s
  | .fsub slot rd rs1 rs2 => execFsub_kept slot rd rs1 rs2 s
  | .fmul slot rd rs1 rs2 => execFmul_kept slot rd rs1 rs2 s
  | .fmin slot rd rs1 rs2 => execFmin_kept slot rd rs1 rs2 s
  | .fmax slot rd rs1 rs2 => execFmax_kept slot rd rs1 rs2 s
  | .fcopysign slot rd rs1 rs2 => execFcopysign_kept slot rd rs1 rs2 s
  | .fdiv slot rd rs1 rs2 => execFdiv_kept slot rd rs1 rs2 s
  | .fsqrt slot rd rs1 rs2 => execFsqrt_kept slot rd rs1 rs2 s
  | .ftoi slot rd rs1 rs2 => execFtoi_kept slot rd rs1 rs2 s
  | .itof slot rd rs1 rs2 => execItof_kept slot rd rs1 rs2 s
  | .fbits slot rd rs1 rs2 => execFbits_kept slot rd rs1 rs2 s
  | .gbits slot rd rs1 rs2 => execGbits_kept slot rd rs1 rs2 s
  | .fldd slot rd rs1 imm => execFldd_kept slot rd rs1 imm s
  | .fstd slot rs1 rs2 imm => execFstd_kept slot rs1 rs2 imm s
  | .fcmp slot rd rs1 rs2 => execFcmp_kept slot rd rs1 rs2 s
  | .ewait slot rd funct => execEwait_kept slot rd funct s
  | .ctlr slot rd rs1 imm => execCtlr_kept slot rd rs1 imm s
  | .ctlw slot rd rs1 imm => execCtlw_kept slot rd rs1 imm s
  | .halt slot rs1 => execHalt_kept slot rs1 s
  | .dma slot cmd prm => execDma_kept slot cmd prm s
  | .invoke slot rs1 => execInvoke_kept slot rs1 s
  | .retain slot rs1 => execRetain_kept slot rs1 s
  | .permute slot cmd prm => execPermute_kept slot cmd prm s
  | .absorb slot cmd prm => execAbsorb_kept slot cmd prm s
  | .sha256 slot cmd prm => execSha256_kept slot cmd prm s
  | .sha512 slot cmd prm => execSha512_kept slot cmd prm s
  | .cloveNtt slot by_ cmd prm => execCloveNtt_kept slot by_ cmd prm s
  | .cloveIntt slot by_ cmd prm => execCloveIntt_kept slot by_ cmd prm s
  | .clovePmul slot by_ cmd prm => execClovePmul_kept slot by_ cmd prm s
  | .cloveDot slot by_ cmd prm => execCloveDot_kept slot by_ cmd prm s
  | .cloveAdd slot by_ cmd prm => execCloveAdd_kept slot by_ cmd prm s
  | .cloveSub slot by_ cmd prm => execCloveSub_kept slot by_ cmd prm s
  | .cloveCmul slot by_ cmd prm => execCloveCmul_kept slot by_ cmd prm s
  | .cloveSampleSmall slot by_ cmd prm => execCloveSampleSmall_kept slot by_ cmd prm s
  | .cloveSampleUniform slot by_ cmd prm => execCloveSampleUniform_kept slot by_ cmd prm s
  | .cloveCompress slot by_ cmd prm => execCloveCompress_kept slot by_ cmd prm s
  | .cloveDecompress slot by_ cmd prm => execCloveDecompress_kept slot by_ cmd prm s
  | .clovePower2round slot by_ cmd prm => execClovePower2round_kept slot by_ cmd prm s
  | .cloveDecompose slot by_ cmd prm => execCloveDecompose_kept slot by_ cmd prm s
  | .cloveMakehint slot by_ cmd prm => execCloveMakehint_kept slot by_ cmd prm s
  | .cloveUsehint slot by_ cmd prm => execCloveUsehint_kept slot by_ cmd prm s
  | .cloveNormchk slot by_ cmd prm => execCloveNormchk_kept slot by_ cmd prm s
  | .cloveA2b slot by_ cmd prm => execCloveA2b_kept slot by_ cmd prm s
  | .cloveB2a slot by_ cmd prm => execCloveB2a_kept slot by_ cmd prm s
  | .clovePack slot by_ cmd prm => execClovePack_kept slot by_ cmd prm s
  | .cloveUnpack slot by_ cmd prm => execCloveUnpack_kept slot by_ cmd prm s
  | .cloveClmulmod slot by_ cmd prm => execCloveClmulmod_kept slot by_ cmd prm s
  | .cloveXor slot by_ cmd prm => execCloveXor_kept slot by_ cmd prm s
  | .cloveGfmul slot by_ cmd prm => execCloveGfmul_kept slot by_ cmd prm s
  | .cloveGfsqr slot by_ cmd prm => execCloveGfsqr_kept slot by_ cmd prm s
  | .cloveGfinv slot by_ cmd prm => execCloveGfinv_kept slot by_ cmd prm s
  | .cloveGfeval slot by_ cmd prm => execCloveGfeval_kept slot by_ cmd prm s
  | .cloveStreamMatvec slot by_ cmd prm => execCloveStreamMatvec_kept slot by_ cmd prm s
  | .cloveCopy slot by_ cmd prm => execCloveCopy_kept slot by_ cmd prm s
  | .cloveZero slot by_ cmd prm => execCloveZero_kept slot by_ cmd prm s
  | .cloveMaskedEq slot by_ cmd prm => execCloveMaskedEq_kept slot by_ cmd prm s
  | .cloveSelect slot by_ cmd prm => execCloveSelect_kept slot by_ cmd prm s
  | .cloveUnmask slot by_ cmd prm => execCloveUnmask_kept slot by_ cmd prm s
  | .saffronMac unit cmd release => execSaffronMac_kept unit cmd release s
  | .macShift unit cmd release => execMacShift_kept unit cmd release s
  | .accOut unit cmd release => execAccOut_kept unit cmd release s
  | .accClear unit cmd release => execAccClear_kept unit cmd release s
  | .saffronFmul unit cmd release => execSaffronFmul_kept unit cmd release s
  | .fmulSel unit cmd release => execFmulSel_kept unit cmd release s
  | .unseal unit cmd release => execUnseal_kept unit cmd release s
  | .saffronZero unit cmd release => execSaffronZero_kept unit cmd release s
  | .vcfg slot vd vs1 vs2 vm => execVcfg_kept slot vd vs1 vs2 vm s
  | .vcfgx slot vd vs1 vs2 vm => execVcfgx_kept slot vd vs1 vs2 vm s
  | .vldUnit slot vd vs1 vs2 vm => execVldUnit_kept slot vd vs1 vs2 vm s
  | .vldStrided slot vd vs1 vs2 vm => execVldStrided_kept slot vd vs1 vs2 vm s
  | .vldIndexed slot vd vs1 vs2 vm => execVldIndexed_kept slot vd vs1 vs2 vm s
  | .vstUnit slot vd vs1 vs2 vm => execVstUnit_kept slot vd vs1 vs2 vm s
  | .vstStrided slot vd vs1 vs2 vm => execVstStrided_kept slot vd vs1 vs2 vm s
  | .vstIndexed slot vd vs1 vs2 vm => execVstIndexed_kept slot vd vs1 vs2 vm s
  | .vadd slot vd vs1 vs2 vm => execVadd_kept slot vd vs1 vs2 vm s
  | .vsub slot vd vs1 vs2 vm => execVsub_kept slot vd vs1 vs2 vm s
  | .vand slot vd vs1 vs2 vm => execVand_kept slot vd vs1 vs2 vm s
  | .vor slot vd vs1 vs2 vm => execVor_kept slot vd vs1 vs2 vm s
  | .vxor slot vd vs1 vs2 vm => execVxor_kept slot vd vs1 vs2 vm s
  | .vshl slot vd vs1 vs2 vm => execVshl_kept slot vd vs1 vs2 vm s
  | .vshru slot vd vs1 vs2 vm => execVshru_kept slot vd vs1 vs2 vm s
  | .vshrs slot vd vs1 vs2 vm => execVshrs_kept slot vd vs1 vs2 vm s
  | .vminu slot vd vs1 vs2 vm => execVminu_kept slot vd vs1 vs2 vm s
  | .vmaxu slot vd vs1 vs2 vm => execVmaxu_kept slot vd vs1 vs2 vm s
  | .vmul slot vd vs1 vs2 vm => execVmul_kept slot vd vs1 vs2 vm s
  | .vmulhu slot vd vs1 vs2 vm => execVmulhu_kept slot vd vs1 vs2 vm s
  | .vcmpeq slot vd vs1 vs2 vm => execVcmpeq_kept slot vd vs1 vs2 vm s
  | .vcmpltu slot vd vs1 vs2 vm => execVcmpltu_kept slot vd vs1 vs2 vm s
  | .vcmplt slot vd vs1 vs2 vm => execVcmplt_kept slot vd vs1 vs2 vm s
  | .vblend slot vd vs1 vs2 vm => execVblend_kept slot vd vs1 vs2 vm s
  | .vaddVs slot vd vs1 vs2 vm => execVaddVs_kept slot vd vs1 vs2 vm s
  | .vsubVs slot vd vs1 vs2 vm => execVsubVs_kept slot vd vs1 vs2 vm s
  | .vandVs slot vd vs1 vs2 vm => execVandVs_kept slot vd vs1 vs2 vm s
  | .vorVs slot vd vs1 vs2 vm => execVorVs_kept slot vd vs1 vs2 vm s
  | .vxorVs slot vd vs1 vs2 vm => execVxorVs_kept slot vd vs1 vs2 vm s
  | .vshlVs slot vd vs1 vs2 vm => execVshlVs_kept slot vd vs1 vs2 vm s
  | .vshruVs slot vd vs1 vs2 vm => execVshruVs_kept slot vd vs1 vs2 vm s
  | .vshrsVs slot vd vs1 vs2 vm => execVshrsVs_kept slot vd vs1 vs2 vm s
  | .vminuVs slot vd vs1 vs2 vm => execVminuVs_kept slot vd vs1 vs2 vm s
  | .vmaxuVs slot vd vs1 vs2 vm => execVmaxuVs_kept slot vd vs1 vs2 vm s
  | .vmulVs slot vd vs1 vs2 vm => execVmulVs_kept slot vd vs1 vs2 vm s
  | .vmulhuVs slot vd vs1 vs2 vm => execVmulhuVs_kept slot vd vs1 vs2 vm s
  | .vcmpeqVs slot vd vs1 vs2 vm => execVcmpeqVs_kept slot vd vs1 vs2 vm s
  | .vcmpltuVs slot vd vs1 vs2 vm => execVcmpltuVs_kept slot vd vs1 vs2 vm s
  | .vcmpltVs slot vd vs1 vs2 vm => execVcmpltVs_kept slot vd vs1 vs2 vm s
  | .vblendVs slot vd vs1 vs2 vm => execVblendVs_kept slot vd vs1 vs2 vm s
  | .vmadd slot vd vs1 vs2 vm => execVmadd_kept slot vd vs1 vs2 vm s
  | .vmsub slot vd vs1 vs2 vm => execVmsub_kept slot vd vs1 vs2 vm s
  | .vmneg slot vd vs1 vs2 vm => execVmneg_kept slot vd vs1 vs2 vm s
  | .vmred slot vd vs1 vs2 vm => execVmred_kept slot vd vs1 vs2 vm s
  | .vmmul slot vd vs1 vs2 vm => execVmmul_kept slot vd vs1 vs2 vm s
  | .vmmulx slot vd vs1 vs2 vm => execVmmulx_kept slot vd vs1 vs2 vm s
  | .vfadd slot vd vs1 vs2 vm => execVfadd_kept slot vd vs1 vs2 vm s
  | .vfsub slot vd vs1 vs2 vm => execVfsub_kept slot vd vs1 vs2 vm s
  | .vfmul slot vd vs1 vs2 vm => execVfmul_kept slot vd vs1 vs2 vm s
  | .vfmin slot vd vs1 vs2 vm => execVfmin_kept slot vd vs1 vs2 vm s
  | .vfmax slot vd vs1 vs2 vm => execVfmax_kept slot vd vs1 vs2 vm s
  | .vftoi slot vd vs1 vs2 vm => execVftoi_kept slot vd vs1 vs2 vm s
  | .vitof slot vd vs1 vs2 vm => execVitof_kept slot vd vs1 vs2 vm s
  | .vfdiv slot vd vs1 vs2 vm => execVfdiv_kept slot vd vs1 vs2 vm s
  | .vfsqrt slot vd vs1 vs2 vm => execVfsqrt_kept slot vd vs1 vs2 vm s
  | .vsplat slot vd vs1 vs2 vm => execVsplat_kept slot vd vs1 vs2 vm s
  | .vextract slot vd vs1 vs2 vm => execVextract_kept slot vd vs1 vs2 vm s
  | .vshiftdn slot vd vs1 vs2 vm => execVshiftdn_kept slot vd vs1 vs2 vm s
  | .vshiftup slot vd vs1 vs2 vm => execVshiftup_kept slot vd vs1 vs2 vm s
  | .vperm slot vd vs1 vs2 vm => execVperm_kept slot vd vs1 vs2 vm s
  | .vindex slot vd vs1 vs2 vm => execVindex_kept slot vd vs1 vs2 vm s
  | .vfoldadd slot vd vs1 vs2 vm => execVfoldadd_kept slot vd vs1 vs2 vm s
  | .vfoldxor slot vd vs1 vs2 vm => execVfoldxor_kept slot vd vs1 vs2 vm s
  | .vmcount slot vd vs1 vs2 vm => execVmcount_kept slot vd vs1 vs2 vm s
  | .claim port win value => execClaim_kept port win value s
  | .release port win value => execRelease_kept port win value s
  | .digestStart port win value => execDigestStart_kept port win value s
  | .data port win size value poisoned => execData_kept port win size value poisoned s
  | .dataLast port win size value poisoned => execDataLast_kept port win size value poisoned s
  | .digestRead port win word => execDigestRead_kept port win word s
  | .digestWindowIdle win => execDigestWindowIdle_kept win s
  | .noiseSourceSample src bit => execNoiseSourceSample_kept src bit s
  | .maskGeneratorReseed => execMaskGeneratorReseed_kept s
  | .tempoWindow ps => execTempoWindow_kept ps s
  | .governorTick mw waiting inletMc => execGovernorTick_kept mw waiting inletMc s
  | .selfTestVisit unit pass duration fixed => execSelfTestVisit_kept unit pass duration fixed s
  | .scrub loc err => execScrub_kept loc err s
  | .watchdogExpiry stage cleared => execWatchdogExpiry_kept stage cleared s
  | .graceTimerExpiry id => execGraceTimerExpiry_kept id s
  | .retry z id pass => execRetry_kept z id pass s
  | .retire z id => execRetire_kept z id s
  | .resetInstance z id => execResetInstance_kept z id s
  | .accept z id => execAccept_kept z id s
  | .spareVisitDone unit pass => execSpareVisitDone_kept unit pass s
  | .retiringUnitIdle unit => execRetiringUnitIdle_kept unit s
  | .idcode => execIdcode_kept s
  | .bypass => execBypass_kept s
  | .dbgStatus => execDbgStatus_kept s
  | .dbgChallenge => execDbgChallenge_kept s
  | .dbgResponse sig => execDbgResponse_kept sig s
  | .dbgLcRequest target token => execDbgLcRequest_kept target token s
  | .dbgChallengeExpiry => execDbgChallengeExpiry_kept s
  | .cardDetectClose => execCardDetectClose_kept s
  | .cardDetectDebounced => execCardDetectDebounced_kept s
  | .cardReadyPoll ready s18a => execCardReadyPoll_kept ready s18a s
  | .cardAuthenticated cert => execCardAuthenticated_kept cert s
  | .cardDetectOpen => execCardDetectOpen_kept s
  | .cardRest => execCardRest_kept s
  | .approve z arg => execApprove_kept z arg s
  | .configSave z arg => execConfigSave_kept z arg s
  | .configLoad z arg => execConfigLoad_kept z arg s
  | .backup z arg => execBackup_kept z arg s
  | .cardSegmentCommitted => execCardSegmentCommitted_kept s
  | .backupResumeExpiry => execBackupResumeExpiry_kept s
  | .restore z arg image => execRestore_kept z arg image s
  | .restoreReadPassDone ok => execRestoreReadPassDone_kept ok s
  | .protect z arg => execProtect_kept z arg s
  | .unprotect z arg => execUnprotect_kept z arg s
  | .cancel z arg => execCancel_kept z arg s
  | .approvalExpiry which => execApprovalExpiry_kept which s
  | .ptpSourceLost => execPtpSourceLost_kept s
  | .linkStateChange state => execLinkStateChange_kept state s
  | .ptmDisabled port => execPtmDisabled_kept port s
  | .auxRailChange up => execAuxRailChange_kept up s
  | .instanceDestroyDone inst => execInstanceDestroyDone_kept inst s
  | .migSaveDone inst => execMigSaveDone_kept inst s
  | .migRestoreDone inst image => execMigRestoreDone_kept inst image s
  | .cardOpDone reply => execCardOpDone_kept reply s
  | .ecmd slot rs1 rs2 funct => execEcmd_kept slot rs1 rs2 funct s
  | .undefinedInstruction slot word => execUndefinedInstruction_kept slot word s
  | .undefinedOpcode slot => execUndefinedOpcode_kept slot s
  | .unknownService req => execUnknownService_kept req s
  | .replayDiscard session seq tagOk => execReplayDiscard_kept session seq tagOk s

/-- A step gives a state that keeps what Kept says of the state without the command it takes. -/
theorem step_kept {s t : State} (ran : step s = .next t) : ∃ queue, Kept { s with pending := queue } t := by
  unfold step at ran
  split at ran
  · cases ran
    exact ⟨s.pending, State.idle_kept (Kept.refl s)⟩
  · next c rest _ =>
    obtain ⟨u, gives, kept⟩ := exec_kept c { s with pending := rest }
    cases gives.symm.trans ran
    exact ⟨rest, kept⟩

/-- The shape does not speak of the queue. -/
theorem Inv.withQueue {s : State} (shape : Inv s) (queue : List Instr) : Inv { s with pending := queue } :=
  { shape with }

/-- Settles O58: what the queue holds is no part of the shape, and every command keeps the rest. -/
theorem everyStepKeepsTheShape : Obligations.EveryStepKeepsTheShape := by
  unfold Obligations.EveryStepKeepsTheShape
  intro s t shape ran
  obtain ⟨queue, kept⟩ := step_kept ran
  exact kept.shape (shape.withQueue queue)

/-- Settles O59: the parts that Onward names stand in Kept, and the queue is none of them. -/
theorem noStepGoesBack : Obligations.NoStepGoesBack := by
  unfold Obligations.NoStepGoesBack
  intro s t shape ran
  obtain ⟨queue, kept⟩ := step_kept ran
  exact { time := kept.time, seq := kept.seq, gen := kept.gen (shape.withQueue queue), retired := kept.retired }

end Sys2Proof.Machine
end

section
namespace Sys2Proof.Machine

open Sys2Proof Sys2Proof.Claims

/-! ### Counters -/

@[simp] theorem num_putNum_same (k v : Nat) (l : List (Nat × Nat)) : num k (putNum k v l) = v := by
  unfold putNum
  split
  · next zero => rw [num, look_del_same, zero]; rfl
  · rw [num, look_put_same]; rfl

theorem num_putNum_other {k j : Nat} (other : j ≠ k) (v : Nat) (l : List (Nat × Nat)) :
    num j (putNum k v l) = num j l := by
  unfold putNum
  split
  · rw [num, look_del_other other, num]
  · rw [num, look_put_other other, num]

@[simp] theorem State.counter_bump (s : State) (key pos n : Nat) :
    (s.bump key pos n).counter key pos = s.counter key pos + n := num_putNum_same ..

theorem State.counter_bump_other (s : State) {key key' : Nat} (other : key' ≠ key) (n : Nat) :
    (s.bump key 0 n).counter key' 0 = s.counter key' 0 :=
  num_putNum_other (by omega) ..

/-- An event that finds no place is counted by its own counter, and an event counts nothing else (R506). -/
theorem State.counter_raise (s : State) {key : Nat} (other : key ≠ 0x270004) (c : EventCode) (v i : Nat) (d : Bytes) :
    (s.raise c v i d).counter key 0 = s.counter key 0 := by
  have dropped : s.dropRecord.counter key 0 = s.counter key 0 := s.counter_bump_other other 1
  unfold State.raise
  dsimp only
  split
  · exact dropped
  · split
    · split
      · rfl
      · exact dropped
    · rfl

theorem State.counter_event (s : State) {key : Nat} (other : key ≠ 0x270004) (c : EventCode) (d : Bytes) :
    (s.event c d).counter key 0 = s.counter key 0 := s.counter_raise other ..

theorem State.counter_conflict (s : State) (kind ident inst : Nat) (who : Bytes) :
    (s.conflict kind ident inst who).counter 0x100106 0 = s.counter 0x100106 0 + 1 := by
  unfold State.conflict
  extract_lets t
  have counted : t.counter 0x100106 0 = s.counter 0x100106 0 + 1 := s.counter_bump ..
  split
  · exact (State.counter_raise _ (by decide) ..).trans counted
  · exact counted

/-- A reply counts as a refusal in the present state or counts nothing (R123). -/
theorem State.counter_countReply (s : State) (x : Session) (r : Reply) :
    (s.countReply x r).counter 0x100106 0 = s.counter 0x100106 0 + if r.counted then 1 else 0 := by
  unfold State.countReply
  split
  · exact s.counter_conflict ..
  · rfl

@[simp] theorem State.countReply_unworked (s : State) (x : Session) (r : Reply) :
    (s.countReply x r).unworked = s.unworked := by
  unfold State.countReply
  exact State.ite_keeps State.unworked (s.conflict_unworked ..)

/-! ### Frames to a window -/

/-- The state without what a frame to a management window changes: what has been sent and the ports' registers. -/
def State.unwired (s : State) : State := { s with out := [], ports := [] }

@[simp] theorem State.send_unwired (s : State) (o : Outbound) : (s.send o).unwired = s.unwired := rfl

@[simp] theorem State.modPort_unwired (s : State) (p : Nat) (f : Port → Port) :
    (s.modPort p f).unwired = s.unwired := rfl

@[simp] theorem State.raisePf_unwired (s : State) (p v : Nat) : (s.raisePf p v).unwired = s.unwired := by
  unfold State.raisePf
  split <;> rfl

@[simp] theorem State.portEvent_unwired (s : State) (p : Nat) (e : PortEvent) :
    (s.portEvent p e).unwired = s.unwired := by
  unfold State.portEvent
  dsimp only
  split <;> simp

@[simp] theorem State.pushWindow_unwired (s : State) (p : Nat) (e : Bool) (f : Bytes) :
    (s.pushWindow p e f).unwired = s.unwired := by
  unfold State.pushWindow
  split
  · simp
  · split <;> simp

@[simp] theorem State.sendOpen_unwired (s : State) (chan : Option Nat) (kind : Nat) (id : BitVec 32) (i n : Nat)
    (p : Bytes) : (s.sendOpen chan kind id i n p).unwired = s.unwired := by
  unfold State.sendOpen
  dsimp only
  split <;> simp

/-- A frame to a session takes the session's next SEQ (R107). -/
theorem State.sendFrame_unwired {s : State} {id : BitVec 32} {x : Session} (h : s.session id = some x) (kind : Nat)
    (p : Bytes) : (s.sendFrame id kind p).unwired =
      (s.modSession id fun y => { y with txSeq := x.txSeq + 1 }).unwired := by
  unfold State.sendFrame
  rw [h]
  dsimp only
  split <;> simp

/-- A session after a frame to it. -/
theorem State.sendFrame_session {s : State} {id : BitVec 32} {x : Session} (h : s.session id = some x) (kind : Nat)
    (p : Bytes) : (s.sendFrame id kind p).session id = some { x with txSeq := x.txSeq + 1 } :=
  (State.field_eq (State.sendFrame_unwired h kind p) (·.session id) fun _ => rfl).trans
    (State.session_modSession (f := fun y => { y with txSeq := x.txSeq + 1 }) h fun _ => rfl)

/-! ### The state in which a request runs -/

/-- The session of a new request, its frame accepted (R109). -/
abbrev State.caller (s : State) (z : ZReq) (x : Session) : Session := x.accept z.seq s.now

/-- The state in which a new request runs: its datagram is noted among those of the last second, and its frame is
accepted (R100, R109). -/
def State.received (s : State) (z : ZReq) (datagrams : List Nat) : State :=
  (s.withMgmt { s.mgmt with datagrams := datagrams }).modSession z.session fun y => y.accept z.seq s.now

theorem State.takeDatagram_notes {s : State} {chan : Option Nat} (h : (s.takeDatagram chan).isSome = true) :
    ∃ d, s.takeDatagram chan = some (s.withMgmt { s.mgmt with datagrams := d }) := by
  unfold State.takeDatagram at h ⊢
  split
  · exact ⟨s.mgmt.datagrams, rfl⟩
  · dsimp only at h ⊢
    split at h
    · next open_ => exact ⟨_, if_pos open_⟩
    · cases h

theorem State.received_session {s : State} {z : ZReq} {x : Session} (known : s.session z.session = some x)
    (d : List Nat) : (s.received z d).session z.session = some (s.caller z x) :=
  State.session_modSession (s := s.withMgmt { s.mgmt with datagrams := d }) (f := fun y => y.accept z.seq s.now) known
    fun _ => rfl

/-- A new request runs once its frame is accepted, and its reply is sent (R109, R112). -/
theorem State.serve_received {s : State} {z : ZReq} {x : Session} (req : Requests s z x) (svc : Nat)
    (run : Session → State → Reply × State) (after : Reply → State → State) : ∃ d,
      s.serve z svc run after = State.replied x z svc after (run (s.caller z x) (s.received z d)) := by
  obtain ⟨d, taken⟩ := State.takeDatagram_notes req.datagram
  refine ⟨d, ?_⟩
  rw [← Option.getD_some (a := s.caller z x) (b := x), ← State.received_session req.session d]
  unfold State.serve
  rw [req.session]
  dsimp only
  rw [if_neg (by simp [req.serves]), taken]
  dsimp only
  rw [if_neg (by simp [req.opened, req.fresh]; exact Nat.le_of_lt req.room.1), req.new]
  rfl

/-- The state that the run of a request leaves, with the session in it: nothing has been sent, the dictionary is as it
was, and of the session neither the channel nor the SEQs have changed (R109). -/
structure Quiet (s : State) (z : ZReq) (x : Session) (v : State) (y : Session) : Prop where
  out : v.out = s.out
  od : v.od = s.od
  session : v.session z.session = some y
  chan : y.inBand = x.inBand
  seqs : y.rxHigh = max x.rxHigh z.seq ∧ y.txSeq = x.txSeq

theorem Quiet.received {s : State} {z : ZReq} {x : Session} (known : s.session z.session = some x) (d : List Nat) :
    Quiet s z x (s.received z d) (s.caller z x) :=
  ⟨rfl, rfl, State.received_session known d, rfl, rfl, rfl⟩

/-- A run that changes its session besides. -/
theorem Quiet.modSession {s v : State} {z : ZReq} {x y : Session} (quiet : Quiet s z x v y) {id : BitVec 32}
    (own : id = z.session) {f : Session → Session}
    (keeps : ∀ y, (f y).id = y.id ∧ (f y).inBand = y.inBand ∧ (f y).rxHigh = y.rxHigh ∧ (f y).txSeq = y.txSeq) :
    Quiet s z x (v.modSession id f) (f y) where
  out := quiet.out
  od := quiet.od
  session := own ▸ State.session_modSession quiet.session fun y => (keeps y).1
  chan := (keeps y).2.1.trans quiet.chan
  seqs := ⟨(keeps y).2.2.1.trans quiet.seqs.1, (keeps y).2.2.2.trans quiet.seqs.2⟩

theorem State.caller_id {s : State} {z : ZReq} {x : Session} (known : s.session z.session = some x) :
    (s.caller z x).id = z.session := (State.session_id known : x.id = z.session)

/-- The state in which a service that R122 names runs. -/
abbrev State.noted (s : State) (z : ZReq) (x : Session) (d : List Nat) : State :=
  (s.received z d).noteService (s.caller z x)

theorem State.noted_session {s : State} {z : ZReq} {x : Session} (known : s.session z.session = some x)
    (d : List Nat) : (s.noted z x d).session z.session = some { s.caller z x with lastService := s.now } :=
  State.noteService_session (x := s.caller z x) (State.caller_id known) (State.received_session known d)

theorem Quiet.noted {s : State} {z : ZReq} {x : Session} (known : s.session z.session = some x) (d : List Nat) :
    Quiet s z x (s.noted z x d) { s.caller z x with lastService := s.now } :=
  ⟨rfl, rfl, State.noted_session known d, rfl, rfl, rfl⟩

/-! ### What stands after the response -/

/-- What stands after the response of a run: the answer has been sent, and the response and its SEQ are noted in the
session (R112, R123). -/
structure Responded (s v t : State) (z : ZReq) (x y : Session) (svc : Nat) (r : Reply) : Prop where
  answered : Answered s t z x svc r.status r.value
  od : t.od = s.od
  start : t.start = v.start
  txn : t.mgmt.txn = v.mgmt.txn
  session : ∃ l n, t.session z.session = some { y with responses := l, txSeq := n }
  counted : t.counter 0x100106 0 = v.counter 0x100106 0 + if r.counted then 1 else 0

theorem State.respond_session {v : State} {z : ZReq} {y : Session} (known : v.session z.session = some y) (svc : Nat)
    (r : Reply) : ∃ l, (v.respond z svc r).session z.session =
      some { y with responses := l, txSeq := y.txSeq + 1 } :=
  ⟨_, State.sendFrame_session (State.session_modSession (f := fun x =>
    let all := x.responses ++ [(z.requestId, responsePayload svc z.requestId r)]
    { x with responses := all.drop (all.length - 16) }) known fun _ => rfl) ..⟩

/-- A session whose SEQs have not reached their end stays open (R109). -/
theorem State.closeSpent_room {s : State} {id : BitVec 32} {y : Session} (known : s.session id = some y)
    (rx : y.rxHigh < 0xFFFFFFFF) (tx : y.txSeq < 0xFFFFFFFF) : s.closeSpent id = s := by
  unfold State.closeSpent
  rw [known]
  exact if_neg (by simp [rx, tx])

/-- The state without its sessions, and without what a frame to a window changes. -/
def State.unasked (s : State) : State := { s.unwired with mgmt := { s.mgmt with sessions := [] } }

/-- A response changes the session and what has been sent. -/
theorem State.respond_unasked {v : State} {z : ZReq} {y : Session} (known : v.session z.session = some y) (svc : Nat)
    (r : Reply) : (v.respond z svc r).unasked = v.unasked := by
  have sent := State.sendFrame_unwired (State.session_modSession (f := fun x =>
    let all := x.responses ++ [(z.requestId, responsePayload svc z.requestId r)]
    { x with responses := all.drop (all.length - 16) }) known fun _ => rfl) 0x11
      (responsePayload svc z.requestId r)
  exact State.field_eq sent State.unasked fun _ => rfl

/-- The response of a run is sent on the session's channel, after what was sent before it (R112). -/
theorem State.respond_answered {s v t : State} {z : ZReq} {x y : Session} {r : Reply}
    (ran : Quiet s z x v y) {svc : Nat} (later : ((v.countReply x r).respond z svc r).out <+: t.out) :
    Answered s t z x svc r.status r.value := by
  have known : (v.countReply x r).session z.session = some y :=
    (State.field_eq (v.countReply_unworked x r) (·.session z.session) fun _ => rfl).trans ran.session
  obtain ⟨pre, told⟩ := (v.countReply_sendsOn x r).out
  obtain ⟨post, sent⟩ := State.respond_out known svc r
  obtain ⟨rest, later⟩ := later
  refine ⟨pre, post ++ rest, ?_⟩
  rw [← later, sent, ran.chan, ← told, ran.out, List.append_assoc]
  rfl

theorem State.replied_responded {s v : State} {z : ZReq} {x y : Session} (req : Requests s z x)
    (ran : Quiet s z x v y) {svc : Nat} {after : Reply → State → State} {r : Reply}
    (follows : ∀ t, t.od = s.od → after r t = t) :
    Responded s v (State.replied x z svc after (r, v)) z x y svc r := by
  have counted := v.countReply_unworked x r
  have known : (v.countReply x r).session z.session = some y :=
    (State.field_eq counted (·.session z.session) fun _ => rfl).trans ran.session
  have asked := State.respond_unasked known svc r
  have od : ((v.countReply x r).respond z svc r).od = s.od :=
    (State.field_eq asked State.od fun _ => rfl).trans
      ((State.field_eq counted State.od fun _ => rfl).trans ran.od)
  obtain ⟨l, responded⟩ := State.respond_session known svc r
  obtain ⟨rx, tx⟩ := ran.seqs
  obtain ⟨high, rxRoom, txRoom⟩ := req.room
  have stays : ((v.countReply x r).respond z svc r).closeSpent z.session = (v.countReply x r).respond z svc r :=
    State.closeSpent_room responded (rx ▸ Nat.max_lt.2 ⟨rxRoom, high⟩) (tx ▸ txRoom)
  rw [State.replied, follows _ od, stays]
  exact {
    answered := State.respond_answered ran List.prefix_rfl
    od := od
    start := (State.field_eq asked State.start fun _ => rfl).trans (State.field_eq counted State.start fun _ => rfl)
    txn := (State.field_eq asked (·.mgmt.txn) fun _ => rfl).trans (State.field_eq counted (·.mgmt.txn) fun _ => rfl)
    session := ⟨l, _, responded⟩
    counted := (State.field_eq asked (·.counter 0x100106 0) fun _ => rfl).trans (v.counter_countReply x r) }

/-- What a new request gives, from its run in the state that has received it. -/
theorem request_gives {c : Instr} {s : State} {z : ZReq} {x : Session} {svc : Nat}
    {run : Session → State → Reply × State} {after : Reply → State → State} {P : State → Prop}
    (op : exec c s = .next (s.serve z svc run after)) (req : Requests s z x)
    (runs : ∀ d, ∃ r v y, run (s.caller z x) (s.received z d) = (r, v) ∧ Quiet s z x v y ∧
      (∀ t, t.od = s.od → after r t = t) ∧ ∀ t, Responded s v t z x y svc r → P t) : Gives c s P := by
  obtain ⟨d, served⟩ := State.serve_received req svc run after
  obtain ⟨r, v, y, gives, ran, follows, then_⟩ := runs d
  rw [gives] at served
  exact ⟨_, op.trans (congrArg _ served), then_ _ (State.replied_responded req ran follows)⟩

/-- Nothing follows the response of a request that only answers. -/
theorem nothingAfter_quiet {s : State} {r : Reply} (t : State) (_ : t.od = s.od) : nothingAfter r t = t := rfl

/-- The network's addresses stand where the dictionary does. -/
theorem State.followNetwork_quiet {s : State} (t : State) (same : t.od = s.od) : t.followNetwork s = t := by
  have network : t.networkOf = s.networkOf := by
    unfold State.networkOf State.odBytes
    rw [same]
  exact if_pos (by rw [network]; exact beq_self_eq_true _)

end Sys2Proof.Machine
end

section
namespace Sys2Proof.Machine

open Sys2Proof Sys2Proof.Claims

/-! ### Openings -/

theorem State.sendOpen_out (s : State) (chan : Option Nat) (kind : Nat) (id : BitVec 32) (i n : Nat) (p : Bytes) :
    ∃ post, (s.sendOpen chan kind id i n p).out = s.out ++ [.frame chan kind id p] ++ post := by
  suffices later : SendsOn (s.send (.frame chan kind id p)) (s.sendOpen chan kind id i n p) by
    obtain ⟨post, sent⟩ := later.out
    exact ⟨post, sent.symm⟩
  unfold State.sendOpen
  dsimp only
  split
  · exact State.pushWindow_sendsOn ..
  · exact .refl _

/-- A refused opening sends nothing and is counted (R105). -/
theorem State.refuseOpening_counts (s : State) (id : BitVec 64) :
    (s.refuseOpening id).mgmt.sessions = s.mgmt.sessions ∧ (s.refuseOpening id).out = s.out ∧
      (s.refuseOpening id).counter 0x290011 0 = s.counter 0x290011 0 + 1 := by
  unfold State.refuseOpening
  extract_lets t old others block times
  have sessions (u : State) (c : EventCode) : (u.event c []).mgmt.sessions = u.mgmt.sessions :=
    u.event_keeps (·.mgmt.sessions) (fun _ _ _ _ _ => rfl) c []
  have out (u : State) (c : EventCode) : (u.event c []).out = u.out :=
    u.event_keeps State.out (fun _ _ _ _ _ => rfl) c []
  have counted : t.counter 0x290011 0 = s.counter 0x290011 0 + 1 :=
    (State.counter_bump ..).trans (congrArg (· + 1) (s.counter_event (by decide) ..))
  split
  · exact ⟨sessions .., out .., counted⟩
  · split
    · exact ⟨(sessions ..).trans (sessions ..), (out ..).trans (out ..),
        (State.counter_event _ (by decide) ..).trans counted⟩
    · exact ⟨sessions .., out .., counted⟩

/-- An opening adds its session under the next identifier (R102, R105). -/
theorem State.beginOpening_adds (s : State) (chan : Option Nat) (id : BitVec 64) (role : Nat)
    (nonce x25519 ek : Bytes) : let t := s.beginOpening chan id role nonce x25519 ek
    t.mgmt.nextSession = s.mgmt.nextSession + 1 ∧
      ∃ x, t.mgmt.sessions = s.mgmt.sessions ++ [x] ∧ x.id = BitVec.ofNat 32 s.mgmt.nextSession ∧ x.credId = id ∧
        x.opened = false ∧ x.inBand = chan ∧ x.startedAt = s.now ∧
        x.role = if role = 0 then credRole ((s.credential id).getD []) else role := by
  unfold State.beginOpening
  extract_lets c d t dn xs kem own pub shared p1 head sig tr keys sid x m u v
  have drawn : t.unworked = s.unworked := s.drawInternal_unworked 176
  have mgmt : t.mgmt = s.mgmt := State.field_eq drawn State.mgmt fun _ => rfl
  have sent : v.mgmt = u.mgmt := State.field_eq
    (State.forEach_keeps State.unwired (fun t i => t.sendOpen_unwired ..) _ u) State.mgmt fun _ => rfl
  rw [sent]
  exact ⟨congrArg (·.nextSession + 1) mgmt, x, congrArg (·.sessions ++ [x]) mgmt,
    congrArg (fun m : Mgmt => BitVec.ofNat 32 m.nextSession) mgmt, rfl, rfl, rfl,
    State.field_eq drawn State.now fun _ => rfl, rfl⟩

/-- No opening begins: the sessions or the openings are at their limit, or no DRBG serves (R102, R436). -/
def State.openBusy (s : State) : Bool :=
  16 ≤ s.mgmt.sessions.length || 4 ≤ (s.mgmt.sessions.filter (!·.opened)).length || !s.internalServes

/-- An OPEN_1 whose datagram is taken is busy, refused or begins an opening (R102, R105). -/
theorem State.open1_cases {s : State} {chan : Option Nat} (serves : s.zynboServes = true)
    (takes : (s.takeDatagram chan).isSome = true) (id : BitVec 64) (role : Nat) (nonce x25519 ek : Bytes) : ∃ d,
    (s.openBusy = true → s.open1 chan id role nonce x25519 ek =
      (s.withMgmt { s.mgmt with datagrams := d }).sendOpen chan 0x0E 0 0 1 []) ∧
    (s.openBusy = false → s.openingRefused chan id role = true → s.open1 chan id role nonce x25519 ek =
      (s.withMgmt { s.mgmt with datagrams := d }).refuseOpening id) ∧
    (s.openBusy = false → s.openingRefused chan id role = false → s.open1 chan id role nonce x25519 ek =
      (s.withMgmt { s.mgmt with datagrams := d }).beginOpening chan id role nonce x25519 ek) := by
  obtain ⟨d, taken⟩ := State.takeDatagram_notes takes
  have opens : s.open1 chan id role nonce x25519 ek = if s.openBusy then
      (s.withMgmt { s.mgmt with datagrams := d }).sendOpen chan 0x0E 0 0 1 []
    else if s.openingRefused chan id role then (s.withMgmt { s.mgmt with datagrams := d }).refuseOpening id
    else (s.withMgmt { s.mgmt with datagrams := d }).beginOpening chan id role nonce x25519 ek := by
    unfold State.open1
    rw [if_neg (by simp [serves]), taken]
    rfl
  rw [opens]
  exact ⟨d, fun busy => by rw [busy]; rfl, fun free refused => by rw [free, refused]; rfl,
    fun free granted => by rw [free, granted]; rfl⟩

theorem open1_follows (chan : Option (Fin 4)) (id : BitVec 64) (role : Nat) (nonce x25519 ek c : Bytes) (s : State)
    (serves : s.zynboServes = true) (takes : (s.takeDatagram (chan.map (·.val))).isSome = true) :
    (s.mgmt.sessions.length < 16 → (s.mgmt.sessions.filter fun x => !x.opened).length < 4 →
      s.internalServes = true → s.credential id = some c → s.openingRefused (chan.map (·.val)) id role = false →
      Gives (.open1 chan id role nonce x25519 ek) s fun t => t.mgmt.nextSession = s.mgmt.nextSession + 1 ∧
        ∃ x, t.mgmt.sessions = s.mgmt.sessions ++ [x] ∧ x.id = BitVec.ofNat 32 s.mgmt.nextSession ∧
          x.credId = id ∧ x.opened = false ∧ x.inBand = chan.map (·.val) ∧ x.startedAt = s.now ∧
          x.role = if role = 0 then credRole c else role) ∧
    (16 ≤ s.mgmt.sessions.length → Gives (.open1 chan id role nonce x25519 ek) s fun t =>
      t.mgmt.sessions = s.mgmt.sessions ∧
      ∃ post, t.out = s.out ++ [.frame (chan.map (·.val)) 0x0E 0 []] ++ post) ∧
    (s.mgmt.sessions.length < 16 → (s.mgmt.sessions.filter fun x => !x.opened).length < 4 →
      s.internalServes = true → s.openingRefused (chan.map (·.val)) id role = true →
      Gives (.open1 chan id role nonce x25519 ek) s fun t => t.mgmt.sessions = s.mgmt.sessions ∧
        t.out = s.out ∧ t.counter 0x290011 0 = s.counter 0x290011 0 + 1) := by
  obtain ⟨d, busy, refuse, begin_⟩ := State.open1_cases serves takes id role nonce x25519 ek
  have free (few : s.mgmt.sessions.length < 16) (opening : (s.mgmt.sessions.filter fun x => !x.opened).length < 4)
      (drbg : s.internalServes = true) : s.openBusy = false := by
    simp [State.openBusy, few, opening, drbg]
  refine ⟨fun few opening drbg cred granted =>
      ⟨_, congrArg Host.Outcome.next (begin_ (free few opening drbg) granted), ?_⟩,
    fun full => ⟨_, congrArg Host.Outcome.next (busy (by simp [State.openBusy, full])), ?_⟩,
    fun few opening drbg refused =>
      ⟨_, congrArg Host.Outcome.next (refuse (free few opening drbg) refused), State.refuseOpening_counts ..⟩⟩
  · have known : (s.withMgmt { s.mgmt with datagrams := d }).credential id = some c := cred
    have adds :=
      (s.withMgmt { s.mgmt with datagrams := d }).beginOpening_adds (chan.map (·.val)) id role nonce x25519 ek
    rwa [known] at adds
  · exact ⟨State.field_eq (State.sendOpen_unwired ..) (·.mgmt.sessions) fun _ => rfl, State.sendOpen_out ..⟩

theorem State.closeSession_gone (s : State) (id : BitVec 32) : (s.closeSession id).session id = none := by
  unfold State.session
  rw [State.closeSession_sessions]
  simp

/-- A closed session's transaction is counted where it is rolled back, and nothing else is (R110, R126). -/
theorem State.counter_closeSession (s : State) (id : BitVec 32) {key : Nat} (other : key ≠ 0x1F0006) :
    (s.closeSession id).counter key 0 = s.counter key 0 := by
  unfold State.closeSession State.rollback
  dsimp only
  split
  · split
    · exact State.counter_bump_other _ other 1
    · rfl
  · rfl

theorem open3_follows (id : BitVec 32) (sig : Bytes) (s : State) (x : Session) (known : s.session id = some x)
    (opening : x.opened = false) (serves : s.zynboServes = true) (soon : s.now < x.startedAt + 10000000000) :
    (Config.check (.mldsaVerify 2) [x.pk, pureMsg (ascii "ZYNBO-OPEN") x.transcript, sig] = true →
      Gives (.open3 id sig) s fun t => ∃ y, t.session id = some y ∧ y.opened = true ∧ y.rxHigh = 3 ∧
        y.lastFrame = s.now ∧ ∃ pre post, t.out = s.out ++ pre ++
          [.frame x.inBand 0x04 id (s.open4Payload x.role)] ++ post) ∧
    (Config.check (.mldsaVerify 2) [x.pk, pureMsg (ascii "ZYNBO-OPEN") x.transcript, sig] = false →
      Gives (.open3 id sig) s fun t => t.session id = none ∧
        t.counter 0x290011 0 = s.counter 0x290011 0 + 1) := by
  have judged : s.open3 id sig =
      if mldsaOk 2 x.pk (pureMsg (ascii "ZYNBO-OPEN") x.transcript) sig then
        (s.modSession id fun y => { y with
          opened := true, rxHigh := 3, rxSeen := [1, 2, 3], lastFrame := s.now, lastService := s.now }).sendFrame id 4
          (s.open4Payload x.role)
      else (s.closeSession id).refuseOpening x.credId := by
    unfold State.open3
    rw [known]
    exact if_neg (by simp [opening, serves, soon])
  refine ⟨fun verifies => ⟨_, congrArg Host.Outcome.next (judged.trans (if_pos verifies)), ?_⟩,
    fun fails => ⟨_, congrArg Host.Outcome.next (judged.trans (if_neg (by simp [mldsaOk, fails]))), ?_⟩⟩
  · have opened := State.session_modSession (f := fun y => { y with
      opened := true, rxHigh := 3, rxSeen := [1, 2, 3], lastFrame := s.now, lastService := s.now }) known fun _ => rfl
    obtain ⟨t, out, -, later⟩ := State.sendFrame_open opened 0x04 (s.open4Payload x.role)
    obtain ⟨post, sent⟩ := later.out
    refine ⟨_, State.sendFrame_session opened .., rfl, rfl, rfl, [], post, ?_⟩
    rw [← sent, out, List.append_nil]
    rfl
  · obtain ⟨sessions, -, counted⟩ := (s.closeSession id).refuseOpening_counts x.credId
    refine ⟨?_, counted.trans (congrArg (· + 1) (s.counter_closeSession id (by decide)))⟩
    rw [State.session, sessions]
    exact s.closeSession_gone id

/-! ### Timeouts -/

theorem State.closeSession_now (s : State) (id : BitVec 32) : (s.closeSession id).now = s.now :=
  State.field_eq (s.closeSession_unsent id) State.now fun _ => rfl

/-- A session that closes at its time is gone, and its time has come. -/
theorem State.closeSession_until (s : State) (id : BitVec 32) (at_ : Nat) :
    ((s.until at_).closeSession id).session id = none ∧ at_ ≤ ((s.until at_).closeSession id).now :=
  ⟨State.closeSession_gone .., (s.le_until at_).trans_eq (State.closeSession_now ..).symm⟩

theorem session_timeouts (id : BitVec 32) (s : State) (x : Session) (known : s.session id = some x) :
    (x.opened = false → Gives (.openingTimeout id) s fun t => t.session id = none ∧
      x.startedAt + 10000000000 ≤ t.now) ∧
    (x.opened = true → Gives (.sessionIdleTimeout id) s fun t => t.session id = none ∧
      x.lastFrame + 1000000000 * s.odNum 0x29000E ≤ t.now) := by
  refine ⟨fun opening => ⟨_, congrArg Host.Outcome.next ?_, s.closeSession_until id _⟩,
    fun opened => ⟨_, congrArg Host.Outcome.next ?_, s.closeSession_until id _⟩⟩
  · unfold State.openingTimeout
    rw [known]
    exact if_neg (by simp [opening])
  · unfold State.idleTimeout
    rw [known]
    exact if_pos opened

/-- The state in which a credential's refusals count anew (R105). -/
def State.unblocked (s : State) (id : BitVec 64) : State :=
  { s with mgmt := { s.mgmt with refusals := s.mgmt.refusals.filter (·.credId != id) } }

theorem State.unblocked_now (s : State) (id : BitVec 64) : (s.unblocked id).now = s.now := rfl

theorem State.unblocked_refusals (s : State) (id : BitVec 64) :
    (s.unblocked id).mgmt.refusals.find? (·.credId == id) = none := by
  simp [State.unblocked]

theorem credentialBlockEnd_ends (id : BitVec 64) (s : State) (r : CredRefusal) (b : Nat)
    (known : s.mgmt.refusals.find? (·.credId == id) = some r) (blocked : r.blockedAt = some b) :
    Gives (.credentialBlockEnd id) s fun t =>
      t.mgmt.refusals.find? (·.credId == id) = none ∧ b + 60000000000 ≤ t.now := by
  have ends : s.credentialBlockEnd id = (s.until (b + 60000000000)).unblocked id := by
    unfold State.credentialBlockEnd
    simp only [known, blocked]
    rfl
  refine ⟨_, congrArg Host.Outcome.next ends, State.unblocked_refusals .., ?_⟩
  rw [State.unblocked_now]
  exact s.le_until _

/-! ### Requests that keep the session open -/

theorem keepalive_answers (z : ZReq) (s : State) (x : Session) (req : Requests s z x) :
    Gives (.keepalive z) s fun t => Answered s t z x 0x41 .ok [] ∧ ∃ y, t.session z.session = some y ∧
      y.lastFrame = s.now ∧ y.rxHigh = max x.rxHigh z.seq := by
  refine request_gives rfl req fun d => ⟨.ok [], _, _, rfl, .received req.session d, nothingAfter_quiet,
    fun t done => ?_⟩
  obtain ⟨l, n, session⟩ := done.session
  exact ⟨done.answered, _, session, rfl, rfl⟩

theorem State.subscribe_takes (s : State) (x : Session) {min inst : Nat} (severity : min ≤ 5) (named : inst ≤ 0xFFFF) :
    s.subscribe x min inst = (.ok (le 8 s.warden.nextSeq),
      s.modSession x.id fun y => { y with subSeverity := some min, subInst := inst }) :=
  if_neg (by simp [severity, named])

theorem subscribe_subscribes (z : ZReq) (s : State) (x : Session) (req : Requests s z x) (min inst : Nat)
    (severity : min ≤ 5) (named : inst ≤ 0xFFFF) : Gives (.subscribe z min inst) s fun t =>
      Answered s t z x 0x30 .ok (le 8 s.warden.nextSeq) ∧ ∃ y, t.session z.session = some y ∧
        y.subSeverity = some min ∧ y.subInst = inst := by
  refine request_gives rfl req fun d => ⟨_, _, _, State.subscribe_takes _ _ severity named,
    (Quiet.received req.session d).modSession (State.caller_id req.session) fun _ => ⟨rfl, rfl, rfl, rfl⟩,
    nothingAfter_quiet, fun t done => ?_⟩
  obtain ⟨l, n, session⟩ := done.session
  exact ⟨done.answered, _, session, rfl, rfl⟩

theorem unsubscribe_ends (z : ZReq) (s : State) (x : Session) (req : Requests s z x) :
    Gives (.unsubscribe z) s fun t => Answered s t z x 0x31 .ok [] ∧ ∃ y, t.session z.session = some y ∧
      y.subSeverity = none := by
  refine request_gives rfl req fun d => ⟨_, _, _, rfl,
    (Quiet.received req.session d).modSession (State.caller_id req.session) fun _ => ⟨rfl, rfl, rfl, rfl⟩,
    nothingAfter_quiet, fun t done => ?_⟩
  obtain ⟨l, n, session⟩ := done.session
  exact ⟨done.answered, _, session, rfl⟩

theorem unknownService_answers (z : ZReq) (s : State) (x : Session) (req : Requests s z x) (code : BitVec 8)
    (unknown : knownService code.toNat = false) : Gives (.unknownService (.zynbo z code)) s fun t =>
      Answered s t z x code.toNat .badService [] :=
  request_gives (congrArg Host.Outcome.next (if_neg (by simp [unknown]))) req fun d =>
    ⟨_, _, _, rfl, .received req.session d, nothingAfter_quiet, fun _ done => done.answered⟩

/-! ### Requests whose response something follows -/

theorem close_closes (z : ZReq) (s : State) (x : Session) (req : Requests s z x) :
    Gives (.close z) s fun t => Answered s t z x 0x42 .ok [] ∧ t.session z.session = none := by
  obtain ⟨d, served⟩ := State.serve_received req 0x42 (fun _ s => (.ok [], s)) fun _ s => s.closeSession z.session
  let w : State := (s.received z d).respond z 0x42 (.ok [])
  have gone := w.closeSession_gone z.session
  have stays : (w.closeSession z.session).closeSpent z.session = w.closeSession z.session := by
    rw [State.closeSpent, gone]
  refine ⟨w.closeSession z.session, congrArg Host.Outcome.next (served.trans stays), ?_, gone⟩
  refine State.respond_answered (r := .ok []) (.received req.session d) ?_
  rw [State.closeSession_out]
  exact List.prefix_rfl

theorem State.restartCheck_accepts {s : State} {x : Session} {nonce : BitVec 32} (admin : 3 ≤ x.role)
    (fresh : nonce = s.start.restartNonce) (calm : s.inTransition = false) (unwarned : s.warning = false) :
    s.restartCheck x nonce = (.ok [], s) := by
  unfold State.restartCheck
  rw [if_neg (Nat.not_lt.2 admin), if_neg (by simp [fresh]), if_neg (by simp [calm, unwarned])]

theorem State.restartCheck_stale {s : State} {x : Session} {nonce : BitVec 32} (admin : 3 ≤ x.role)
    (stale : nonce ≠ s.start.restartNonce) : s.restartCheck x nonce = (.refuse .stateConflict, s) :=
  (if_neg (Nat.not_lt.2 admin)).trans (if_pos (bne_iff_ne.2 stale))

/-- A RESTART that a check refuses changes nothing (R124). -/
theorem restart_refused {z : ZReq} {s : State} {x : Session} (req : Requests s z x) {nonce : BitVec 32} {st : Status}
    (refuses : ∀ d, (s.received z d).restartCheck (s.caller z x) nonce = (.refuse st, s.received z d))
    (refusal : (st == .ok) = false) : Gives (.restart z nonce) s fun t =>
      Answered s t z x 0x40 st [] ∧ t.start.draining = s.start.draining :=
  request_gives rfl req fun d => ⟨_, _, _, refuses d, .received req.session d,
    fun t _ => if_neg (by simpa [Reply.refuse] using refusal),
    fun t done => ⟨done.answered, congrArg Start.draining done.start⟩⟩

theorem State.acceptRestart_drains (s : State) (cred : BitVec 64) : SendsOn s (s.acceptRestart cred) ∧
    (s.acceptRestart cred).start.draining.isSome = true := by
  unfold State.acceptRestart
  extract_lets t u
  have told : SendsOn s t := (s.event_sendsOn ..).trans (.of_eq rfl rfl)
  have ended : SendsOn s u := told.trans t.endCard_sendsOn
  split
  · next drains => exact ⟨ended, drains⟩
  · exact ⟨ended.trans (.of_eq rfl rfl), rfl⟩

theorem restart_accepted (z : ZReq) (s : State) (x : Session) (req : Requests s z x) (nonce : BitVec 32)
    (admin : 3 ≤ x.role) (fresh : nonce = s.start.restartNonce) (calm : s.lc.transition = none)
    (unwarned : s.warning = false) : Gives (.restart z nonce) s fun t =>
      Answered s t z x 0x40 .ok [] ∧ t.start.draining.isSome = true := by
  obtain ⟨d, served⟩ := State.serve_received req 0x40 (fun x s => s.restartCheck x nonce) fun r t =>
    if r.status == .ok then t.acceptRestart (((s.session z.session).map (·.credId)).getD 0) else t
  have accepts : (s.received z d).restartCheck (s.caller z x) nonce = (.ok [], s.received z d) :=
    State.restartCheck_accepts (s := s.received z d) (x := s.caller z x) admin fresh
      (congrArg Option.isSome calm) unwarned
  let w : State := (s.received z d).respond z 0x40 (.ok [])
  let u : State := w.acceptRestart (((s.session z.session).map (·.credId)).getD 0)
  obtain ⟨later, drains⟩ := w.acceptRestart_drains (((s.session z.session).map (·.credId)).getD 0)
  have then_ : State.replied x z 0x40 (fun r t => if r.status == .ok then
      t.acceptRestart (((s.session z.session).map (·.credId)).getD 0) else t) (.ok [], s.received z d) =
      u.closeSpent z.session := rfl
  refine ⟨u.closeSpent z.session, congrArg Host.Outcome.next (served.trans (accepts ▸ then_)), ?_, ?_⟩
  · refine State.respond_answered (r := .ok []) (.received req.session d) ?_
    rw [State.closeSpent_out]
    exact later.out
  · exact (State.field_eq (u.closeSpent_unsent _) (·.start.draining.isSome) fun _ => rfl).trans drains

theorem requests_follow (z : ZReq) (s : State) (x : Session) (req : Requests s z x) :
    Gives (.keepalive z) s (fun t => Answered s t z x 0x41 .ok [] ∧ ∃ y, t.session z.session = some y ∧
      y.lastFrame = s.now ∧ y.rxHigh = max x.rxHigh z.seq) ∧
    Gives (.close z) s (fun t => Answered s t z x 0x42 .ok [] ∧ t.session z.session = none) ∧
    (∀ min inst, min ≤ 5 → inst ≤ 0xFFFF → Gives (.subscribe z min inst) s fun t =>
      Answered s t z x 0x30 .ok (le 8 s.warden.nextSeq) ∧ ∃ y, t.session z.session = some y ∧
        y.subSeverity = some min ∧ y.subInst = inst) ∧
    Gives (.unsubscribe z) s (fun t => Answered s t z x 0x31 .ok [] ∧ ∃ y, t.session z.session = some y ∧
      y.subSeverity = none) ∧
    (∀ nonce : BitVec 32, 3 ≤ x.role → nonce = s.start.restartNonce → s.lc.transition = none → s.warning = false →
      Gives (.restart z nonce) s fun t => Answered s t z x 0x40 .ok [] ∧ t.start.draining.isSome = true) ∧
    (∀ nonce : BitVec 32, 3 ≤ x.role → nonce ≠ s.start.restartNonce → Gives (.restart z nonce) s fun t =>
      Answered s t z x 0x40 .stateConflict [] ∧ t.start.draining = s.start.draining) ∧
    (∀ nonce : BitVec 32, x.role < 3 → Gives (.restart z nonce) s fun t =>
      Answered s t z x 0x40 .roleDenied [] ∧ t.start.draining = s.start.draining) ∧
    (∀ code : BitVec 8, knownService code.toNat = false → Gives (.unknownService (.zynbo z code)) s fun t =>
      Answered s t z x code.toNat .badService []) := by
  refine ⟨keepalive_answers z s x req, close_closes z s x req, subscribe_subscribes z s x req,
    unsubscribe_ends z s x req, restart_accepted z s x req,
    fun nonce admin stale => restart_refused req (fun d => ?_) rfl,
    fun nonce lower => restart_refused req (fun d => if_pos lower) rfl, unknownService_answers z s x req⟩
  exact State.restartCheck_stale (s := s.received z d) (x := s.caller z x) admin stale

theorem replayDiscard_counts (id : BitVec 32) (seq : Nat) (ok : Bool) (s : State) :
    (s.session id = none → Gives (.replayDiscard id seq ok) s fun t =>
      t.counter 0x290012 0 = s.counter 0x290012 0 + 1) ∧
    (∀ x, s.session id = some x → (ok = false ∨ x.fresh seq = false) → Gives (.replayDiscard id seq ok) s fun t =>
      t.mgmt = s.mgmt ∧ t.counter (if x.opened then 0x290012 else 0x290011) 0 =
        s.counter (if x.opened then 0x290012 else 0x290011) 0 + 1) := by
  refine ⟨fun unknown => ⟨s.discardProtected, ?_, s.counter_bump ..⟩, fun x known old => ?_⟩
  · refine congrArg Host.Outcome.next ?_
    rw [State.replayDiscard, unknown]
  · refine ⟨s.bump (if x.opened then 0x290012 else 0x290011) 0 1, congrArg Host.Outcome.next ?_, rfl,
      s.counter_bump ..⟩
    have discarded : (ok && x.fresh seq) = false := by
      rcases old with tag | seen
      · rw [tag, Bool.false_and]
      · rw [seen, Bool.and_false]
    rw [State.replayDiscard, known]
    dsimp only
    rw [if_neg (by simp [discarded])]
    split <;> rfl

/-- Settles O37: openings and timeouts are followed through their own operations; a request is followed from its run to
its response, and what the response leaves of the session is what the run made of it. -/
theorem sessionsOpenAnswerAndClose : Obligations.SessionsOpenAnswerAndClose := by
  unfold Obligations.SessionsOpenAnswerAndClose
  exact ⟨open1_follows, open3_follows, session_timeouts, credentialBlockEnd_ends, requests_follow,
    replayDiscard_counts⟩

end Sys2Proof.Machine
end

section
namespace Sys2Proof.Machine

open Sys2Proof Sys2Proof.Claims

/-! ### How a job's result comes to stand -/

/-- How far the job of a slot has come, and its result. -/
def State.outcome (s : State) (k : Nat) : Option (JobPhase × JobResult) := (s.job k).map fun j => (j.phase, j.result)

theorem State.outcome_of_jobs {s t : State} (same : t.jobs = s.jobs) (k : Nat) : t.outcome k = s.outcome k := by
  rw [State.outcome, State.job, same]
  rfl

/-- A change of a job that leaves its phase and its result alone. -/
theorem State.modJob_outcome (s : State) (m k : Nat) (f : Job → Job)
    (keeps : ∀ j, (f j).phase = j.phase ∧ (f j).result = j.result) : (s.modJob m f).outcome k = s.outcome k := by
  unfold State.outcome
  by_cases same : k = m
  · subst same
    rw [State.job_modJob, Option.map_map]
    exact congrArg (Option.map · _) (funext fun j => by simp [keeps])
  · rw [s.job_modJob_other same]

theorem State.wipeScoped_outcome (s : State) (m k : Nat) : (s.wipeScoped m).outcome k = s.outcome k := by
  unfold State.wipeScoped
  split
  · rfl
  · dsimp only
    rw [State.modJob_outcome]
    · refine State.forEach_keeps (·.outcome k) (fun t x => ?_) ..
      split
      · split
        · exact State.outcome_of_jobs (t.removeRecord_jobs x) k
        · rfl
      · rfl
    · exact fun _ => ⟨rfl, rfl⟩

theorem State.markWaits_outcome (s : State) (i q k : Nat) : (s.markWaits i q).outcome k = s.outcome k := by
  unfold State.markWaits
  split
  · rfl
  · dsimp only
    split
    · refine State.forEach_keeps (·.outcome k) (fun t x => ?_) ..
      exact State.modJob_outcome _ _ _ _ fun _ => ⟨rfl, rfl⟩
    · rfl

theorem State.releaseUnits_outcome (s : State) (m k : Nat) : (s.releaseUnits m).outcome k = s.outcome k := by
  unfold State.releaseUnits
  split
  · rfl
  · dsimp only
    rw [State.modJob_outcome]
    · refine State.outcome_of_jobs (s := s) ?_ k
      change State.jobs (match _ with | some r => s.clearRegion r | none => s) = s.jobs
      split
      · exact State.field_eq (s.clearRegion_unstored _) State.jobs fun _ => rfl
      · rfl
    · exact fun _ => ⟨rfl, rfl⟩

theorem State.closeLast_outcome (s : State) (j : Job) (k : Nat) : (s.closeLast j).outcome k = s.outcome k :=
  State.outcome_of_jobs (by unfold State.closeLast; split <;> rfl) k

/-- A job that the collector takes is finished with the result it has (R24). -/
theorem State.collect_outcome {s : State} {k : Nat} {p : JobPhase} {r : JobResult} (has : s.outcome k = some (p, r)) :
    (s.collect k).outcome k = some (.finished, r) := by
  obtain ⟨j, known, same⟩ := Option.map_eq_some_iff.1 has
  cases same
  unfold State.collect
  rw [known]
  dsimp only
  rw [State.markWaits_outcome, State.outcome, State.job_modJob, Option.map_map]
  have wiped := s.wipeScoped_outcome k k
  rw [has] at wiped
  obtain ⟨j', known', same'⟩ := Option.map_eq_some_iff.1 wiped
  rw [known']
  exact congrArg (fun r => some (JobPhase.finished, r)) (Prod.mk.inj same').2

theorem stands_of_outcome {t : State} {k : Nat} {p : JobPhase} {r : JobResult} {P : JobResult → Prop}
    (has : t.outcome k = some (p, r)) (ended : p = .ready ∨ p = .finished) (holds : P r) : Stands t k P := by
  obtain ⟨j, known, same⟩ := Option.map_eq_some_iff.1 has
  cases same
  exact ⟨j, known, ended, holds⟩

/-- A job that has no result yet and ends with one: it stands with the shield or with the collector (R206). -/
theorem State.endWith_stands {s : State} {k : Nat} {j : Job} (known : s.job k = some j) (ready : j.phase ≠ .ready)
    (finished : j.phase ≠ .finished) (res : JobResult) : Stands (s.endWith k res) k (· = res) := by
  have has : ((s.closeLast j).releaseUnits k).outcome k = some (j.phase, j.result) := by
    rw [State.releaseUnits_outcome, State.closeLast_outcome, State.outcome, known]
    rfl
  obtain ⟨j', known', -⟩ := Option.map_eq_some_iff.1 has
  have settled : (((s.closeLast j).releaseUnits k).settle k res).outcome k = some (.ready, res) := by
    unfold State.settle
    rw [known']
    dsimp only
    have counted (c : Bool) (t : State) (n : Nat) :
        (t.when c fun t => t.bump 0x200016 n 1).outcome k = t.outcome k := by
      unfold State.when
      split <;> rfl
    rw [counted, counted, State.outcome, State.job_modJob, known']
    rfl
  unfold State.endWith
  rw [known]
  dsimp only
  rw [if_neg (by simp [ready, finished])]
  split
  · exact stands_of_outcome settled (.inl rfl) rfl
  · exact stands_of_outcome (State.collect_outcome settled) (.inr rfl) rfl

/-- A job that is aborted stands with the collector (R35). -/
theorem State.abortJob_stands {s : State} {k : Nat} {j : Job} (known : s.job k = some j)
    (finished : j.phase ≠ .finished) (d : Nat) : Stands (s.abortJob k d) k fun r => r.status = .aborted ∧ r.detail = BitVec.ofNat 64 d := by
  have has : (((s.unstream j).closeLast j).releaseUnits k).outcome k = some (j.phase, j.result) := by
    rw [State.releaseUnits_outcome, State.closeLast_outcome]
    exact congrArg (Option.map fun j => (j.phase, j.result)) known
  obtain ⟨j', known', -⟩ := Option.map_eq_some_iff.1 has
  unfold State.abortJob
  rw [known]
  dsimp only
  rw [if_neg (by simp [finished])]
  refine stands_of_outcome (State.collect_outcome (p := j'.phase)
    (r := { status := .aborted, detail := BitVec.ofNat 64 d }) ?_) (.inr rfl) ⟨rfl, rfl⟩
  rw [State.outcome, State.job_modJob, known']
  rfl

/-! ### The translation cache -/

theorem atsInvalidateRequest_removes (i : Fin 1024) (a n : BitVec 64) (s : State) :
    Gives (.atsInvalidateRequest i a n) s fun t =>
      (∀ e, e ∈ t.trans.atc ↔
        e ∈ s.trans.atc ∧ ¬(e.inst = i.val ∧ e.base < a.toNat + n.toNat ∧ a.toNat < e.base + e.len)) ∧
      t.out = s.out ++ [.invalidateDone i] ∧ t.jobs = s.jobs := by
  refine ⟨_, rfl, fun e => ?_, rfl, rfl⟩
  simp only [State.atsInvalidate, State.send, AtcEntry.meets, List.mem_filter, Bool.not_eq_true', Bool.and_eq_false_iff,
    beq_eq_false_iff_ne, decide_eq_false_iff_not]
  refine and_congr_right fun _ => ?_
  omega

theorem State.atsCompletion_caches {s : State} {k : Nat} {j : Job} (known : s.job k = some j) (a n : Nat) {r w : Bool}
    (grants : r = true ∨ w = true) : (s.atsCompletion k a n r w).jobs = s.jobs ∧
      ∃ e ∈ (s.atsCompletion k a n r w).trans.atc, e.inst = j.inst ∧ e.base = a ∧ e.len = n ∧ e.read = r ∧
        e.write = w ∧ e.since = s.now := by
  unfold State.atsCompletion
  rw [known]
  dsimp only
  rw [if_pos (by simpa using grants)]
  exact ⟨rfl, _, List.mem_append_right _ (List.mem_singleton.2 rfl), rfl, rfl, rfl, rfl, rfl, rfl⟩

theorem State.atsCompletion_denies {s : State} {k : Nat} {j : Job} (known : s.job k = some j) (a n : Nat) :
    s.atsCompletion k a n false false = s.denyTranslation k a j := by
  unfold State.atsCompletion
  rw [known]
  rfl

theorem State.denyTranslation_stands {s : State} {k : Nat} {j : Job} (known : s.job k = some j) (a : Nat) :
    (j.phase = .dispatched ∨ j.phase = .pinned → Stands (s.denyTranslation k a j) k fun x =>
      x.status = .translationFault ∧ x.detail = BitVec.ofNat 64 (a % 2 ^ 48)) ∧
    (j.phase = .running ∨ j.phase = .computed → Stands (s.denyTranslation k a j) k fun x =>
      x.status = .aborted ∧ x.detail = BitVec.ofNat 64 (3 + 256 * (a % 2 ^ 48))) := by
  have faults (ready : j.phase ≠ .ready) (finished : j.phase ≠ .finished) :
      Stands (s.endJob k .translationFault (a % 2 ^ 48)) k fun x =>
        x.status = .translationFault ∧ x.detail = BitVec.ofNat 64 (a % 2 ^ 48) := by
    obtain ⟨x, known', ended, same⟩ := State.endWith_stands known ready finished
      { status := .translationFault, detail := BitVec.ofNat 64 (a % 2 ^ 48) }
    exact ⟨x, known', ended, same ▸ ⟨rfl, rfl⟩⟩
  unfold State.denyTranslation
  constructor
  · rintro (phase | phase) <;> rw [phase] <;> exact faults (by simp [phase]) (by simp [phase])
  · rintro (phase | phase) <;> rw [phase] <;> exact State.abortJob_stands known (by simp [phase]) _

theorem atsTranslationCompletion_follows (k : Fin 16384) (a n : BitVec 64) (r w : Bool) (s : State) (j : Job)
    (known : s.job k = some j) :
    (r = true ∨ w = true → Gives (.atsTranslationCompletion k a n r w) s fun t => t.jobs = s.jobs ∧
      ∃ e ∈ t.trans.atc, e.inst = j.inst ∧ e.base = a.toNat ∧ e.len = n.toNat ∧ e.read = r ∧ e.write = w ∧
        e.since = s.now) ∧
    (r = false → w = false →
      (j.phase = .dispatched ∨ j.phase = .pinned → Gives (.atsTranslationCompletion k a n r w) s fun t =>
        Stands t k fun x => x.status = .translationFault ∧ x.detail = BitVec.ofNat 64 (a.toNat % 2 ^ 48)) ∧
      (j.phase = .running ∨ j.phase = .computed → Gives (.atsTranslationCompletion k a n r w) s fun t =>
        Stands t k fun x => x.status = .aborted ∧
          x.detail = BitVec.ofNat 64 (3 + 256 * (a.toNat % 2 ^ 48)))) := by
  refine ⟨fun grants => ⟨_, rfl, State.atsCompletion_caches known _ _ grants⟩, ?_⟩
  rintro rfl rfl
  have op : exec (.atsTranslationCompletion k a n false false) s = .next (s.denyTranslation k a.toNat j) :=
    congrArg Host.Outcome.next (State.atsCompletion_denies known _ _)
  obtain ⟨before, once⟩ := State.denyTranslation_stands known a.toNat
  exact ⟨fun phase => ⟨_, op, before phase⟩, fun phase => ⟨_, op, once phase⟩⟩

/-- The state without the cached translations of an address (R152). -/
def State.uncached (s : State) (i iova : Nat) : State :=
  { s with trans := { s.trans with atc := s.trans.atc.filter fun e => !(e.inst == i && e.meets iova 1) } }

theorem State.uncached_now (s : State) (i iova : Nat) : (s.uncached i iova).now = s.now := rfl

theorem State.mem_uncached {s : State} {i iova : Nat} {x : AtcEntry} (left : x ∈ (s.uncached i iova).trans.atc) :
    x ∈ s.trans.atc ∧ (x.inst ≠ i ∨ iova < x.base ∨ x.base + x.len ≤ iova) := by
  obtain ⟨listed, missed⟩ := List.mem_filter.1 left
  refine ⟨listed, ?_⟩
  simp only [AtcEntry.meets, Bool.not_eq_true', Bool.and_eq_false_iff, beq_eq_false_iff_ne,
    decide_eq_false_iff_not] at missed
  omega

theorem State.until_trans (s : State) (n : Nat) : (s.until n).trans = s.trans := rfl

theorem atsTranslationExpiry_expires (i : Fin 1024) (a : BitVec 64) (s : State) (e : AtcEntry)
    (known : s.trans.atc.find? (fun e => e.inst == i.val && e.meets a.toNat 1) = some e) :
    Gives (.atsTranslationExpiry i a) s fun t => e.since + 1000000000 ≤ t.now ∧
      ∀ x ∈ t.trans.atc, x ∈ s.trans.atc ∧ (x.inst ≠ i.val ∨ a.toNat < x.base ∨ x.base + x.len ≤ a.toNat) := by
  have expires : s.atsExpire i a.toNat = (s.until (e.since + 1000000000)).uncached i a.toNat := by
    unfold State.atsExpire
    simp only [known]
    rfl
  refine ⟨_, congrArg Host.Outcome.next expires, ?_, fun x left => ?_⟩
  · rw [State.uncached_now]
    exact s.le_until _
  · have listed := State.mem_uncached left
    rwa [State.until_trans] at listed

/-! ### Device time -/

theorem State.measureTime_follows (s : State) (offset : Int) (time : Nat) (locked : Bool) :
    (s.measureTime offset time locked).clk.offsetNs = offset ∧
      (locked = true → (s.measureTime offset time locked).clk.timeState = 2 ∧
        (s.measureTime offset time locked).clk.devTime = some (time % 2 ^ 64)) ∧
      (locked = false → (s.measureTime offset time locked).clk.devTime = s.clk.devTime) := by
  refine ⟨rfl, ?_, ?_⟩
  · rintro rfl
    exact ⟨rfl, rfl⟩
  · rintro rfl
    rfl

theorem ptmDialogue_measures (p : Fin 4) (offset : Int) (time : Nat) (locked : Bool) (s : State)
    (listed : p.val < s.ports.length) : Gives (.ptmDialogue p offset time locked) s fun t =>
      (t.port p).ptm = (s.port p).linkUp ∧
      (s.odNum 0x290020 = p.val + 2 → (s.port p).linkUp = true → t.clk.offsetNs = offset ∧
        (locked = true → t.clk.timeState = 2 ∧ t.clk.devTime = some (time % 2 ^ 64)) ∧
        (locked = false → t.clk.devTime = s.clk.devTime)) ∧
      (s.odNum 0x290020 ≠ p.val + 2 → t.clk = s.clk) := by
  let u : State := s.modPort p fun t => { t with ptm := t.linkUp }
  have port : u.port p = { s.port p with ptm := (s.port p).linkUp } := State.port_modPort_same listed _
  have op : exec (.ptmDialogue p offset time locked) s =
      .next (if s.odNum 0x290020 = p.val + 2 && (s.port p).linkUp then u.measureTime offset time locked else u) := by
    have up : (u.port p).linkUp = (s.port p).linkUp := by rw [port]
    rw [← up]
    rfl
  refine ⟨_, op, ?_, fun source up => ?_, fun other => ?_⟩
  · have ptm : (u.port p).ptm = (s.port p).linkUp := by rw [port]
    split
    · exact ptm
    · exact ptm
  · rw [if_pos (by simp [source, up])]
    exact u.measureTime_follows offset time locked
  · rw [if_neg (by simp [other])]
    rfl

theorem State.discardFrame_counted (s : State) :
    s.discardFrame.counter 0x290010 0 = s.counter 0x290010 0 + 1 := s.counter_bump ..

theorem ptpMessage_measures (gm : BitVec 64) (domain vlan time : Nat) (offset : Int) (locked : Bool) (s : State) :
    (vlan ≠ s.odNum 0x290009 → Gives (.ptpMessage gm domain vlan time offset locked) s fun t => t.clk = s.clk ∧
      t.counter 0x290010 0 = s.counter 0x290010 0 + 1) ∧
    (vlan = s.odNum 0x290009 → s.odNum 0x290020 = 1 → domain = s.odNum 0x290023 →
      Gives (.ptpMessage gm domain vlan time offset locked) s fun t => t.clk.gmIdentity = gm ∧
        t.clk.offsetNs = offset ∧ (locked = true → t.clk.timeState = 2 ∧ t.clk.devTime = some (time % 2 ^ 64))) ∧
    (vlan = s.odNum 0x290009 → s.odNum 0x290020 ≠ 1 →
      exec (.ptpMessage gm domain vlan time offset locked) s = .next s) := by
  have op : exec (.ptpMessage gm domain vlan time offset locked) s =
      .next (if !s.vlanOk vlan then s.discardFrame
        else if s.odNum 0x290020 = 1 && domain = s.odNum 0x290023 then
          { s.measureTime offset time locked with
            clk := { (s.measureTime offset time locked).clk with gmIdentity := gm } }
        else s) := rfl
  refine ⟨fun other => ⟨_, op.trans (congrArg _ (if_pos (by simp [State.vlanOk, other]))), rfl, s.discardFrame_counted⟩,
    fun own ptp named => ?_, fun own source => ?_⟩
  · obtain ⟨offset_, locks, -⟩ := s.measureTime_follows offset time locked
    refine ⟨_, op.trans (congrArg _ ((if_neg ?_).trans (if_pos ?_))), rfl, offset_, locks⟩
    · simp [State.vlanOk, own]
    · simp [ptp, named]
  · refine op.trans (congrArg _ ((if_neg ?_).trans (if_neg ?_)))
    · simp [State.vlanOk, own]
    · simp [source]

theorem ptpSourceLost_holds (s : State) (ptp : s.odNum 0x290020 = 1) (time : s.clk.devTime.isSome = true)
    (locked : s.clk.timeState = 2) :
    Gives .ptpSourceLost s fun t => t.clk = { s.clk with timeState := 3, holdoverSince := s.now } := by
  refine ⟨{ s with clk := { s.clk with timeState := 3, holdoverSince := s.now } },
    congrArg Host.Outcome.next ((if_pos ptp).trans ?_), rfl⟩
  exact if_pos (by simp [time, locked])

theorem ptmDisabled_follows (p : Fin 4) (s : State) (listed : p.val < s.ports.length) :
    Gives (.ptmDisabled p) s fun t => (t.port p).ptm = false ∧
      (s.odNum 0x290020 = p.val + 2 → s.clk.devTime.isSome = true → t.clk.timeState = 3) ∧
      (s.odNum 0x290020 ≠ p.val + 2 → t.clk = s.clk) := by
  let u : State := s.modPort p fun t => { t with ptm := false }
  have port : u.port p = { s.port p with ptm := false } := State.port_modPort_same listed _
  have lost : u.ptmLost p = if s.odNum 0x290020 = p.val + 2 && s.clk.devTime.isSome then
      { u with clk := { s.clk with timeState := 3, holdoverSince := s.now } } else u := rfl
  refine ⟨u.ptmLost p, rfl, ?_, fun source time => ?_, fun other => ?_⟩
  · have ptm : (u.port p).ptm = false := by rw [port]
    rw [lost]
    split
    · exact ptm
    · exact ptm
  · rw [lost, if_pos (by simp [source, time])]
  · rw [lost, if_neg (by simp [other])]
    rfl

/-- The state whose device time runs free (R128). -/
def State.freeRun (s : State) : State := { s with clk := { s.clk with timeState := 0 } }

theorem holdoverLimit_ends (s : State) (time : s.clk.devTime.isSome = true) (held : s.clk.timeState = 3) :
    Gives .holdoverLimit s fun t => t.clk.timeState = 0 ∧
      s.clk.holdoverSince + 1000000000 * s.odNum 0x290024 ≤ t.now ∧ (logTakes s 2 → Logged s t .timeFreeRun) := by
  let u : State := (s.until (s.clk.holdoverSince + 1000000000 * s.odNum 0x290024)).freeRun
  have clk : (u.event .timeFreeRun []).clk = u.clk := u.event_keeps State.clk (fun _ _ _ _ _ => rfl) ..
  have ends : s.holdoverLimit = u.event .timeFreeRun [] := by
    unfold State.holdoverLimit
    rw [if_pos (by simp [time, held])]
    rfl
  refine ⟨u.event .timeFreeRun [], congrArg Host.Outcome.next ends, congrArg Clock.timeState clk, ?_,
    fun takes => logged_event (s := u) (c := .timeFreeRun) takes []⟩
  exact (s.le_until _).trans_eq (congrArg Clock.uptimeNs clk).symm

/-! ### The management port -/

theorem addressResolution_answers (v6 : Bool) (a : Bytes) (vlan : Nat) (s : State) :
    (vlan ≠ s.odNum 0x290009 → Gives (.addressResolution v6 a vlan) s fun t => t.out = s.out ∧
      t.counter 0x290010 0 = s.counter 0x290010 0 + 1) ∧
    (vlan = s.odNum 0x290009 → s.ownAddress v6 a = true →
      Gives (.addressResolution v6 a vlan) s fun t => t.out = s.out ++ [.resolved v6 a]) ∧
    (vlan = s.odNum 0x290009 → s.ownAddress v6 a = false → exec (.addressResolution v6 a vlan) s = .next s) := by
  have op : exec (.addressResolution v6 a vlan) s = .next (if !s.vlanOk vlan then s.discardFrame
      else if s.ownAddress v6 a then s.send (.resolved v6 a) else s) := rfl
  have tagged (own : vlan = s.odNum 0x290009) : ¬(!s.vlanOk vlan) = true := by simp [State.vlanOk, own]
  exact ⟨fun other =>
      ⟨_, op.trans (congrArg _ (if_pos (by simp [State.vlanOk, other]))), rfl, s.discardFrame_counted⟩,
    fun own mine => ⟨_, op.trans (congrArg _ ((if_neg (tagged own)).trans (if_pos mine))), rfl⟩,
    fun own strange => op.trans (congrArg _ ((if_neg (tagged own)).trans (if_neg (by simp [strange]))))⟩

theorem mgmtTxSubmit_takes (p : Fin 4) (n : BitVec 32) (s : State) (listed : p.val < s.ports.length) :
    Gives (.mgmtTxSubmit p n) s fun t => (t.port p).txLen = n ∧ (t.port p).txBusy = false ∧
      (t.port p).rxFrame = (s.port p).rxFrame := by
  have port := State.port_modPort_same listed fun t : Port => { t with txLen := n, txBusy := false }
  exact ⟨_, rfl, congrArg Port.txLen port, congrArg Port.txBusy port, (congrArg Port.rxFrame port :)⟩

theorem State.portEvent_rx (s : State) (p : Nat) (e : PortEvent) :
    ((s.portEvent p e).port p).rxFrame = (s.port p).rxFrame ∧
      ((s.portEvent p e).port p).rxQueue = (s.port p).rxQueue := by
  have quiet : ((s.portEvent p e).port p).quiet = (s.port p).quiet :=
    State.port_quiet (congrArg State.ports (s.portEvent_unreset p e)) p
  exact ⟨(congrArg Port.rxFrame quiet :), (congrArg Port.rxQueue quiet :)⟩

/-- The frame that waits longest takes the window (R141). -/
theorem mgmtRxAck_frees (p : Fin 4) (s : State) (listed : p.val < s.ports.length) :
    Gives (.mgmtRxAck p 1) s fun t => (t.port p).rxFrame = (s.port p).rxQueue.head? ∧
      (t.port p).rxQueue = (s.port p).rxQueue.tail := by
  refine ⟨s.rxAck p, rfl, ?_⟩
  unfold State.rxAck
  split
  · next empty =>
    rw [State.port_modPort_same listed, empty]
    exact ⟨rfl, rfl⟩
  · next f r waits =>
    obtain ⟨frame, queue⟩ := State.portEvent_rx
      (s.modPort p fun t => { t with rxFrame := some f, rxQueue := r }) p .mgmtRx
    rw [frame, queue, State.port_modPort_same listed, waits]
    exact ⟨rfl, rfl⟩

/-- Settles O43: a denied translation ends its job with a result that is followed to the shield or the collector; device
time, the cache and the window are each changed by one operation of their own. -/
theorem translationsAndTimeFollowTheirSources : Obligations.TranslationsAndTimeFollowTheirSources := by
  unfold Obligations.TranslationsAndTimeFollowTheirSources
  exact ⟨atsInvalidateRequest_removes, atsTranslationCompletion_follows, atsTranslationExpiry_expires,
    ptmDialogue_measures, ptpMessage_measures, ptpSourceLost_holds, ptmDisabled_follows, holdoverLimit_ends,
    addressResolution_answers, fun s => ⟨_, rfl, s.discardFrame_counted, rfl⟩, fun n s => ⟨_, rfl, rfl, rfl⟩,
    mgmtTxSubmit_takes, mgmtRxAck_frees, fun p v s other => congrArg _ (if_neg other)⟩

end Sys2Proof.Machine
end

section
namespace Sys2Proof.Machine

open Sys2Proof Sys2Proof.Claims

/-! ### What a request's checks see -/

/-- What a request's acceptance notes is no part of the checks on an entry (R113). -/
theorem State.received_entryCheck (s : State) (z : ZReq) (x : Session) (d : List Nat) (k : OdKey) (reading : Bool) :
    (s.received z d).entryCheck (s.caller z x) k reading = s.entryCheck x k reading := rfl

theorem State.noted_entryCheck (s : State) (z : ZReq) (x : Session) (d : List Nat) (k : OdKey) (reading : Bool) :
    (s.noted z x d).entryCheck (s.caller z x) k reading = s.entryCheck x k reading := rfl

/-- Whether another session holds a DOMAIN entry in a block transfer, whatever else changes in a session (R116). -/
theorem State.blockBusy_modSession (s : State) (id : BitVec 32) {f : Session → Session}
    (keeps : ∀ y, (f y).id = y.id ∧ (f y).block = y.block) (x : Session) (key : Nat) (d : EntryDef) :
    (s.modSession id f).blockBusy x key d = s.blockBusy x key d := by
  unfold State.blockBusy State.modSession
  rw [List.any_map]
  refine congrArg (fun p => d.ty.isDomain && s.mgmt.sessions.any p) (funext fun y => ?_)
  rw [Function.comp_apply]
  split
  · rw [(keeps y).1, (keeps y).2]
  · rfl

theorem State.noted_blockBusy (s : State) (z : ZReq) (x : Session) (n : List Nat) (key : Nat) (d : EntryDef) :
    (s.noted z x n).blockBusy (s.caller z x) key d = s.blockBusy x key d := by
  have noted := (s.received z n).blockBusy_modSession (s.caller z x).id
    (f := fun y => { y with lastService := s.now }) (fun _ => ⟨rfl, rfl⟩) (s.caller z x) key d
  have accepted := (s.withMgmt { s.mgmt with datagrams := n }).blockBusy_modSession z.session
    (f := fun y => y.accept z.seq s.now) (fun _ => ⟨rfl, rfl⟩) (s.caller z x) key d
  exact noted.trans accepted

/-! ### The services of a block transfer -/

/-- The state in which a block transfer of a session stands, or none does (R116). -/
theorem Quiet.setBlock {s v : State} {z : ZReq} {x y : Session} (quiet : Quiet s z x v y)
    (known : s.session z.session = some x) (b : Option BlockTransfer) :
    Quiet s z x (v.setBlock (s.caller z x) b) { y with block := b } :=
  quiet.modSession (State.caller_id known) (f := fun y => { y with block := b }) fun _ => ⟨rfl, rfl, rfl, rfl⟩

theorem State.openBlock_reads {s : State} {x : Session} {key : Nat} {d : EntryDef} (reads : d.access ≠ .wo)
    (free : s.blockBusy x key d = false) (none : x.block = none) (total : Nat) :
    s.openBlock x key d false total = (.ok (blockHead (s.valueFor x key).length),
      s.setBlock x (some { key := key, total := (s.valueFor x key).length, snapshot := s.valueFor x key
                           lastData := s.now })) := by
  unfold State.openBlock
  simp [reads, free, none]

theorem State.openBlock_writes {s : State} {x : Session} {key total : Nat} {d : EntryDef} (writes : d.access ≠ .ro)
    (size : d.ty.sizeOk total = true) (length : lengthOk key total = true) (free : s.blockBusy x key d = false)
    (none : x.block = none) (serves : s.halted = false) :
    s.openBlock x key d true total = (.ok (blockHead total),
      s.setBlock x (some { key := key, write := true, total := total, lastData := s.now })) := by
  unfold State.openBlock State.gate
  simp [writes, size, length, free, none, serves]

theorem State.inBlock_runs {s : State} {x : Session} {k : OdKey} {b : BlockTransfer} {d : EntryDef}
    {run : BlockTransfer → EntryDef → State → Reply × State} (has : x.block = some b) (key : b.key = OdKey.num k)
    (check : (s.noteService x).entryCheck x k (!b.write) = .ok d) : s.inBlock x k run = run b d (s.noteService x) := by
  unfold State.inBlock
  simp only [has, check]
  exact if_neg (by simp [key])

/-- A transfer has a segment where its value reaches into it (R115). -/
theorem BlockTransfer.count_le_iff (b : BlockTransfer) (n : Nat) : b.count ≤ n ↔ b.total ≤ 1024 * n := by
  unfold BlockTransfer.count ceilDiv
  omega

theorem State.blockData_beyond {s : State} {x : Session} {b : BlockTransfer} {n : Nat} (beyond : b.total ≤ 1024 * n)
    (data : Bytes) : s.blockData x b n data =
      (.refuse .lengthMismatch, s.setBlock x (some { b with lastData := s.now })) := by
  unfold State.blockData
  exact if_pos ((b.count_le_iff n).2 beyond)

theorem State.blockData_answers {s : State} {x : Session} {b : BlockTransfer} {n : Nat} (within : 1024 * n < b.total)
    (reads : b.write = false) (data : Bytes) : s.blockData x b n data =
      (.ok (fields [(2, n), (2, 0)] ++ slice (1024 * n) (b.segLen n) b.snapshot),
        s.setBlock x (some { b with lastData := s.now })) := by
  unfold State.blockData
  dsimp only
  rw [if_neg (by rw [b.count_le_iff]; omega), if_pos (by simp [reads])]

theorem State.blockData_keeps {s : State} {x : Session} {b : BlockTransfer} {n : Nat} {data : Bytes}
    (within : 1024 * n < b.total) (writes : b.write = true) (length : data.length = b.segLen n) :
    s.blockData x b n data = (.ok (fields [(2, n), (2, 0)]),
      (s.setBlock x (some { b with lastData := s.now })).setBlock x
        (some { b with lastData := s.now, segs := put n data b.segs })) := by
  unfold State.blockData
  dsimp only
  rw [if_neg (by rw [b.count_le_iff]; omega), if_neg (by simp [writes]), if_neg (by simp [length])]
  rfl

theorem State.closeBlock_reads {s : State} {x : Session} {b : BlockTransfer} (reads : b.write = false) (d : EntryDef)
    (digest : Bytes) : s.closeBlock x b d digest = (.ok (sha3_256 b.snapshot), s.setBlock x none) := by
  unfold State.closeBlock
  rw [if_pos (by simp [reads])]

theorem State.closeBlock_differs {s : State} {x : Session} {b : BlockTransfer} {v digest : Bytes}
    (writes : b.write = true) (plain : isCredential b.key = false) (content : b.content = some v)
    (differs : sha3_256 v ≠ digest) (d : EntryDef) :
    s.closeBlock x b d digest = (.refuse .digestMismatch, s) := by
  unfold State.closeBlock
  simp [writes, plain, content, differs]

theorem State.closeBlock_lacks {s : State} {x : Session} {b : BlockTransfer} (writes : b.write = true)
    (plain : isCredential b.key = false) (content : b.content = none) (d : EntryDef) (digest : Bytes) :
    s.closeBlock x b d digest = (.refuse .lengthMismatch, s) := by
  unfold State.closeBlock
  simp [writes, plain, content]

/-! ### Openings, segments and ends -/

theorem blockOpen_reads (z : ZReq) (k : OdKey) (s : State) (x : Session) (req : Requests s z x) (d : EntryDef)
    (check : s.entryCheck x k true = .ok d) (reads : d.access ≠ .wo) (free : s.blockBusy x (keyNum k) d = false)
    (none : x.block = none) : Gives (.blockOpen z k 0 0) s fun t => ∃ y b, t.session z.session = some y ∧
      y.block = some b ∧ b.key = keyNum k ∧ b.write = false ∧ b.total = b.snapshot.length ∧ b.lastData = s.now ∧
      Answered s t z x 0x20 .ok (fields [(4, b.snapshot.length), (2, 1024)]) := by
  refine request_gives rfl req fun n => ?_
  have opens := State.openBlock_reads (s := s.noted z x n) (x := s.caller z x) reads
    (by rw [State.noted_blockBusy, free]) none 0
  refine ⟨_, _, _, Eq.trans ?_ opens, (Quiet.noted req.session n).setBlock req.session _, nothingAfter_quiet,
    fun t done => ?_⟩
  · dsimp only
    rw [show (0 == 0) = true from rfl, State.noted_entryCheck, check]
    rfl
  · obtain ⟨l, m, session⟩ := done.session
    exact ⟨_, _, session, rfl, rfl, rfl, rfl, rfl, done.answered⟩

theorem blockOpen_writes (z : ZReq) (k : OdKey) (s : State) (x : Session) (req : Requests s z x) (d : EntryDef)
    (total : Nat) (check : s.entryCheck x k false = .ok d) (writes : d.access ≠ .ro)
    (size : d.ty.sizeOk total = true) (length : lengthOk (keyNum k) total = true)
    (free : s.blockBusy x (keyNum k) d = false) (none : x.block = none) (serves : s.halted = false) :
    Gives (.blockOpen z k 1 total) s fun t => ∃ y b, t.session z.session = some y ∧ y.block = some b ∧
      b.key = keyNum k ∧ b.write = true ∧ b.total = total ∧ b.segs = [] ∧
      Answered s t z x 0x20 .ok (fields [(4, total), (2, 1024)]) := by
  refine request_gives rfl req fun n => ?_
  have opens := State.openBlock_writes (s := s.noted z x n) (x := s.caller z x) writes size length
    (by rw [State.noted_blockBusy, free]) none serves
  refine ⟨_, _, _, Eq.trans ?_ opens, (Quiet.noted req.session n).setBlock req.session _, nothingAfter_quiet,
    fun t done => ?_⟩
  · dsimp only
    rw [show (1 == 0) = false from rfl, State.noted_entryCheck, check]
    rfl
  · obtain ⟨l, m, session⟩ := done.session
    exact ⟨_, _, session, rfl, rfl, rfl, rfl, rfl, done.answered⟩

theorem blockData_follows (z : ZReq) (k : OdKey) (s : State) (x : Session) (req : Requests s z x) (b : BlockTransfer)
    (d : EntryDef) (seg : Nat) (data : Bytes) (has : x.block = some b) (key : b.key = keyNum k)
    (check : s.entryCheck x k (!b.write) = .ok d) :
    (1024 * seg < b.total → b.write = true → data.length = min 1024 (b.total - 1024 * seg) →
      Gives (.blockData z k seg data) s fun t => Answered s t z x 0x21 .ok (fields [(2, seg), (2, 0)]) ∧
        ∃ y c, t.session z.session = some y ∧ y.block = some c ∧ look seg c.segs = some data ∧
          c.lastData = s.now) ∧
    (1024 * seg < b.total → b.write = false → Gives (.blockData z k seg data) s fun t =>
      Answered s t z x 0x21 .ok (fields [(2, seg), (2, 0)] ++
        (b.snapshot.drop (1024 * seg)).take (min 1024 (b.total - 1024 * seg)))) ∧
    (b.total ≤ 1024 * seg → Gives (.blockData z k seg data) s fun t =>
      Answered s t z x 0x21 .lengthMismatch []) := by
  have runs (n : List Nat) {run : BlockTransfer → EntryDef → State → Reply × State} :
      (s.received z n).inBlock (s.caller z x) k run = run b d (s.noted z x n) :=
    State.inBlock_runs (s := s.received z n) (x := s.caller z x) has key check
  have quiet (n : List Nat) := Quiet.noted req.session n
  refine ⟨fun within writes length => ?_, fun within reads => ?_, fun beyond => ?_⟩
  · refine request_gives rfl req fun n => ⟨_, _, _, (runs n).trans (State.blockData_keeps within writes length),
      ((quiet n).setBlock req.session _).setBlock req.session _, nothingAfter_quiet, fun t done => ?_⟩
    obtain ⟨l, m, session⟩ := done.session
    exact ⟨done.answered, _, _, session, rfl, look_put_same .., rfl⟩
  · exact request_gives rfl req fun n => ⟨_, _, _, (runs n).trans (State.blockData_answers within reads data),
      (quiet n).setBlock req.session _, nothingAfter_quiet, fun t done => done.answered⟩
  · exact request_gives rfl req fun n => ⟨_, _, _, (runs n).trans (State.blockData_beyond beyond data),
      (quiet n).setBlock req.session _, nothingAfter_quiet, fun t done => done.answered⟩

theorem blockClose_follows (z : ZReq) (k : OdKey) (s : State) (x : Session) (req : Requests s z x) (b : BlockTransfer)
    (d : EntryDef) (digest : Bytes) (has : x.block = some b) (key : b.key = keyNum k)
    (check : s.entryCheck x k (!b.write) = .ok d) :
    (b.write = false → Gives (.blockClose z k digest) s fun t =>
      Answered s t z x 0x22 .ok (sha3_256 b.snapshot) ∧ ∃ y, t.session z.session = some y ∧ y.block = none) ∧
    (∀ v, b.write = true → isCredential b.key = false → b.content = some v → sha3_256 v ≠ digest →
      Gives (.blockClose z k digest) s fun t => Answered s t z x 0x22 .digestMismatch [] ∧ t.od = s.od) ∧
    (b.write = true → isCredential b.key = false → b.content = none →
      Gives (.blockClose z k digest) s fun t => Answered s t z x 0x22 .lengthMismatch [] ∧ t.od = s.od) := by
  have runs (n : List Nat) {run : BlockTransfer → EntryDef → State → Reply × State} :
      (s.received z n).inBlock (s.caller z x) k run = run b d (s.noted z x n) :=
    State.inBlock_runs (s := s.received z n) (x := s.caller z x) has key check
  have quiet (n : List Nat) := Quiet.noted req.session n
  refine ⟨fun reads => ?_, fun v writes plain content differs => ?_, fun writes plain content => ?_⟩
  · refine request_gives rfl req fun n => ⟨_, _, _, (runs n).trans (State.closeBlock_reads reads d digest),
      (quiet n).setBlock req.session _, State.followNetwork_quiet, fun t done => ?_⟩
    obtain ⟨l, m, session⟩ := done.session
    exact ⟨done.answered, _, session, rfl⟩
  · exact request_gives rfl req fun n => ⟨_, _, _,
      (runs n).trans (State.closeBlock_differs writes plain content differs d), quiet n, State.followNetwork_quiet,
      fun t done => ⟨done.answered, done.od⟩⟩
  · exact request_gives rfl req fun n => ⟨_, _, _,
      (runs n).trans (State.closeBlock_lacks writes plain content d digest), quiet n, State.followNetwork_quiet,
      fun t done => ⟨done.answered, done.od⟩⟩

theorem blockAbort_ends (z : ZReq) (s : State) (x : Session) (req : Requests s z x) (b : BlockTransfer)
    (has : x.block = some b) : Gives (.blockAbort z) s fun t => Answered s t z x 0x23 .ok [] ∧
      ∃ y, t.session z.session = some y ∧ y.block = none := by
  have open_ : ¬(s.caller z x).block.isNone = true := by simp [Session.accept, has]
  refine request_gives rfl req fun n => ⟨_, _, _, if_neg open_, (Quiet.noted req.session n).setBlock req.session none,
    nothingAfter_quiet, fun t done => ?_⟩
  obtain ⟨l, m, session⟩ := done.session
  exact ⟨done.answered, _, session, rfl⟩

theorem State.setBlock_now (s : State) (x : Session) (b : Option BlockTransfer) : (s.setBlock x b).now = s.now := rfl

theorem State.until_session (s : State) (n : Nat) (id : BitVec 32) : (s.until n).session id = s.session id := rfl

theorem blockTransferTimeout_ends (id : BitVec 32) (s : State) (x : Session) (b : BlockTransfer)
    (known : s.session id = some x) (has : x.block = some b) :
    Gives (.blockTransferTimeout id) s fun t => b.lastData + 10000000000 ≤ t.now ∧
      ∃ y, t.session id = some y ∧ y.block = none := by
  have ends : s.blockTimeout id = (s.until (b.lastData + 10000000000)).setBlock x none := by
    unfold State.blockTimeout
    simp only [known, has]
  refine ⟨_, congrArg Host.Outcome.next ends, ?_, { x with block := none }, ?_, rfl⟩
  · rw [State.setBlock_now]
    exact s.le_until _
  · have stands := State.session_modSession (f := fun y => { y with block := none })
      ((s.until_session (b.lastData + 10000000000) id).trans known) fun _ => rfl
    rwa [← State.session_id known] at stands ⊢

/-- Settles O39: each service of a transfer runs in the state that has received it, and what it makes of the session's
transfer stands after the response. -/
theorem blockTransfersCarryLongValues : Obligations.BlockTransfersCarryLongValues := by
  unfold Obligations.BlockTransfersCarryLongValues
  exact ⟨fun z k s x req => ⟨blockOpen_reads z k s x req, blockOpen_writes z k s x req,
    blockData_follows z k s x req, blockClose_follows z k s x req, blockAbort_ends z s x req⟩,
    blockTransferTimeout_ends⟩

end Sys2Proof.Machine
end

section
namespace Sys2Proof.Machine

open Sys2Proof Sys2Proof.Claims

/-! ### What goes on beside the sessions

A commit lets the dispatcher run and may stop the pool. Neither closes a session, changes the dictionary or takes back
what has been sent. -/

/-- Between a state and a later one the sessions stand on their channels, no less has been sent, and the transaction and
the dictionary are as they were. -/
structure Steady (s t : State) : Prop extends SendsOn s t where
  txn : t.mgmt.txn = s.mgmt.txn
  od : t.od = s.od

theorem Steady.refl (s : State) : Steady s s := ⟨.refl s, rfl, rfl⟩

theorem Steady.trans {s t u : State} (h : Steady s t) (k : Steady t u) : Steady s u :=
  ⟨h.toSendsOn.trans k.toSendsOn, k.txn.trans h.txn, k.od.trans h.od⟩

theorem Steady.after {s t u : State} (k : Steady t u) (h : Steady s t) : Steady s u := h.trans k

theorem Steady.of_mgmt {s t : State} (out : s.out <+: t.out) (mgmt : t.mgmt = s.mgmt) (od : t.od = s.od) :
    Steady s t :=
  ⟨⟨out, by rw [State.chans, mgmt, State.chans]⟩, by rw [mgmt], od⟩

/-- What changes neither what has been sent, nor the management, nor the dictionary. -/
theorem Steady.of_eq {s t : State} (out : t.out = s.out) (mgmt : t.mgmt = s.mgmt) (od : t.od = s.od) : Steady s t :=
  .of_mgmt (out ▸ List.prefix_rfl) mgmt od

theorem Steady.of_unstored {s t : State} (h : t.unstored = s.unstored) : Steady s t :=
  .of_eq (State.field_eq h State.out fun _ => rfl) (State.field_eq h State.mgmt fun _ => rfl)
    (State.field_eq h State.od fun _ => rfl)

theorem Steady.of_undrawn {s t : State} (h : t.undrawn = s.undrawn) : Steady s t :=
  .of_eq (State.field_eq h State.out fun _ => rfl) (State.field_eq h State.mgmt fun _ => rfl)
    (State.field_eq h State.od fun _ => rfl)

theorem Steady.ite {c : Prop} [Decidable c] {s t u : State} (h : Steady s t) (k : Steady s u) :
    Steady s (if c then t else u) := by
  split <;> assumption

theorem Steady.when {s : State} (c : Bool) {f : State → State} (h : Steady s (f s)) : Steady s (s.when c f) :=
  .ite h (.refl s)

theorem Steady.forEach {α : Type} {f : State → α → State} (l : List α) (s : State) (step : ∀ t x, Steady t (f t x)) :
    Steady s (s.forEach l f) :=
  State.forEach_rec (P := fun t => Steady s t) (Steady.refl s) fun t x _ h => h.trans (step t x)

theorem State.event_steady (s : State) (c : EventCode) (d : Bytes) : Steady s (s.event c d) :=
  .of_undrawn (s.event_keeps State.undrawn (fun _ _ _ _ _ => rfl) c d)

/-! ### Jobs that end -/

theorem State.releaseUnits_steady (s : State) (k : Nat) : Steady s (s.releaseUnits k) := by
  obtain ⟨f, released⟩ := s.releaseUnits_unstored k
  exact (Steady.of_unstored released).after (.of_eq rfl rfl rfl)

theorem State.wipeScoped_steady (s : State) (k : Nat) : Steady s (s.wipeScoped k) := by
  obtain ⟨f, wiped⟩ := s.wipeScoped_unstored k
  exact (Steady.of_unstored wiped).after (.of_eq rfl rfl rfl)

theorem State.markWaits_steady (s : State) (i q : Nat) : Steady s (s.markWaits i q) := by
  unfold State.markWaits
  split
  · exact .refl s
  · dsimp only
    refine .ite (.trans (.forEach _ s fun t x => ?_) (.of_eq rfl rfl rfl)) (.of_eq rfl rfl rfl)
    exact .of_eq rfl rfl rfl

theorem State.collect_steady (s : State) (k : Nat) : Steady s (s.collect k) := by
  unfold State.collect
  split
  · exact .refl s
  · exact (State.markWaits_steady ..).after ((s.wipeScoped_steady k).trans (.of_eq rfl rfl rfl))

theorem State.settle_steady (s : State) (k : Nat) (r : JobResult) : Steady s (s.settle k r) := by
  unfold State.settle
  split
  · exact .refl s
  · exact (Steady.when _ (.of_eq rfl rfl rfl)).after ((Steady.when _ (.of_eq rfl rfl rfl)).after (.of_eq rfl rfl rfl))

theorem State.closeLast_steady (s : State) (j : Job) : Steady s (s.closeLast j) := by
  unfold State.closeLast
  exact .ite (.of_eq rfl rfl rfl) (.refl s)

theorem State.endWith_steady (s : State) (k : Nat) (r : JobResult) : Steady s (s.endWith k r) := by
  unfold State.endWith
  split
  · exact .refl s
  · next j _ =>
    have settled : Steady s (((s.closeLast j).releaseUnits k).settle k r) :=
      ((s.closeLast_steady j).trans (State.releaseUnits_steady ..)).trans (State.settle_steady ..)
    exact .ite (.refl s) (.ite settled (settled.trans (State.collect_steady ..)))

theorem State.endJob_steady (s : State) (k : Nat) (st : Status) (d : Nat) : Steady s (s.endJob k st d) :=
  s.endWith_steady ..

/-! ### The dispatcher -/

theorem State.conflict_steady (s : State) (kind ident inst : Nat) (who : Bytes) :
    Steady s (s.conflict kind ident inst who) :=
  .of_mgmt (s.conflict_sendsOn ..).out (State.field_eq (s.conflict_unworked ..) State.mgmt fun _ => rfl)
    (State.field_eq (s.conflict_unworked ..) State.od fun _ => rfl)

theorem State.refuseState_steady (s : State) (k : Nat) : Steady s (s.refuseState k) := by
  unfold State.refuseState
  split
  · exact .refl s
  · exact (State.conflict_steady ..).trans (State.endJob_steady ..)

theorem State.setIv_steady (s : State) (k u r : Nat) : Steady s (s.setIv k u r) := by
  unfold State.setIv
  exact .ite (.of_eq rfl rfl rfl) (.of_eq rfl rfl rfl)

theorem State.reserveIv_steady (s : State) (k : Nat) (j : Job) : Steady s (s.reserveIv k j) := by
  unfold State.reserveIv
  split
  · split
    · exact .refl s
    · exact (State.setIv_steady ..).trans (.of_eq rfl rfl rfl)
  · exact .refl s

theorem State.drainV_steady (mark n : Nat) (s : State) : Steady s (State.drainV mark n s) := by
  induction n generalizing s with
  | zero => exact .refl s
  | succ n ih =>
    unfold State.drainV
    dsimp only
    split
    · exact .refl s
    · split
      · exact .refl s
      · exact (ih _).after (.of_eq rfl rfl rfl)

theorem State.makeRoomV_steady (s : State) (n : Nat) : Steady s (s.makeRoomV n) := by
  unfold State.makeRoomV
  exact .ite (.refl s) (State.drainV_steady ..)

theorem State.tierVFull_steady (s : State) : Steady s s.tierVFull := by
  unfold State.tierVFull
  extract_lets t due
  exact .ite ((State.event_steady ..).after (.of_eq rfl rfl rfl)) (.of_eq rfl rfl rfl)

theorem State.reservePlaces_steady (s : State) (k : Nat) (j : Job) : Steady s (s.reservePlaces k j) := by
  unfold State.reservePlaces
  dsimp only
  have room := s.makeRoomV_steady (newRecordBytes j.entry)
  exact .ite (.refl s) (.ite (s.refuseState_steady k) (.ite (room.trans (.of_eq rfl rfl rfl))
    ((room.trans (State.tierVFull_steady _)).trans (State.refuseState_steady ..))))

theorem State.checkDispatch_steady (s : State) (k : Nat) : Steady s (s.checkDispatch k) := by
  unfold State.checkDispatch
  split
  · exact .refl s
  · dsimp only
    exact .ite (.refl s) (.ite (s.endJob_steady ..) (.ite (s.refuseState_steady k)
      (.ite ((Steady.when _ (.of_eq rfl rfl rfl)).trans (State.refuseState_steady ..))
        ((s.reserveIv_steady ..).trans (State.reservePlaces_steady ..)))))

theorem State.fetch_steady (s : State) (i q : Nat) : Steady s (s.fetch i q) := by
  unfold State.fetch
  split
  · exact .refl s
  · exact .ite (.of_mgmt (List.prefix_append ..) rfl rfl) (.refl s)

theorem State.claim_steady (s : State) (p i q : Nat) (x : Qp) (e : SqEntry) : Steady s (s.claim p i q x e) := by
  unfold State.claim
  split
  · exact .refl s
  · exact (State.fetch_steady ..).after ((State.checkDispatch_steady ..).after (.of_eq rfl rfl rfl))

theorem State.dispatchN_steady (n : Nat) (s : State) : Steady s (State.dispatchN n s) := by
  induction n generalizing s with
  | zero => exact .refl s
  | succ n ih =>
    unfold State.dispatchN
    split
    · split
      · exact .refl s
      · exact (State.claim_steady ..).trans (ih _)
    · exact .refl s

theorem State.noteWaits_steady (s : State) : Steady s s.noteWaits := by
  refine Steady.forEach _ s fun t h => ?_
  exact .ite (.of_eq rfl rfl rfl) (.ite (.of_eq rfl rfl rfl) (.refl t))

theorem State.dispatch_steady (s : State) : Steady s s.dispatch :=
  (State.dispatchN_steady ..).trans (State.noteWaits_steady _)

/-! ### The pool -/

theorem State.aerFor_steady (s : State) (i : Nat) : Steady s (s.aerFor i) := by
  unfold State.aerFor
  refine .ite (.of_mgmt (List.prefix_append ..) rfl rfl) ?_
  split <;> exact .of_mgmt (List.prefix_append ..) rfl rfl

/-- An uncorrected fault without an escalation of its own (R480, R481). -/
theorem State.openFault_steady (s : State) {f : FaultOf} (calm : (faultRow f.src (f.kind != 0)).2.2 = 0) :
    Steady s (s.openFault f) := by
  have told := (Steady.of_eq rfl rfl rfl : Steady s (s.bump 0x260004 1 1)).trans (State.aerFor_steady _ f.inst)
  have raised (d : Bytes) := told.trans (.of_undrawn (State.raise_keeps State.undrawn (fun _ _ _ _ _ => rfl) _
    .faultOpen (faultRow f.src (f.kind != 0)).1 f.inst d))
  unfold State.openFault
  extract_lets row t u id seq v grace r
  refine .ite ?_ ((raised _).trans (.of_eq rfl rfl rfl))
  rw [show row.2.2 = 0 from calm]
  exact (raised _).trans (.of_eq rfl rfl rfl)

theorem State.stopPool_steady (s : State) : Steady s s.stopPool := by
  unfold State.stopPool
  extract_lets r t u v
  have waiters : Steady s u := (Steady.of_eq rfl rfl rfl : Steady s t).trans
    (.forEach _ t fun w k => (State.endJob_steady ..).after (.of_eq rfl rfl rfl))
  have told : Steady s v := (waiters.trans (State.event_steady ..)).trans (.of_eq rfl rfl rfl)
  exact (told.trans (State.openFault_steady _ rfl)).trans (State.dispatch_steady _)

theorem State.checkPool_steady (s : State) : Steady s s.checkPool := by
  unfold State.checkPool
  refine .ite (.ite ?_ (.of_eq rfl rfl rfl)) (.ite s.stopPool_steady (.refl s))
  exact (Steady.of_undrawn (State.serveBlocks_undrawn _)).after (.of_eq rfl rfl rfl)

theorem State.trimMatrix_steady (limit n : Nat) (s : State) : Steady s (State.trimMatrix limit n s) := by
  induction n generalizing s with
  | zero => exact .refl s
  | succ n ih =>
    unfold State.trimMatrix
    split
    · exact .refl s
    · split
      · exact .refl s
      · exact (ih _).after (.of_eq rfl rfl rfl)

/-! ### Values that take effect -/

/-- What a committed value changes besides its entry (R103, R104, R121, R128, R209, R437, R445, R515). -/
theorem State.applyEntry_steady (s : State) (key : Nat) (v : Bytes) :
    Steady (if key = 0x230005 then s else s.setOd key v) (s.applyEntry key v) := by
  unfold State.applyEntry
  dsimp only
  split
  · exact .of_eq rfl rfl rfl
  · split
    · refine Steady.trans (t := (s.setOd key v).mirrorCredential key v) ⟨⟨List.prefix_rfl, rfl⟩, rfl, rfl⟩ ?_
      exact .ite (.of_eq rfl rfl rfl) (.refl _)
    · split
      · exact .of_eq rfl rfl rfl
      · exact .of_eq rfl rfl rfl
      · exact .of_eq rfl rfl rfl
      · exact State.trimMatrix_steady ..
      · exact (State.checkPool_steady _).after (.of_eq rfl rfl rfl)
      · exact .of_eq rfl rfl rfl
      · exact .ite (.refl _) (.of_eq rfl rfl rfl)
      · exact .refl _

/-! ### Committed values -/

theorem State.odBytes_of_od {s t : State} (same : t.od = s.od) (key : Nat) : t.odBytes key = s.odBytes key := by
  rw [State.odBytes, same, State.odBytes]

/-- A committed value reads back, whether it is listed or the entry's default (R98). -/
@[simp] theorem State.odBytes_setOd (s : State) (key : Nat) (v : Bytes) : (s.setOd key v).odBytes key = v := by
  unfold State.setOd State.odBytes
  dsimp only
  cases entryDef (keyOf key) with
  | none => simp
  | some d =>
    by_cases isDefault : d.defaultBytes key = v
    · simp [isDefault]
    · simp [isDefault]

theorem State.odBytes_setOd_other (s : State) {key other : Nat} (ne : other ≠ key) (v : Bytes) :
    (s.setOd key v).odBytes other = s.odBytes other := by
  have kept : look other (s.setOd key v).od = look other s.od := by
    unfold State.setOd
    cases entryDef (keyOf key) with
    | none => exact look_put_other ne v _
    | some d =>
      dsimp only
      split
      · exact look_del_other ne _
      · exact look_put_other ne v _
  rw [State.odBytes, kept, State.odBytes]

theorem State.odBytes_applyEntry (s : State) {key : Nat} (plain : key ≠ 0x230005) (v : Bytes) :
    (s.applyEntry key v).odBytes key = v := by
  have applied := (s.applyEntry_steady key v).od
  rw [if_neg plain] at applied
  rw [State.odBytes_of_od applied, State.odBytes_setOd]

theorem State.odBytes_applyEntry_other (s : State) {key other : Nat} (ne : other ≠ key) (v : Bytes) :
    (s.applyEntry key v).odBytes other = s.odBytes other := by
  rw [State.odBytes_of_od (s.applyEntry_steady key v).od]
  split
  · rfl
  · exact s.odBytes_setOd_other ne v

/-- The values of a commit, as they take effect one after another. -/
abbrev State.applyAll (s : State) (l : List (Nat × Bytes)) : State := s.forEach l fun s p => s.applyEntry p.1 p.2

theorem State.odBytes_applyAll_other {l : List (Nat × Bytes)} {key : Nat} (unlisted : key ∉ l.map (·.1)) (s : State) :
    (s.applyAll l).odBytes key = s.odBytes key := by
  induction l generalizing s with
  | nil => rfl
  | cons p l ih =>
    rw [List.map_cons, List.mem_cons, not_or] at unlisted
    exact (ih unlisted.2 _).trans (s.odBytes_applyEntry_other unlisted.1 p.2)

theorem State.odBytes_applyAll {l : List (Nat × Bytes)} (once : (l.map (·.1)).Nodup) {p : Nat × Bytes} (listed : p ∈ l)
    (plain : p.1 ≠ 0x230005) (s : State) : (s.applyAll l).odBytes p.1 = p.2 := by
  induction l generalizing s with
  | nil => cases listed
  | cons q l ih =>
    rw [List.map_cons, List.nodup_cons] at once
    rcases List.mem_cons.1 listed with rfl | later
    · exact (State.odBytes_applyAll_other once.1 _).trans (s.odBytes_applyEntry plain p.2)
    · exact ih once.2 later _

/-- What a value that takes effect leaves to the sessions: the dictionary apart, it is steady. -/
theorem State.applyAll_sends (l : List (Nat × Bytes)) (s : State) :
    SendsOn s (s.applyAll l) ∧ (s.applyAll l).mgmt.txn = s.mgmt.txn := by
  induction l generalizing s with
  | nil => exact ⟨.refl s, rfl⟩
  | cons p l ih =>
    obtain ⟨sends, txn⟩ := ih (s.applyEntry p.1 p.2)
    have applied := s.applyEntry_steady p.1 p.2
    have before : SendsOn s (if p.1 = 0x230005 then s else s.setOd p.1 p.2) ∧
        (if p.1 = 0x230005 then s else s.setOd p.1 p.2).mgmt.txn = s.mgmt.txn := by
      split
      · exact ⟨.refl s, rfl⟩
      · exact ⟨.of_eq rfl rfl, rfl⟩
    exact ⟨(before.1.trans applied.toSendsOn).trans sends, txn.trans (applied.txn.trans before.2)⟩

/-- A commit point: its values stand, no session closes, and the transaction stays open or closed (R121). -/
theorem State.commitValues_commits (s : State) (l : List (Nat × Bytes)) : SendsOn s (s.commitValues l) ∧
    (s.commitValues l).mgmt.txn.open_ = s.mgmt.txn.open_ ∧
    ((l.map (·.1)).Nodup → ∀ p ∈ l, p.1 ≠ 0x230005 → p.1 ≠ 0x1F0007 → (s.commitValues l).odBytes p.1 = p.2) := by
  obtain ⟨sends, txn⟩ := State.applyAll_sends l s
  unfold State.commitValues
  extract_lets t r u m n v
  have later := ((v.bump 0x1F0005 0 1).setOd 0x1F0007 (le 8 v.time64.toNat)).dispatch_steady
  have paused : SendsOn (s.applyAll l) ((v.bump 0x1F0005 0 1).setOd 0x1F0007 (le 8 v.time64.toNat)) :=
    ⟨List.prefix_rfl, rfl⟩
  have open_ : v.mgmt.txn.open_ = s.mgmt.txn.open_ := (congrArg Txn.open_ txn :)
  refine ⟨(sends.trans paused).trans later.toSendsOn, (congrArg Txn.open_ later.txn).trans open_,
    fun once p listed plain unstamped => ?_⟩
  rw [State.odBytes_of_od later.od, State.odBytes_setOd_other _ unstamped]
  exact State.odBytes_applyAll once listed plain s

end Sys2Proof.Machine
end

section
namespace Sys2Proof.Machine

open Sys2Proof Sys2Proof.Claims

/-! ### The checks on an entry -/

theorem State.entryCheck_none {k : OdKey} (lacks : entryDef k = none) (s : State) (x : Session) (reading : Bool) :
    s.entryCheck x k reading = .error .noSuchEntry := by
  unfold State.entryCheck
  rw [lacks]

theorem State.entryCheck_role {s : State} {x : Session} {k : OdKey} {d : EntryDef} (has : entryDef k = some d)
    (seen : s.hidden x k = false) (num : keyNum k ≠ 0x230005) (role : x.role < d.role) (reading : Bool) :
    s.entryCheck x k reading = .error .roleDenied := by
  unfold State.entryCheck
  rw [has]
  simp [seen, num, role]

/-- What a request's acceptance notes is no part of what a session sees (R160). -/
theorem State.received_nextSeen (s : State) (z : ZReq) (x : Session) (d : List Nat) (n : Nat) (k : OdKey) :
    (s.received z d).nextSeen (s.caller z x) n k = s.nextSeen x n k := by
  induction n generalizing k with
  | zero => rfl
  | succ n ih =>
    have same (e : OdKey) : (s.received z d).hidden (s.caller z x) e = s.hidden x e := rfl
    unfold State.nextSeen
    simp only [ih, same]

/-! ### Reads -/

theorem State.readEntry_refuses {s : State} {x : Session} {k : OdKey} {e : Status}
    (check : (s.noteService x).entryCheck x k true = .error e) :
    s.readEntry x k = (.refuse e, s.noteService x) := by
  unfold State.readEntry
  simp only [check]

theorem State.readEntry_reads {s : State} {x : Session} {k : OdKey} {d : EntryDef}
    (check : (s.noteService x).entryCheck x k true = .ok d) (access : d.access ≠ .wo) (plain : d.ty.isDomain = false) :
    s.readEntry x k = (.ok ((s.noteService x).valueFor x (OdKey.num k)), s.noteService x) := by
  unfold State.readEntry
  simp only [check]
  exact if_neg (by simp [access, plain])

theorem read_refused {z : ZReq} {k : OdKey} {s : State} {x : Session} (req : Requests s z x) {e : Status}
    (check : s.entryCheck x k true = .error e) : Gives (.read z k) s fun t => Answered s t z x 0x01 e [] :=
  request_gives rfl req fun n => ⟨_, _, _,
    State.readEntry_refuses ((s.noted_entryCheck z x n k true).trans check), .noted req.session n, nothingAfter_quiet,
    fun _ done => done.answered⟩

theorem read_answers {z : ZReq} {k : OdKey} {s : State} {x : Session} (req : Requests s z x) (d : EntryDef)
    (check : s.entryCheck x k true = .ok d) (access : d.access ≠ .wo) (plain : d.ty.isDomain = false) :
    Gives (.read z k) s fun t => ∃ m, m.txn = s.mgmt.txn ∧
      Answered s t z x 0x01 .ok (({ s with mgmt := m } : State).valueFor x (keyNum k)) ∧ t.od = s.od :=
  request_gives rfl req fun n => ⟨_, _, _,
    State.readEntry_reads ((s.noted_entryCheck z x n k true).trans check) access plain, .noted req.session n,
    nothingAfter_quiet, fun _ done => ⟨(s.noted z x n).mgmt, rfl, done.answered, done.od⟩⟩

theorem describe_refused {z : ZReq} {k : OdKey} {s : State} {x : Session} (req : Requests s z x) {e : Status}
    (check : s.entryCheck x k false = .error e) : Gives (.describe z k) s fun t => Answered s t z x 0x03 e [] := by
  refine request_gives rfl req fun n => ⟨.refuse e, s.received z n, _, ?_, .received req.session n, nothingAfter_quiet,
    fun _ done => done.answered⟩
  rw [State.received_entryCheck, check]

theorem describe_answers {z : ZReq} {k : OdKey} {s : State} {x : Session} (req : Requests s z x) (d : EntryDef)
    (check : s.entryCheck x k false = .ok d) :
    Gives (.describe z k) s fun t => Answered s t z x 0x03 .ok d.describe := by
  refine request_gives rfl req fun n => ⟨.ok d.describe, s.received z n, _, ?_, .received req.session n,
    nothingAfter_quiet, fun _ done => done.answered⟩
  rw [State.received_entryCheck, check]

theorem next_answers {z : ZReq} {k : OdKey} {s : State} {x : Session} (req : Requests s z x) (e : OdKey)
    (seen : s.nextSeen x 1025 k = some e) : Gives (.next z k) s fun t =>
      Answered s t z x 0x04 .ok (fields [(2, e.index.toNat), (1, e.sub.toNat), (1, 0)]) := by
  refine request_gives rfl req fun n => ⟨.ok (fields [(2, e.index.toNat), (1, e.sub.toNat), (1, 0)]), s.received z n,
    _, ?_, .received req.session n, nothingAfter_quiet, fun _ done => done.answered⟩
  rw [State.received_nextSeen, seen]

/-! ### Writes -/

theorem look_replaced {key : Nat} {l : List (Nat × Bytes)} (listed : (look key l).isSome = true) (v : Bytes) :
    look key (l.map fun p => if p.1 = key then (key, v) else p) = some v := by
  induction l with
  | nil => cases listed
  | cons p l ih =>
    obtain ⟨j, w⟩ := p
    by_cases same : j = key
    · simp [look, same]
    · rw [look, if_neg same] at listed
      rw [List.map_cons, if_neg same, look, if_neg same]
      exact ih listed

theorem look_appended {key : Nat} {l : List (Nat × Bytes)} (unlisted : look key l = none) (v : Bytes) :
    look key (l ++ [(key, v)]) = some v := by
  induction l with
  | nil => simp [look]
  | cons p l ih =>
    obtain ⟨j, w⟩ := p
    by_cases same : j = key
    · simp [look, same] at unlisted
    · rw [look, if_neg same] at unlisted
      rw [List.cons_append, look, if_neg same]
      exact ih unlisted

/-- A staged value reads back (R119). -/
@[simp] theorem look_stage (key : Nat) (v : Bytes) (l : List (Nat × Bytes)) : look key (stage key v l) = some v := by
  unfold stage
  split
  · next listed => exact look_replaced listed v
  · next unlisted => exact look_appended (by simpa using unlisted) v

/-- The state in which an entry's value is staged (R119). -/
abbrev State.staging (s : State) (key : Nat) (v : Bytes) : State :=
  s.withMgmt { s.mgmt with txn := { s.mgmt.txn with staged := stage key v s.mgmt.txn.staged } }

theorem Quiet.withTxn {s v : State} {z : ZReq} {x y : Session} (quiet : Quiet s z x v y) (t : Txn) :
    Quiet s z x (v.withMgmt { v.mgmt with txn := t }) y :=
  ⟨quiet.out, quiet.od, quiet.session, quiet.chan, quiet.seqs⟩

theorem State.gate_refused (s : State) {r : Reply × State} (refused : r.1.status ≠ .ok) : s.gate r = r :=
  if_neg (by simp [refused])

theorem State.gate_serves {s : State} (serves : s.halted = false) (r : Reply × State) : s.gate r = r :=
  if_neg (by simp [serves])

theorem State.stageValue_refused {s : State} {x : Session} (foreign : s.ownsTxn x = false) (key : Nat) (v : Bytes) :
    s.stageValue x key v = (.conflict, s) :=
  if_pos (by simp [foreign])

theorem State.stageValue_stages {s : State} {x : Session} {key : Nat} {v : Bytes} (own : s.ownsTxn x = true)
    (room : stageFits (stage key v s.mgmt.txn.staged) = true) :
    s.stageValue x key v = (.ok [], s.staging key v) := by
  unfold State.stageValue
  rw [if_neg (by simp [own])]
  exact if_pos room

theorem State.writeEntry_refuses {s : State} {x : Session} {k : OdKey} {e : Status}
    (check : (s.noteService x).entryCheck x k false = .error e) (v : Bytes) :
    s.writeEntry x k v = (.refuse e, s.noteService x) := by
  unfold State.writeEntry
  simp only [check]

theorem State.writeEntry_denies {s : State} {x : Session} {k : OdKey} {d : EntryDef}
    (check : (s.noteService x).entryCheck x k false = .ok d) (access : d.access = .ro) (v : Bytes) :
    s.writeEntry x k v = (.refuse .accessDenied, s.noteService x) := by
  unfold State.writeEntry
  simp only [check]
  exact if_pos (by simp [access])

/-- A write to an RWT entry is staged in the session's own transaction or refused (R95, R119). -/
theorem State.writeEntry_stages {s : State} {x : Session} {k : OdKey} {d : EntryDef} {v : Bytes}
    (check : (s.noteService x).entryCheck x k false = .ok d) (access : d.access = .rwt) (plain : d.ty.isDomain = false)
    (size : d.ty.sizeOk v.length = true) (length : lengthOk (OdKey.num k) v.length = true)
    (range : rangeOk (OdKey.num k) d v = true) :
    s.writeEntry x k v = (s.noteService x).gate ((s.noteService x).stageValue x (OdKey.num k) v) := by
  unfold State.writeEntry State.writeValue
  simp [check, access, plain, size, length, range]

theorem write_refused {z : ZReq} {k : OdKey} {s : State} {x : Session} (req : Requests s z x) {e : Status}
    (check : s.entryCheck x k false = .error e) (v : Bytes) :
    Gives (.write z k v) s fun t => Answered s t z x 0x02 e [] ∧ t.od = s.od :=
  request_gives rfl req fun n => ⟨_, _, _,
    State.writeEntry_refuses ((s.noted_entryCheck z x n k false).trans check) v, .noted req.session n,
    State.followNetwork_quiet, fun _ done => ⟨done.answered, done.od⟩⟩

theorem write_denied {z : ZReq} {k : OdKey} {s : State} {x : Session} (req : Requests s z x) (d : EntryDef) (v : Bytes)
    (check : s.entryCheck x k false = .ok d) (access : d.access = .ro) :
    Gives (.write z k v) s fun t => Answered s t z x 0x02 .accessDenied [] ∧ t.od = s.od :=
  request_gives rfl req fun n => ⟨_, _, _,
    State.writeEntry_denies ((s.noted_entryCheck z x n k false).trans check) access v, .noted req.session n,
    State.followNetwork_quiet, fun _ done => ⟨done.answered, done.od⟩⟩

theorem write_stages {z : ZReq} {k : OdKey} {s : State} {x : Session} (req : Requests s z x) (d : EntryDef) (v : Bytes)
    (check : s.entryCheck x k false = .ok d) (access : d.access = .rwt) (plain : d.ty.isDomain = false)
    (size : d.ty.sizeOk v.length = true) (length : lengthOk (keyNum k) v.length = true)
    (range : rangeOk (keyNum k) d v = true) :
    (s.ownsTxn x = false → Gives (.write z k v) s fun t => Answered s t z x 0x02 .stateConflict [] ∧
      t.od = s.od ∧ t.counter 0x100106 0 = s.counter 0x100106 0 + 1) ∧
    (s.ownsTxn x = true → s.halted = false → stageFits (stage (keyNum k) v s.mgmt.txn.staged) = true →
      Gives (.write z k v) s fun t => Answered s t z x 0x02 .ok [] ∧ t.od = s.od ∧
        look (keyNum k) t.mgmt.txn.staged = some v) := by
  have runs (n : List Nat) : (s.received z n).writeEntry (s.caller z x) k v =
      (s.noted z x n).gate ((s.noted z x n).stageValue (s.caller z x) (OdKey.num k) v) :=
    State.writeEntry_stages ((s.noted_entryCheck z x n k false).trans check) access plain size length range
  refine ⟨fun foreign => ?_, fun own serves room => ?_⟩
  · refine request_gives rfl req fun n => ⟨.conflict, s.noted z x n, _, (runs n).trans ?_, .noted req.session n,
      State.followNetwork_quiet, fun _ done => ⟨done.answered, done.od, done.counted⟩⟩
    rw [State.stageValue_refused (s := s.noted z x n) (x := s.caller z x) foreign]
    exact State.gate_refused _ Status.noConfusion
  · refine request_gives rfl req fun n => ⟨.ok [], (s.noted z x n).staging (OdKey.num k) v, _, (runs n).trans ?_,
      (Quiet.noted req.session n).withTxn _, State.followNetwork_quiet, fun _ done => ⟨done.answered, done.od, ?_⟩⟩
    · rw [State.stageValue_stages (s := s.noted z x n) (x := s.caller z x) own room]
      exact State.gate_serves (s := s.noted z x n) serves _
    · rw [done.txn]
      exact look_stage ..

/-! ### Transactions -/

/-- The transaction that TXN_BEGIN opens (R118). -/
abbrev Txn.begun (t : Txn) (x : Session) : Txn :=
  { t with open_ := true, id := (t.id + 1) % 2 ^ 32, session := x.id, owner := x.credId, staged := [] }

theorem State.txnBegin_refused {s : State} (open_ : s.mgmt.txn.open_ = true) (x : Session) :
    s.txnBegin x = (.conflict, s.noteService x) :=
  if_pos (c := (s.noteService x).mgmt.txn.open_ = true) open_

theorem State.txnBegin_opens {s : State} (closed : s.mgmt.txn.open_ = false) (serves : s.halted = false) (x : Session) :
    s.txnBegin x = (.ok (le 4 ((s.mgmt.txn.id + 1) % 2 ^ 32)),
      (s.noteService x).withMgmt { (s.noteService x).mgmt with txn := s.mgmt.txn.begun x }) := by
  have stays : ¬(s.noteService x).mgmt.txn.open_ = true := ne_true_of_eq_false closed
  exact (if_neg stays).trans (State.gate_serves (s := s.noteService x) serves _)

theorem State.endTxn_refused {s : State} {x : Session} (foreign : s.ownsTxn x = false) (id : BitVec 32)
    (run : State → Reply × State) : s.endTxn x id run = (.conflict, s.noteService x) := by
  have refused : (!(s.noteService x).ownsTxn x || (s.noteService x).mgmt.txn.id != id.toNat) = true := by
    rw [show (s.noteService x).ownsTxn x = false from foreign]
    rfl
  exact if_pos refused

theorem State.endTxn_runs {s : State} {x : Session} {id : BitVec 32} (own : s.ownsTxn x = true)
    (named : s.mgmt.txn.id = id.toNat) (serves : s.halted = false) (run : State → Reply × State) :
    s.endTxn x id run = run (s.noteService x) := by
  have taken : (!(s.noteService x).ownsTxn x || (s.noteService x).mgmt.txn.id != id.toNat) = false := by
    rw [show (s.noteService x).ownsTxn x = true from own, show (s.noteService x).mgmt.txn.id = id.toNat from named]
    simp
  exact (if_neg (ne_true_of_eq_false taken)).trans (State.gate_serves (s := s.noteService x) serves _)

/-- The state in which no transaction is open (R118). -/
abbrev State.txnClosed (s : State) : State :=
  s.withMgmt { s.mgmt with txn := { s.mgmt.txn with open_ := false, session := 0, owner := 0, staged := [] } }

theorem State.rollback_open {s : State} (open_ : s.mgmt.txn.open_ = true) :
    s.rollback = s.txnClosed.bump 0x1F0006 0 1 := if_pos open_

/-- What a request's acceptance notes is no part of the checks of a commit (R121). -/
theorem State.commitRefuses_withMgmt (s : State) (m : Mgmt) (l : List (Nat × Bytes)) (key : Nat) (v : Bytes) :
    (s.withMgmt m).commitRefuses l key v = s.commitRefuses l key v := by
  unfold State.commitRefuses
  rfl

theorem State.noted_firstRefused (s : State) (z : ZReq) (x : Session) (d : List Nat) (l : List (Nat × Bytes)) :
    (s.noted z x d).firstRefused l = s.firstRefused l := by
  have same := s.commitRefuses_withMgmt (s.noted z x d).mgmt l
  change ((l.find? fun p => (s.withMgmt (s.noted z x d).mgmt).commitRefuses l p.1 p.2).map (·.1)) = _
  simp only [same]
  rfl

theorem State.commitTxn_refused {s : State} {key : Nat} (refused : s.firstRefused s.mgmt.txn.staged = some key) :
    s.commitTxn = ({ status := .stateConflict, counted := true
                     value := fields [(2, key / 256), (1, key % 256), (1, 0), (2, 0x0105)] }, s) := by
  unfold State.commitTxn
  simp only [refused]
  rfl

theorem State.commitTxn_commits {s : State} (agrees : s.firstRefused s.mgmt.txn.staged = none) :
    s.commitTxn = (.ok [], s.txnClosed.commitValues s.mgmt.txn.staged) := by
  unfold State.commitTxn
  simp only [agrees]
  rfl

theorem txnBegin_answers (z : ZReq) (s : State) (x : Session) (req : Requests s z x) (serves : s.halted = false) :
    (s.mgmt.txn.open_ = false → Gives (.txnBegin z) s fun t =>
      Answered s t z x 0x10 .ok (le 4 ((s.mgmt.txn.id + 1) % 2 ^ 32)) ∧ t.mgmt.txn.open_ = true ∧
      t.mgmt.txn.id = (s.mgmt.txn.id + 1) % 2 ^ 32 ∧ t.mgmt.txn.session = z.session ∧ t.mgmt.txn.staged = []) ∧
    (s.mgmt.txn.open_ = true → Gives (.txnBegin z) s fun t => Answered s t z x 0x10 .stateConflict [] ∧
      t.mgmt.txn = s.mgmt.txn) := by
  refine ⟨fun closed => ?_, fun open_ => ?_⟩
  · refine request_gives rfl req fun n => ⟨_, _, _,
      State.txnBegin_opens (s := s.received z n) closed serves (s.caller z x),
      (Quiet.noted req.session n).withTxn _, nothingAfter_quiet, fun t done => ?_⟩
    have begun : t.mgmt.txn = s.mgmt.txn.begun (s.caller z x) := done.txn
    rw [begun]
    exact ⟨done.answered, rfl, rfl, State.caller_id (s := s) (x := x) req.session, rfl⟩
  · exact request_gives rfl req fun n => ⟨_, _, _,
      State.txnBegin_refused (s := s.received z n) open_ (s.caller z x), .noted req.session n, nothingAfter_quiet,
      fun t done => ⟨done.answered, done.txn⟩⟩

/-! ### The ends of a transaction -/

theorem txnRollback_ends {z : ZReq} {s : State} {x : Session} (req : Requests s z x) (serves : s.halted = false)
    {id : BitVec 32} (own : s.ownsTxn x = true) (named : s.mgmt.txn.id = id.toNat) :
    Gives (.txnRollback z id) s fun t => Answered s t z x 0x12 .ok [] ∧ t.mgmt.txn.open_ = false ∧
      t.mgmt.txn.staged = [] ∧ t.od = s.od := by
  have open_ : s.mgmt.txn.open_ = true := (Bool.and_eq_true_iff.1 own).1
  refine request_gives rfl req fun n => ⟨.ok [], (s.noted z x n).txnClosed.bump 0x1F0006 0 1,
    { s.caller z x with lastService := s.now },
    (State.endTxn_runs (s := s.received z n) (x := s.caller z x) own named serves _).trans
      (congrArg (Reply.ok [], ·) (State.rollback_open (s := s.noted z x n) open_)), ?_, nothingAfter_quiet,
    fun t done => ?_⟩
  · have quiet := (Quiet.noted req.session n).withTxn (s.noted z x n).txnClosed.mgmt.txn
    exact ⟨quiet.out, quiet.od, quiet.session, quiet.chan, quiet.seqs⟩
  · rw [done.txn]
    exact ⟨done.answered, rfl, rfl, done.od⟩

theorem txnEnd_refused (z : ZReq) (s : State) (x : Session) (req : Requests s z x) (id : BitVec 32)
    (foreign : s.ownsTxn x = false) :
    Gives (.txnCommit z id) s (fun t => Answered s t z x 0x11 .stateConflict [] ∧ t.mgmt.txn = s.mgmt.txn ∧
      t.od = s.od) ∧
    Gives (.txnRollback z id) s fun t => Answered s t z x 0x12 .stateConflict [] ∧ t.mgmt.txn = s.mgmt.txn ∧
      t.od = s.od :=
  ⟨request_gives rfl req fun n => ⟨_, _, _, State.endTxn_refused (s := s.received z n) (x := s.caller z x) foreign id _,
      .noted req.session n, State.followNetwork_quiet, fun _ done => ⟨done.answered, done.txn, done.od⟩⟩,
    request_gives rfl req fun n => ⟨_, _, _,
      State.endTxn_refused (s := s.received z n) (x := s.caller z x) foreign id _,
      .noted req.session n, nothingAfter_quiet, fun _ done => ⟨done.answered, done.txn, done.od⟩⟩⟩

/-- TXN_COMMIT where neither a power-fail warning nor a transition refuses it (R121, R122). -/
theorem State.endTxn_commits {s : State} {x : Session} {id : BitVec 32} (own : s.ownsTxn x = true)
    (named : s.mgmt.txn.id = id.toNat) (serves : s.halted = false) (calm : s.warning = false)
    (settled : s.lc.transition = none) :
    (s.endTxn x id fun s => if s.warning || s.inTransition then (.conflict, s) else s.commitTxn) =
      (s.noteService x).commitTxn := by
  have may : ¬((s.noteService x).warning || (s.noteService x).inTransition) = true := by
    rw [show (s.noteService x).warning = false from calm, State.inTransition,
      show (s.noteService x).lc.transition = none from settled]
    decide
  exact (State.endTxn_runs own named serves _).trans (if_neg may)

theorem txnCommit_refused {z : ZReq} {s : State} {x : Session} (req : Requests s z x) (serves : s.halted = false)
    {id : BitVec 32} (own : s.ownsTxn x = true) (named : s.mgmt.txn.id = id.toNat) (k : Nat)
    (calm : s.warning = false) (settled : s.lc.transition = none)
    (refused : s.firstRefused s.mgmt.txn.staged = some k) :
    Gives (.txnCommit z id) s fun t => Answered s t z x 0x11 .stateConflict
      (fields [(2, k / 256), (1, k % 256), (1, 0), (2, 0x0105)]) ∧ t.od = s.od ∧ t.mgmt.txn = s.mgmt.txn :=
  request_gives rfl req fun n => ⟨_, _, _,
    (State.endTxn_commits (s := s.received z n) (x := s.caller z x) own named serves calm settled).trans
      (State.commitTxn_refused ((s.noted_firstRefused z x n _).trans refused)), .noted req.session n,
    State.followNetwork_quiet, fun _ done => ⟨done.answered, done.od, done.txn⟩⟩

/-! ### A commit and what follows it -/

theorem State.closeSession_txn {s : State} (closed : s.mgmt.txn.open_ = false) (id : BitVec 32) :
    (s.closeSession id).mgmt.txn.open_ = false := by
  unfold State.closeSession State.rollback
  simp [closed]

theorem State.followNetwork_txn {s : State} (closed : s.mgmt.txn.open_ = false) (old : State) :
    (s.followNetwork old).mgmt.txn.open_ = false := by
  unfold State.followNetwork
  split
  · exact closed
  · exact State.forEach_rec (P := fun t => t.mgmt.txn.open_ = false) closed fun t id _ h => t.closeSession_txn h id

theorem State.closeSpent_txn {s : State} (closed : s.mgmt.txn.open_ = false) (id : BitVec 32) :
    (s.closeSpent id).mgmt.txn.open_ = false := by
  unfold State.closeSpent
  split
  · exact closed
  · split
    · exact State.closeSession_txn closed id
    · exact closed

theorem answered_of_out {s u t : State} {z : ZReq} {x : Session} {svc : Nat} {st : Status} {v : Bytes}
    (answered : Answered u t z x svc st v) (out : u.out = s.out) : Answered s t z x svc st v := by
  rw [Answered, ← out]
  exact answered

/-- The response of a commit is sent, and what the commit made of the dictionary stands after it (R112, R121). -/
theorem State.replied_commits {u v : State} {z : ZReq} {x y : Session} (known : u.session z.session = some y)
    (chan : y.inBand = x.inBand) (sends : SendsOn u v) (closed : v.mgmt.txn.open_ = false) (svc : Nat) (old : State) :
    Answered u (State.replied x z svc (fun _ t => t.followNetwork old) (.ok [], v)) z x svc .ok [] ∧
      (State.replied x z svc (fun _ t => t.followNetwork old) (.ok [], v)).mgmt.txn.open_ = false ∧
      (State.replied x z svc (fun _ t => t.followNetwork old) (.ok [], v)).od = v.od := by
  obtain ⟨answered, unsent⟩ := State.replied_answers (x := x) (svc := svc) known chan (a := (.ok [], v)) sends
    (after := fun _ t => t.followNetwork old) (fun _ t => ⟨t.followNetwork_out old, t.followNetwork_unsent old⟩) rfl
  obtain ⟨_, session, _⟩ := State.session_chan sends.chans known
  have responded := State.respond_unasked session svc (.ok [])
  refine ⟨answered, State.closeSpent_txn (State.followNetwork_txn ?_ old) _,
    State.field_eq unsent State.od fun _ => rfl⟩
  exact (State.field_eq responded (·.mgmt.txn.open_) fun _ => rfl).trans closed

theorem txnCommit_commits {z : ZReq} {s : State} {x : Session} (req : Requests s z x) (serves : s.halted = false)
    {id : BitVec 32} (own : s.ownsTxn x = true) (named : s.mgmt.txn.id = id.toNat)
    (calm : s.warning = false) (settled : s.lc.transition = none)
    (agrees : s.firstRefused s.mgmt.txn.staged = none) (once : (s.mgmt.txn.staged.map (·.1)).Nodup) :
    Gives (.txnCommit z id) s fun t => Answered s t z x 0x11 .ok [] ∧ t.mgmt.txn.open_ = false ∧
      ∀ p ∈ s.mgmt.txn.staged, p.1 ≠ 0x230005 → p.1 ≠ 0x1F0007 → t.odBytes p.1 = p.2 := by
  obtain ⟨n, served⟩ := State.serve_received req 0x11 (fun x s => s.endTxn x id fun s =>
    if s.warning || s.inTransition then (.conflict, s) else s.commitTxn) fun _ t => t.followNetwork s
  have ran := (State.endTxn_commits (s := s.received z n) (x := s.caller z x) own named serves calm settled).trans
    (State.commitTxn_commits ((s.noted_firstRefused z x n _).trans agrees))
  have known : (s.noted z x n).txnClosed.session z.session = some { s.caller z x with lastService := s.now } :=
    State.noted_session req.session n
  have commits := (s.noted z x n).txnClosed.commitValues_commits (s.noted z x n).mgmt.txn.staged
  generalize (s.noted z x n).txnClosed.commitValues (s.noted z x n).mgmt.txn.staged = v at commits ran
  obtain ⟨sends, txn, stands⟩ := commits
  obtain ⟨answered, closed, od⟩ := State.replied_commits (x := x) known rfl sends txn 0x11 s
  have done := served.trans (congrArg (State.replied x z 0x11 fun _ t => t.followNetwork s) ran)
  refine ⟨_, congrArg Host.Outcome.next done, answered_of_out answered rfl, closed, fun p listed plain unstamped => ?_⟩
  exact (State.odBytes_of_od od p.1).trans (stands once p listed plain unstamped)

/-! ### The timeout -/

theorem State.until_mgmt (s : State) (n : Nat) : (s.until n).mgmt = s.mgmt := rfl

theorem State.until_od (s : State) (n : Nat) : (s.until n).od = s.od := rfl

/-- A transaction that is rolled back and told of is gone, and the dictionary stands (R122). -/
theorem State.rollback_told {s : State} (open_ : s.mgmt.txn.open_ = true) (d : Bytes) :
    (s.rollback.event .txnTimeout d).mgmt.txn.open_ = false ∧ (s.rollback.event .txnTimeout d).mgmt.txn.staged = [] ∧
      (s.rollback.event .txnTimeout d).od = s.od ∧ (s.rollback.event .txnTimeout d).now = s.now := by
  rw [State.rollback_open open_]
  have told := (s.txnClosed.bump 0x1F0006 0 1).event_keeps State.undrawn (fun _ _ _ _ _ => rfl) .txnTimeout d
  exact ⟨State.field_eq told (·.mgmt.txn.open_) fun _ => rfl, State.field_eq told (·.mgmt.txn.staged) fun _ => rfl,
    State.field_eq told State.od fun _ => rfl, State.field_eq told State.now fun _ => rfl⟩

theorem txnTimeout_ends (s : State) (x : Session) (open_ : s.mgmt.txn.open_ = true)
    (known : s.session s.mgmt.txn.session = some x) :
    Gives .txnTimeout s fun t => t.mgmt.txn.open_ = false ∧ t.mgmt.txn.staged = [] ∧ t.od = s.od ∧
      x.lastService + 30000000000 ≤ t.now := by
  have ends : s.txnTimeout =
      ((s.until (x.lastService + 30000000000)).rollback).event .txnTimeout (le 4 s.mgmt.txn.id) := by
    unfold State.txnTimeout
    simp only [open_, known, if_true]
  have running : (s.until (x.lastService + 30000000000)).mgmt.txn.open_ = true := by rw [State.until_mgmt, open_]
  obtain ⟨closed, staged, od, now⟩ := State.rollback_told running (le 4 s.mgmt.txn.id)
  exact ⟨_, congrArg Host.Outcome.next ends, closed, staged, od.trans (s.until_od _), (s.le_until _).trans_eq now.symm⟩

/-- Settles O38: each service runs in the state that has received it; a commit applies its values one after another
and each stands, since no two are of one entry. -/
theorem entriesAreReadWrittenAndCommitted : Obligations.EntriesAreReadWrittenAndCommitted := by
  unfold Obligations.EntriesAreReadWrittenAndCommitted
  refine ⟨fun z k s x req => ⟨fun lacks => ?_, fun d has seen num role => ?_, read_answers req, describe_answers req,
    next_answers req, write_denied req, write_stages req⟩, fun z s x req serves => ?_, txnTimeout_ends⟩
  · have check := State.entryCheck_none lacks s x
    exact ⟨read_refused req (check true), describe_refused req (check false), write_refused req (check false)⟩
  · have check := State.entryCheck_role has seen num role
    exact ⟨read_refused req (check true), write_refused req (check false)⟩
  · obtain ⟨opens, busy⟩ := txnBegin_answers z s x req serves
    exact ⟨opens, busy, fun id own named => ⟨txnCommit_commits req serves own named,
      txnCommit_refused req serves own named, txnRollback_ends req serves own named⟩, txnEnd_refused z s x req⟩

end Sys2Proof.Machine
end

section
namespace Sys2Proof.Machine

open Sys2Proof Sys2Proof.Claims

/-! ### Lists that name a key twice

`look` answers the first entry of a key, `upd` changes them all, and the dispatcher goes through every entry of a list. -/

/-- A key store whose index 0 is listed for two owners: the spill area of VF 5 has room, that of VF 6 is being revoked,
and the key record area stands above its mark, which is 0. -/
def twiceOwned : State :=
  { od := [(0x200005, [0])]
    insts := [(5, { spillEnable := true, spillMib := 1 }), (6, { spillBusy := true })]
    keys := { records := [(0, { owner := 5 }), (0, { owner := 6 })] } }

/-- The record that leaves tier V for the one area takes the other owner's entry with it. -/
theorem twiceOwned_spills :
    ∃ r ∈ (twiceOwned.spillRevokeDone 6).keys.records, r.2.owner = 6 ∧ r.2.inH = true := by decide +kernel

/-- Refutes O50: at the end of a revocation records leave tier V above its mark, and where an index is listed for two
owners, the entry of the revoked area's owner leaves to the other's area. -/
theorem not_registersSpillAndBuilds : ¬ Obligations.RegistersSpillAndBuilds := by
  unfold Obligations.RegistersSpillAndBuilds
  rintro ⟨-, -, -, revoked, -⟩
  obtain ⟨t, done, -, back⟩ := revoked 6 twiceOwned rfl rfl
  cases Host.Outcome.next.inj done
  obtain ⟨r, listed, owner, spilled⟩ := twiceOwned_spills
  exact Bool.false_ne_true ((back r listed owner).symm.trans spilled)

/-- A VF listed twice: its queue pair is empty in the first entry, and has an entry cached in the second. -/
def twiceListed : State :=
  { start := { phase := .ready }
    od := [(0x140014, [1])]
    ports := [{ base := 4, count := 1 }]
    insts := [(4, { state := .enabled, slotQuota := 1, qps := [{ state := .active, enable := true }] }),
      (4, { state := .enabled, qps := [{ state := .active, cache := [{}] }] })] }

theorem twiceListed_dispatches :
    ((twiceListed.writeQpCtrl 4 0 0x40 false).dispatch.qp 4 0).map (·.c) = some 1 := by decide +kernel

/-- Refutes O47: the dispatcher finds an entry in a second listing of a VF, and moves on C of the queue pair that
QP_CTRL has just disabled. -/
theorem not_queuePairsFollowTheirDoorbells : ¬ Obligations.QueuePairsFollowTheirDoorbells := by
  unfold Obligations.QueuePairsFollowTheirDoorbells
  rintro ⟨control, -⟩
  obtain ⟨-, -, -, idle, -⟩ := control 4 0 0x40 twiceListed { state := .active, enable := true } rfl
  obtain ⟨t, done, y, here, -, -, -, c, -⟩ := idle rfl (by decide) rfl
  cases Host.Outcome.next.inj done
  have moved : (twiceListed.writeQpCtrl 4 0 0x40 false).dispatch.qp 4 0 = some y := here
  have one := twiceListed_dispatches
  rw [moved] at one
  exact absurd (c.symm.trans (Option.some.inj one)) (by decide)

end Sys2Proof.Machine
end

section
namespace Sys2Proof.Machine

open Sys2Proof Sys2Proof.Claims

/-! ### The mailbox -/

/-- A vector of the manager's table leaves its port as it was but for what is pending (R155). -/
theorem State.raisePf_port {β : Type} (g : Port → β) (keeps : ∀ t l, g { t with msixPending := l } = g t) (s : State)
    (p v q : Nat) : g ((s.raisePf p v).port q) = g (s.port q) := by
  unfold State.raisePf
  split
  · by_cases same : q = p
    · subst same
      by_cases listed : q < s.ports.length
      · rw [State.port_modPort_same listed, keeps]
      · rw [State.port, State.modPort_ports, List.modify_eq_self (by omega), State.port]
    · rw [State.port_modPort_other _ same]
  · rfl

/-- A port event sets its bit of PORT_EVENT_STATUS (R136). -/
theorem State.portEvent_sets {s : State} {p : Nat} (listed : p < s.ports.length) (e : PortEvent) :
    ((s.portEvent p e).port p).evStatus = (s.port p).evStatus ||| BitVec.ofNat 32 (2 ^ e.bit) := by
  unfold State.portEvent
  extract_lets m t
  have noted : (t.port p).evStatus = (s.port p).evStatus ||| m := by rw [State.port_modPort_same listed]
  split
  · exact noted
  · exact (State.raisePf_port Port.evStatus (fun _ _ => rfl) t p _ p).trans noted

theorem State.portEvent_port (s : State) (p : Nat) (e : PortEvent) (q : Nat) :
    ((s.portEvent p e).port q).quiet = (s.port q).quiet :=
  State.port_quiet (congrArg State.ports (s.portEvent_unreset p e)) q

/-- The port of a mailbox that holds a response, but for events (R149). -/
def Port.answered (t : Port) (m : Mail) (st : Status) (data : Bytes) : Port :=
  { t with
    mbxBusy := false, mbxDone := true
    mbxResp := fit 256 (fields [(2, m.code), (2, st.code), (4, m.seq)] ++ data) }

theorem State.mailAnswer_port {s : State} {p : Nat} (listed : p < s.ports.length) (m : Mail) (st : Status)
    (data : Bytes) : ((s.mailAnswer p m st data).port p).quiet = ((s.port p).answered m st data).quiet := by
  refine (State.portEvent_port _ p .mailboxDone p).trans ?_
  rw [State.port_modPort_same listed]
  rfl

/-- A response stands in the mailbox, and is told (R149). -/
theorem State.mailAnswer_replied {s : State} {p : Fin 4} (four : s.ports.length = 4) (code : Nat) (seq : BitVec 32)
    (args : Bytes) (st : Status) (data : Bytes) :
    Replied (s.mailAnswer p ⟨code, seq.toNat, args⟩ st data) p code seq st data := by
  have listed : p.val < s.ports.length := by omega
  have port := State.mailAnswer_port listed ⟨code, seq.toNat, args⟩ st data
  refine ⟨(congrArg Port.mbxResp port :), (congrArg Port.mbxBusy port :), (congrArg Port.mbxDone port :), ?_⟩
  unfold State.mailAnswer
  rw [State.portEvent_sets ((List.length_modify ..).symm ▸ listed), BitVec.getLsbD_or]
  exact Bool.or_eq_true_iff.2 (.inr (by decide))

@[simp] theorem State.mailAnswer_unsent (s : State) (p : Nat) (m : Mail) (st : Status) (data : Bytes) :
    (s.mailAnswer p m st data).unsent = s.unsent := by
  simp [State.mailAnswer]

@[simp] theorem State.mailTake_unsent (s : State) (p : Nat) (m : Mail) : (s.mailTake p m).unsent = s.unsent := rfl

@[simp] theorem State.mailConflict_untold (s : State) (p : Nat) (m : Mail) : (s.mailConflict p m).untold = s.untold :=
  (State.untold_of_unsent (State.mailAnswer_unsent ..)).trans (s.conflict_untold ..)

theorem State.mailConflict_replied {s : State} {p : Fin 4} (four : s.ports.length = 4) (code : Nat) (seq : BitVec 32)
    (args : Bytes) : Replied (s.mailConflict p ⟨code, seq.toNat, args⟩) p code seq .stateConflict [] :=
  State.mailAnswer_replied
    ((congrArg List.length (State.field_eq (s.conflict_unworked ..) State.ports fun _ => rfl)).trans four)
    code seq args _ _

/-- The range of a port is a matter of the ports' windows alone (R132, R150). -/
theorem State.portOf_modPort (s : State) (p : Nat) {f : Port → Port}
    (keeps : ∀ t, (f t).base = t.base ∧ (f t).count = t.count) (i : Nat) : (s.modPort p f).portOf i = s.portOf i := by
  have window (q : Nat) : ((s.modPort p f).port q).base = (s.port q).base ∧
      ((s.modPort p f).port q).count = (s.port q).count := by
    by_cases same : q = p
    · subst same
      by_cases listed : q < s.ports.length
      · rw [State.port_modPort_same listed]
        exact keeps _
      · rw [State.port, State.modPort_ports, List.modify_eq_self (by omega)]
        exact ⟨rfl, rfl⟩
    · rw [State.port_modPort_other _ same]
      exact ⟨rfl, rfl⟩
  simp only [State.portOf, window]

@[simp] theorem State.mailTake_portOf (s : State) (p : Nat) (m : Mail) (i : Nat) :
    (s.mailTake p m).portOf i = s.portOf i := by
  unfold State.mailTake
  refine s.portOf_modPort p ?_ i
  exact fun _ => ⟨rfl, rfl⟩

@[simp] theorem State.mailTake_mailRange (s : State) (p q : Nat) (m : Mail) (n : Nat) :
    (s.mailTake p m).mailRange q n = s.mailRange q n := by
  simp only [State.mailRange, State.mailTake_portOf]

section
variable {s : State} {p : Nat} (m : Mail) {n : Nat} {fieldsOk stateOk : Bool} (run : State → State × Bytes)

theorem State.mailInst_denied (served : s.mailServed p = true) (outside : s.mailRange p n = false) :
    s.mailInst p m n fieldsOk stateOk run = (s.mailTake p m).mailAnswer p m .accessDenied [] := by
  simp [State.mailInst, served, outside]

theorem State.mailInst_malformed (served : s.mailServed p = true) (inside : s.mailRange p n = true)
    (bad : fieldsOk = false) :
    s.mailInst p m n fieldsOk stateOk run = (s.mailTake p m).mailAnswer p m .lengthMismatch [] := by
  simp [State.mailInst, served, inside, bad]

theorem State.mailInst_refused (served : s.mailServed p = true) (inside : s.mailRange p n = true)
    (good : fieldsOk = true) (unfit : stateOk = false) :
    s.mailInst p m n fieldsOk stateOk run = (s.mailTake p m).mailConflict p m := by
  simp [State.mailInst, served, inside, good, unfit]

theorem State.mailInst_runs (served : s.mailServed p = true) (opened : s.mailClosed = false)
    (inside : s.mailRange p n = true) (good : fieldsOk = true) (fits : stateOk = true) :
    s.mailInst p m n fieldsOk stateOk run =
      (run (s.mailTake p m)).1.mailAnswer p m .ok (run (s.mailTake p m)).2 := by
  have closed : (s.mailTake p m).mailClosed = false := opened
  simp [State.mailInst, served, inside, good, fits, closed]

end

end Sys2Proof.Machine
end

section
namespace Sys2Proof.Machine

open Sys2Proof Sys2Proof.Claims

/-! ### Refusals -/

theorem State.mailTake_ports (s : State) (p : Nat) (m : Mail) : (s.mailTake p m).ports.length = s.ports.length :=
  List.length_modify ..

theorem State.inState_eq_false {s : State} {n : Nat} {l : List InstState} (other : (s.inst n).state ∉ l) :
    s.inState n l = false := by
  simp [State.inState, other]

/-- A command that names an ID is checked as one, with its own code, fields and states (R150). -/
theorem mailRow_checks {a : CreateArgs} {flags : BitVec 32} {x y : BitVec 64} {row : MailRow}
    (listed : row ∈ mailRows a flags x y) (p : Fin 4) (seq : BitVec 32) (n : BitVec 16) (s : State) :
    ∃ args fieldsOk stateOk run, exec (row.cmd p seq n) s =
        .next (s.mailInst p ⟨row.code, seq.toNat, args⟩ n.toNat fieldsOk stateOk run) ∧
      ((row.code = 1 → s.configOk p (configOf a) = true) → (row.code = 3 → s.setOk p a = true) → fieldsOk = true) ∧
      ((s.inst n.toNat).state ∉ row.states → stateOk = false) := by
  simp only [mailRows, List.mem_cons, List.not_mem_nil, or_false] at listed
  rcases listed with rfl | rfl | rfl | rfl | rfl | rfl | rfl | rfl | rfl | rfl | rfl | rfl
  case inl => exact ⟨_, _, _, _, rfl, fun good _ => good rfl, fun other => by simp [State.inState_eq_false other]⟩
  case inr.inr.inl =>
    exact ⟨_, _, _, _, rfl, fun _ good => good rfl, fun other => by simp [State.inState_eq_false other]⟩
  all_goals exact ⟨_, _, _, _, rfl, fun _ _ => rfl, fun other => by simp [State.inState_eq_false other]⟩

theorem mailRow_refused {a : CreateArgs} {flags : BitVec 32} {x y : BitVec 64} {row : MailRow}
    (listed : row ∈ mailRows a flags x y) (p : Fin 4) (seq : BitVec 32) (n : BitVec 16) (s : State)
    (four : s.ports.length = 4) (served : s.mailServed p = true) :
    (s.mailRange p n.toNat = false → Gives (row.cmd p seq n) s fun t =>
      Replied t p row.code seq .accessDenied [] ∧ t.insts = s.insts ∧ t.keys = s.keys ∧ t.jobs = s.jobs) ∧
    (s.mailRange p n.toNat = true → (s.inst n.toNat).state ∉ row.states →
      (row.code = 1 → s.configOk p (configOf a) = true) → (row.code = 3 → s.setOk p a = true) →
      Gives (row.cmd p seq n) s fun t => Replied t p row.code seq .stateConflict [] ∧ t.insts = s.insts ∧
        t.keys = s.keys ∧ t.jobs = s.jobs) := by
  obtain ⟨args, fieldsOk, stateOk, run, op, fields, state⟩ := mailRow_checks listed p seq n s
  have four' : (s.mailTake p ⟨row.code, seq.toNat, args⟩).ports.length = 4 := (s.mailTake_ports ..).trans four
  refine ⟨fun outside => ⟨_, op, ?_⟩, fun inside other config set => ⟨_, op, ?_⟩⟩
  · rw [State.mailInst_denied _ _ served outside]
    have kept := State.mailAnswer_unsent (s.mailTake p ⟨row.code, seq.toNat, args⟩) p ⟨row.code, seq.toNat, args⟩
      .accessDenied []
    exact ⟨State.mailAnswer_replied four' .., State.field_eq kept State.insts fun _ => rfl,
      State.field_eq kept State.keys fun _ => rfl, State.field_eq kept State.jobs fun _ => rfl⟩
  · rw [State.mailInst_refused _ _ served inside (fields config set) (state other)]
    have kept := State.mailConflict_untold (s.mailTake p ⟨row.code, seq.toNat, args⟩) p ⟨row.code, seq.toNat, args⟩
    exact ⟨State.mailConflict_replied four' .., State.field_eq kept State.insts fun _ => rfl,
      State.field_eq kept State.keys fun _ => rfl, State.field_eq kept State.jobs fun _ => rfl⟩

/-! ### Open slots -/

theorem fit_length (n : Nat) (b : Bytes) : (fit n b).length = n := by
  simp only [fit, zeros, List.length_append, List.length_take, List.length_replicate]
  omega

/-- The request of a port from byte 8 on is zero once it is blanked (R413). -/
theorem State.blankRequest_blanks {s : State} {p : Nat} (listed : p < s.ports.length)
    (long : 8 ≤ (s.port p).mbxReq.length) : ((s.blankRequest p).port p).mbxReq.drop 8 = zeros 248 := by
  have head : ((s.port p).mbxReq.take 8).length = 8 := by simpa using long
  rw [State.blankRequest, State.port_modPort_same listed, fit, List.take_of_length_le (by omega), List.drop_append,
    head, List.drop_eq_nil_of_le (by omega)]
  rfl

/-- The request of a port, as OPEN_SLOT_WRITE takes it, is blank after byte 8 whatever it is answered (R413). -/
theorem State.answered_blank {s : State} {p : Nat} (listed : p < s.ports.length)
    (blank : (s.port p).mbxReq.drop 8 = zeros 248) (m : Mail) (st : Status) (data : Bytes) :
    ((s.mailAnswer p m st data).port p).mbxReq.drop 8 = zeros 248 := by
  have port := State.mailAnswer_port listed m st data
  rw [show ((s.mailAnswer p m st data).port p).mbxReq = (s.port p).mbxReq from (congrArg Port.mbxReq port :), blank]

/-- The state in which OPEN_SLOT_WRITE is carried out: its request taken and blanked. -/
def State.slotTaken (s : State) (p : Nat) (m : Mail) : State := (s.mailTake p m).blankRequest p

theorem State.slotTaken_unsent (s : State) (p : Nat) (m : Mail) : (s.slotTaken p m).unsent = s.unsent := rfl

theorem State.slotTaken_ports (s : State) (p : Nat) (m : Mail) : (s.slotTaken p m).ports.length = s.ports.length :=
  (List.length_modify ..).trans (s.mailTake_ports p m)

theorem State.slotTaken_portOf (s : State) (p : Nat) (m : Mail) (i : Nat) :
    (s.slotTaken p m).portOf i = s.portOf i := by
  unfold State.slotTaken State.blankRequest
  refine (State.portOf_modPort _ p ?_ i).trans (s.mailTake_portOf p m i)
  exact fun _ => ⟨rfl, rfl⟩

theorem State.slotTaken_blank {s : State} {p : Nat} (listed : p < s.ports.length) (m : Mail) :
    ((s.slotTaken p m).port p).mbxReq.drop 8 = zeros 248 := by
  refine State.blankRequest_blanks ((s.mailTake_ports p m).symm ▸ listed) ?_
  rw [State.mailTake, State.port_modPort_same listed, fit_length]
  decide

theorem State.openSlotWrite_refused {s : State} {p : Nat} (served : s.mailServed p = true) (seq : Nat)
    (a : OpenSlotArgs) :
    (s.portOf a.user.toNat ≠ some p → s.openSlotWrite p seq a =
      (s.slotTaken p ⟨0x20, seq, openSlotBytes a⟩).mailAnswer p ⟨0x20, seq, openSlotBytes a⟩ .accessDenied []) ∧
    (s.portOf a.user.toNat = some p → openSlotOk a = false → s.openSlotWrite p seq a =
      (s.slotTaken p ⟨0x20, seq, openSlotBytes a⟩).mailAnswer p ⟨0x20, seq, openSlotBytes a⟩ .lengthMismatch []) := by
  have range := s.slotTaken_portOf p ⟨0x20, seq, openSlotBytes a⟩ a.user.toNat
  unfold State.slotTaken at *
  constructor
  · intro other
    simp [State.openSlotWrite, served, range, other]
  · intro own bad
    simp [State.openSlotWrite, served, range, own, bad]

theorem State.openSlotWrite_fills {s : State} {p : Nat} (served : s.mailServed p = true)
    (opened : s.mailClosed = false) (seq : Nat) {a : OpenSlotArgs} (own : s.portOf a.user.toNat = some p)
    (good : openSlotOk a = true) :
    let m : Mail := ⟨0x20, seq, openSlotBytes a⟩
    let t := (s.slotTaken p m).fillSlot (1024 * p + a.slotNo.toNat) a
    s.openSlotWrite p seq a = t.mailAnswer p m .ok (le 8 (t.slotHandle (1024 * p + a.slotNo.toNat))) := by
  have range := s.slotTaken_portOf p ⟨0x20, seq, openSlotBytes a⟩ a.user.toNat
  have opened' : (s.slotTaken p ⟨0x20, seq, openSlotBytes a⟩).mailClosed = false := opened
  unfold State.slotTaken at *
  simp [State.openSlotWrite, served, range, own, good, opened']

/-- The generation of an emptied slot goes on, that of an empty one stands (R390). -/
theorem State.removeSlot_gen (s : State) (k : Nat) :
    (look k s.keys.slots = none → (s.removeSlot k).genOf (slotBase + k) = s.genOf (slotBase + k)) ∧
    (look k s.keys.slots ≠ none → (s.removeSlot k).genOf (slotBase + k) ≠ s.genOf (slotBase + k)) := by
  unfold State.removeSlot
  refine ⟨fun empty => by simp [empty], fun taken => ?_⟩
  rw [if_pos (Option.isSome_iff_ne_none.2 taken)]
  simp only [State.bumpGen, State.genOf, look_put_same, Option.getD_some]
  have moves (g : Nat) : (if g = 16383 then 1 else g + 1) ≠ g := by split <;> omega
  exact moves _

/-- A key stands in its slot under the handle that the slot answers (R390, R412, R414). -/
theorem State.fillSlot_fills (s : State) (k : Nat) (a : OpenSlotArgs) :
    ∃ r, look k (s.fillSlot k a).keys.slots = some r ∧ r.user = a.user.toNat ∧ r.cls = a.cls.toNat ∧
      r.binding = a.binding ∧ r.secret = fit a.keyLen.toNat a.key ∧
      (look k s.keys.slots = none → r.gen = s.genOf (slotBase + k)) ∧
      (look k s.keys.slots ≠ none → r.gen ≠ s.genOf (slotBase + k)) ∧
      (s.fillSlot k a).slotHandle k = (r.handle k).toNat := by
  obtain ⟨fresh, raised⟩ := s.removeSlot_gen k
  have here := look_put_same k ({
    user := a.user.toNat, gen := (s.removeSlot k).genOf (slotBase + k), cls := a.cls.toNat, binding := a.binding
    secret := fit a.keyLen.toNat a.key, createTime := (s.removeSlot k).time64 } : OpenSlot) (s.removeSlot k).keys.slots
  refine ⟨_, here, rfl, rfl, rfl, rfl, fresh, raised, ?_⟩
  unfold State.slotHandle State.fillSlot
  simp only [look_put_same]

@[simp] theorem State.removeSlot_records (s : State) (k : Nat) : (s.removeSlot k).keys.records = s.keys.records := by
  unfold State.removeSlot
  split <;> rfl

@[simp] theorem State.removeSlot_ports (s : State) (k : Nat) : (s.removeSlot k).ports = s.ports :=
  State.field_eq (s.removeSlot_unworked k) State.ports fun _ => rfl

theorem State.fillSlot_ports (s : State) (k : Nat) (a : OpenSlotArgs) : (s.fillSlot k a).ports = s.ports :=
  s.removeSlot_ports k

theorem openSlotWrite_follows (p : Fin 4) (seq : BitVec 32) (a : OpenSlotArgs) (s : State)
    (four : s.ports.length = 4) (served : s.mailServed p = true) :
    let k := 1024 * p.val + a.slotNo.toNat
    (s.portOf a.user.toNat ≠ some p.val → Gives (.openSlotWrite p seq a) s fun t =>
      Replied t p 0x20 seq .accessDenied [] ∧ (t.port p).mbxReq.drop 8 = zeros 248 ∧ t.keys = s.keys) ∧
    (s.portOf a.user.toNat = some p.val → openSlotOk a = false → Gives (.openSlotWrite p seq a) s fun t =>
      Replied t p 0x20 seq .lengthMismatch [] ∧ (t.port p).mbxReq.drop 8 = zeros 248 ∧ t.keys = s.keys) ∧
    (s.portOf a.user.toNat = some p.val → openSlotOk a = true → s.mailClosed = false →
      Gives (.openSlotWrite p seq a) s fun t => (t.port p).mbxReq.drop 8 = zeros 248 ∧
        ∃ r, look k t.keys.slots = some r ∧ r.user = a.user.toNat ∧ r.cls = a.cls.toNat ∧ r.binding = a.binding ∧
          r.secret = fit a.keyLen.toNat a.key ∧ (look k s.keys.slots = none → r.gen = s.genOf (slotBase + k)) ∧
          (look k s.keys.slots ≠ none → r.gen ≠ s.genOf (slotBase + k)) ∧
          Replied t p 0x20 seq .ok (le 8 (r.handle k).toNat)) := by
  intro k
  let m : Mail := ⟨0x20, seq.toNat, openSlotBytes a⟩
  let u := s.slotTaken p m
  have listed : p.val < s.ports.length := by omega
  have four' : u.ports.length = 4 := (s.slotTaken_ports p m).trans four
  have listed' : p.val < u.ports.length := by omega
  have blank : (u.port p).mbxReq.drop 8 = zeros 248 := State.slotTaken_blank listed m
  have refusal (st : Status) : Replied (u.mailAnswer p m st []) p 0x20 seq st [] ∧
      ((u.mailAnswer p m st []).port p).mbxReq.drop 8 = zeros 248 ∧ (u.mailAnswer p m st []).keys = s.keys :=
    ⟨State.mailAnswer_replied four' .., State.answered_blank listed' blank m st [],
      State.field_eq (State.mailAnswer_unsent u p m st []) State.keys fun _ => rfl⟩
  obtain ⟨denied, malformed⟩ := State.openSlotWrite_refused served seq.toNat a
  refine ⟨fun other => ⟨_, congrArg Host.Outcome.next (denied other), refusal _⟩,
    fun own bad => ⟨_, congrArg Host.Outcome.next (malformed own bad), refusal _⟩, fun own good opened => ?_⟩
  refine ⟨_, congrArg Host.Outcome.next (State.openSlotWrite_fills served opened seq.toNat own good), ?_⟩
  have ports : (u.fillSlot k a).ports = u.ports := u.fillSlot_ports k a
  have port : (u.fillSlot k a).port p = u.port p := by rw [State.port, ports, State.port]
  obtain ⟨r, here, user, cls, binding, secret, fresh, raised, handle⟩ := u.fillSlot_fills k a
  have keys := State.field_eq (State.mailAnswer_unsent (u.fillSlot k a) p m .ok
    (le 8 ((u.fillSlot k a).slotHandle k))) State.keys fun _ => rfl
  refine ⟨State.answered_blank (ports ▸ listed') (port ▸ blank) .., r, ?_, user, cls, binding, secret, fresh, raised,
    ?_⟩
  · exact (congrArg (fun t => look k t.slots) keys).trans here
  · rw [← handle]
    exact State.mailAnswer_replied (ports ▸ four') ..

section
variable {s : State} {p : Nat} (m : Mail) {slotNo : Nat} (run : State → State × Bytes)

theorem State.mailSlot_malformed (served : s.mailServed p = true) (bad : 1023 < slotNo) :
    s.mailSlot p m slotNo run = (s.mailTake p m).mailAnswer p m .lengthMismatch [] := by
  simp [State.mailSlot, served, bad]

theorem State.mailSlot_runs (served : s.mailServed p = true) (opened : s.mailClosed = false) (good : slotNo ≤ 1023) :
    s.mailSlot p m slotNo run = (run (s.mailTake p m)).1.mailAnswer p m .ok (run (s.mailTake p m)).2 := by
  have closed : (s.mailTake p m).mailClosed = false := opened
  simp [State.mailSlot, served, closed, Nat.not_lt.2 good]

end

theorem openSlots_follow (p : Fin 4) (seq : BitVec 32) (n : BitVec 16) (s : State) (mail : MailOpen s p) :
    let k := 1024 * p.val + n.toNat
    (1023 < n.toNat → ∀ row ∈ [(0x21, Instr.openSlotClear p seq n), (0x22, .openSlotRead p seq n)],
      Gives row.2 s fun t => Replied t p row.1 seq .lengthMismatch [] ∧ t.keys = s.keys) ∧
    (n.toNat ≤ 1023 →
      Gives (.openSlotClear p seq n) s (fun t => Replied t p 0x21 seq .ok [] ∧ look k t.keys.slots = none ∧
        (∀ j, j ≠ k → look j t.keys.slots = look j s.keys.slots) ∧ t.keys.records = s.keys.records) ∧
      (look k s.keys.slots = none →
        Gives (.openSlotRead p seq n) s fun t => Replied t p 0x22 seq .ok (zeros 16) ∧ t.keys = s.keys) ∧
      (∀ r, look k s.keys.slots = some r → Gives (.openSlotRead p seq n) s fun t => t.keys = s.keys ∧
        Replied t p 0x22 seq .ok (fields [(2, r.user), (1, r.cls), (1, 0), (2, r.binding.toNat), (2, 0),
          (8, (r.handle k).toNat)]))) := by
  intro k
  obtain ⟨four, served, opened⟩ := mail
  have four' (m : Mail) : (s.mailTake p m).ports.length = 4 := (s.mailTake_ports p m).trans four
  have answered (u : State) (m : Mail) (st : Status) (data : Bytes) : (u.mailAnswer p m st data).keys = u.keys :=
    State.field_eq (State.mailAnswer_unsent u p m st data) State.keys fun _ => rfl
  have reads (good : n.toNat ≤ 1023) :
      Gives (.openSlotRead p seq n) s fun t => t.keys = s.keys ∧ Replied t p 0x22 seq .ok (s.slotData k) :=
    ⟨_, congrArg Host.Outcome.next (State.mailSlot_runs _ _ served opened good), answered ..,
      State.mailAnswer_replied (four' _) ..⟩
  refine ⟨fun bad row listed => ?_, fun good => ⟨?_, fun empty => ?_, fun r here => ?_⟩⟩
  · simp only [List.mem_cons, List.not_mem_nil, or_false] at listed
    rcases listed with rfl | rfl
    all_goals exact ⟨_, congrArg Host.Outcome.next (State.mailSlot_malformed _ _ served bad),
      State.mailAnswer_replied (four' _) .., answered ..⟩
  · refine ⟨_, congrArg Host.Outcome.next (State.mailSlot_runs _ _ served opened good),
      State.mailAnswer_replied ((congrArg List.length (State.removeSlot_ports ..)).trans (four' _)) .., ?_⟩
    rw [answered]
    have slots := State.removeSlot_slots (s.mailTake p ⟨0x21, seq.toNat, le 2 n.toNat⟩) k
    have records := State.removeSlot_records (s.mailTake p ⟨0x21, seq.toNat, le 2 n.toNat⟩) k
    exact ⟨(congrArg (look k) slots).trans (look_del_same ..),
      fun j other => (congrArg (look j) slots).trans (look_del_other other _), records⟩
  · obtain ⟨t, op, keys, replied⟩ := reads good
    rw [State.slotData, empty] at replied
    exact ⟨t, op, replied, keys⟩
  · obtain ⟨t, op, keys, replied⟩ := reads good
    rw [State.slotData, here] at replied
    exact ⟨t, op, keys, replied⟩

/-- Settles O46: every row of the table of mailbox commands is checked alike, before its own work; an open slot keeps
what fillSlot puts there, under the generation that the slot's last removal left. -/
theorem mailboxRefusesAndHoldsOpenSlots : Obligations.MailboxRefusesAndHoldsOpenSlots :=
  ⟨fun _ _ _ _ _ listed => mailRow_refused listed, openSlotWrite_follows, openSlots_follow⟩

end Sys2Proof.Machine
end

section
namespace Sys2Proof.Machine

open Sys2Proof Sys2Proof.Claims

/-! ### What events about an owner keep -/

/-- The state without what an event about an owner changes: what has been sent, and ports' and owners'
registers. -/
def State.unnoticed (s : State) : State := { s with out := [], ports := [], insts := [] }

@[simp] theorem State.modInst_unnoticed (s : State) (i : Nat) (f : Inst → Inst) :
    (s.modInst i f).unnoticed = s.unnoticed := rfl

@[simp] theorem State.raisePf_unnoticed (s : State) (p v : Nat) : (s.raisePf p v).unnoticed = s.unnoticed := by
  unfold State.raisePf
  split <;> rfl

@[simp] theorem State.raiseVec_unnoticed (s : State) (i v : Nat) : (s.raiseVec i v).unnoticed = s.unnoticed := by
  unfold State.raiseVec
  split
  · rfl
  · split
    · exact s.raisePf_unnoticed i v
    · split <;> rfl

@[simp] theorem State.portEvent_unnoticed (s : State) (p : Nat) (e : PortEvent) :
    (s.portEvent p e).unnoticed = s.unnoticed := by
  unfold State.portEvent
  dsimp only
  split
  · rfl
  · exact State.raisePf_unnoticed ..

@[simp] theorem State.errorBit_unnoticed (s : State) (i : Nat) (b : ErrorBit) :
    (s.errorBit i b).unnoticed = s.unnoticed := by
  unfold State.errorBit
  dsimp only
  split
  · split <;> simp
  · rfl

@[simp] theorem State.setInstState_unnoticed (s : State) (i : Nat) (st : InstState) :
    (s.setInstState i st).unnoticed = s.unnoticed := State.errorBit_unnoticed ..

/-! ### Accepted mailbox commands -/

theorem State.inState_eq_true {s : State} {n : Nat} {l : List InstState} (held : (s.inst n).state ∈ l) :
    s.inState n l = true := by
  simpa [State.inState] using held

/-- What a command about an ID without response data is answered where it is carried out: OK, and beside the response
its work alone has been done (R149). -/
theorem mailInst_gives {c : Instr} {s : State} {p : Fin 4} {code : Nat} {seq : BitVec 32} {args : Bytes} {n : Nat}
    {fieldsOk stateOk : Bool} {f : State → State} {P : State → Prop} (mail : MailOpen s p)
    (op : exec c s = .next (s.mailInst p ⟨code, seq.toNat, args⟩ n fieldsOk stateOk (noData f)))
    (inside : s.mailRange p n = true) (good : fieldsOk = true) (fits : stateOk = true)
    (four : ∀ u, u.ports.length = 4 → (f u).ports.length = 4)
    (does : ∀ u t, u.unsent = s.unsent → t.unsent = (f u).unsent → P t) :
    Gives c s fun t => Replied t p code seq .ok [] ∧ P t := by
  obtain ⟨ports, served, opened⟩ := mail
  refine ⟨_, op.trans (congrArg Host.Outcome.next (State.mailInst_runs _ _ served opened inside good fits)), ?_⟩
  exact ⟨State.mailAnswer_replied (four _ ((s.mailTake_ports ..).trans ports)) ..,
    does (s.mailTake p _) _ rfl (State.mailAnswer_unsent ..)⟩

theorem State.inst_of_unsent {s t : State} (h : t.unsent = s.unsent) (i : Nat) : t.inst i = s.inst i :=
  State.field_eq h (fun t => t.inst i) fun _ => rfl

end Sys2Proof.Machine
end

section
namespace Sys2Proof.Machine

open Sys2Proof Sys2Proof.Claims

/-! ### Migration -/

theorem bit_toNat (v : BitVec 32) (i : Nat) : bit v.toNat i = v.getLsbD i := by
  simp [bit, BitVec.getLsbD, Nat.testBit_eq_decide_div_mod_eq, beq_eq_decide]

/-- MIG_SAVE and MIG_RESTORE begin their work (R157, R158). -/
theorem migration_begins (p : Fin 4) (seq : BitVec 32) (n : BitVec 16) (flags : BitVec 32) (iova len : BitVec 64)
    (s : State) (mail : MailOpen s p) (idle : (s.inst n.toNat).migBusy = none) :
    (Names s p n [.frozen] → Gives (.migSave p seq n flags iova len) s fun t => Replied t p 0x10 seq .ok [] ∧
      (t.inst n.toNat).migBusy = some { save := true, omitOthers := flags.getLsbD 0, iova := iova, len := len }) ∧
    (Names s p n [.unallocated] → Gives (.migRestore p seq n flags iova len) s fun t =>
      Replied t p 0x11 seq .ok [] ∧
      (t.inst n.toNat).migBusy = some { save := false, omitOthers := false, iova := iova, len := len }) := by
  have fits (l : List InstState) (held : (s.inst n.toNat).state ∈ l) :
      (s.inState n.toNat l && (s.inst n.toNat).migBusy.isNone) = true := by
    simp [State.inState_eq_true held, idle]
  have begins (u t : State) (w : MigWork)
      (h : t.unsent = (u.modInst n.toNat fun x => { x with migBusy := some w }).unsent) :
      (t.inst n.toNat).migBusy = some w := by
    rw [State.inst_of_unsent h, State.inst_modInst]
  refine ⟨fun ⟨inside, held⟩ => ?_, fun ⟨inside, held⟩ => ?_⟩
  · refine mailInst_gives mail rfl inside rfl (fits _ held) ?_ fun u t _ h => ?_
    · exact fun _ ports => ports
    rw [begins u t _ h, bit_toNat, BitVec.ofNat_toNat, BitVec.ofNat_toNat, BitVec.setWidth_eq, BitVec.setWidth_eq]
  · refine mailInst_gives mail rfl inside rfl (fits _ held) ?_ fun u t _ h => ?_
    · exact fun _ ports => ports
    rw [begins u t _ h, BitVec.ofNat_toNat, BitVec.ofNat_toNat, BitVec.setWidth_eq, BitVec.setWidth_eq]

/-! ### The end of a save -/

@[simp] theorem State.ageInternal_undrawn (s : State) : s.ageInternal.undrawn = s.undrawn := by
  unfold State.ageInternal
  dsimp only
  split
  · rfl
  · exact State.serveBlocks_undrawn _

/-- An internal draw sends nothing and leaves every key. -/
theorem State.drawInternal_keeps (s : State) (n : Nat) :
    (s.drawInternal n).2.out = s.out ∧ (s.drawInternal n).2.keys = s.keys :=
  ⟨State.field_eq s.ageInternal_undrawn State.out fun _ => rfl,
    State.field_eq s.ageInternal_undrawn State.keys fun _ => rfl⟩

theorem State.endMig_ends (s : State) (n : Nat) (st : Status) : ((s.endMig n st).inst n).migBusy = none ∧
    ((s.endMig n st).inst n).migResult = BitVec.ofNat 16 st.code ∧
    ((s.endMig n st).inst n).imageLen = (s.inst n).imageLen := by
  rw [State.endMig, State.inst_modInst]
  exact ⟨rfl, rfl, rfl⟩

/-- An image that the buffer holds is written to it, and one that it does not hold is not (R157). -/
theorem State.writeImage_writes (s : State) (n : Nat) (w : MigWork) (omitted : Bool) :
    ∃ (u : State) (k p : Nat) (b : Bytes), u.out = s.out ∧ u.keys = s.keys ∧ ascii "KQ9IMAGE" <+: b ∧
      s.writeImage n w omitted = if w.len.toNat < (u.inst n).imageLen then u.endMig n .outputTooSmall
        else (State.send { u with free := k } (.memWrite p w.iova.toNat b)).endMig n .ok := by
  obtain ⟨out, keys⟩ := s.drawInternal_keeps 28
  unfold State.writeImage
  extract_lets a b body total u c head owner
  have sized : (u.inst n).imageLen = total := by rw [State.inst_modInst]
  refine ⟨u, u.free + (body + 16), owner, head ++ c.1, out, keys, ?_, by rw [sized]; rfl⟩
  simp only [head, State.imageHeader, List.append_assoc]
  exact List.prefix_append ..

theorem State.writeImage_ends (s : State) (n : Nat) (w : MigWork) (omitted : Bool) :
    let t := s.writeImage n w omitted
    (t.inst n).migBusy = none ∧ t.keys = s.keys ∧
    ((t.inst n).migResult = BitVec.ofNat 16 Status.outputTooSmall.code ∧ w.len.toNat < (t.inst n).imageLen ∧
        t.out = s.out ∨
      (t.inst n).migResult = 0 ∧ (t.inst n).imageLen ≤ w.len.toNat ∧ ∃ p b,
        t.out = s.out ++ [.memWrite p w.iova.toNat b] ∧ ascii "KQ9IMAGE" <+: b) := by
  obtain ⟨u, k, p, b, out, keys, image, writes⟩ := s.writeImage_writes n w omitted
  rw [writes]
  split
  · next short =>
    obtain ⟨busy, result, length⟩ := u.endMig_ends n .outputTooSmall
    exact ⟨busy, keys, .inl ⟨result, length ▸ short, out⟩⟩
  · next long =>
    obtain ⟨busy, result, length⟩ := (State.send { u with free := k } (.memWrite p w.iova.toNat b)).endMig_ends n .ok
    exact ⟨busy, keys, .inr ⟨result, length ▸ Nat.not_lt.1 long, p, b, congrArg (· ++ [_]) out, image⟩⟩

/-- Records stay behind where one is not MIGRATABLE or is STATEFUL (R157, R279). -/
theorem State.staysBehind_isEmpty (s : State) (n : Nat) : (s.staysBehind n).isEmpty = false ↔
    ∃ r ∈ s.keys.records, r.2.owner = n ∧ (r.2.flag 2 = false ∨ r.2.flag 4 = true) := by
  simp [State.staysBehind, List.isEmpty_eq_false_iff, List.filter_eq_nil_iff, imp_iff_not_or]

section
variable {s : State} {n : Nat} {w : MigWork} (working : (s.inst n).migBusy = some w) (save : w.save = true)
include working save

theorem State.migSaveDone_undomained (none : s.keys.domainSecret = none) :
    s.migSaveDone n = s.endMig n .stateConflict := by
  simp [State.migSaveDone, working, save, none]

theorem State.migSaveDone_left (some : s.keys.domainSecret ≠ none) (left : (s.staysBehind n).isEmpty = false)
    (kept : w.omitOthers = false) : s.migSaveDone n = s.endMig n .keyRefused := by
  simp [State.migSaveDone, working, save, some, left, kept]

theorem State.migSaveDone_writes (some : s.keys.domainSecret ≠ none)
    (whole : (s.staysBehind n).isEmpty = true ∨ w.omitOthers = true) :
    ∃ omitted, s.migSaveDone n = s.writeImage n w omitted := by
  refine ⟨!(s.staysBehind n).isEmpty, ?_⟩
  obtain whole | whole := whole <;> simp [State.migSaveDone, working, save, some, whole]

end

theorem migSaveDone_ends (i : Fin 1024) (w : MigWork) (s : State) (working : (s.inst i).migBusy = some w)
    (save : w.save = true) :
    let left := ∃ r ∈ s.keys.records, r.2.owner = i.val ∧ (r.2.flag 2 = false ∨ r.2.flag 4 = true)
    (s.keys.domainSecret = none → Gives (.migSaveDone i) s fun t => (t.inst i).migBusy = none ∧
      (t.inst i).migResult = BitVec.ofNat 16 Status.stateConflict.code ∧ t.out = s.out) ∧
    (s.keys.domainSecret ≠ none → left → w.omitOthers = false → Gives (.migSaveDone i) s fun t =>
      (t.inst i).migBusy = none ∧ (t.inst i).migResult = BitVec.ofNat 16 Status.keyRefused.code ∧ t.out = s.out) ∧
    (s.keys.domainSecret ≠ none → ¬left ∨ w.omitOthers = true → Gives (.migSaveDone i) s fun t =>
      (t.inst i).migBusy = none ∧ t.keys.records = s.keys.records ∧
      ((t.inst i).migResult = BitVec.ofNat 16 Status.outputTooSmall.code ∧ w.len.toNat < (t.inst i).imageLen ∧
          t.out = s.out ∨
        (t.inst i).migResult = 0 ∧ (t.inst i).imageLen ≤ w.len.toNat ∧ ∃ p b,
          t.out = s.out ++ [.memWrite p w.iova.toNat b] ∧ ascii "KQ9IMAGE" <+: b)) := by
  intro left
  have behind : (s.staysBehind i).isEmpty = false ↔ left := s.staysBehind_isEmpty i
  refine ⟨fun none => ?_, fun some stays kept => ?_, fun some whole => ?_⟩
  · obtain ⟨busy, result, -⟩ := s.endMig_ends i .stateConflict
    exact ⟨_, congrArg Host.Outcome.next (State.migSaveDone_undomained working save none), busy, result, rfl⟩
  · obtain ⟨busy, result, -⟩ := s.endMig_ends i .keyRefused
    exact ⟨_, congrArg Host.Outcome.next (State.migSaveDone_left working save some (behind.2 stays) kept), busy, result,
      rfl⟩
  · obtain ⟨omitted, ran⟩ := State.migSaveDone_writes working save some
      (whole.imp_left fun none => by simpa using mt behind.1 none)
    obtain ⟨busy, keys, ends⟩ := s.writeImage_ends i w omitted
    exact ⟨_, congrArg Host.Outcome.next ran, busy, congrArg KeyStore.records keys, ends⟩

/-! ### The end of a restore -/

/-- What an image's records, peer records and recipes leave of a state as they are restored: of its owner all but the
recipes, the images restored before, and the jobs. -/
def State.besideSections (s : State) (n : Nat) : Inst × List Bytes × List (Nat × Job) :=
  ({ s.inst n with recipes := [] }, s.keys.restoredIds, s.jobs)

theorem State.restoreRecipe_besides (s : State) (n : Nat) (r : Nat × Bytes) :
    (s.restoreRecipe n r).besideSections n = s.besideSections n := by
  unfold State.restoreRecipe
  split
  · simp only [State.besideSections, State.inst_modInst]
    rfl
  · exact State.raise_keeps (fun t => t.besideSections n) (fun _ _ _ _ _ => rfl) ..

/-- What tier V gives up as its use falls to a mark is a record's place (R213). -/
theorem State.drainV_keeps {β : Type} (g : State → β)
    (hg : ∀ (s : State) rs n, g { s with keys := { s.keys with records := rs }, cnt := n } = g s) (mark n : Nat)
    (s : State) : g (State.drainV mark n s) = g s := by
  induction n generalizing s with
  | zero => rfl
  | succ n ih =>
    unfold State.drainV
    dsimp only
    split
    · rfl
    · split
      · rfl
      · exact (ih _).trans (hg s _ _)

theorem State.trimV_keeps {β : Type} (g : State → β)
    (hg : ∀ (s : State) rs n, g { s with keys := { s.keys with records := rs }, cnt := n } = g s) (s : State) :
    g s.trimV = g s := by
  unfold State.trimV
  dsimp only
  split
  · rfl
  · exact State.drainV_keeps g hg ..

theorem State.sections_besides (s : State) (n : Nat) (m : MigImage) :
    (((s.forEach m.records fun s r => s.restoreRecord n r).forEach m.peers fun s r => s.restorePeer n r).forEach
      m.recipes fun s r => s.restoreRecipe n r).besideSections n = s.besideSections n := by
  refine (State.forEach_keeps (State.besideSections · n) (fun t r => t.restoreRecipe_besides n r) ..).trans ?_
  refine (State.forEach_keeps (State.besideSections · n) ?_ ..).trans ?_
  · exact fun _ _ => rfl
  refine State.forEach_keeps (State.besideSections · n) ?_ ..
  exact fun _ _ => rfl

/-- The last of a list is among its last 1024. -/
theorem mem_lastOf {ids old : List Bytes} {x : Bytes} (ends : ids = old ++ [x]) : x ∈ ids.drop (ids.length - 1024) := by
  rw [ends, List.drop_append, List.length_append, List.length_singleton,
    show old.length + 1 - 1024 - old.length = 0 by omega]
  simp

/-- The end of a restore: the owner FROZEN, and the images restored so far noted (R158). -/
def State.imageNoted (s : State) (n : Nat) (ids : List Bytes) : State :=
  (State.setInstState { s with keys := { s.keys with restoredIds := ids } } n .frozen).trimV

theorem State.imageNoted_besides (s : State) (n : Nat) (ids : List Bytes) :
    ((s.imageNoted n ids).inst n).idle = Inst.idle { s.inst n with state := .frozen } ∧
      (s.imageNoted n ids).keys.restoredIds = ids ∧ (s.imageNoted n ids).jobs = s.jobs := by
  have set := State.setInstState_unnoticed { s with keys := { s.keys with restoredIds := ids } } n .frozen
  refine ⟨?_, ?_, ?_⟩
  · exact (State.trimV_keeps (fun t => (t.inst n).idle) (fun _ _ _ => rfl) _).trans (State.setInstState_idle ..)
  · exact (State.trimV_keeps (fun t => t.keys.restoredIds) (fun _ _ _ => rfl) _).trans
      (State.field_eq set (fun t => t.keys.restoredIds) fun _ => rfl)
  · exact (State.trimV_keeps State.jobs (fun _ _ _ => rfl) _).trans (State.field_eq set State.jobs fun _ => rfl)

/-- An accepted image's configuration and sections stand before its end (R158). -/
theorem State.applyImage_eq (s : State) (n : Nat) (m : MigImage) : ∃ (u x : State) (ids : List Bytes),
    s.applyImage n m = u.imageNoted n ids ∧ m.imageId ∈ ids ∧
    u.besideSections n = x.besideSections n ∧ x.jobs = s.jobs ∧
    (x.inst n).migBusy = none ∧ (x.inst n).migResult = 0 ∧ Configured (x.inst n) (configOf m.config) := by
  refine ⟨_, _, _, rfl, mem_lastOf rfl, State.sections_besides _ n m, rfl, ?_⟩
  rw [State.inst_modInst]
  exact ⟨rfl, rfl, rfl, rfl, rfl, rfl, rfl, rfl⟩

/-- An accepted image leaves its owner FROZEN with the image's configuration (R158). -/
theorem State.applyImage_applies (s : State) (n : Nat) (m : MigImage) :
    let t := s.applyImage n m
    (t.inst n).state = .frozen ∧ (t.inst n).migBusy = none ∧ (t.inst n).migResult = 0 ∧
      Configured (t.inst n) (configOf m.config) ∧ m.imageId ∈ t.keys.restoredIds ∧ t.jobs = s.jobs := by
  obtain ⟨u, x, ids, ran, listed, restored, old, busy, result, qps, vecs, weight, slots, recs, tier⟩ :=
    s.applyImage_eq n m
  obtain ⟨owner, images, kept⟩ := u.imageNoted_besides n ids
  rw [ran]
  generalize u.imageNoted n ids = t at owner images kept ⊢
  simp only [State.besideSections, Prod.mk.injEq] at restored
  obtain ⟨besides, -, jobs⟩ := restored
  have ends : { (t.inst n).idle with recipes := [] } = Inst.idle { x.inst n with state := .frozen, recipes := [] } := by
    rw [owner]
    exact congrArg (fun x => Inst.idle { x with state := .frozen }) besides
  exact ⟨(congrArg Inst.state ends :), (congrArg Inst.migBusy ends :).trans busy,
    (congrArg Inst.migResult ends :).trans result,
    ⟨(congrArg Inst.qpCount ends :).trans qps, (congrArg Inst.vecCount ends :).trans vecs,
      (congrArg Inst.weight ends :).trans weight, (congrArg Inst.slotQuota ends :).trans slots,
      (congrArg Inst.recQuota ends :).trans recs, (congrArg Inst.tierSKib ends :).trans tier⟩,
    images ▸ listed, kept.trans (jobs.trans old)⟩

section
variable {s : State} {n p : Nat} {w : MigWork} (m : MigImage) (working : (s.inst n).migBusy = some w)
  (restore : w.save = false) (port : s.portOf n = some p)
include working restore port

theorem State.migRestoreDone_accepted (ok : s.imageCheck n p m = .ok) : s.migRestoreDone n m = s.applyImage n m := by
  simp [State.migRestoreDone, working, restore, port, ok]

theorem State.migRestoreDone_refused {st : Status} (check : s.imageCheck n p m = st) (bad : st ≠ .ok) :
    s.migRestoreDone n m = s.endMig n st := by
  simp only [State.migRestoreDone, working, restore, port, check]
  cases st
  case ok => exact absurd rfl bad
  all_goals rfl

end

theorem State.imageCheck_rejects {s : State} {n p : Nat} {m : MigImage} (read : m.readFault = false)
    (domain : s.keys.domainSecret ≠ none)
    (bad : m.tagOk = false ∨ m.domain ≠ s.keys.domainId ∨ m.inst.toNat ≠ n ∨ m.imageId ∈ s.keys.restoredIds) :
    s.imageCheck n p m = .inputRejected := by
  have rejected : (!m.tagOk || m.domain != s.keys.domainId || m.inst.toNat != n ||
      s.keys.restoredIds.contains m.imageId) = true := by
    simpa [or_assoc] using bad
  unfold State.imageCheck
  rw [if_neg (by simp [read]), if_neg (by simpa using domain), if_pos rejected]

theorem migRestoreDone_ends (i : Fin 1024) (m : MigImage) (p : Nat) (w : MigWork) (s : State)
    (working : (s.inst i).migBusy = some w) (restore : w.save = false) (port : s.portOf i = some p) :
    (m.readFault = true → Gives (.migRestoreDone i m) s fun t => (t.inst i).migBusy = none ∧
      (t.inst i).migResult = BitVec.ofNat 16 Status.translationFault.code ∧ t.keys = s.keys) ∧
    (m.readFault = false → s.keys.domainSecret ≠ none →
      m.tagOk = false ∨ m.domain ≠ s.keys.domainId ∨ m.inst.toNat ≠ i.val ∨ m.imageId ∈ s.keys.restoredIds →
      Gives (.migRestoreDone i m) s fun t => (t.inst i).migBusy = none ∧
        (t.inst i).migResult = BitVec.ofNat 16 Status.inputRejected.code ∧ t.keys = s.keys) ∧
    (s.imageCheck i p m = .ok → Gives (.migRestoreDone i m) s fun t => (t.inst i).state = .frozen ∧
      (t.inst i).migBusy = none ∧ (t.inst i).migResult = 0 ∧ Configured (t.inst i) (configOf m.config) ∧
      m.imageId ∈ t.keys.restoredIds ∧ t.jobs = s.jobs) := by
  have refused {st : Status} (check : s.imageCheck i p m = st) (bad : st ≠ .ok) :
      Gives (.migRestoreDone i m) s fun t => (t.inst i).migBusy = none ∧
        (t.inst i).migResult = BitVec.ofNat 16 st.code ∧ t.keys = s.keys := by
    obtain ⟨busy, result, -⟩ := s.endMig_ends i st
    exact ⟨_, congrArg Host.Outcome.next (State.migRestoreDone_refused m working restore port check bad), busy, result,
      rfl⟩
  refine ⟨fun fault => ?_, fun read domain bad => ?_, fun ok => ?_⟩
  · exact refused (st := .translationFault) (by simp [State.imageCheck, fault]) (by decide)
  · exact refused (State.imageCheck_rejects read domain bad) (by decide)
  · exact ⟨_, congrArg Host.Outcome.next (State.migRestoreDone_accepted m working restore port ok),
      s.applyImage_applies i m⟩

/-- Settles O45: the checks of a save and of a restore decide which end is reached, a draw sends nothing, and what is
restored after the configuration leaves it. -/
theorem migrationSavesAndRestores : Obligations.MigrationSavesAndRestores :=
  ⟨migration_begins, migSaveDone_ends, migRestoreDone_ends⟩

end Sys2Proof.Machine
end

section
namespace Sys2Proof.Machine

open Sys2Proof Sys2Proof.Claims

/-! ### One owner's registers, part by part -/

section
variable {β : Type} (g : Inst → β)

theorem State.modInst_inst (s : State) (i j : Nat) {f : Inst → Inst} (keeps : ∀ n, g (f n) = g n) :
    g ((s.modInst j f).inst i) = g (s.inst i) := by
  by_cases same : i = j
  · rw [same, State.inst_modInst, keeps]
  · rw [State.inst_modInst_other s same]

theorem State.raiseVec_inst (keeps : ∀ n l, g { n with msixPending := l } = g n) (s : State) (j v i : Nat) :
    g ((s.raiseVec j v).inst i) = g (s.inst i) := by
  unfold State.raiseVec
  split
  · rfl
  · split
    · rw [State.inst_of_unsent (s.raisePf_unsent j v)]
    · split
      · exact s.modInst_inst g i j fun n => keeps n _
      · rfl

/-- A bit of ERROR_STATUS comes with nothing but its vector and its port's event (R136, R155). -/
theorem State.errorBit_inst (keeps : ∀ n e l, g { n with errStatus := e, msixPending := l } = g n) (s : State) (j : Nat)
    (b : ErrorBit) (i : Nat) : g ((s.errorBit j b).inst i) = g (s.inst i) := by
  unfold State.errorBit
  extract_lets m t u
  have raised : g (u.inst i) = g (s.inst i) :=
    (State.raiseVec_inst g (fun n l => keeps n n.errStatus l) ..).trans (s.modInst_inst g i j fun n => keeps n _ _)
  split
  · split
    · rwa [State.inst_of_unsent (State.portEvent_unsent ..)]
    · exact raised
  · rfl

theorem State.setInstState_inst (keeps : ∀ n e l, g { n with errStatus := e, msixPending := l } = g n) (s : State)
    (i : Nat) (st : InstState) : g ((s.setInstState i st).inst i) = g { s.inst i with state := st } := by
  unfold State.setInstState
  rw [State.errorBit_inst g keeps, State.inst_modInst]

/-- A conditioned block seeds a DRBG, and changes no more of its owner (R431, R435). -/
theorem State.serveBlocks_inst (keeps : ∀ n d b, g { n with drbg := d, drbgBlocks := b } = g n) (s : State) (i : Nat) :
    g (s.serveBlocks.inst i) = g (s.inst i) := by
  have conditioned (t : State) : g (t.condition.inst i) = g (t.inst i) := by
    unfold State.condition
    split <;> rfl
  have handed (t : State) : g (t.handBlock.inst i) = g (t.inst i) := by
    unfold State.handBlock
    split
    · rfl
    · dsimp only
      split
      · rfl
      · split
        · rfl
        · split
          · split
            · exact State.modInst_inst g _ i _ fun n => keeps n n.drbg 1
            · exact State.modInst_inst g _ i _ fun n => keeps n _ 0
          · split
            · exact State.modInst_inst g _ i _ fun n => keeps n _ n.drbgBlocks
            · rfl
  have restarted (t : State) : g (t.endRestart.inst i) = g (t.inst i) := by
    unfold State.endRestart
    split
    · exact State.event_keeps (fun t => g (t.inst i)) (fun _ _ _ _ _ => rfl) ..
    · rfl
  rw [State.serveBlocks, restarted, conditioned, handed, conditioned, handed, conditioned]

theorem State.askDrbg_inst (keeps : ∀ n d b, g { n with drbg := d, drbgBlocks := b } = g n) (s : State) (j i : Nat) :
    g ((s.askDrbg j).inst i) = g (s.inst i) :=
  (State.serveBlocks_inst g keeps _ i).trans (s.modInst_inst g i j fun n => keeps n {} 0)

theorem State.askReseed_inst (keeps : ∀ n d b, g { n with drbg := d, drbgBlocks := b } = g n) (s : State) (j i : Nat) :
    g ((s.askReseed j).inst i) = g (s.inst i) := by
  unfold State.askReseed
  split
  · rfl
  · exact (State.serveBlocks_inst g keeps _ i).trans (s.modInst_inst g i j fun n => keeps n _ n.drbgBlocks)

theorem State.fetch_inst (keeps : ∀ n q, g { n with qps := q } = g n) (s : State) (j q i : Nat) :
    g ((s.fetch j q).inst i) = g (s.inst i) := by
  unfold State.fetch
  split
  · rfl
  · split
    · exact s.modInst_inst g i j fun n => keeps n _
    · rfl

end

@[simp] theorem State.askDrbg_undrawn (s : State) (i : Nat) : (s.askDrbg i).undrawn = s.undrawn :=
  State.serveBlocks_undrawn _

@[simp] theorem State.askReseed_undrawn (s : State) (i : Nat) : (s.askReseed i).undrawn = s.undrawn := by
  unfold State.askReseed
  split
  · rfl
  · exact State.serveBlocks_undrawn _

theorem State.ports_of_unreset {s t : State} (h : t.unreset = s.unreset) : t.ports.length = s.ports.length := by
  have same : t.ports.map Port.quiet = s.ports.map Port.quiet := congrArg State.ports h
  simpa using congrArg List.length same

theorem State.keys_of_unsent {s t : State} (h : t.unsent = s.unsent) : t.keys = s.keys :=
  State.field_eq h State.keys fun _ => rfl

theorem State.jobs_of_unsent {s t : State} (h : t.unsent = s.unsent) : t.jobs = s.jobs :=
  State.field_eq h State.jobs fun _ => rfl

theorem State.trans_of_unsent {s t : State} (h : t.unsent = s.unsent) : t.trans = s.trans :=
  State.field_eq h State.trans fun _ => rfl

theorem State.keys_of_unnoticed {s t : State} (h : t.unnoticed = s.unnoticed) : t.keys = s.keys :=
  State.field_eq h State.keys fun _ => rfl

theorem State.jobs_of_unnoticed {s t : State} (h : t.unnoticed = s.unnoticed) : t.jobs = s.jobs :=
  State.field_eq h State.jobs fun _ => rfl

/-! ### Accepted commands about an owner -/

/-- INST_CREATE gives its owner the configuration, and queue pairs at their reset values (R146, R537). -/
theorem State.allocate_allocates (u : State) (n : Nat) (c : InstConfig) :
    let t := u.allocate n c
    (t.inst n).state = .created ∧ Configured (t.inst n) c ∧ (t.inst n).qps = List.replicate c.qpCount {} ∧
      t.keys = u.keys := by
  unfold State.allocate
  extract_lets old fresh t
  have allocated : ((u.setInst n (fresh.configure c)).inst n) = fresh.configure c := State.inst_setInst ..
  have owner := State.setInstState_idle (u.setInst n (fresh.configure c)) n .created
  have qps := State.setInstState_inst Inst.qps (fun _ _ _ => rfl) (u.setInst n (fresh.configure c)) n .created
  rw [allocated] at owner qps
  refine ⟨(congrArg Inst.state owner :), ⟨(congrArg Inst.qpCount owner :), (congrArg Inst.vecCount owner :),
    (congrArg Inst.weight owner :), (congrArg Inst.slotQuota owner :), (congrArg Inst.recQuota owner :),
    (congrArg Inst.tierSKib owner :)⟩, qps.trans ?_,
    State.keys_of_unnoticed ((u.setInst n (fresh.configure c)).setInstState_unnoticed n .created)⟩
  simp [fresh, Inst.configure]

theorem instCreate_creates {p : Fin 4} (seq : BitVec 32) {a : CreateArgs} {s : State} (mail : MailOpen s p)
    (names : Names s p a.n [.unallocated]) (idle : (s.inst a.n.toNat).migBusy = none)
    (config : s.configOk p (configOf a) = true) (share : s.shareTakes p (configOf a) (0, 0) = true) :
    Gives (.instCreate p seq a) s fun t => Replied t p 1 seq .ok [] ∧ (t.inst a.n.toNat).state = .created ∧
      Configured (t.inst a.n.toNat) (configOf a) ∧ (t.inst a.n.toNat).qps = List.replicate a.qpCount.toNat {} ∧
      t.keys = s.keys := by
  obtain ⟨inside, held⟩ := names
  have fits := State.inState_eq_true held
  refine mailInst_gives mail rfl inside config (by simp [fits, idle, share]) ?_ fun u t before h => ?_
  · exact fun u ports => (State.ports_of_unreset (State.setInstState_unreset ..)).trans ports
  · obtain ⟨state, configured, qps, keys⟩ := u.allocate_allocates a.n.toNat (configOf a)
    rw [State.inst_of_unsent h]
    exact ⟨state, configured, qps, (State.keys_of_unsent h).trans (keys.trans (State.keys_of_unsent before))⟩

theorem instCreate_malformed {p : Fin 4} (seq : BitVec 32) {a : CreateArgs} {s : State} (mail : MailOpen s p)
    (inside : s.mailRange p a.n.toNat = true) (config : s.configOk p (configOf a) = false) :
    Gives (.instCreate p seq a) s fun t => Replied t p 1 seq .lengthMismatch [] ∧ t.insts = s.insts := by
  refine ⟨_, congrArg Host.Outcome.next (State.mailInst_malformed _ _ mail.served inside config), ?_⟩
  exact ⟨State.mailAnswer_replied ((s.mailTake_ports ..).trans mail.ports) ..,
    State.field_eq (State.mailAnswer_unsent ..) State.insts fun _ => rfl⟩

/-- A reset mode above 1 is malformed (R149). -/
theorem instReset_malformed {p : Fin 4} (seq : BitVec 32) {n : BitVec 16} {s : State} (mail : MailOpen s p) {mode : Nat}
    (bad : 2 ≤ mode) (inside : s.mailRange p n.toNat = true) : Gives (.instReset p seq n mode) s fun t =>
      Replied t p 4 seq .lengthMismatch [] ∧ t.insts = s.insts := by
  have unknown : decide (mode ≤ 1) = false := decide_eq_false (by omega)
  refine ⟨_, congrArg Host.Outcome.next (State.mailInst_malformed _ _ mail.served inside unknown), ?_⟩
  exact ⟨State.mailAnswer_replied ((s.mailTake_ports ..).trans mail.ports) ..,
    State.field_eq (State.mailAnswer_unsent ..) State.insts fun _ => rfl⟩

/-! ### Enabling and resets -/

theorem State.activateQps_activates (u : State) (n : Nat) :
    ∀ q ∈ ((u.activateQps n).inst n).qps, q.enable = true → q.state ≠ .disabled := by
  intro q listed on
  rw [State.activateQps, State.inst_modInst] at listed
  obtain ⟨x, -, rfl⟩ := List.mem_map.1 listed
  split at on
  · next fresh => simp [fresh]
  · next other =>
    rw [if_neg other]
    simpa [on] using other

theorem State.enabled_besides (u : State) (n : Nat) :
    let t := ((u.setInstState n .enabled).activateQps n).askDrbg n
    t.ports.length = u.ports.length ∧ (t.inst n).state = .enabled ∧ t.keys = u.keys ∧
      ∀ q ∈ (t.inst n).qps, q.enable = true → q.state ≠ .disabled := by
  intro t
  let v := u.setInstState n .enabled
  have drawn : t.undrawn = v.undrawn := State.askDrbg_undrawn ..
  refine ⟨?_, ?_, ?_, ?_⟩
  · exact (congrArg List.length (State.field_eq drawn State.ports fun _ => rfl)).trans
      (State.ports_of_unreset (u.setInstState_unreset n .enabled))
  · calc _ = ((v.activateQps n).inst n).state := State.askDrbg_inst Inst.state (fun _ _ _ => rfl) ..
      _ = (v.inst n).state := State.modInst_inst Inst.state v n n fun _ => rfl
      _ = .enabled := State.setInstState_inst Inst.state (fun _ _ _ => rfl) u n .enabled
  · exact (State.field_eq drawn State.keys fun _ => rfl).trans
      (State.keys_of_unnoticed (u.setInstState_unnoticed n .enabled))
  · rw [show (t.inst n).qps = ((v.activateQps n).inst n).qps from State.askDrbg_inst Inst.qps (fun _ _ _ => rfl) ..]
    exact v.activateQps_activates n

theorem instEnable_enables {p : Fin 4} (seq : BitVec 32) {n : BitVec 16} {s : State} (mail : MailOpen s p)
    (names : Names s p n [.created]) : Gives (.instEnable p seq n) s fun t => Replied t p 2 seq .ok [] ∧
      (t.inst n.toNat).state = .enabled ∧ t.keys = s.keys ∧
      ∀ q ∈ (t.inst n.toNat).qps, q.enable = true → q.state ≠ .disabled := by
  obtain ⟨inside, held⟩ := names
  refine mailInst_gives mail rfl inside rfl (State.inState_eq_true held) ?_ fun u t before h => ?_
  · exact fun u ports => (u.enabled_besides n.toNat).1.trans ports
  · obtain ⟨-, state, keys, qps⟩ := u.enabled_besides n.toNat
    rw [State.inst_of_unsent h]
    exact ⟨state, (State.keys_of_unsent h).trans (keys.trans (State.keys_of_unsent before)), qps⟩

/-- A reset in drain mode begins: INST_STATE is RESETTING, the reset is counted, and the jobs run on (R147, R148). -/
theorem State.startReset_drains (u : State) (n : Nat) :
    let t := u.startReset n false
    t.ports.length = u.ports.length ∧ (t.inst n).state = .resetting ∧ (t.inst n).drain = some .reset ∧
      (t.inst n).resets = (u.inst n).resets + 1 ∧ t.jobs = u.jobs ∧ t.keys = u.keys := by
  unfold State.startReset
  extract_lets was v w t
  have owner : (t.inst n).idle = Inst.idle { v.inst n with state := .resetting } := v.setInstState_idle n .resetting
  rw [State.inst_modInst] at owner
  have set : t.unnoticed = v.unnoticed := v.setInstState_unnoticed n .resetting
  exact ⟨State.ports_of_unreset (v.setInstState_unreset n .resetting), (congrArg Inst.state owner :),
    (congrArg Inst.drain owner :), (congrArg Inst.resets owner :), State.jobs_of_unnoticed set,
    State.keys_of_unnoticed set⟩

theorem instReset_begins {p : Fin 4} (seq : BitVec 32) {n : BitVec 16} {s : State} (mail : MailOpen s p)
    (names : Names s p n [.created, .enabled, .frozen]) :
    Gives (.instReset p seq n 0) s (fun t => Replied t p 4 seq .ok [] ∧ (t.inst n.toNat).state = .resetting ∧
      (t.inst n.toNat).drain = some .reset ∧ (t.inst n.toNat).resets = (s.inst n.toNat).resets + 1 ∧
      t.jobs = s.jobs ∧ t.keys = s.keys) ∧
    Gives (.instReset p seq n 1) s (fun t => Replied t p 4 seq .ok [] ∧ (t.inst n.toNat).state = .resetting ∧
      t.jobsOf n.toNat = []) := by
  obtain ⟨inside, held⟩ := names
  constructor
  · refine mailInst_gives mail rfl inside rfl (State.inState_eq_true held) ?_ fun u t before h => ?_
    · exact fun u ports => (u.startReset_drains n.toNat).1.trans ports
    · obtain ⟨-, state, drain, resets, jobs, keys⟩ := u.startReset_drains n.toNat
      rw [State.inst_of_unsent h, ← State.inst_of_unsent before]
      exact ⟨state, drain, resets, (State.jobs_of_unsent h).trans (jobs.trans (State.jobs_of_unsent before)),
        (State.keys_of_unsent h).trans (keys.trans (State.keys_of_unsent before))⟩
  · refine mailInst_gives mail rfl inside rfl (State.inState_eq_true held) ?_ fun u t _ h => ?_
    · intro u ports
      have same : ((u.startReset n.toNat true).ports.map Port.quiet) = u.ports.map Port.quiet :=
        congrArg State.ports (u.startReset_squashes n.toNat).2.2
      simpa [ports] using congrArg List.length same
    · obtain ⟨owner, jobs, -⟩ := u.startReset_squashes n.toNat
      rw [State.inst_of_unsent h, State.jobsOf, State.jobs_of_unsent h]
      exact ⟨(congrArg Inst.state owner :), jobs⟩

/-! ### Freezes, thaws and destructions -/

theorem instFreeze_begins {p : Fin 4} (seq : BitVec 32) {n : BitVec 16} {s : State} (mail : MailOpen s p)
    (names : Names s p n [.enabled]) : Gives (.instFreeze p seq n) s fun t => Replied t p 5 seq .ok [] ∧
      (t.inst n.toNat).drain = some .freeze ∧ (t.inst n.toNat).state = .enabled ∧
      (∀ q ∈ (t.inst n.toNat).qps, q.cache = [] ∧ q.fetching = 0) ∧ t.jobs = s.jobs := by
  obtain ⟨inside, held⟩ := names
  refine mailInst_gives mail rfl inside rfl (State.inState_eq_true held) ?_ fun u t before h => ?_
  · exact fun u ports => ports
  · rw [State.inst_of_unsent h, State.startFreeze, State.inst_modInst, State.inst_of_unsent before]
    refine ⟨rfl, by simpa using held, fun q listed => ?_,
      (State.jobs_of_unsent h).trans (State.jobs_of_unsent before : u.jobs = s.jobs)⟩
    obtain ⟨x, -, rfl⟩ := List.mem_map.1 listed
    exact ⟨rfl, rfl⟩

/-- What the steps of a thaw after its first leave: the ports' number, keys and jobs, and of the owner its state and the
squashed TAGs. -/
def State.thawing (s : State) (n : Nat) : Nat × KeyStore × List (Nat × Job) × InstState × List (Nat × BitVec 32) :=
  (s.ports.length, s.keys, s.jobs, (s.inst n).state, (s.inst n).squashed)

theorem State.thawing_eq {s t : State} {n : Nat} (ports : t.ports.length = s.ports.length) (keys : t.keys = s.keys)
    (jobs : t.jobs = s.jobs) (state : (t.inst n).state = (s.inst n).state)
    (squashed : (t.inst n).squashed = (s.inst n).squashed) : t.thawing n = s.thawing n := by
  rw [State.thawing, ports, keys, jobs, state, squashed, State.thawing]

theorem State.thawing_of_undrawn {s t : State} {n : Nat} (h : t.undrawn = s.undrawn)
    (state : (t.inst n).state = (s.inst n).state) (squashed : (t.inst n).squashed = (s.inst n).squashed) :
    t.thawing n = s.thawing n :=
  State.thawing_eq (State.field_eq h (fun t => t.ports.length) fun _ => rfl) (State.field_eq h State.keys fun _ => rfl)
    (State.field_eq h State.jobs fun _ => rfl) state squashed

theorem State.raiseVec_thawing (s : State) (j v n : Nat) : (s.raiseVec j v).thawing n = s.thawing n :=
  State.thawing_eq (State.ports_of_unreset (s.raiseVec_unreset j v))
    (State.keys_of_unnoticed (s.raiseVec_unnoticed j v)) (State.jobs_of_unnoticed (s.raiseVec_unnoticed j v))
    (State.raiseVec_inst Inst.state (fun _ _ => rfl) ..) (State.raiseVec_inst Inst.squashed (fun _ _ => rfl) ..)

theorem State.modInst_thawing (s : State) (i n : Nat) {f : Inst → Inst} (state : ∀ x, (f x).state = x.state)
    (squashed : ∀ x, (f x).squashed = x.squashed) : (s.modInst i f).thawing n = s.thawing n :=
  State.thawing_eq rfl rfl rfl (s.modInst_inst Inst.state n i state) (s.modInst_inst Inst.squashed n i squashed)

theorem State.postHeldN_thawing (i n k : Nat) (s : State) : (State.postHeldN i k s).thawing n = s.thawing n := by
  induction k generalizing s with
  | zero => rfl
  | succ k ih =>
    unfold State.postHeldN
    dsimp only
    split
    · rfl
    · next h _ =>
      split
      · rfl
      · next x _ =>
        have written : (s.writeCompletion i h.qp x h.entry).thawing n = s.thawing n :=
          State.modInst_thawing (s.send _) i n (by intro; rfl) (by intro; rfl)
        refine (ih _).trans ((State.modInst_thawing _ i n (by intro; rfl) (by intro; rfl)).trans ?_)
        split
        · exact (State.raiseVec_thawing ..).trans written
        · exact written

theorem State.askReseed_thawing (s : State) (i n : Nat) : (s.askReseed i).thawing n = s.thawing n :=
  State.thawing_of_undrawn (s.askReseed_undrawn i) (State.askReseed_inst Inst.state (fun _ _ _ => rfl) ..)
    (State.askReseed_inst Inst.squashed (fun _ _ _ => rfl) ..)

theorem State.askDrbg_thawing (s : State) (i n : Nat) : (s.askDrbg i).thawing n = s.thawing n :=
  State.thawing_of_undrawn (s.askDrbg_undrawn i) (State.askDrbg_inst Inst.state (fun _ _ _ => rfl) ..)
    (State.askDrbg_inst Inst.squashed (fun _ _ _ => rfl) ..)

theorem State.fetch_thawing (s : State) (i q n : Nat) : (s.fetch i q).thawing n = s.thawing n := by
  have queue (f : Qp → Qp) : (s.modQp i q f).thawing n = s.thawing n :=
    State.modInst_thawing s i n (fun _ => rfl) fun _ => rfl
  unfold State.fetch
  split
  · rfl
  · next x _ =>
    split
    · exact queue fun y => { y with fetching := y.fetching + s.fetchRoom x }
    · rfl

/-- A thaw enables its owner again and forgets the squashed TAGs (R146, R159). -/
theorem State.thaw_thaws (u : State) (n : Nat) :
    let t := u.thaw n
    t.ports.length = u.ports.length ∧ t.keys = u.keys ∧ t.jobs = u.jobs ∧ (t.inst n).state = .enabled ∧
      (t.inst n).squashed = [] := by
  unfold State.thaw
  extract_lets posted forgotten asked t
  have fetched : t.thawing n = asked.thawing n :=
    State.forEach_keeps (State.thawing · n) (fun t q => t.fetch_thawing n q n) ..
  have seeded : asked.thawing n = forgotten.thawing n := by
    unfold asked
    split
    · exact State.askReseed_thawing ..
    · exact State.askDrbg_thawing ..
  have enabled : posted.thawing n = (u.setInstState n .enabled).thawing n :=
    (State.postHeldN_thawing ..).trans (State.modInst_thawing _ n n (by intro; rfl) (by intro; rfl))
  have set := u.setInstState_unnoticed n .enabled
  have resumed : t.thawing n = forgotten.thawing n := fetched.trans seeded
  simp only [State.thawing, Prod.mk.injEq] at enabled resumed
  obtain ⟨ports, keys, jobs, state, -⟩ := enabled
  obtain ⟨ports', keys', jobs', state', squashed⟩ := resumed
  have stood : (forgotten.inst n).state = (posted.inst n).state := State.modInst_inst Inst.state posted n n fun _ => rfl
  refine ⟨ports'.trans (ports.trans (State.ports_of_unreset (u.setInstState_unreset n .enabled))),
    keys'.trans (keys.trans (State.keys_of_unnoticed set)), jobs'.trans (jobs.trans (State.jobs_of_unnoticed set)),
    (state'.trans stood).trans (state.trans (State.setInstState_inst Inst.state (fun _ _ _ => rfl) ..)), ?_⟩
  rw [squashed, State.inst_modInst]

theorem instThaw_thaws {p : Fin 4} (seq : BitVec 32) {n : BitVec 16} {s : State} (mail : MailOpen s p)
    (names : Names s p n [.frozen]) (idle : (s.inst n.toNat).migBusy = none) : Gives (.instThaw p seq n) s fun t =>
      Replied t p 6 seq .ok [] ∧ (t.inst n.toNat).state = .enabled ∧ (t.inst n.toNat).squashed = [] ∧
      t.keys = s.keys ∧ t.jobs = s.jobs := by
  obtain ⟨inside, held⟩ := names
  refine mailInst_gives mail rfl inside rfl (by simp [State.inState_eq_true held, idle]) ?_ fun u t before h => ?_
  · exact fun u ports => (u.thaw_thaws n.toNat).1.trans ports
  · obtain ⟨-, keys, jobs, state, squashed⟩ := u.thaw_thaws n.toNat
    rw [State.inst_of_unsent h]
    exact ⟨state, squashed, (State.keys_of_unsent h).trans (keys.trans (State.keys_of_unsent before)),
      (State.jobs_of_unsent h).trans (jobs.trans (State.jobs_of_unsent before))⟩

theorem instDestroy_begins {p : Fin 4} (seq : BitVec 32) {n : BitVec 16} {s : State} (mail : MailOpen s p)
    (names : Names s p n [.created, .enabled, .frozen]) : Gives (.instDestroy p seq n) s fun t =>
      Replied t p 7 seq .ok [] ∧ (t.inst n.toNat).state = .destroying ∧ t.jobsOf n.toNat = [] := by
  obtain ⟨inside, held⟩ := names
  refine mailInst_gives mail rfl inside rfl (State.inState_eq_true held) ?_ fun u t _ h => ?_
  · intro u ports
    unfold State.startDestroy
    extract_lets v
    have squashed := State.field_eq ((v.setInstState n.toNat .destroying).squashInst_unworked n.toNat) State.ports
      fun _ => rfl
    exact (congrArg List.length squashed).trans ((State.ports_of_unreset (State.setInstState_unreset ..)).trans ports)
  · rw [State.inst_of_unsent h, State.jobsOf, State.jobs_of_unsent h]
    refine ⟨?_, State.squashInst_jobsOf ..⟩
    unfold State.startDestroy
    extract_lets v
    have owner := (State.squashInst_idle (v.setInstState n.toNat .destroying) n.toNat n.toNat).trans
      (v.setInstState_idle n.toNat .destroying)
    exact (congrArg Inst.state owner :)

/-! ### Translations -/

theorem setTranslation_sets {p : Fin 4} (seq : BitVec 32) {n : BitVec 16} {s : State} (mail : MailOpen s p)
    (root : BitVec 64) (names : Names s p n [.created, .frozen]) : Gives (.setTranslation p seq n root) s fun t =>
      Replied t p 9 seq .ok [] ∧ (t.inst n.toNat).root = some root ∧ t.trans.atc = s.trans.atc ∧
      t.trans.table = s.trans.table.filter fun e => e.1 != n.toNat := by
  obtain ⟨inside, held⟩ := names
  refine mailInst_gives mail rfl inside rfl (State.inState_eq_true held) ?_ fun u t before h => ?_
  · exact fun u ports => ports
  · have trans := State.trans_of_unsent before
    rw [State.inst_of_unsent h, State.trans_of_unsent h]
    have rooted :
        ((u.modInst n.toNat fun x => { x with root := some (BitVec.ofNat 64 root.toNat) }).inst n.toNat).root =
          some root := by
      rw [State.inst_modInst, BitVec.ofNat_toNat, BitVec.setWidth_eq]
    exact ⟨rooted, (congrArg Translation.atc trans :),
      (congrArg (fun x => x.table.filter fun e => e.1 != n.toNat) trans :)⟩

/-- The translations that an invalidation of a range leaves (R154). -/
theorem State.mem_invalidateRange (u : State) (n : Nat) (iova len : BitVec 64) :
    let t := u.invalidateRange n iova.toNat len.toNat
    (∀ e, e ∈ t.trans.table ↔ e ∈ u.trans.table ∧ e.1 ≠ n) ∧
    (∀ e, e ∈ t.trans.atc ↔ e ∈ u.trans.atc ∧ ¬(e.inst = n ∧ (len = 0 ∨
      e.base < iova.toNat + len.toNat ∧ iova.toNat < e.base + e.len))) := by
  have zero : len.toNat = 0 ↔ len = 0 := BitVec.toNat_eq (y := 0) |>.symm
  unfold State.invalidateRange State.dropTranslations
  split
  · next all => simp [zero.1 all, List.mem_filter]
  · next some =>
    have some : ¬len = 0#64 := mt zero.2 some
    refine ⟨fun e => by simp [List.mem_filter], fun e => List.mem_filter.trans (and_congr_right fun _ => ?_)⟩
    by_cases own : e.inst = n
    · simp [own, some]
      omega
    · simp [own]

theorem instInvalidate_invalidates {p : Fin 4} (seq : BitVec 32) {n : BitVec 16} {s : State} (mail : MailOpen s p)
    (iova len : BitVec 64) (names : Names s p n [.created, .enabled, .frozen]) :
    Gives (.invalidate p seq n iova len) s fun t => Replied t p 0xA seq .ok [] ∧ t.keys = s.keys ∧
      (∀ e, e ∈ t.trans.table ↔ e ∈ s.trans.table ∧ e.1 ≠ n.toNat) ∧
      (∀ e, e ∈ t.trans.atc ↔ e ∈ s.trans.atc ∧ ¬(e.inst = n.toNat ∧ (len = 0 ∨
        e.base < iova.toNat + len.toNat ∧ iova.toNat < e.base + e.len))) := by
  obtain ⟨inside, held⟩ := names
  have same (u : State) : (u.invalidateRange n.toNat iova.toNat len.toNat).ports = u.ports ∧
      (u.invalidateRange n.toNat iova.toNat len.toNat).keys = u.keys := by
    unfold State.invalidateRange
    split <;> exact ⟨rfl, rfl⟩
  refine mailInst_gives mail rfl inside rfl (State.inState_eq_true held) ?_ fun u t before h => ?_
  · exact fun u ports => (congrArg List.length (same u).1).trans ports
  · rw [State.trans_of_unsent h, ← State.trans_of_unsent before]
    exact ⟨(State.keys_of_unsent h).trans ((same u).2.trans (State.keys_of_unsent before)),
      u.mem_invalidateRange n.toNat iova len⟩

/-! ### The status of an owner -/

theorem instStatus_answers (p : Fin 4) (seq : BitVec 32) (n : BitVec 16) (s : State) (four : s.ports.length = 4)
    (served : s.mailServed p = true) (inside : s.mailRange p n.toNat = true) :
    Gives (.instStatus p seq n) s fun t => t.insts = s.insts ∧ t.keys = s.keys ∧
      let x := s.inst n.toNat
      Replied t p 8 seq .ok (fields [(1, x.state.code), (1, 0), (2, x.qpCount), (4, s.slotsOf n.toNat),
        (4, s.recordsOf n.toNat), (4, (s.tierSBytes n.toNat + 1023) / 1024), (2, x.migResult.toNat), (2, 0),
        (8, x.imageLen)]) := by
  have ran : s.instStatus p seq.toNat n.toNat = (s.mailTake p ⟨8, seq.toNat, le 2 n.toNat⟩).mailAnswer p
      ⟨8, seq.toNat, le 2 n.toNat⟩ .ok (s.statusData n.toNat) := by
    simp [State.instStatus, served, inside]
    rfl
  have kept := State.mailAnswer_unsent (s.mailTake p ⟨8, seq.toNat, le 2 n.toNat⟩) p ⟨8, seq.toNat, le 2 n.toNat⟩ .ok
    (s.statusData n.toNat)
  exact ⟨_, congrArg Host.Outcome.next ran, State.field_eq kept State.insts fun _ => rfl, State.keys_of_unsent kept,
    State.mailAnswer_replied ((s.mailTake_ports ..).trans four) ..⟩

/-! ### The ends of freezes, resets and destructions -/

theorem freezeDone_ends (i : Fin 1024) (s : State) (freezes : (s.inst i).drain = some .freeze) :
    (s.jobsOf i = [] → Gives (.freezeDone i) s fun t => (t.inst i).state = .frozen ∧ (t.inst i).drain = none ∧
      t.keys = s.keys) ∧
    (s.jobsOf i ≠ [] → exec (.freezeDone i) s = .next s) := by
  refine ⟨fun drained => ?_, fun busy => ?_⟩
  · let u := s.modInst i fun x => { x with drain := none }
    have ran : s.freezeDone i = u.setInstState i .frozen := by simp [State.freezeDone, freezes, drained, u]
    have owner := u.setInstState_idle i .frozen
    rw [State.inst_modInst] at owner
    exact ⟨_, congrArg Host.Outcome.next ran, (congrArg Inst.state owner :), (congrArg Inst.drain owner :),
      State.keys_of_unnoticed (u.setInstState_unnoticed i .frozen)⟩
  · exact congrArg Host.Outcome.next (by simp [State.freezeDone, busy])

/-- ERROR_STATUS has the bit that has been set (R136). -/
theorem State.errorBit_sets (s : State) (i : Nat) (b : ErrorBit) :
    ((s.errorBit i b).inst i).errStatus.getLsbD b.bit = true := by
  have mask : BitVec.ofNat 32 (2 ^ b.bit) = BitVec.twoPow 32 b.bit := by cases b <;> decide
  have small : b.bit < 32 := by cases b <;> decide
  unfold State.errorBit
  extract_lets m t u
  have set : (u.inst i).errStatus.getLsbD b.bit = true := by
    rw [State.raiseVec_inst Inst.errStatus (fun _ _ => rfl), State.inst_modInst]
    simp [m, mask, small]
  split
  · split
    · rwa [State.inst_of_unsent (State.portEvent_unsent ..)]
    · exact set
  · next had =>
    rw [show m = BitVec.twoPow 32 b.bit from mask, BitVec.and_twoPow] at had
    by_contra unset
    exact had (if_neg unset)

/-- A reset ends with the earlier state, queue pairs disabled and RESET_DONE (R148). -/
theorem State.endReset_ends (s : State) (i : Nat) :
    let t := s.endReset i
    (t.inst i).state = (if (s.inst i).wasEnabled then .enabled else .created) ∧ (t.inst i).drain = none ∧
      (∀ q ∈ (t.inst i).qps, q.state = .disabled ∧ q.enable = false) ∧ (t.inst i).errStatus.getLsbD 3 = true ∧
      t.keys = s.keys := by
  unfold State.endReset
  extract_lets u v t
  have begun :
      u.inst i = { s.inst i with qps := (s.inst i).qps.map Qp.afterReset, drain := none, reseeding := false } :=
    State.inst_modInst ..
  have kept {β : Type} (g : Inst → β) (keeps : ∀ n e l, g { n with errStatus := e, msixPending := l } = g n) :
      g (t.inst i) = g { u.inst i with state := if (u.inst i).wasEnabled then .enabled else .created } :=
    (State.errorBit_inst g keeps v i .resetDone i).trans (State.setInstState_inst g keeps u i _)
  refine ⟨?_, ?_, ?_, v.errorBit_sets i .resetDone, ?_⟩
  · rw [kept Inst.state fun _ _ _ => rfl, begun]
  · rw [kept Inst.drain fun _ _ _ => rfl, begun]
  · rw [kept Inst.qps fun _ _ _ => rfl, begun]
    intro q listed
    obtain ⟨x, -, rfl⟩ := List.mem_map.1 listed
    exact ⟨rfl, rfl⟩
  · exact (State.keys_of_unnoticed (v.errorBit_unnoticed i .resetDone)).trans
      (State.keys_of_unnoticed (u.setInstState_unnoticed i _))

theorem State.removeRecord_records (s : State) (k : Nat) : (s.removeRecord k).keys.records = del k s.keys.records := by
  unfold State.removeRecord
  split
  · next none => exact (del_of_look_none none).symm
  · rfl

theorem State.removeRecords_insts (s : State) (ks : List Nat) : (s.removeRecords ks).insts = s.insts :=
  State.forEach_keeps State.insts (fun t k => State.field_eq (t.removeRecord_unstored k) State.insts fun _ => rfl) ..

theorem State.dropSpill_wasEnabled (s : State) (i : Nat) :
    ((s.dropSpill i).inst i).wasEnabled = (s.inst i).wasEnabled :=
  s.modInst_inst Inst.wasEnabled i i (f := fun n => { n with spillEnable := false, spillBusy := false }) fun _ => rfl

theorem State.clearDrbg_wasEnabled (s : State) (i : Nat) :
    ((s.clearDrbg i).inst i).wasEnabled = (s.inst i).wasEnabled :=
  s.modInst_inst Inst.wasEnabled i i (f := fun n => { n with drbg := {}, drbgBlocks := 0 }) fun _ => rfl

/-- A record whose sealed copy goes keeps its owner and its kind (R395). -/
theorem State.dropSpill_records {s : State} {i : Nat} {r : Nat × KeyRecord} (left : r ∈ (s.dropSpill i).keys.records) :
    ∃ x ∈ s.keys.records, r.2.owner = x.2.owner ∧ r.2.persistent = x.2.persistent := by
  obtain ⟨x, mem, rfl⟩ := List.mem_map.1 left
  refine ⟨x, mem, ?_⟩
  split <;> exact ⟨rfl, rfl⟩

/-- A wipe leaves of its owner's records the persistent ones (R148). -/
theorem State.wipeInst_wipes (s : State) (i : Nat) : ((s.wipeInst i).inst i).wasEnabled = (s.inst i).wasEnabled ∧
    ∀ r ∈ (s.wipeInst i).keys.records, r.2.owner = i → r.2.persistent = true := by
  constructor
  · refine (State.dropSpill_wasEnabled _ i).trans ?_
    exact congrArg (fun l => ((look i l).getD {}).wasEnabled) (s.removeRecords_insts (s.volatileOf i))
  · intro r left own
    obtain ⟨x, mem, owner, kind⟩ := State.dropSpill_records left
    obtain ⟨-, out⟩ := State.forEach_dels_picked (·.keys.records) State.removeRecord_records
      (fun r => r.2.owner == i && !r.2.persistent) s mem
    rw [kind]
    simpa [← owner, own] using out

/-- The records of a reset are wiped once, before its DRBG is asked for (R148). -/
theorem State.instanceResetDone_created {s : State} {i : Nat} (vf : 4 ≤ i) (resetting : (s.inst i).state = .resetting)
    (idle : s.jobsOf i = []) (was : (s.inst i).wasEnabled = false) : ∃ u : State,
      s.instanceResetDone i = u.endReset i ∧ (u.inst i).wasEnabled = false ∧
      ((s.inst i).reseeding = false → ∀ r ∈ u.keys.records, r.2.owner = i → r.2.persistent = true) := by
  have state : s.instState i = .resetting := by rw [State.instState, if_neg (by omega), resetting]
  obtain ⟨owner, records⟩ := s.wipeInst_wipes i
  by_cases again : (s.inst i).reseeding = true
  · have ran : s.instanceResetDone i = s.endReset i := by simp [State.instanceResetDone, state, idle, again, was]
    exact ⟨s, ran, was, fun first => absurd again (by simp [first])⟩
  · let u := ((s.wipeInst i).clearDrbg i).modInst i fun n => { n with reseeding := true }
    have wiped : ((s.wipeInst i).inst i).wasEnabled = false := owner.trans was
    have cleared : (((s.wipeInst i).clearDrbg i).inst i).wasEnabled = false :=
      (State.clearDrbg_wasEnabled ..).trans wiped
    have ready : (u.inst i).wasEnabled = false := by rw [State.inst_modInst, cleared]
    refine ⟨u, ?_, ready, fun _ => records⟩
    simp [State.instanceResetDone, state, idle, again, wiped, cleared, u]

theorem instanceResetDone_ends (i : Fin 1024) (s : State) (vf : 4 ≤ i.val) (resetting : (s.inst i).state = .resetting)
    (idle : s.jobsOf i = []) :
    ((s.inst i).wasEnabled = false → Gives (.instanceResetDone i) s fun t => (t.inst i).state = .created ∧
      (t.inst i).drain = none ∧ (∀ q ∈ (t.inst i).qps, q.state = .disabled ∧ q.enable = false) ∧
      (t.inst i).errStatus.getLsbD 3 = true ∧
      ((s.inst i).reseeding = false → ∀ r ∈ t.keys.records, r.2.owner = i.val → r.2.persistent = true)) ∧
    ((s.inst i).wasEnabled = true → (s.inst i).reseeding = true → (s.inst i).drbg.seeded = true →
      Gives (.instanceResetDone i) s fun t => (t.inst i).state = .enabled ∧ (t.inst i).drain = none ∧
        (∀ q ∈ (t.inst i).qps, q.state = .disabled ∧ q.enable = false) ∧
        (t.inst i).errStatus.getLsbD 3 = true ∧ t.keys = s.keys) := by
  refine ⟨fun was => ?_, fun was again seeded => ?_⟩
  · obtain ⟨u, ran, owner, records⟩ := State.instanceResetDone_created vf resetting idle was
    obtain ⟨state, drain, qps, bit, keys⟩ := u.endReset_ends i
    rw [owner] at state
    exact ⟨_, congrArg Host.Outcome.next ran, state, drain, qps, bit, fun first => keys ▸ records first⟩
  · have state : s.instState i = .resetting := by rw [State.instState, if_neg (by omega), resetting]
    have ran : s.instanceResetDone i = s.endReset i := by
      simp [State.instanceResetDone, state, idle, again, seeded]
    obtain ⟨state, drain, qps, bit, keys⟩ := s.endReset_ends i
    rw [was] at state
    exact ⟨_, congrArg Host.Outcome.next ran, state, drain, qps, bit, keys⟩

/-! ### Destruction -/

theorem State.removePeer_peers (s : State) (k : Nat) : (s.removePeer k).keys.peers = del k s.keys.peers := by
  unfold State.removePeer
  split
  · rfl
  · next empty => exact (del_of_look_none (by simpa using empty)).symm

theorem State.removePeer_keeps (s : State) (k : Nat) : (s.removePeer k).keys.records = s.keys.records ∧
    (s.removePeer k).keys.slots = s.keys.slots := by
  unfold State.removePeer
  split <;> exact ⟨rfl, rfl⟩

theorem State.removeRecord_keeps (s : State) (k : Nat) : (s.removeRecord k).keys.peers = s.keys.peers ∧
    (s.removeRecord k).keys.slots = s.keys.slots := by
  unfold State.removeRecord
  split <;> exact ⟨rfl, rfl⟩

theorem State.removeSlot_keeps (s : State) (k : Nat) : (s.removeSlot k).keys.records = s.keys.records ∧
    (s.removeSlot k).keys.peers = s.keys.peers := by
  unfold State.removeSlot
  split <;> exact ⟨rfl, rfl⟩

/-- The state in which an owner's records, peer records and open slots have gone. -/
def State.disowned (s : State) (i : Nat) : State :=
  ((s.removeRecords (s.ownedRecords i)).forEach (s.ownedPeers i) fun s p => s.removePeer p).removeSlots
    ((s.keys.slots.filter (·.2.user == i)).map (·.1))

theorem State.disowned_owns (s : State) (i : Nat) : (∀ r ∈ (s.disowned i).keys.records, r.2.owner ≠ i) ∧
    (∀ r ∈ (s.disowned i).keys.peers, r.2.owner ≠ i) ∧ (∀ r ∈ (s.disowned i).keys.slots, r.2.user ≠ i) := by
  let u := s.removeRecords (s.ownedRecords i)
  let v := u.forEach (s.ownedPeers i) fun s p => s.removePeer p
  let slots := (s.keys.slots.filter (·.2.user == i)).map (·.1)
  have recordsOfV : v.keys.records = u.keys.records :=
    State.forEach_keeps (·.keys.records) (fun t k => (t.removePeer_keeps k).1) ..
  have peersOfU : u.keys.peers = s.keys.peers :=
    State.forEach_keeps (·.keys.peers) (fun t k => (t.removeRecord_keeps k).1) ..
  have slotsOfV : v.keys.slots = s.keys.slots :=
    (State.forEach_keeps (·.keys.slots) (fun t k => (t.removePeer_keeps k).2) ..).trans
      (State.forEach_keeps (·.keys.slots) (fun t k => (t.removeRecord_keeps k).2) ..)
  refine ⟨fun r left => ?_, fun r left => ?_, fun r left => ?_⟩
  · have mem : r ∈ u.keys.records := by
      rwa [State.disowned, State.removeSlots,
        State.forEach_keeps (·.keys.records) fun t k => (t.removeSlot_keeps k).1, recordsOfV] at left
    have out := State.forEach_dels_picked (·.keys.records) State.removeRecord_records (fun r => r.2.owner == i) s mem
    simpa using out.2
  · let owned := (u.keys.peers.filter (·.2.owner == i)).map (·.1)
    have mem : r ∈ (u.forEach owned fun s p => s.removePeer p).keys.peers := by
      rwa [State.disowned, State.removeSlots,
        State.forEach_keeps (·.keys.peers) fun t k => (t.removeSlot_keeps k).2, State.ownedPeers, ← peersOfU] at left
    have out := State.forEach_dels_picked (·.keys.peers) State.removePeer_peers (fun r => r.2.owner == i) u mem
    simpa using out.2
  · let held := (v.keys.slots.filter (·.2.user == i)).map (·.1)
    have mem : r ∈ (v.forEach held fun s k => s.removeSlot k).keys.slots := by
      rwa [State.disowned, State.removeSlots, ← slotsOfV] at left
    have out := State.forEach_dels_picked (·.keys.slots) State.removeSlot_slots (fun r => r.2.user == i) v mem
    simpa using out.2

theorem State.dropCtxs_keys (s : State) (i : Nat) : (s.dropCtxs i).keys = s.keys := rfl

theorem State.dropTranslations_keys (s : State) (i : Nat) : (s.dropTranslations i).keys = s.keys := rfl

theorem State.clearDrbg_keys (s : State) (i : Nat) : (s.clearDrbg i).keys = s.keys := rfl

/-- The end of a destruction leaves an UNALLOCATED ID that owns nothing (R146). -/
theorem State.endDestroy_ends (s : State) (i : Nat) :
    let t := s.endDestroy i
    t.keys = (s.disowned i).keys ∧ (t.inst i).state = .unallocated ∧ (t.inst i).recipes = [] := by
  unfold State.endDestroy
  extract_lets records peers slots left cleared set freed t
  have keys : t.keys = freed.keys := State.raise_keeps State.keys (fun _ _ _ _ _ => rfl) ..
  have owner : t.inst i = freed.inst i := State.raise_keeps (·.inst i) (fun _ _ _ _ _ => rfl) ..
  have fresh : freed.inst i = { errStatus := (set.inst i).errStatus } := State.inst_setInst ..
  have told : freed.keys = cleared.keys := State.keys_of_unnoticed (cleared.setInstState_unnoticed i .unallocated)
  have disowned : cleared.keys = (left.removeSlots slots).keys := by
    rw [State.clearDrbg_keys, State.dropTranslations_keys, State.dropCtxs_keys]
  rw [keys, owner, fresh, told, disowned]
  exact ⟨rfl, rfl, rfl⟩

theorem instanceDestroyDone_ends (i : Fin 1024) (s : State) (destroying : (s.inst i).state = .destroying)
    (idle : s.jobsOf i = []) : Gives (.instanceDestroyDone i) s fun t => (t.inst i).state = .unallocated ∧
      (∀ r ∈ t.keys.records, r.2.owner ≠ i.val) ∧ (∀ r ∈ t.keys.peers, r.2.owner ≠ i.val) ∧
      (∀ r ∈ t.keys.slots, r.2.user ≠ i.val) ∧ (t.inst i).recipes = [] := by
  have ran : s.instanceDestroyDone i = (s.wipeInst i).endDestroy i := by
    simp [State.instanceDestroyDone, State.inState, destroying, idle]
  obtain ⟨keys, state, recipes⟩ := (s.wipeInst i).endDestroy_ends i
  obtain ⟨records, peers, slots⟩ := (s.wipeInst i).disowned_owns i
  rw [← keys] at records peers slots
  exact ⟨_, congrArg Host.Outcome.next ran, state, records, peers, slots, recipes⟩

end Sys2Proof.Machine
end

section
namespace Sys2Proof.Machine

open Sys2Proof Sys2Proof.Claims

/-! ### What dispatch leaves of an owner -/

theorem State.idle_of_untold {s t : State} (h : t.untold = s.untold) (i : Nat) : (t.inst i).idle = (s.inst i).idle :=
  State.field_eq h (fun t => (t.inst i).idle) fun _ => rfl

theorem State.markWaits_idle (s : State) (j q i : Nat) : ((s.markWaits j q).inst i).idle = (s.inst i).idle := by
  unfold State.markWaits
  split
  · rfl
  · dsimp only
    split
    · refine (State.modQp_idle ..).trans (State.forEach_keeps (fun t => (t.inst i).idle) ?_ _ s)
      exact fun _ _ => rfl
    · exact State.modQp_idle ..

theorem State.collect_idle (s : State) (k i : Nat) : ((s.collect k).inst i).idle = (s.inst i).idle := by
  unfold State.collect
  split
  · rfl
  · exact (State.markWaits_idle ..).trans (s.wipeScoped_idle k i)

theorem State.settle_idle (s : State) (k : Nat) (r : JobResult) (i : Nat) :
    ((s.settle k r).inst i).idle = (s.inst i).idle := by
  unfold State.settle State.when
  split
  · rfl
  · dsimp only
    split <;> split <;> rfl

theorem State.endWith_idle (s : State) (k : Nat) (r : JobResult) (i : Nat) :
    ((s.endWith k r).inst i).idle = (s.inst i).idle := by
  unfold State.endWith
  split
  · rfl
  · next j _ =>
    have closed : ((s.closeLast j).inst i).idle = (s.inst i).idle := State.ite_keeps (fun t => (t.inst i).idle) rfl
    have settled := (State.settle_idle ((s.closeLast j).releaseUnits k) k r i).trans
      ((State.releaseUnits_idle ..).trans closed)
    dsimp only
    split
    · rfl
    · split
      · exact settled
      · exact (State.collect_idle ..).trans settled

theorem State.refuseState_idle (s : State) (k i : Nat) : ((s.refuseState k).inst i).idle = (s.inst i).idle := by
  unfold State.refuseState
  split
  · rfl
  · exact (State.endWith_idle ..).trans (State.idle_of_untold (s.conflict_untold ..) i)

theorem State.reserveIv_idle (s : State) (k : Nat) (j : Job) (i : Nat) :
    ((s.reserveIv k j).inst i).idle = (s.inst i).idle := by
  unfold State.reserveIv State.setIv
  split
  · split
    · rfl
    · dsimp only
      split <;> rfl
  · rfl

theorem State.makeRoomV_idle (s : State) (n i : Nat) : ((s.makeRoomV n).inst i).idle = (s.inst i).idle := by
  unfold State.makeRoomV
  split
  · rfl
  · exact State.drainV_keeps (fun t => (t.inst i).idle) (fun _ _ _ => rfl) ..

theorem State.tierVFull_idle (s : State) (i : Nat) : (s.tierVFull.inst i).idle = (s.inst i).idle := by
  unfold State.tierVFull
  extract_lets t due
  split
  · exact State.event_keeps (fun t => (t.inst i).idle) (fun _ _ _ _ _ => rfl) ..
  · rfl

theorem State.reservePlaces_idle (s : State) (k : Nat) (j : Job) (i : Nat) :
    ((s.reservePlaces k j).inst i).idle = (s.inst i).idle := by
  have roomed := s.makeRoomV_idle (newRecordBytes j.entry) i
  have placed (t : State) (m : Nat) :
      ((t.modInst j.inst fun x => { x with reserved := x.reserved + m }).inst i).idle = (t.inst i).idle :=
    t.modInst_idle i j.inst fun _ => rfl
  unfold State.reservePlaces
  generalize s.makeRoomV (newRecordBytes j.entry) = t at roomed ⊢
  dsimp only
  split
  · rfl
  · split
    · exact s.refuseState_idle k i
    · split
      · exact (placed t _).trans roomed
      · exact (State.refuseState_idle ..).trans ((t.tierVFull_idle i).trans roomed)

theorem State.checkDispatch_idle (s : State) (k i : Nat) : ((s.checkDispatch k).inst i).idle = (s.inst i).idle := by
  unfold State.checkDispatch State.when
  split
  · rfl
  · dsimp only
    split
    · rfl
    · split
      · exact s.endWith_idle k _ i
      · split
        · exact s.refuseState_idle k i
        · split
          · refine (State.refuseState_idle ..).trans ?_
            split <;> rfl
          · exact (State.reservePlaces_idle ..).trans (s.reserveIv_idle ..)

theorem State.claim_idle (s : State) (p j q : Nat) (x : Qp) (e : SqEntry) (i : Nat) :
    ((s.claim p j q x e).inst i).idle = (s.inst i).idle := by
  unfold State.claim
  split
  · rfl
  · refine (State.fetch_inst Inst.idle (fun _ _ => rfl) ..).trans ((State.checkDispatch_idle ..).trans ?_)
    exact State.modQp_idle ..

theorem State.dispatchN_idle (n : Nat) (s : State) (i : Nat) :
    ((State.dispatchN n s).inst i).idle = (s.inst i).idle := by
  induction n generalizing s with
  | zero => rfl
  | succ n ih =>
    unfold State.dispatchN
    split
    · split
      · rfl
      · exact (ih _).trans (State.claim_idle ..)
    · rfl

/-- Dispatch changes queue pairs and places of an owner, and no more of it (R184, R190, R215). -/
theorem State.dispatch_idle (s : State) (i : Nat) : (s.dispatch.inst i).idle = (s.inst i).idle := by
  refine (State.forEach_keeps (fun t => (t.inst i).idle) (fun t h => ?_) ..).trans (State.dispatchN_idle ..)
  split
  · exact State.modQp_idle ..
  · split
    · exact t.modQp_idle ..
    · rfl

/-! ### Tier S -/

theorem State.evictOne_unstored {s t : State} {mine : KeyRecord → Bool} (evicts : s.evictOne mine = some t) :
    t.unstored = s.unstored := by
  obtain ⟨k, -, rfl⟩ := Option.map_eq_some_iff.1 evicts
  rfl

theorem State.evictPeer_unstored {s t : State} {mine : Peer → Bool} (evicts : s.evictPeer mine = some t) :
    t.unstored = s.unstored := by
  obtain ⟨k, -, rfl⟩ := Option.map_eq_some_iff.1 evicts
  rfl

theorem State.evictInst_unstored (i n : Nat) (s : State) : (State.evictInst i n s).unstored = s.unstored := by
  induction n generalizing s with
  | zero => rfl
  | succ n ih =>
    unfold State.evictInst
    split
    · rfl
    · split
      · next evicts => exact (ih _).trans (State.evictOne_unstored evicts)
      · split
        · next evicts => exact (ih _).trans (State.evictPeer_unstored evicts)
        · rfl

theorem State.evictPort_unstored (p n : Nat) (s : State) : (State.evictPort p n s).unstored = s.unstored := by
  induction n generalizing s with
  | zero => rfl
  | succ n ih =>
    unfold State.evictPort
    split
    · rfl
    · split
      · next evicts => exact (ih _).trans (State.evictOne_unstored evicts)
      · split
        · next evicts => exact (ih _).trans (State.evictPeer_unstored evicts)
        · rfl

/-- What leaves tier S keeps its record (R211). -/
theorem State.trimS_unstored (s : State) (i : Nat) : (s.trimS i).unstored = s.unstored := by
  unfold State.trimS
  dsimp only
  split
  · exact (State.evictPort_unstored ..).trans (State.evictInst_unstored ..)
  · exact State.evictInst_unstored ..

/-! ### INST_SET -/

/-- A new configuration keeps the state of its owner (R150). -/
theorem State.reconfigured (u : State) (n : Nat) (c : InstConfig) :
    let t := ((u.modInst n fun x => x.configure c).trimS n).dispatch
    t.ports.length = u.ports.length ∧ Configured (t.inst n) c ∧ (t.inst n).state = (u.inst n).state := by
  intro t
  let v := u.modInst n fun x => x.configure c
  have ports : t.ports = u.ports := (State.field_eq (State.dispatch_unworked _) State.ports fun _ => rfl).trans
    (State.field_eq (v.trimS_unstored n) State.ports fun _ => rfl)
  have owner : (t.inst n).idle = (v.inst n).idle :=
    (State.dispatch_idle ..).trans (State.idle_of_unstored (v.trimS_unstored n) n)
  rw [State.inst_modInst] at owner
  clear_value t
  exact ⟨congrArg List.length ports, ⟨(congrArg Inst.qpCount owner :), (congrArg Inst.vecCount owner :),
    (congrArg Inst.weight owner :), (congrArg Inst.slotQuota owner :), (congrArg Inst.recQuota owner :),
    (congrArg Inst.tierSKib owner :)⟩, (congrArg Inst.state owner :)⟩

theorem instSet_sets {p : Fin 4} (seq : BitVec 32) {a : CreateArgs} {s : State} (mail : MailOpen s p)
    (names : Names s p a.n [.created, .frozen]) (config : s.setOk p a = true)
    (share : s.shareTakes p (configOver a (s.inst a.n.toNat))
      ((s.inst a.n.toNat).qpCount, (s.inst a.n.toNat).vecCount) = true) :
    Gives (.instSet p seq a) s fun t => Replied t p 3 seq .ok [] ∧
      Configured (t.inst a.n.toNat) (configOver a (s.inst a.n.toNat)) ∧
      (t.inst a.n.toNat).state = (s.inst a.n.toNat).state := by
  obtain ⟨inside, held⟩ := names
  have any : (s.inst a.n.toNat).state ∈ [InstState.created, .enabled, .frozen] := by
    simp only [List.mem_cons, List.not_mem_nil, or_false] at held ⊢
    exact held.imp_right .inr
  refine mailInst_gives mail rfl inside config
    (by simp [State.inState_eq_true held, State.inState_eq_true any, share]) ?_ fun u t before h => ?_
  · exact fun u ports => (u.reconfigured a.n.toNat _).1.trans ports
  · obtain ⟨-, configured, state⟩ := u.reconfigured a.n.toNat (configOver a (s.inst a.n.toNat))
    rw [State.inst_of_unsent h]
    exact ⟨configured, state.trans (congrArg Inst.state (State.inst_of_unsent before a.n.toNat))⟩

/-- Settles O44: each command does one thing to its owner's state, and every step after it (events, draws, dispatch,
squashes) leaves the part of the owner that the clause is about. -/
theorem mailboxRunsTheInstanceStates : Obligations.MailboxRunsTheInstanceStates := by
  refine ⟨fun p seq a s mail =>
      ⟨fun names idle config share => ?_, fun inside config => ?_, fun names config share => ?_⟩,
    fun p seq n s mail => ⟨fun names => ?_, fun names => ?_, fun mode bad inside => ?_, fun names => ?_,
      fun names idle => ?_, fun names => ?_, fun root names => ?_, fun iova len names => ?_⟩,
    instStatus_answers, freezeDone_ends, instanceResetDone_ends, instanceDestroyDone_ends⟩
  · exact instCreate_creates seq mail names idle config share
  · exact instCreate_malformed seq mail inside config
  · exact instSet_sets seq mail names config share
  · exact instEnable_enables seq mail names
  · exact instReset_begins seq mail names
  · exact instReset_malformed seq mail bad inside
  · exact instFreeze_begins seq mail names
  · exact instThaw_thaws seq mail names idle
  · exact instDestroy_begins seq mail names
  · exact setTranslation_sets seq mail root names
  · exact instInvalidate_invalidates seq mail iova len names

end Sys2Proof.Machine
end
